-- ==== Sys2Proof/Word.lean ====
section
/-! DEFINITION. The widths the spec counts in: an 8-byte member slot (R36) and a byte. -/
namespace Sys2Proof

/-- One member slot of the object dictionary: 8 bytes (R36). -/
abbrev Word := BitVec 64

/-- One byte of a memory or of a message. -/
abbrev Byte := BitVec 8

end Sys2Proof
end

