-- ==== Sys2Proof/Syntax.lean ====
section
/-! DEFINITION. The commands the block takes, one constructor for each row of the spec's table of operations and
events. A command is a dictionary access, a message, a pin event, a timer's end or an instruction of an embedded
program; its operands say which unit it concerns and what it carries. -/
namespace Sys2Proof

/-- The requester interfaces of R34. -/
inductive Iface where
  | ihlod
  | inband
  | cicada (d : Nat)
  | click (n : Nat)
  | mailbox (t : Nat)
  | counterPage (t : Nat)
  | debug
  deriving DecidableEq, Repr

/-- The CXL.mem requests a host sends (R25, R160). -/
inductive MemOp where
  | memRd | memRdData | memInv | memInvNt | memSpecRd | memClnEvct | memWr | memWrPtl | unknown (code : Nat)
  deriving DecidableEq, Repr, Inhabited

/-- An Ihlod frame above its sequence number (R321, R349). The last three are no fields of the wire; they mark frames in the queues of the
ports: `way` is 0 for one that the switch itself originated, 1 for one that it forwards and 2 for one that it relays unserved in the
secondary direction (R344, R345), `joined` is the core cycle in which it joined the queue, and `resent` that it has been sent before. -/
structure Frame where
  dst : Nat := 0
  src : Nat := 0
  type : Nat := 0
  reqId : Nat := 0
  bcast : Bool := false
  more : Bool := false
  object : Nat := 0
  count : Nat := 0
  status : Nat := 0
  value : Nat := 0
  aux : Nat := 0
  resv : Nat := 0
  payload : List Byte := []
  way : Nat := 0
  joined : Nat := 0
  resent : Bool := false
  deriving DecidableEq, Repr, Inhabited

/-- What the tile measures of a channel at a sample (R360): VIN, VOUT and SL_ISN in mV, the current in mA, and whether the
current loop was regulating. -/
structure SlSample where
  vin : Nat := 0
  vout : Nat := 0
  isn : Nat := 0
  iout : Nat := 0
  limit : Bool := false
  deriving DecidableEq, Repr, Inhabited

/-- What a host sends beside CXL.mem: a CXL.io request, the completion of a device's request with its status, or a message of
CXL.cache (0 H2D Req, 1 H2D Rsp, 2 H2D Data) with its opcode. -/
inductive IoOp where
  | cfgRead | cfgWrite | memRead | memWrite | completion (status : Nat) | cache (kind opcode : Nat)
  deriving DecidableEq, Repr

/-- What a device sends toward its host: a CXL.io request, non-posted or posted, a CXL.cache D2H Req, Rsp or Data, or a
back-invalidate snoop. -/
inductive DevOp where
  | ioRead | ioWrite | cacheReq (opcode : Nat) | cacheRsp (opcode : Nat) | cacheData (opcode : Nat) | bisnp (snoop : Nat) | conflictAck
  deriving DecidableEq, Repr

/-- The level of PRSNT_N of a port, and the ticks for which it has stood (R98). -/
structure PinHeld where
  port : Nat
  ticks : Nat := 0
  deriving DecidableEq, Repr

/-- How a device answers a request: with poison, and over CXL.io with a completion status (R101, R173). -/
structure Response where
  poison : Bool := false
  status : Nat := 0
  deriving DecidableEq, Repr

/-- A flit or frame time of a link end, and the errors that reading the cells of the messages it packs finds, in order, of each cell in
base 4 with a digit for each 64-byte beat: 1 corrected, 2 uncorrectable (R213). EGRESS_SELECT's `cellEcc` is such a number. -/
structure FlitTime where
  link : Nat
  errs : List Nat := []
  deriving DecidableEq, Repr

/-- A PCIe AtomicOp: 0 FetchAdd, 1 Swap, 2 CAS (R171), its traffic class (R245), and the ECC event its map entries show (R127). -/
structure AtomicReq where
  op : Nat
  tc : Nat := 0
  ecc : Nat := 0
  deriving DecidableEq, Repr

/-- A line that a home looks up, and the ECC event of the set it reads (R178): of way `ecc / 4`, 1 corrected or 2 uncorrectable. -/
structure Probe where
  line : Word
  ecc : Nat := 0
  deriving DecidableEq, Repr

/-- The walk of a die's directory (R170), and the ECC events of the entries it reads, in order: 1 corrected, 2 uncorrectable. -/
structure Walk where
  die : Nat
  errs : List Nat := []
  deriving DecidableEq, Repr

/-- A staged line, and the errors that reading the staging lines it stands for finds, in order: 1 corrected, 2 uncorrectable (R205,
R213). -/
structure LineErrs where
  line : Word
  errs : List Nat := []
  deriving DecidableEq, Repr

/-- The commands. Each constructor's name is its row's mnemonic in lower camel case. -/
inductive Instr where
  -- The object dictionary (R34 to R57)
  | read (ifc : Iface) (cls inst mem n : Nat)
  | write (ifc : Iface) (cls inst mem : Nat) (vs : List Word)
  | readClear (ifc : Iface) (cls inst mem : Nat)
  | windowRead (off len : Nat)
  | windowWrite (off : Nat) (data : List Byte)
  | mbxRead (t : Nat) (obj : Word)
  | mbxWrite (t : Nat) (obj val : Word)
  | mbxDone (t : Nat)
  | errorCount (ifc : Iface) (x : Nat)
  | queryObject (ifc : Iface) (x : Nat) (v : Word)
  | dpOpLoad (ifc : Iface) (x : Nat)
  | dpOpDump (ifc : Iface) (x : Nat)
  | dpOpIdle (ifc : Iface) (x : Nat)
  | dpDataWrite (ifc : Iface) (x slot : Nat) (vs : List Word)
  | dpDataRead (ifc : Iface) (x slot n : Nat)
  | dumpStallTimeout (x slot : Nat)
  -- Fabric time (R58 to R66)
  | todLoad (ifc : Iface) (v : Word)
  | frequencyWindowEnd (edges : Bool) (ppm : Int)
  | timeSync (l : Nat)
  | syncMessagesMissed (d : Nat)
  -- Configuration transactions (R71 to R84)
  | txOpen (ifc : Iface) (x : Nat)
  | txPrepare (ifc : Iface) (x : Nat)
  | validationEnds (x : Nat)
  | txCommitAt (ifc : Iface) (x : Nat)
  | txAbort (ifc : Iface) (x : Nat)
  | txCancel (ifc : Iface) (x : Nat)
  | readyTimeout (x : Nat)
  | lockPoint (x : Nat)
  -- Ports (R86 to R109)
  | perstNAssert (p : Nat)
  | perstNDeassert (p : Nat)
  | presenceDeclared (pin : PinHeld)
  | absenceDeclared (pin : PinHeld)
  | perstRelease (p : Nat)
  | linkUp (p rate width protocols ldCount : Nat) (reversed : Bool) (polarity : Nat) (presets : List Nat)
  | trainTimeout (p : Nat)
  | retryPauseEnd (p : Nat)
  | recoveryEntry (p target : Nat) (faulty : List Nat)
  | recoveryExit (p rate width : Nat) (reversed : Bool)
  | dropTimeExpiry (p : Nat)
  | linkCtrlRetrain (ifc : Iface) (p : Nat)
  | linkCtrlDisable (ifc : Iface) (p : Nat)
  | linkCtrlEnable (ifc : Iface) (p : Nat)
  | linkCtrlHotReset (ifc : Iface) (p : Nat)
  | deviceResponse (p tag data : Nat) (fate : Response)
  | cplTimeout (p slot : Nat)
  | quarantineEnd (p : Nat)
  | flitReceived (p : Nat) (badFec badIde : Bool) (lanes credits : List Nat)
  | marginCtrl (ifc : Iface) (l : Nat) (v : Word)
  | marginResponse (l : Nat) (v : Word)
  -- Requests, translation and migration (R22 to R27, R110 to R145)
  | hostRequest (p : Nat) (op : MemOp) (md : Nat) (hpa : Word) (tag data mask : Nat) (poison : Bool) (ecc : Nat)
  | mapRestore (d : Nat) (granule : Bool) (index : Nat) (ok : Bool)
  | atomicop (p : Nat) (op : AtomicReq) (size : Nat) (hpa : Word) (tag operand compare : Nat)
  | privateAtomic (d n : Nat)
  | egressSelect (p cellEcc : Nat) (descUe : Bool)
  | shaperRefill (d : Nat)
  | bindVppb (h v port ld tenant : Nat)
  | unbindVppb (h v : Nat)
  | getVirtualCxlSwitchInfo (h : Nat)
  | vppbAdmit (ifc : Iface) (h v : Nat) (b : Word)
  | decAdmit (ifc : Iface) (n : Nat) (b : Word)
  | migDrained (m : Nat)
  -- The directory (R146 to R187)
  | rdS (d : Nat) (line : Word) (ecc : Nat)
  | rdOwn (d : Nat) (line : Word) (ecc : Nat)
  | rdCur (d : Nat) (line : Word) (ecc : Nat)
  | upgrade (d : Nat) (line : Word) (ecc : Nat)
  | cleanEvict (d : Nat) (line : Probe) (h : Nat)
  | writeback (d : Nat) (line : Probe) (h : Nat)
  | atomic (d : Nat) (line : Probe)
  | memoryWriteAck (d n : Nat)
  | birsp (p : Nat) (hpa : Word) (answer : Nat)
  | biconflict (p : Nat) (hpa : Word)
  | biTimeout (d h : Nat) (line : Word)
  | allocWaitExpiry (d : Nat) (line : Word)
  | srRecall (ifc : Iface) (r : Nat) (mask : Word)
  | sweepStart (w : Walk)
  | sweepEnd (d : Nat)
  | bankRetire (ifc : Iface) (d : Nat) (bank : Word)
  | bankRetired (d bank : Nat)
  -- Write groups (R188 to R211)
  | stagedWrite (p : Nat) (full : Bool) (hpa : Word) (tag data mask : Nat) (poison : Bool)
  | stagedRead (p : Nat) (hpa : LineErrs) (tag : Nat)
  | mark (d : Nat) (line : Word)
  | markAck (h k : Nat) (line : Word)
  | gdbCommit (p k : Nat) (gen : Nat)
  | gdbAbort (p k : Nat) (gen : Nat)
  | gdbRelease (p k : Nat) (gen : Nat)
  | claim (d : Nat) (line : Word)
  | claimResult (h k : Nat) (line : Word)
  | pin (d : Nat) (line : Probe)
  | pinResult (h k : Nat) (line : LineErrs)
  | applyWriteAck (h k : Nat) (line : Word)
  | unpin (d : Nat) (line : Word)
  | groupCancel (d : Nat) (h k : Nat)
  | grpCommitWaitExpiry (h k : Nat)
  | grpCtrlAbort (ifc : Iface) (h k : Nat)
  | grpCtrlRelease (ifc : Iface) (h k : Nat)
  -- The switch core (R212 to R237)
  | weevilExamine (d finding : Nat)
  | weevilPassEnd (d : Nat) (mismatch : Bool)
  | caAt (ifc : Iface) (v : Word)
  | marker (l c : Nat)
  | returnMarker (l c : Nat)
  | capEnable (ifc : Iface) (d : Nat) (b : Word)
  | capStart (d : Nat)
  | capStop (d : Nat)
  | capRecordWrite (d : Nat)
  | capClear (ifc : Iface) (d : Nat)
  | cfEnable (ifc : Iface) (d f : Nat)
  -- Tenants (R272 to R278)
  | tAdmit (ifc : Iface) (t : Nat) (b : Word)
  | freeze (ifc : Iface) (t : Nat)
  | thaw (ifc : Iface) (t : Nat)
  | tCmdReset (ifc : Iface) (t : Nat)
  | discard (ifc : Iface) (t : Nat)
  -- The Scarab mover (R287 to R312)
  | qDoorbell (ifc : Iface) (q : Nat) (v : Word)
  | piRead (q : Nat)
  | piReadReturn (q : Nat) (value : Word) (st : Nat)
  | descriptorFetch (q : Nat) (words : List Word) (st : Nat)
  | descriptorStart (d e : Nat)
  | moverLineDone (d e id : Nat)
  | descriptorComplete (q i : Nat)
  | recordWord0 (q i : Nat)
  | ntfDelayExpiry (q : Nat)
  | qNtfAck (ifc : Iface) (q : Nat) (v : Word)
  | qCtrlEnable (ifc : Iface) (q : Nat)
  | qCtrlDisable (ifc : Iface) (q : Nat)
  | qCtrlAbort (ifc : Iface) (q : Nat)
  | qCtrlReset (ifc : Iface) (q : Nat)
  | engineFault (d e : Nat)
  -- Links between dies and the Ihlod link layer (R314 to R337)
  | invarFlit (l : Nat) (ok : Bool)
  | ihlodFrameUnit (x : Nat) (ok : Bool) (seq : Nat) (f : Frame)
  | ack (l seq : Nat)
  | ackDue (l : Nat)
  | nak (l seq : Nat)
  | replayTimer (l : Nat)
  | credit (l vc returned : Nat)
  | heartbeat (l : Nat)
  | heartbeatSend (l : Nat)
  | faultNotice (l : Nat)
  | faultNoticeRepeat (d : Nat)
  | noticeAck (l : Nat)
  | handover (l : Nat)
  | windowEnd (l : Nat)
  | heartbeatMiss (l : Nat)
  | framingLost (l : Nat)
  | laneTestEnd (l failed delay : Nat)
  | d2dRetrained (l : Nat)
  | retrainAttemptTimeout (l : Nat)
  | d2dCtrlRetrain (ifc : Iface) (l : Nat)
  | laneRetire (ifc : Iface) (l : Nat) (lane : Word)
  -- The Ihlod link (R342 to R356)
  | segmentUp (x peer : Nat)
  | segmentTrainTimeout (x : Nat)
  | segmentRetry (x : Nat)
  | segCtrlRetrain (ifc : Iface) (x : Nat)
  -- Slot power (R357 to R379)
  | channelSample (xs : List SlSample) (temp : Int)
  | presenceEdge (n : Nat) (low : Bool)
  | inserted (n : Nat)
  | vinOk (n : Nat)
  | rampStart (n : Nat)
  | slPowerGood (n : Nat)
  | pgTimeout (n : Nat)
  | slTripFast (n : Nat)
  | diodeReading (n mv : Nat) (temp : Int)
  | cooldownDone (n : Nat)
  | offDelayExpiry (n : Nat)
  | slFetDamaged (n : Nat)
  | chEnable (ifc : Iface) (n : Nat) (v : Word)
  | chDamageClear (ifc : Iface) (n : Nat)
  -- Click sequencers and Cicada pairs (R380 to R397)
  | sqCmdStart (ifc : Iface) (n : Nat)
  | sqCmdStop (ifc : Iface) (n : Nat)
  | sqStartAt (n : Nat)
  | halt (n : Nat)
  | ldi (n : Nat)
  | add (n : Nat)
  | sub (n : Nat)
  | and (n : Nat)
  | or (n : Nat)
  | cmp (n : Nat)
  | br (n : Nat)
  | ldo (n : Nat)
  | sto (n : Nat)
  | waitt (n : Nat)
  | waittEnd (n : Nat)
  | waite (n : Nat)
  | waiteEnd (n : Nat)
  | emit (n : Nat)
  | txb (n : Nat)
  | txc (n : Nat)
  | txcEnd (n : Nat)
  | call (n : Nat)
  | ret (n : Nat)
  | illegalInstruction (n : Nat) (ue : Bool)
  | stepLimit (n : Nat)
  | cicadaActFail (d : Nat)
  | cicadaLockstep (d : Nat)
  | cicadaWdt (d : Nat)
  -- Faults (R401 to R423)
  | reactionStart (n : Nat)
  | collectorUe (d : Nat)
  | fsCapValid (ifc : Iface) (source : Nat)
  | retClear (ifc : Iface) (ch : Word)
  -- Reset, clocks and modes (R424 to R443)
  | dieReset (ifc : Iface) (d : Nat)
  | blockResetMover (ifc : Iface) (d : Nat)
  | blockResetCapture (ifc : Iface) (d : Nat)
  | blockResetAuditor (ifc : Iface) (d : Nat)
  | blockResetSequencers (ifc : Iface) (d : Nat)
  | blockResetCounters (ifc : Iface) (d : Nat)
  | blockResetTileSequencers (ifc : Iface) (d : Nat)
  | resetSourceRelease (code d dom : Nat)
  | domainRelease (d i : Nat)
  | pllLock (d n : Nat)
  | pllUnlock (d n : Nat)
  | clockUnstable (d n : Nat)
  | modeRequestRun (ifc : Iface) (degraded : Bool)
  -- Security and debug (R444 to R468)
  | dbgAuth (ifc : Iface) (v : Word)
  | dbgMaxLevel (ifc : Iface) (v : Word)
  | dbgAccessRead (a : Word)
  | dbgAccessWrite (a data : Word)
  | dbgAccessHalt (d : Nat)
  | dbgAccessResume (d : Nat)
  | dbgAccessStep (d : Nat)
  | getCertificate (via : Option Nat)
  | challenge (via : Option Nat)
  | getMeasurements (via : Option Nat) (signed : Bool)
  | keyExchange (via : Option Nat)
  | endSession (via : Option Nat) (n : Nat)
  | spdmRequest (via : Option Nat)
  | query (p : Nat) (session : Option Nat)
  | keyProg (p : Nat) (session : Option Nat) (stream k d sub : Nat)
  | kSetGo (p : Nat) (session : Option Nat) (k d : Nat)
  | kSetStop (p : Nat) (session : Option Nat) (k d : Nat)
  | establish (ifc : Iface) (p : Nat)
  | approve (ifc : Iface) (p : Nat)
  | refresh (ifc : Iface) (p : Nat)
  | stop (ifc : Iface) (p : Nat)
  -- Performance counters (R475 to R481)
  | pcSelect (ifc : Iface) (d n : Nat) (w : Word)
  | tcSelect (ifc : Iface) (t k : Nat) (w : Word)
  | pcClear (ifc : Iface) (d n : Nat)
  | tcClear (ifc : Iface) (t : Nat) (mask : Word)
  | userRead (ifc : Iface) (t : Nat) (b : Word)
  | partialSend (d : Nat)
  -- The tick of fabric time (R59)
  | tick (d : Nat)
  | stagedCopyError (x : Nat)
  -- Flits, devices, hosts, the scrub walker and the ends of INIT's and the firmware's work (R114, R178, R238, R320, R434, R440)
  | flitSend (f : FlitTime)
  | deviceRequest (p ld : Nat) (op : DevOp) (addr : Word) (len data tag tc : Nat)
  | hostCxlIoRequest (p : Nat) (op : IoOp) (fn bar : Nat) (addr : Word) (len data tag tc : Nat)
  | scrub (d set way err : Nat) (last : Bool)
  | sramSelfTestEnd (d repairs : Nat) (ok : Bool)
  | cicadaRunning (d : Nat) (regions : List (Nat × Nat × Nat × Nat))
  -- Writes of objects of the whole package, each of which `write` reaches too
  | shadowDiscardExtent (ifc : Iface)
  | shadowDiscardGranule (ifc : Iface)
  | hwmClear (ifc : Iface)
  | ccActivate (ifc : Iface)
  | fcEnterSafe (ifc : Iface)
  | pkgReset (ifc : Iface)
  | modeRequestAux (ifc : Iface)
  | modeRequestInit (ifc : Iface)
  | modeRequestConfig (ifc : Iface)
  | modeRequestLinkup (ifc : Iface)
  | modeRequestRunNc (ifc : Iface)
  | modeRequestDrain (ifc : Iface)
  | modeRequestMaint (ifc : Iface)
  | modeRequestUpdate (ifc : Iface)
  | rmaEnter (ifc : Iface)
  | dbgClose (ifc : Iface)
  -- Events, messages and TAP instructions that carry no operand
  | ftSyncEdge
  | ftRefLost
  | slewStep
  | holdoverExpired
  | ftSyncMissing
  | timeSyncSend
  | apply
  | fmApiUnsupported
  | dirCleared
  | creditAuditStart
  | creditAuditGather
  | hwmSnapshot
  | dictRead
  | dictWrite
  | dpLoad
  | dpDump
  | tod
  | rstArm
  | rstGo
  | ihlodResetAssert
  | assign
  | echo
  | spdm
  | tileLinkLost
  | tileLinkRestored
  | activationDone
  | recoveryWindowClose
  | powerOn
  | powerOnRelease
  | sysRstNAssert
  | sysRstNRelease
  | mainRailsOut
  | mainRailsIn
  | auxRailsOut
  | modeChange
  | initEnd
  | initTimeout
  | idcode
  | samplePreload
  | extest
  | clamp
  | highz
  | dbgAccess
  | bypass
  | dbgAccessNop
  | pcSnapshot
  deriving DecidableEq, Repr

end Sys2Proof
end

