-- ==== Sys2Proof/Decode.lean ====
section
/-! DEFINITION. Commands spelt by bits. The spec's table of operations and events gives none of its rows a bit pattern: the commands
of this block arrive as accesses, messages and events. -/
namespace Sys2Proof

/-- The command that a word spells by the table's bits: none, since no row has any. -/
def decodeTableWord (_nbits _w : Nat) : Option Instr := none

end Sys2Proof
end

