-- ==== Sys2Proof/Config.lean ====
section
/-! DEFINITION. What a package's manufacture fixes, and the free values: constants without a body, of which nothing can
be proved but what holds of every value. -/
namespace Sys2Proof

/-- The three package variants (R1, R2). -/
inductive Variant where
  | shf2180 | shf4180 | shf8180
  deriving DecidableEq, Repr, Inhabited

/-- Fethal dies of a variant (R2). -/
def Variant.dies : Variant → Nat
  | .shf2180 => 2 | .shf4180 => 4 | .shf8180 => 8

/-- Port slices, and so port numbers, of a variant: 16 on each die (R2, R15). -/
def Variant.ports (v : Variant) : Nat := 16 * v.dies

/-- Slot power channels of a variant (R2). -/
def Variant.slotChannels (v : Variant) : Nat := 8 * v.dies

/-- The mask of Invar link `k`: link k of die d joins die d XOR the mask (R19). -/
def Variant.linkMask (v : Variant) (k : Nat) : Nat :=
  match v, k with
  | .shf2180, _ => 1
  | .shf4180, 0 => 1
  | .shf4180, 1 => 2
  | .shf4180, _ => 3
  | .shf8180, 0 => 1
  | .shf8180, 1 => 2
  | .shf8180, 2 => 4
  | .shf8180, _ => 7

namespace Config

/-- The value a factory fuse gives a member for which the spec states none: class, instance and member (R46, R47, R500). -/
opaque fuse : Nat → Nat → Nat → Word

/-- One less than the characters of the package's serial number, of which only the remainder by 16 counts (R500). -/
opaque serialLength : Word

/-- Free values: the k-th value the spec leaves open in a run. -/
opaque freeValue : Nat → Word

/-- The SRC of the answers of a switch whose NODE_ADDR is 0xFF (R321, R347). -/
opaque unassignedSrc : BitVec 5

/-- The random bytes of the debug challenge with which a package starts: words 0 to 3 (R447). -/
opaque challenge : Nat → Word

/-- The route hash of R20: route key, current die, destination die, and the mask of healthy links, to a choice. -/
opaque routeHash : Nat → Nat → Nat → Nat → Nat

/-- The level of CLKREQ_N of a port that does not hold it low, by the port's elapsed ticks: no rule drives it then (R97, R107). -/
opaque clkreq : Nat → Nat → Bool

/-- Where the LTSSM of a port stands in training and in Recovery, by the number of the attempt or Recovery and the port's elapsed
ticks: of the states that R501 lists for it, any. -/
opaque ltssm : Nat → Nat → Nat

/-- The version of the microcode of an engine, by the digest of the microcode it has loaded (R312). -/
opaque microcode : Nat → Word

/-- The firmware image that a package runs before any activation: its version, its SVN, and the digests of its body and of its
microcode (R395, R400, R464). -/
opaque firmware : Word
opaque firmwareSvn : BitVec 16
opaque firmwareDigest : BitVec 384
opaque firmwareMicrocode : BitVec 384

/-- SHA-384, whose definition is another standard's (R395, R464). -/
opaque sha384 : List Byte → BitVec 384

/-- ECDSA over P-384 with the Maellis firmware key: the bytes signed, and the signature (R395, R396, R462). -/
opaque imageSigned : List Byte → List Byte → Bool

/-- The fused SHA-384 of a debug credential's key, by the credential's code (R447, R462). -/
opaque debugKeyHash : Nat → BitVec 384

/-- ECDSA over P-384 with a key given as 96 bytes: the key, the bytes signed, and the signature (R447). -/
opaque debugSigned : List Byte → List Byte → List Byte → Bool

/-- The measurement of the lock set: SHA-384 over the instance, the number and the three members of each of its regions (R464). -/
opaque lockDigest : List (List Nat) → BitVec 384

/-- The SECDED check bits of a directory entry's bits 119:0 (R153). -/
opaque entryEcc : BitVec 120 → BitVec 8

/-- The Maellis manufacturer identity of IDCODE (R451). -/
opaque manufacturer : BitVec 11

end Config

end Sys2Proof
end

