-- ==== Sys2Proof/Machine/Sources.lean ====
section
/-! DEFINITION. The fault sources of R403 and R404 by name, with the severity and rate limit each starts at, and
the channel identifiers of R402. -/
namespace Sys2Proof.Machine

namespace F

/-- LINK_UP (R403). -/
def LINK_UP (k : Nat) : Nat := 0x060 + k
/-- LINK_DOWN (R403). -/
def LINK_DOWN : Nat := 0x070
/-- WIDTH_DEGRADED (R403). -/
def WIDTH_DEGRADED : Nat := 0x071
/-- TRAIN_FAIL (R403). -/
def TRAIN_FAIL : Nat := 0x072
/-- CPL_TIMEOUT (R403). -/
def CPL_TIMEOUT : Nat := 0x073
/-- STALE_RSP (R403). -/
def STALE_RSP : Nat := 0x074
/-- WRITE_LOST (R403). -/
def WRITE_LOST : Nat := 0x075
/-- IDE_CHECK (R403). -/
def IDE_CHECK : Nat := 0x076
/-- LANE_FAULT (R403). -/
def LANE_FAULT : Nat := 0x077
/-- LANE_RETIRED (R403). -/
def LANE_RETIRED : Nat := 0x078
/-- PORT_RETIRED (R403). -/
def PORT_RETIRED : Nat := 0x079
/-- MAP_UE (R403). -/
def MAP_UE : Nat := 0x07A
/-- DECODE_MISS (R403). -/
def DECODE_MISS : Nat := 0x07B
/-- MIG_ABORTED (R403). -/
def MIG_ABORTED : Nat := 0x07C
/-- TENANT_REFUSED (R403). -/
def TENANT_REFUSED : Nat := 0x07D
/-- REPLAY (R403). -/
def REPLAY : Nat := 0x080
/-- BAD_WINDOW (R403). -/
def BAD_WINDOW : Nat := 0x081
/-- LINK_DOWN (R403). -/
def LL_LINK_DOWN : Nat := 0x082
/-- HEARTBEAT_MISS (R403). -/
def HEARTBEAT_MISS : Nat := 0x083
/-- FRAMING_LOST (R403). -/
def FRAMING_LOST : Nat := 0x084
/-- D2D_RETRAINED (R403). -/
def D2D_RETRAINED : Nat := 0x085
/-- D2D_LANE_SPARED (R403). -/
def D2D_LANE_SPARED : Nat := 0x086
/-- D2D_LANE_RETIRED (R403). -/
def D2D_LANE_RETIRED : Nat := 0x087
/-- D2D_LINK_RETIRED (R403). -/
def D2D_LINK_RETIRED : Nat := 0x088
/-- D2D_TRAIN_FAIL (R403). -/
def D2D_TRAIN_FAIL : Nat := 0x089
/-- IH_SEGMENT_DOWN (R403). -/
def IH_SEGMENT_DOWN : Nat := 0x08A
/-- IH_BYPASS (R403). -/
def IH_BYPASS : Nat := 0x08B
/-- IH_ADDR_ASSIGNED (R403). -/
def IH_ADDR_ASSIGNED : Nat := 0x08C
/-- IH_EVENT_LOST (R403). -/
def IH_EVENT_LOST : Nat := 0x08D
/-- IH_FOREIGN (R403). -/
def IH_FOREIGN : Nat := 0x08E
/-- DIR_CE (R403). -/
def DIR_CE : Nat := 0x0C0
/-- DIR_UE (R403). -/
def DIR_UE : Nat := 0x0C1
/-- BI_TIMEOUT (R403). -/
def BI_TIMEOUT : Nat := 0x0C2
/-- DIR_PROTOCOL (R403). -/
def DIR_PROTOCOL : Nat := 0x0C3
/-- ALLOC_STALL (R403). -/
def ALLOC_STALL : Nat := 0x0C4
/-- BANK_RETIRED (R403). -/
def BANK_RETIRED : Nat := 0x0C5
/-- OWNER_LOST (R403). -/
def OWNER_LOST : Nat := 0x0C6
/-- ATOMIC_POISON (R403). -/
def ATOMIC_POISON : Nat := 0x0C7
/-- SHARED_REFUSED (R403). -/
def SHARED_REFUSED : Nat := 0x0C8
/-- GROUP_PROTOCOL (R403). -/
def GROUP_PROTOCOL : Nat := 0x0C9
/-- GROUP_APPLY_LOST (R403). -/
def GROUP_APPLY_LOST : Nat := 0x0CA
/-- CELL_LEAK (R403). -/
def CELL_LEAK : Nat := 0x100
/-- CELL_INTEGRITY (R403). -/
def CELL_INTEGRITY : Nat := 0x101
/-- CELL_STALE (R403). -/
def CELL_STALE : Nat := 0x102
/-- POOL_MISMATCH (R403). -/
def POOL_MISMATCH : Nat := 0x103
/-- CELL_UE (R403). -/
def CELL_UE : Nat := 0x104
/-- QUARANTINE_FULL (R403). -/
def QUARANTINE_FULL : Nat := 0x105
/-- DESC_UE (R403). -/
def DESC_UE : Nat := 0x106
/-- CREDIT_AUDIT_FAIL (R403). -/
def CREDIT_AUDIT_FAIL : Nat := 0x107
/-- CREDIT_AUDIT_TIMEOUT (R403). -/
def CREDIT_AUDIT_TIMEOUT : Nat := 0x108
/-- CAP_TRIGGERED (R403). -/
def CAP_TRIGGERED : Nat := 0x109
/-- CAP_FULL (R403). -/
def CAP_FULL : Nat := 0x10A
/-- CAP_LOST (R403). -/
def CAP_LOST : Nat := 0x10B
/-- QUEUE_HALTED (R403). -/
def QUEUE_HALTED : Nat := 0x140
/-- NTF_OVERFLOW (R403). -/
def NTF_OVERFLOW : Nat := 0x141
/-- ENGINE_FAULT (R403). -/
def ENGINE_FAULT : Nat := 0x142
/-- MPU_REFUSED (R403). -/
def MPU_REFUSED : Nat := 0x180
/-- DEBUG_REFUSED (R403). -/
def DEBUG_REFUSED : Nat := 0x181
/-- AUTH_FAIL (R403). -/
def AUTH_FAIL : Nat := 0x182
/-- IDE_KEY_FAIL (R403). -/
def IDE_KEY_FAIL : Nat := 0x183
/-- FT_REF_LOST (R403). -/
def FT_REF_LOST : Nat := 0x1C0
/-- FT_SYNC_MISSING (R403). -/
def FT_SYNC_MISSING : Nat := 0x1C1
/-- SYNC_ERROR (R403). -/
def SYNC_ERROR : Nat := 0x1C2
/-- TIME_STEPPED (R403). -/
def TIME_STEPPED : Nat := 0x1C3
/-- HOLDOVER_EXPIRED (R403). -/
def HOLDOVER_EXPIRED : Nat := 0x1C4
/-- DIE_SKEW (R403). -/
def DIE_SKEW : Nat := 0x1C5
/-- TX_APPLIED (R403). -/
def TX_APPLIED : Nat := 0x1C6
/-- TX_FAILED (R403). -/
def TX_FAILED : Nat := 0x1C7
/-- CLOCK_UNSTABLE (R403). -/
def CLOCK_UNSTABLE : Nat := 0x1C8
/-- COLLECTOR_UE (R403). -/
def COLLECTOR_UE : Nat := 0x1E0
/-- REACTION_OVERFLOW (R403). -/
def REACTION_OVERFLOW : Nat := 0x1E1
/-- REACTION_FAILED (R403). -/
def REACTION_FAILED : Nat := 0x1E2
/-- CLICK_FAULT (R403). -/
def CLICK_FAULT : Nat := 0x1E3
/-- CLICK_USER (R403). -/
def CLICK_USER : Nat := 0x1E4
/-- CLICK_START_MISSED (R403). -/
def CLICK_START_MISSED : Nat := 0x1E5
/-- CICADA_LOCKSTEP (R403). -/
def CICADA_LOCKSTEP : Nat := 0x1E6
/-- CICADA_WDT (R403). -/
def CICADA_WDT : Nat := 0x1E7
/-- CICADA_ACT_FAIL (R403). -/
def CICADA_ACT_FAIL : Nat := 0x1E8
/-- SEQ_RETIRED (R403). -/
def SEQ_RETIRED : Nat := 0x1E9
/-- NOTICE_LOST (R403). -/
def NOTICE_LOST : Nat := 0x1EA
/-- SL_POWER_GOOD (R404). -/
def SL_POWER_GOOD (k : Nat) : Nat := 0xE00 + k
/-- SL_TRIP_FAST (R404). -/
def SL_TRIP_FAST : Nat := 0xE40
/-- SL_TRIP_SOA (R404). -/
def SL_TRIP_SOA : Nat := 0xE41
/-- SL_TRIP_PG (R404). -/
def SL_TRIP_PG : Nat := 0xE42
/-- SL_FET_DAMAGED (R404). -/
def SL_FET_DAMAGED : Nat := 0xE43
/-- SL_INPUT_FAULT (R404). -/
def SL_INPUT_FAULT : Nat := 0xE44
/-- SL_REMOVED (R404). -/
def SL_REMOVED : Nat := 0xE45
/-- SL_DIODE_FAULT (R404). -/
def SL_DIODE_FAULT : Nat := 0xE46
/-- TILE_LINK_LOST (R404). -/
def TILE_LINK_LOST : Nat := 0xE47
/-- TILE_OVERTEMP (R404). -/
def TILE_OVERTEMP : Nat := 0xE48

end F

/-- The local sources of R403: first and last local, severity and rate limit at reset. -/
def localSources : List (Nat × Nat × Nat × Nat) := [
  (0x060, 0x06F, 1, 0),
  (0x070, 0x070, 2, 0),
  (0x071, 0x071, 2, 0),
  (0x072, 0x072, 2, 0),
  (0x073, 0x073, 2, 0),
  (0x074, 0x074, 1, 0),
  (0x075, 0x075, 2, 0),
  (0x076, 0x076, 2, 0),
  (0x077, 0x077, 3, 0),
  (0x078, 0x078, 2, 0),
  (0x079, 0x079, 2, 0),
  (0x07A, 0x07A, 2, 0),
  (0x07B, 0x07B, 1, 0),
  (0x07C, 0x07C, 2, 0),
  (0x07D, 0x07D, 1, 0),
  (0x080, 0x080, 1, 0),
  (0x081, 0x081, 2, 0),
  (0x082, 0x082, 2, 0),
  (0x083, 0x083, 2, 0),
  (0x084, 0x084, 2, 0),
  (0x085, 0x085, 1, 0),
  (0x086, 0x086, 2, 0),
  (0x087, 0x087, 2, 0),
  (0x088, 0x088, 2, 0),
  (0x089, 0x089, 2, 0),
  (0x08A, 0x08A, 2, 0),
  (0x08B, 0x08B, 2, 0),
  (0x08C, 0x08C, 1, 0),
  (0x08D, 0x08D, 1, 0),
  (0x08E, 0x08E, 2, 0),
  (0x0C0, 0x0C0, 1, 64),
  (0x0C1, 0x0C1, 3, 0),
  (0x0C2, 0x0C2, 2, 0),
  (0x0C3, 0x0C3, 2, 0),
  (0x0C4, 0x0C4, 1, 0),
  (0x0C5, 0x0C5, 2, 0),
  (0x0C6, 0x0C6, 2, 0),
  (0x0C7, 0x0C7, 2, 0),
  (0x0C8, 0x0C8, 1, 0),
  (0x0C9, 0x0C9, 1, 0)] ++ [
  (0x0CA, 0x0CA, 2, 0),
  (0x100, 0x100, 2, 0),
  (0x101, 0x101, 2, 0),
  (0x102, 0x102, 1, 0),
  (0x103, 0x103, 2, 0),
  (0x104, 0x104, 2, 0),
  (0x105, 0x105, 2, 0),
  (0x106, 0x106, 2, 0),
  (0x107, 0x107, 2, 0),
  (0x108, 0x108, 1, 0),
  (0x109, 0x109, 1, 0),
  (0x10A, 0x10A, 1, 0),
  (0x10B, 0x10B, 1, 0),
  (0x140, 0x140, 1, 0),
  (0x141, 0x141, 1, 0),
  (0x142, 0x142, 2, 0),
  (0x180, 0x180, 2, 0),
  (0x181, 0x181, 2, 0),
  (0x182, 0x182, 2, 0),
  (0x183, 0x183, 2, 0),
  (0x1C0, 0x1C0, 2, 0),
  (0x1C1, 0x1C1, 2, 0),
  (0x1C2, 0x1C2, 1, 0),
  (0x1C3, 0x1C3, 2, 0),
  (0x1C4, 0x1C4, 2, 0),
  (0x1C5, 0x1C5, 2, 0),
  (0x1C6, 0x1C6, 1, 0),
  (0x1C7, 0x1C7, 2, 0),
  (0x1C8, 0x1C8, 2, 0),
  (0x1E0, 0x1E0, 5, 0),
  (0x1E1, 0x1E1, 5, 0),
  (0x1E2, 0x1E2, 2, 0),
  (0x1E3, 0x1E3, 2, 3),
  (0x1E4, 0x1E4, 1, 0),
  (0x1E5, 0x1E5, 1, 0),
  (0x1E6, 0x1E6, 2, 0),
  (0x1E7, 0x1E7, 2, 0),
  (0x1E8, 0x1E8, 2, 0),
  (0x1E9, 0x1E9, 2, 0),
  (0x1EA, 0x1EA, 1, 0)]

/-- The tile sources of R404, without the per-channel SL_POWER_GOOD. -/
def tileSources : List (Nat × Nat × Nat × Nat) := [
  (0xE40, 0xE40, 2, 0),
  (0xE41, 0xE41, 2, 0),
  (0xE42, 0xE42, 2, 0),
  (0xE43, 0xE43, 2, 0),
  (0xE44, 0xE44, 2, 0),
  (0xE45, 0xE45, 1, 0),
  (0xE46, 0xE46, 2, 0),
  (0xE47, 0xE47, 2, 0),
  (0xE48, 0xE48, 2, 0)]

/-- The row of R403 or R404 that defines a source number on a variant, with its severity and rate limit (R401). -/
def sourceRow (v : Variant) (n : Nat) : Option (Nat × Nat) :=
  if 0xE00 ≤ n ∧ n < 0xE00 + v.slotChannels then some (1, 0)
  else
    match tileSources.find? (fun r => decide (r.1 ≤ n ∧ n ≤ r.2.1)) with
    | some r => some r.2.2
    | none =>
      if n / 512 < v.dies then
        (localSources.find? (fun r => decide (r.1 ≤ n % 512 ∧ n % 512 ≤ r.2.1))).map (fun r => r.2.2)
      else none

/-- A channel identifier of R402. -/
def channelId (kind index : Nat) : Nat := kind * 0x10000000 + index

/-- The KIND of a channel identifier (R402). -/
def channelKind (ch : Nat) : Nat := ch / 0x10000000

/-- The INDEX of a channel identifier (R402). -/
def channelIndex (ch : Nat) : Nat := ch % 0x10000

/-- A channel of this kind can be retired (R402). -/
def channelRetirable (ch : Nat) : Bool := decide (1 ≤ channelKind ch ∧ channelKind ch ≤ 6)

end Sys2Proof.Machine
end

