-- ==== Sys2Proof/Machine/Table.lean ====
section
/-! DEFINITION. Sparse tables in one canonical form: a list of key and value pairs, keys strictly rising, no entry
equal to the value an unlisted key has. Every per-unit piece of the block's state (a port, a tag slot, a tracker, a
directory entry) is a row of such a table, so that equal states are equal data. -/
namespace Sys2Proof.Machine

/-- A sparse table from natural keys to plain data. -/
abbrev Table (α : Type) := List (Nat × α)

/-- The value listed at a key, if any. -/
def Table.find {α : Type} (t : Table α) (k : Nat) : Option α :=
  match t with
  | [] => none
  | (j, v) :: r => if j = k then some v else if j < k then Table.find r k else none

/-- The value at a key; an unlisted key has the type's default. -/
def Table.at {α : Type} [Inhabited α] (t : Table α) (k : Nat) : α := (t.find k).getD default

/-- Put a pair in its place, replacing the pair of the same key. -/
def Table.place {α : Type} (t : Table α) (k : Nat) (v : α) : Table α :=
  match t with
  | [] => [(k, v)]
  | (j, w) :: r =>
    if j < k then (j, w) :: Table.place r k v
    else if j = k then (k, v) :: r
    else (k, v) :: (j, w) :: r

/-- Remove the pair of a key. -/
def Table.drop {α : Type} (t : Table α) (k : Nat) : Table α :=
  match t with
  | [] => []
  | (j, w) :: r =>
    if j < k then (j, w) :: Table.drop r k
    else if j = k then r
    else (j, w) :: r

/-- Write a value where an unlisted key has the value `d`: writing `d` removes the pair. -/
def Table.write {α : Type} [DecidableEq α] (d : α) (t : Table α) (k : Nat) (v : α) : Table α :=
  if v = d then t.drop k else t.place k v

/-- Write a value; writing the type's default removes the pair. -/
def Table.set {α : Type} [DecidableEq α] [Inhabited α] (t : Table α) (k : Nat) (v : α) : Table α :=
  Table.write default t k v

/-- Change the value at a key. -/
def Table.upd {α : Type} [DecidableEq α] [Inhabited α] (t : Table α) (k : Nat) (f : α → α) : Table α :=
  t.set k (f (t.at k))

/-- The keys listed. -/
def Table.keys {α : Type} (t : Table α) : List Nat := t.map Prod.fst

/-- Keys strictly rising from a bound. -/
def Table.risingFrom {α : Type} (lo : Nat) (t : Table α) : Bool :=
  match t with
  | [] => true
  | (j, _) :: r => decide (lo ≤ j) && Table.risingFrom (j + 1) r

/-- The canonical form where an unlisted key `k` has the value `d k`. -/
def Table.wfBy {α : Type} [DecidableEq α] (d : Nat → α) (t : Table α) : Bool :=
  Table.risingFrom 0 t && t.all (fun p => decide (p.2 ≠ d p.1))

/-- The canonical form of a table whose unlisted keys have the type's default. -/
def Table.wf {α : Type} [DecidableEq α] [Inhabited α] (t : Table α) : Bool := t.wfBy (fun _ => default)

end Sys2Proof.Machine
end

