-- ==== Sys2Proof/Machine/ObjTable.lean ====
section
/-! DEFINITION. The object dictionary's tables, one list per table of the spec, each row with its member numbers,
type, access code, rights, default and the owner's limit on a written value (R6, R36, R38). The rows are the tables
of the rules each list is named after. -/
namespace Sys2Proof.Machine

/-- The types of R36. -/
inductive Ty where
  | u8 | u16 | u32 | u64 | s32 | bool | enum8 | bits32 | bits64 | ticks64 | addr64
  | octets (n : Nat)
  deriving DecidableEq, Repr

/-- The access codes of R38. -/
inductive Access where
  | ro | rw | rwt | wo | w1c | rc
  deriving DecidableEq, Repr

/-- Rights of the four requester classes: 0 none, 1 read only, 2 the listed access (R6, R50). -/
structure Rights where
  fm : Nat
  ten : Nat
  host : Nat
  dbg : Nat
  deriving DecidableEq, Repr

/-- Where a default comes from: a value, factory fuses, live hardware state, or a rule of its own (R6). -/
inductive DefaultKind where
  | value | fuse | live | special
  deriving DecidableEq, Repr

/-- The limit an owning table puts on a written value, beyond its type's check (R36). -/
inductive Limit where
  | any
  | range (lo hi : Nat)
  | rangeOr (lo hi other : Nat)
  | zeroOr (lo hi : Nat)
  | oneOf (l : List Nat)
  | mask (m : Nat)
  | aligned (a lo hi : Nat)
  | pow2Or0 (lo hi : Nat)
  deriving DecidableEq, Repr

/-- One row of an object table. `count` objects stand `stride` members apart from `mem` on, each in `slots` slots. -/
structure Row where
  mem : Nat
  count : Nat
  stride : Nat
  slots : Nat
  ty : Ty
  acc : Access
  rights : Rights
  kind : DefaultKind
  dflt : Nat
  config : Bool
  limit : Limit
  deriving DecidableEq, Repr

/-- The object table of R46. -/
def tableR46 : List Row := [
  ⟨0x00, 1, 1, 1, .u16, .ro, ⟨2, 2, 2, 2⟩, .fuse, 0x0, false, .any⟩,
  ⟨0x01, 1, 1, 1, .enum8, .ro, ⟨2, 2, 2, 2⟩, .fuse, 0x0, false, .any⟩,
  ⟨0x02, 1, 1, 1, .u8, .ro, ⟨2, 2, 2, 2⟩, .fuse, 0x0, false, .any⟩,
  ⟨0x03, 1, 1, 1, .u8, .ro, ⟨2, 2, 2, 2⟩, .fuse, 0x0, false, .any⟩,
  ⟨0x04, 1, 1, 1, .u8, .ro, ⟨2, 2, 2, 2⟩, .fuse, 0x0, false, .any⟩,
  ⟨0x05, 1, 1, 1, .u8, .ro, ⟨2, 2, 2, 2⟩, .fuse, 0x0, false, .any⟩,
  ⟨0x06, 1, 1, 1, .u8, .ro, ⟨2, 2, 2, 2⟩, .fuse, 0x0, false, .any⟩,
  ⟨0x07, 1, 2, 2, (.octets 16), .ro, ⟨2, 2, 2, 2⟩, .fuse, 0x0, false, .any⟩,
  ⟨0x09, 1, 1, 1, .u16, .ro, ⟨2, 2, 2, 2⟩, .fuse, 0x0, false, .any⟩]

/-- The object table of R47. -/
def tableR47 : List Row := [
  ⟨0x00, 1, 1, 1, .u8, .ro, ⟨2, 0, 0, 2⟩, .fuse, 0x0, false, .any⟩,
  ⟨0x01, 1, 1, 1, (.octets 8), .ro, ⟨2, 0, 0, 2⟩, .fuse, 0x0, false, .any⟩,
  ⟨0x02, 1, 1, 1, .u8, .ro, ⟨2, 0, 0, 2⟩, .fuse, 0x0, false, .any⟩,
  ⟨0x03, 1, 1, 1, .bits32, .ro, ⟨2, 0, 0, 2⟩, .fuse, 0x0, false, .any⟩,
  ⟨0x04, 1, 1, 1, .bool, .ro, ⟨2, 0, 0, 2⟩, .fuse, 0x0, false, .any⟩,
  ⟨0x05, 1, 1, 1, .u16, .ro, ⟨2, 0, 0, 2⟩, .live, 0x0, false, .any⟩]

/-- The object table of R48. -/
def tableR48 : List Row := [
  ⟨0x00, 1, 1, 1, .u16, .ro, ⟨2, 2, 2, 2⟩, .value, 0x100, false, .any⟩,
  ⟨0x01, 1, 1, 1, .bits64, .ro, ⟨2, 0, 0, 2⟩, .value, 0x30F0707001F00FF, false, .any⟩,
  ⟨0x02, 1, 1, 1, .bits64, .ro, ⟨2, 0, 0, 2⟩, .value, 0xC000000307030107, false, .any⟩,
  ⟨0x03, 1, 1, 1, .u64, .ro, ⟨2, 0, 0, 2⟩, .value, 0x80000000, false, .any⟩]

/-- The object table of R49. -/
def tableR49 : List Row := [
  ⟨0x00, 1, 1, 1, .enum8, .ro, ⟨2, 0, 0, 2⟩, .value, 0x0, false, .any⟩,
  ⟨0x01, 1, 1, 1, .u32, .ro, ⟨2, 0, 0, 2⟩, .value, 0x0, false, .any⟩,
  ⟨0x02, 1, 1, 1, .enum8, .ro, ⟨2, 0, 0, 2⟩, .value, 0x0, false, .any⟩,
  ⟨0x03, 1, 1, 1, .u32, .ro, ⟨2, 0, 0, 2⟩, .value, 0x0, false, .any⟩,
  ⟨0x04, 1, 1, 1, .u32, .rc, ⟨2, 0, 0, 2⟩, .value, 0x0, false, .any⟩,
  ⟨0x08, 1, 1, 1, .u32, .rw, ⟨2, 0, 0, 2⟩, .value, 0x0, false, (.range 0 268435455)⟩,
  ⟨0x09, 1, 1, 1, .bits64, .ro, ⟨2, 0, 0, 2⟩, .live, 0x0, false, .any⟩,
  ⟨0x0A, 1, 1, 1, .u64, .ro, ⟨2, 0, 0, 2⟩, .live, 0x0, false, .any⟩]

/-- The object table of R51. -/
def tableR51 : List Row := [
  ⟨0x00, 1, 1, 1, .enum8, .rw, ⟨2, 0, 0, 0⟩, .value, 0x0, false, (.range 0 2)⟩,
  ⟨0x01, 1, 1, 1, .addr64, .rw, ⟨2, 0, 0, 0⟩, .value, 0x0, false, .any⟩,
  ⟨0x02, 1, 1, 1, .u32, .rw, ⟨2, 0, 0, 0⟩, .value, 0x0, false, (.aligned 8 8 0xFFFFFFF8)⟩,
  ⟨0x03, 1, 1, 1, .enum8, .ro, ⟨2, 0, 0, 2⟩, .value, 0x0, false, .any⟩,
  ⟨0x04, 1, 1, 1, .enum8, .ro, ⟨2, 0, 0, 2⟩, .value, 0x0, false, .any⟩,
  ⟨0x05, 1, 1, 1, .u32, .ro, ⟨2, 0, 0, 2⟩, .value, 0x0, false, .any⟩,
  ⟨0x06, 1, 1, 1, .u32, .ro, ⟨2, 0, 0, 2⟩, .value, 0x0, false, .any⟩,
  ⟨0x20, 1, 32, 32, (.octets 256), .rw, ⟨2, 0, 0, 0⟩, .live, 0x0, false, .any⟩]

/-- The object table of R67. -/
def tableR67 : List Row := [
  ⟨0x00, 1, 1, 1, .enum8, .ro, ⟨2, 1, 0, 2⟩, .value, 0x0, false, .any⟩,
  ⟨0x01, 1, 1, 1, .ticks64, .ro, ⟨2, 1, 1, 2⟩, .live, 0x0, false, .any⟩,
  ⟨0x02, 1, 1, 1, .bits64, .ro, ⟨2, 0, 0, 2⟩, .live, 0x0, false, .any⟩,
  ⟨0x03, 1, 1, 1, .ticks64, .rw, ⟨2, 0, 0, 0⟩, .value, 0x0, false, (.aligned 25000000 0 0xFFFFFFFFFFFFFFFF)⟩,
  ⟨0x04, 1, 1, 1, .bool, .ro, ⟨2, 0, 0, 2⟩, .value, 0x0, false, .any⟩,
  ⟨0x05, 1, 1, 1, .ticks64, .rw, ⟨2, 0, 0, 0⟩, .value, 0x2625A0, false, (.range 25000 250000000)⟩,
  ⟨0x06, 1, 1, 1, .ticks64, .ro, ⟨2, 0, 0, 2⟩, .value, 0x0, false, .any⟩,
  ⟨0x07, 1, 1, 1, .s32, .ro, ⟨2, 0, 0, 2⟩, .value, 0x0, false, .any⟩,
  ⟨0x08, 1, 1, 1, .bits32, .w1c, ⟨2, 0, 0, 2⟩, .value, 0x0, false, (.mask 0x3F)⟩,
  ⟨0x09, 1, 1, 1, .u32, .ro, ⟨2, 0, 0, 2⟩, .value, 0x0, false, .any⟩,
  ⟨0x0A, 1, 1, 1, .ticks64, .ro, ⟨2, 0, 0, 2⟩, .value, 0x0, false, .any⟩]

/-- The object table of R68. -/
def tableR68 : List Row := [
  ⟨0x00, 1, 1, 1, .s32, .ro, ⟨2, 0, 0, 2⟩, .value, 0x0, false, .any⟩,
  ⟨0x01, 1, 1, 1, .bool, .ro, ⟨2, 0, 0, 2⟩, .live, 0x0, false, .any⟩,
  ⟨0x02, 1, 1, 1, .u8, .rc, ⟨2, 0, 0, 2⟩, .value, 0x0, false, .any⟩]

/-- The object table of R83. -/
def tableR83 : List Row := [
  ⟨0x00, 1, 1, 1, .ticks64, .ro, ⟨2, 0, 0, 2⟩, .value, 0xFA, false, .any⟩,
  ⟨0x01, 1, 1, 1, .ticks64, .ro, ⟨2, 0, 0, 2⟩, .value, 0x7D, false, .any⟩,
  ⟨0x02, 1, 1, 1, .ticks64, .rw, ⟨2, 0, 0, 0⟩, .value, 0xEE6B280, false, (.range 250 250000000)⟩,
  ⟨0x03, 1, 1, 1, .ticks64, .rw, ⟨2, 0, 0, 0⟩, .value, 0xEE6B280, false, (.range 2500 2500000000)⟩,
  ⟨0x04, 1, 1, 1, .u32, .ro, ⟨2, 1, 0, 2⟩, .value, 0x0, false, .any⟩,
  ⟨0x05, 1, 1, 1, .ticks64, .ro, ⟨2, 1, 0, 2⟩, .value, 0x0, false, .any⟩,
  ⟨0x06, 1, 1, 1, .ticks64, .ro, ⟨2, 0, 0, 2⟩, .value, 0x0, false, .any⟩,
  ⟨0x07, 1, 1, 1, .u32, .ro, ⟨2, 0, 0, 2⟩, .value, 0x0, false, .any⟩,
  ⟨0x08, 1, 1, 1, .u32, .ro, ⟨2, 0, 0, 2⟩, .value, 0x0, false, .any⟩]

/-- The object table of R84. -/
def tableR84 : List Row := [
  ⟨0x00, 1, 1, 1, .enum8, .wo, ⟨2, 0, 0, 0⟩, .live, 0x0, false, (.range 1 5)⟩,
  ⟨0x01, 1, 1, 1, .enum8, .ro, ⟨2, 0, 0, 2⟩, .value, 0x0, false, .any⟩,
  ⟨0x02, 1, 1, 1, .enum8, .ro, ⟨2, 0, 0, 2⟩, .value, 0x0, false, .any⟩,
  ⟨0x03, 1, 1, 1, .ticks64, .rw, ⟨2, 0, 0, 0⟩, .value, 0x0, false, .any⟩,
  ⟨0x04, 1, 1, 1, .u16, .ro, ⟨2, 0, 0, 2⟩, .value, 0x0, false, .any⟩,
  ⟨0x05, 1, 1, 1, .u16, .ro, ⟨2, 0, 0, 2⟩, .value, 0xFFFF, false, .any⟩,
  ⟨0x06, 1, 1, 1, .u32, .ro, ⟨2, 0, 0, 2⟩, .value, 0x0, false, .any⟩,
  ⟨0x07, 1, 1, 1, .ticks64, .ro, ⟨2, 0, 0, 2⟩, .value, 0x0, false, .any⟩,
  ⟨0x08, 1, 1, 1, .ticks64, .ro, ⟨2, 0, 0, 2⟩, .value, 0x0, false, .any⟩,
  ⟨0x09, 1, 1, 1, .u32, .ro, ⟨2, 0, 0, 2⟩, .value, 0x0, false, .any⟩,
  ⟨0x0A, 1, 1, 1, .u8, .ro, ⟨2, 0, 0, 2⟩, .value, 0xFF, false, .any⟩]

/-- The object table of R107. -/
def tableR107part1 : List Row := [
  ⟨0x00, 1, 1, 1, .enum8, .rw, ⟨2, 0, 0, 1⟩, .special, 0x0, true, (.range 0 3)⟩,
  ⟨0x01, 1, 1, 1, .u8, .rw, ⟨2, 0, 0, 1⟩, .value, 0xFF, true, (.rangeOr 0 63 0xFF)⟩,
  ⟨0x02, 1, 1, 1, .enum8, .rw, ⟨2, 0, 0, 1⟩, .value, 0x80, false, (.oneOf [0x20, 0x40, 0x80])⟩,
  ⟨0x03, 1, 1, 1, .u8, .rw, ⟨2, 0, 0, 1⟩, .value, 0x4, false, (.oneOf [1, 2, 4, 8, 16])⟩,
  ⟨0x04, 1, 1, 1, .u8, .rw, ⟨2, 0, 0, 1⟩, .value, 0x4, true, (.oneOf [0, 4, 8, 16])⟩,
  ⟨0x05, 1, 1, 1, .enum8, .rw, ⟨2, 0, 0, 1⟩, .value, 0x0, false, (.range 0 1)⟩,
  ⟨0x06, 1, 1, 1, .enum8, .wo, ⟨2, 0, 0, 0⟩, .live, 0x0, false, (.range 1 4)⟩,
  ⟨0x07, 1, 1, 1, .enum8, .ro, ⟨2, 1, 0, 2⟩, .value, 0x0, false, .any⟩,
  ⟨0x08, 1, 1, 1, .enum8, .ro, ⟨2, 0, 0, 2⟩, .value, 0x0, false, .any⟩,
  ⟨0x09, 1, 1, 1, .u8, .ro, ⟨2, 0, 0, 2⟩, .value, 0x0, false, .any⟩,
  ⟨0x0A, 1, 1, 1, .u8, .ro, ⟨2, 0, 0, 2⟩, .value, 0x0, false, .any⟩,
  ⟨0x0B, 1, 1, 1, .u8, .ro, ⟨2, 0, 0, 2⟩, .live, 0x0, false, .any⟩,
  ⟨0x0C, 1, 1, 1, .bits32, .ro, ⟨2, 1, 0, 2⟩, .value, 0x0, false, .any⟩,
  ⟨0x0D, 1, 1, 1, .ticks64, .rw, ⟨2, 0, 0, 1⟩, .value, 0x61A8, false, (.range 1600 6400000)⟩,
  ⟨0x0E, 1, 1, 1, .enum8, .rw, ⟨2, 0, 0, 1⟩, .value, 0x0, false, (.range 0 1)⟩,
  ⟨0x0F, 1, 1, 1, .ticks64, .rw, ⟨2, 0, 0, 1⟩, .value, 0x30D4, false, (.range 2500 2500000)⟩,
  ⟨0x10, 1, 1, 1, .ticks64, .rw, ⟨2, 0, 0, 1⟩, .value, 0x393870, false, (.range 250000 25000000)⟩,
  ⟨0x11, 1, 1, 1, .u8, .rw, ⟨2, 0, 0, 1⟩, .value, 0x3, false, (.range 1 255)⟩,
  ⟨0x12, 1, 1, 1, .bits32, .rw, ⟨2, 0, 0, 1⟩, .value, 0x0, false, (.mask 3)⟩,
  ⟨0x13, 1, 1, 1, .enum8, .ro, ⟨2, 0, 0, 2⟩, .value, 0x0, false, .any⟩,
  ⟨0x14, 1, 1, 1, .bits32, .rw, ⟨2, 0, 0, 1⟩, .value, 0x1F, true, (.mask 0x1F)⟩,
  ⟨0x15, 1, 1, 1, .bits32, .ro, ⟨2, 0, 0, 2⟩, .live, 0x0, false, .any⟩,
  ⟨0x16, 1, 1, 1, .ticks64, .rw, ⟨2, 0, 0, 1⟩, .value, 0x3D090, false, (.range 25000 2500000)⟩,
  ⟨0x17, 1, 1, 1, .enum8, .rw, ⟨2, 0, 0, 1⟩, .value, 0x0, false, (.range 0 1)⟩]

/-- The object table of R107, part 2. -/
def tableR107part2 : List Row := [
  ⟨0x18, 1, 1, 1, .ticks64, .rw, ⟨2, 0, 0, 1⟩, .value, 0x2625A0, false, (.range 2500000 25000000)⟩,
  ⟨0x19, 1, 1, 1, .bits32, .w1c, ⟨2, 0, 0, 2⟩, .value, 0x0, false, (.mask 0xFF)⟩,
  ⟨0x1A, 1, 1, 1, .u32, .rc, ⟨2, 0, 0, 2⟩, .value, 0x0, false, .any⟩,
  ⟨0x1B, 1, 1, 1, .u32, .rc, ⟨2, 0, 0, 2⟩, .value, 0x0, false, .any⟩,
  ⟨0x1C, 1, 1, 1, .u32, .rc, ⟨2, 0, 0, 2⟩, .value, 0x0, false, .any⟩,
  ⟨0x1D, 1, 1, 1, .u32, .rc, ⟨2, 0, 0, 2⟩, .value, 0x0, false, .any⟩,
  ⟨0x1E, 1, 1, 1, .u32, .rc, ⟨2, 0, 0, 2⟩, .value, 0x0, false, .any⟩,
  ⟨0x1F, 1, 1, 1, .u16, .ro, ⟨2, 0, 0, 2⟩, .value, 0x0, false, .any⟩,
  ⟨0x20, 1, 1, 1, .u16, .ro, ⟨2, 0, 0, 2⟩, .value, 0x0, false, .any⟩,
  ⟨0x21, 1, 1, 1, .u8, .ro, ⟨2, 0, 0, 2⟩, .value, 0x0, false, .any⟩]

/-- The object table of R107, whole. -/
def tableR107 : List Row := tableR107part1 ++ tableR107part2

/-- The object table of R108. -/
def tableR108 : List Row := [
  ⟨0x00, 1, 1, 1, .u32, .ro, ⟨2, 0, 0, 2⟩, .value, 0xFFFFFFFF, false, .any⟩,
  ⟨0x01, 1, 1, 1, .u8, .ro, ⟨2, 0, 0, 2⟩, .value, 0x0, false, .any⟩,
  ⟨0x02, 1, 1, 1, .u8, .ro, ⟨2, 0, 0, 2⟩, .value, 0x0, false, .any⟩,
  ⟨0x03, 1, 1, 1, .u8, .ro, ⟨2, 0, 0, 2⟩, .value, 0x0, false, .any⟩]

/-- The object table of R109. DESIGN CHOICE (log 108): R109 gives MARGIN_CTRL the fields of PCI Express and lists no reserved bits, so a
write of any 32-bit value passes check 6. -/
def tableR109 : List Row := [
  ⟨0x00, 1, 1, 1, .enum8, .ro, ⟨2, 0, 0, 2⟩, .value, 0x0, false, .any⟩,
  ⟨0x01, 1, 1, 1, .u8, .ro, ⟨2, 0, 0, 2⟩, .live, 0x0, false, .any⟩,
  ⟨0x02, 1, 1, 1, .u8, .ro, ⟨2, 0, 0, 2⟩, .value, 0xFF, false, .any⟩,
  ⟨0x03, 1, 1, 1, .bool, .ro, ⟨2, 0, 0, 2⟩, .value, 0x0, false, .any⟩,
  ⟨0x04, 1, 1, 1, .u8, .ro, ⟨2, 0, 0, 2⟩, .value, 0xFF, false, .any⟩,
  ⟨0x05, 1, 1, 1, .bool, .rw, ⟨2, 0, 0, 1⟩, .value, 0x0, true, .any⟩,
  ⟨0x06, 1, 1, 1, .u32, .rc, ⟨2, 0, 0, 2⟩, .value, 0x0, false, .any⟩,
  ⟨0x07, 1, 1, 1, .u32, .rc, ⟨2, 0, 0, 2⟩, .value, 0x0, false, .any⟩,
  ⟨0x08, 1, 1, 1, .bits32, .rw, ⟨2, 0, 0, 2⟩, .value, 0x0, false, .any⟩,
  ⟨0x09, 1, 1, 1, .bits32, .ro, ⟨2, 0, 0, 2⟩, .value, 0x0, false, .any⟩]

/-- The object table of R116. -/
def tableR116 : List Row := [
  ⟨0x00, 1, 1, 1, .u8, .ro, ⟨2, 0, 0, 2⟩, .live, 0x0, false, .any⟩,
  ⟨0x01, 1, 1, 1, .enum8, .ro, ⟨2, 1, 0, 2⟩, .live, 0x0, false, .any⟩,
  ⟨0x02, 1, 1, 1, .u8, .ro, ⟨2, 0, 0, 2⟩, .value, 0xFF, false, .any⟩,
  ⟨0x03, 1, 1, 1, .u32, .rc, ⟨2, 0, 0, 2⟩, .value, 0x0, false, .any⟩,
  ⟨0x10, 16, 1, 1, .bits32, .rwt, ⟨2, 0, 0, 1⟩, .value, 0x0, false, .any⟩,
  ⟨0x20, 16, 1, 1, .enum8, .ro, ⟨2, 1, 0, 2⟩, .value, 0x0, false, .any⟩,
  ⟨0x30, 16, 1, 1, .bool, .rw, ⟨2, 0, 0, 1⟩, .value, 0x1, false, .any⟩,
  ⟨0x40, 16, 1, 1, .u32, .ro, ⟨2, 0, 0, 2⟩, .value, 0x0, false, .any⟩]

/-- The object table of R122. -/
def tableR122 : List Row := [
  ⟨0x00, 1, 1, 1, .bool, .rwt, ⟨2, 0, 0, 1⟩, .value, 0x0, false, .any⟩,
  ⟨0x01, 1, 1, 1, .bits32, .rwt, ⟨2, 0, 0, 1⟩, .value, 0x0, false, .any⟩,
  ⟨0x02, 1, 1, 1, .addr64, .rwt, ⟨2, 0, 0, 1⟩, .value, 0x0, false, .any⟩,
  ⟨0x03, 1, 1, 1, .u64, .rwt, ⟨2, 0, 0, 1⟩, .value, 0x0, false, .any⟩,
  ⟨0x04, 1, 1, 1, .addr64, .rwt, ⟨2, 0, 0, 1⟩, .value, 0x0, false, .any⟩,
  ⟨0x05, 1, 1, 1, .u16, .rwt, ⟨2, 0, 0, 1⟩, .value, 0xFFFF, false, .any⟩,
  ⟨0x06, 1, 1, 1, .bool, .rw, ⟨2, 0, 0, 1⟩, .value, 0x1, false, .any⟩,
  ⟨0x07, 1, 1, 1, .u32, .ro, ⟨2, 0, 0, 2⟩, .value, 0x0, false, .any⟩,
  ⟨0x08, 1, 1, 1, .bool, .ro, ⟨2, 0, 0, 2⟩, .value, 0x1, false, .any⟩,
  ⟨0x09, 1, 1, 1, .u32, .rc, ⟨2, 0, 0, 2⟩, .value, 0x0, false, .any⟩]

/-- The object table of R128. -/
def tableR128E : List Row := [
  ⟨0x00, 256, 1, 1, .bits32, .rwt, ⟨2, 0, 0, 1⟩, .value, 0x0, false, .any⟩]

/-- The object table of R128. -/
def tableR128G : List Row := [
  ⟨0x00, 256, 1, 1, .bits64, .rwt, ⟨2, 0, 0, 1⟩, .value, 0x0, false, .any⟩]

/-- The object table of R133. -/
def tableR133 : List Row := [
  ⟨0x00, 1, 1, 1, .bits32, .rwt, ⟨2, 0, 0, 1⟩, .value, 0x0, false, (.mask 3)⟩,
  ⟨0x01, 1, 1, 1, .bits32, .wo, ⟨2, 0, 0, 0⟩, .live, 0x0, false, (.mask 3)⟩,
  ⟨0x02, 1, 1, 1, .bits32, .ro, ⟨2, 0, 0, 2⟩, .value, 0x0, false, .any⟩,
  ⟨0x03, 1, 1, 1, .u32, .ro, ⟨2, 0, 0, 2⟩, .value, 0x0, false, .any⟩,
  ⟨0x04, 1, 1, 1, .u32, .ro, ⟨2, 0, 0, 2⟩, .value, 0x0, false, .any⟩,
  ⟨0x05, 1, 1, 1, .u32, .ro, ⟨2, 0, 0, 2⟩, .live, 0x0, false, .any⟩,
  ⟨0x06, 1, 1, 1, .u8, .ro, ⟨2, 0, 0, 2⟩, .value, 0x0, false, .any⟩,
  ⟨0x07, 1, 1, 1, .u32, .rc, ⟨2, 0, 0, 2⟩, .value, 0x0, false, .any⟩,
  ⟨0x08, 1, 1, 1, .u32, .rc, ⟨2, 0, 0, 2⟩, .value, 0x0, false, .any⟩]

/-- The object table of R145. -/
def tableR145 : List Row := [
  ⟨0x00, 1, 1, 1, .u32, .rwt, ⟨2, 0, 0, 1⟩, .value, 0xFFFFFFFF, false, (.rangeOr 0 262143 0xFFFFFFFF)⟩,
  ⟨0x01, 1, 1, 1, .bits64, .rwt, ⟨2, 0, 0, 1⟩, .value, 0x0, false, .any⟩,
  ⟨0x02, 1, 1, 1, .enum8, .ro, ⟨2, 0, 0, 2⟩, .value, 0x0, false, .any⟩,
  ⟨0x03, 1, 1, 1, .enum8, .ro, ⟨2, 0, 0, 2⟩, .value, 0x0, false, .any⟩,
  ⟨0x04, 1, 1, 1, .ticks64, .ro, ⟨2, 0, 0, 2⟩, .value, 0x0, false, .any⟩,
  ⟨0x05, 1, 1, 1, .ticks64, .ro, ⟨2, 0, 0, 2⟩, .value, 0x0, false, .any⟩,
  ⟨0x06, 1, 1, 1, .u32, .ro, ⟨2, 0, 0, 2⟩, .value, 0x0, false, .any⟩,
  ⟨0x07, 1, 1, 1, .u32, .ro, ⟨2, 0, 0, 2⟩, .value, 0x0, false, .any⟩]

/-- The object table of R151. -/
def tableR151 : List Row := [
  ⟨0x00, 1, 1, 1, .bool, .rwt, ⟨2, 0, 0, 1⟩, .value, 0x0, false, .any⟩,
  ⟨0x01, 1, 1, 1, .enum8, .rwt, ⟨2, 0, 0, 1⟩, .value, 0x1, false, (.range 1 2)⟩,
  ⟨0x02, 1, 1, 1, .addr64, .rwt, ⟨2, 0, 0, 1⟩, .value, 0x0, false, (.aligned 0x40000000 0 0xFFFFFFFFFFFFFFFF)⟩,
  ⟨0x03, 1, 1, 1, .u64, .rwt, ⟨2, 0, 0, 1⟩, .value, 0x0, false, (.aligned 0x40000000 0 0xFFFFFFFFFFFFFFFF)⟩,
  ⟨0x04, 1, 1, 1, .bits64, .rwt, ⟨2, 0, 0, 1⟩, .value, 0x0, false, .any⟩,
  ⟨0x05, 1, 1, 1, .bits64, .wo, ⟨2, 0, 0, 0⟩, .live, 0x0, false, .any⟩,
  ⟨0x06, 1, 1, 1, .enum8, .ro, ⟨2, 1, 0, 2⟩, .value, 0x0, false, .any⟩,
  ⟨0x07, 1, 1, 1, .bits64, .ro, ⟨2, 0, 0, 2⟩, .value, 0x0, false, .any⟩,
  ⟨0x08, 1, 1, 1, .u32, .ro, ⟨2, 0, 0, 2⟩, .value, 0x0, false, .any⟩,
  ⟨0x09, 1, 1, 1, .u32, .rc, ⟨2, 0, 0, 2⟩, .value, 0x0, false, .any⟩,
  ⟨0x0A, 1, 1, 1, .u32, .rc, ⟨2, 0, 0, 2⟩, .value, 0x0, false, .any⟩]

/-- The object table of R185. -/
def tableR185 : List Row := [
  ⟨0x00, 1, 1, 1, .enum8, .ro, ⟨2, 1, 0, 2⟩, .value, 0x0, false, .any⟩,
  ⟨0x01, 1, 1, 1, .ticks64, .rw, ⟨2, 0, 0, 1⟩, .value, 0x61A8, false, (.range 250 2500000)⟩,
  ⟨0x02, 1, 1, 1, .ticks64, .rw, ⟨2, 0, 0, 1⟩, .value, 0x19, false, (.range 1 250)⟩,
  ⟨0x03, 1, 1, 1, .ticks64, .rw, ⟨2, 0, 0, 1⟩, .value, 0xEE6B280, false, (.range 25000000 2500000000)⟩,
  ⟨0x04, 1, 1, 1, .bits32, .w1c, ⟨2, 0, 0, 2⟩, .value, 0x0, false, (.mask 0x1FF)⟩,
  ⟨0x05, 1, 1, 1, .u32, .rc, ⟨2, 0, 0, 2⟩, .value, 0x0, false, .any⟩,
  ⟨0x06, 1, 1, 1, .u32, .rc, ⟨2, 0, 0, 2⟩, .value, 0x0, false, .any⟩]

/-- The object table of R186. -/
def tableR186 : List Row := [
  ⟨0x00, 1, 1, 1, .bits32, .ro, ⟨2, 0, 0, 2⟩, .value, 0x0, false, .any⟩,
  ⟨0x01, 1, 1, 1, .u8, .wo, ⟨2, 0, 0, 0⟩, .live, 0x0, false, (.range 0 15)⟩,
  ⟨0x02, 1, 1, 1, .bits64, .ro, ⟨2, 0, 0, 2⟩, .value, 0xFEDCBA9876543210, false, .any⟩,
  ⟨0x03, 1, 1, 1, .u32, .ro, ⟨2, 0, 0, 2⟩, .value, 0x0, false, .any⟩,
  ⟨0x04, 1, 1, 1, .u32, .ro, ⟨2, 0, 0, 2⟩, .value, 0x0, false, .any⟩,
  ⟨0x05, 1, 1, 1, .u32, .rc, ⟨2, 0, 0, 2⟩, .value, 0x0, false, .any⟩,
  ⟨0x06, 1, 1, 1, .u32, .rc, ⟨2, 0, 0, 2⟩, .value, 0x0, false, .any⟩,
  ⟨0x07, 1, 1, 1, .u32, .rc, ⟨2, 0, 0, 2⟩, .value, 0x0, false, .any⟩,
  ⟨0x08, 1, 1, 1, .u32, .rc, ⟨2, 0, 0, 2⟩, .value, 0x0, false, .any⟩,
  ⟨0x09, 1, 1, 1, .u32, .rc, ⟨2, 0, 0, 2⟩, .value, 0x0, false, .any⟩,
  ⟨0x0A, 1, 1, 1, .u32, .rc, ⟨2, 0, 0, 2⟩, .value, 0x0, false, .any⟩,
  ⟨0x0B, 1, 1, 1, .u32, .rc, ⟨2, 0, 0, 2⟩, .value, 0x0, false, .any⟩,
  ⟨0x0C, 1, 1, 1, .u32, .ro, ⟨2, 0, 0, 2⟩, .value, 0x0, false, .any⟩]

/-- The object table of R187. -/
def tableR187 : List Row := [
  ⟨0x00, 1, 1, 1, .bits32, .rwt, ⟨2, 0, 0, 1⟩, .value, 0x0, false, (.mask 0xFFFF)⟩,
  ⟨0x10, 16, 1, 1, .addr64, .rwt, ⟨2, 0, 0, 1⟩, .value, 0x0, false, (.aligned 4096 0 0xFFFFFFFFFFFFFFFF)⟩]

/-- The object table of R209. -/
def tableR209 : List Row := [
  ⟨0x00, 1, 1, 1, .bits32, .w1c, ⟨2, 0, 0, 2⟩, .value, 0x0, false, (.mask 3)⟩,
  ⟨0x01, 1, 1, 1, .u32, .rc, ⟨2, 0, 0, 2⟩, .value, 0x0, false, .any⟩,
  ⟨0x02, 1, 1, 1, .u32, .rc, ⟨2, 0, 0, 2⟩, .value, 0x0, false, .any⟩,
  ⟨0x03, 1, 1, 1, .u32, .rc, ⟨2, 0, 0, 2⟩, .value, 0x0, false, .any⟩,
  ⟨0x04, 1, 1, 1, .u32, .rc, ⟨2, 0, 0, 2⟩, .value, 0x0, false, .any⟩,
  ⟨0x05, 1, 1, 1, .u32, .rc, ⟨2, 0, 0, 2⟩, .value, 0x0, false, .any⟩,
  ⟨0x06, 1, 1, 1, .u8, .ro, ⟨2, 0, 0, 2⟩, .value, 0x0, false, .any⟩]

/-- The object table of R210. -/
def tableR210 : List Row := [
  ⟨0x00, 1, 1, 1, .enum8, .ro, ⟨2, 0, 0, 2⟩, .value, 0x0, false, .any⟩,
  ⟨0x01, 1, 1, 1, .enum8, .ro, ⟨2, 0, 0, 2⟩, .value, 0x0, false, .any⟩,
  ⟨0x02, 1, 1, 1, .u8, .ro, ⟨2, 0, 0, 2⟩, .value, 0x0, false, .any⟩,
  ⟨0x03, 1, 1, 1, .u32, .ro, ⟨2, 0, 0, 2⟩, .value, 0x0, false, .any⟩,
  ⟨0x04, 1, 1, 1, .u16, .ro, ⟨2, 0, 0, 2⟩, .value, 0xFFFF, false, .any⟩,
  ⟨0x05, 1, 1, 1, .ticks64, .ro, ⟨2, 0, 0, 2⟩, .value, 0x0, false, .any⟩,
  ⟨0x06, 1, 1, 1, .bits64, .ro, ⟨2, 0, 0, 2⟩, .value, 0x0, false, .any⟩,
  ⟨0x07, 1, 1, 1, .ticks64, .ro, ⟨2, 0, 0, 2⟩, .value, 0x0, false, .any⟩,
  ⟨0x08, 1, 1, 1, .enum8, .wo, ⟨2, 0, 0, 0⟩, .live, 0x0, false, (.range 2 3)⟩]

/-- The object table of R211. -/
def tableR211 : List Row := [
  ⟨0x00, 1, 1, 1, .ticks64, .rw, ⟨2, 0, 0, 1⟩, .value, 0x9C4, false, (.range 250 250000)⟩,
  ⟨0x01, 1, 1, 1, .u16, .ro, ⟨2, 0, 0, 2⟩, .value, 0x0, false, .any⟩,
  ⟨0x02, 1, 1, 1, .u16, .ro, ⟨2, 0, 0, 2⟩, .value, 0x0, false, .any⟩,
  ⟨0x03, 1, 1, 1, .u16, .ro, ⟨2, 0, 0, 2⟩, .value, 0x0, false, .any⟩,
  ⟨0x04, 1, 1, 1, .u16, .rc, ⟨2, 0, 0, 2⟩, .value, 0x0, false, .any⟩]

/-- The object table of R231. -/
def tableR231 : List Row := [
  ⟨0x00, 1, 1, 1, .u16, .rw, ⟨2, 0, 0, 1⟩, .value, 0x1000, true, (.range 256 32768)⟩,
  ⟨0x01, 1, 1, 1, .bool, .rw, ⟨2, 0, 0, 1⟩, .value, 0x1, false, .any⟩,
  ⟨0x02, 1, 1, 1, .bool, .rw, ⟨2, 0, 0, 1⟩, .value, 0x1, false, .any⟩,
  ⟨0x03, 1, 1, 1, .ticks64, .rw, ⟨2, 0, 0, 1⟩, .value, 0x17D7840, false, (.range 2500000 2500000000)⟩,
  ⟨0x04, 1, 1, 1, .bits32, .w1c, ⟨2, 0, 0, 2⟩, .value, 0x0, false, (.mask 0x3F)⟩]

/-- The object table of R232. -/
def tableR232 : List Row := [
  ⟨0x00, 1, 1, 1, .u32, .ro, ⟨2, 0, 0, 2⟩, .live, 0x0, false, .any⟩,
  ⟨0x01, 1, 1, 1, .u32, .ro, ⟨2, 0, 0, 2⟩, .live, 0x0, false, .any⟩,
  ⟨0x02, 1, 1, 1, .u32, .ro, ⟨2, 0, 0, 2⟩, .live, 0x0, false, .any⟩,
  ⟨0x03, 1, 1, 1, .u32, .ro, ⟨2, 0, 0, 2⟩, .live, 0x0, false, .any⟩,
  ⟨0x04, 1, 1, 1, .u32, .ro, ⟨2, 0, 0, 2⟩, .live, 0x0, false, .any⟩,
  ⟨0x05, 1, 1, 1, .u32, .ro, ⟨2, 0, 0, 2⟩, .live, 0x0, false, .any⟩,
  ⟨0x06, 1, 1, 1, .u32, .ro, ⟨2, 0, 0, 2⟩, .live, 0x0, false, .any⟩,
  ⟨0x07, 1, 1, 1, .u32, .ro, ⟨2, 0, 0, 2⟩, .live, 0x0, false, .any⟩,
  ⟨0x08, 1, 1, 1, .u32, .ro, ⟨2, 0, 0, 2⟩, .live, 0x0, false, .any⟩,
  ⟨0x09, 1, 1, 1, .u32, .rc, ⟨2, 0, 0, 2⟩, .value, 0x10000, false, .any⟩,
  ⟨0x0A, 1, 1, 1, .u32, .ro, ⟨2, 0, 0, 2⟩, .value, 0x0, false, .any⟩,
  ⟨0x0B, 1, 1, 1, .u32, .rc, ⟨2, 0, 0, 2⟩, .value, 0x0, false, .any⟩,
  ⟨0x0C, 1, 1, 1, .u32, .rc, ⟨2, 0, 0, 2⟩, .value, 0x0, false, .any⟩,
  ⟨0x0D, 1, 1, 1, .u32, .ro, ⟨2, 0, 0, 2⟩, .value, 0x0, false, .any⟩,
  ⟨0x0E, 1, 1, 1, .u32, .ro, ⟨2, 0, 0, 2⟩, .value, 0x0, false, .any⟩,
  ⟨0x0F, 1, 1, 1, .u32, .rc, ⟨2, 0, 0, 2⟩, .value, 0x0, false, .any⟩,
  ⟨0x10, 1, 1, 1, .u32, .rc, ⟨2, 0, 0, 2⟩, .value, 0x0, false, .any⟩,
  ⟨0x11, 1, 1, 1, .u32, .rc, ⟨2, 0, 0, 2⟩, .value, 0xFFFFFFFF, false, .any⟩]

/-- The object table of R233. -/
def tableR233 : List Row := [
  ⟨0x00, 1, 1, 1, .u32, .ro, ⟨2, 0, 0, 2⟩, .value, 0x0, false, .any⟩,
  ⟨0x01, 1, 1, 1, .u32, .rc, ⟨2, 0, 0, 2⟩, .value, 0x0, false, .any⟩]

/-- The object table of R234. -/
def tableR234 : List Row := [
  ⟨0x00, 1, 1, 1, .ticks64, .rw, ⟨2, 0, 0, 1⟩, .value, 0x0, false, .any⟩,
  ⟨0x01, 1, 1, 1, .ticks64, .rw, ⟨2, 0, 0, 1⟩, .value, 0x0, false, (.zeroOr 2500 2500000000)⟩,
  ⟨0x02, 1, 1, 1, .enum8, .ro, ⟨2, 0, 0, 2⟩, .value, 0x0, false, .any⟩,
  ⟨0x03, 1, 1, 1, .enum8, .ro, ⟨2, 0, 0, 2⟩, .value, 0x0, false, .any⟩,
  ⟨0x04, 1, 1, 1, .ticks64, .ro, ⟨2, 0, 0, 2⟩, .value, 0x0, false, .any⟩,
  ⟨0x05, 1, 1, 1, .bits32, .ro, ⟨2, 0, 0, 2⟩, .value, 0x0, false, .any⟩,
  ⟨0x06, 1, 1, 1, .u8, .ro, ⟨2, 0, 0, 2⟩, .value, 0x0, false, .any⟩,
  ⟨0x07, 1, 1, 1, .u32, .ro, ⟨2, 0, 0, 2⟩, .value, 0x0, false, .any⟩,
  ⟨0x08, 1, 1, 1, .u32, .rc, ⟨2, 0, 0, 2⟩, .value, 0x0, false, .any⟩,
  ⟨0x09, 1, 1, 1, .u32, .rc, ⟨2, 0, 0, 2⟩, .value, 0x0, false, .any⟩,
  ⟨0x0A, 1, 1, 1, .bits32, .w1c, ⟨2, 0, 0, 2⟩, .value, 0x0, false, (.mask 3)⟩]

/-- The object table of R235. -/
def tableR235 : List Row := [
  ⟨0x00, 1, 1, 1, .u16, .ro, ⟨2, 0, 0, 2⟩, .value, 0x0, false, .any⟩,
  ⟨0x01, 1, 1, 1, .u32, .rc, ⟨2, 0, 0, 2⟩, .value, 0x0, false, .any⟩,
  ⟨0x02, 1, 1, 1, .u16, .ro, ⟨2, 0, 0, 2⟩, .live, 0x0, false, .any⟩]

/-- The object table of R236. -/
def tableR236 : List Row := [
  ⟨0x00, 1, 1, 1, .bool, .rw, ⟨2, 0, 0, 2⟩, .value, 0x0, false, .any⟩,
  ⟨0x01, 1, 1, 1, .enum8, .rw, ⟨2, 0, 0, 2⟩, .value, 0x0, false, (.range 0 1)⟩,
  ⟨0x02, 1, 1, 1, .ticks64, .rw, ⟨2, 0, 0, 2⟩, .value, 0x0, false, .any⟩,
  ⟨0x03, 1, 1, 1, .ticks64, .rw, ⟨2, 0, 0, 2⟩, .value, 0x0, false, .any⟩,
  ⟨0x04, 1, 1, 1, .u16, .rw, ⟨2, 0, 0, 2⟩, .value, 0xFFFF, false, .any⟩,
  ⟨0x05, 1, 1, 1, .u16, .rw, ⟨2, 0, 0, 2⟩, .value, 0x1000, false, (.range 0 8191)⟩,
  ⟨0x06, 1, 1, 1, .enum8, .ro, ⟨2, 0, 0, 2⟩, .value, 0x0, false, .any⟩,
  ⟨0x07, 1, 1, 1, .u16, .ro, ⟨2, 0, 0, 2⟩, .value, 0x0, false, .any⟩,
  ⟨0x08, 1, 1, 1, .u32, .ro, ⟨2, 0, 0, 2⟩, .value, 0x0, false, .any⟩,
  ⟨0x09, 1, 1, 1, .u32, .rc, ⟨2, 0, 0, 2⟩, .value, 0x0, false, .any⟩,
  ⟨0x0A, 1, 1, 1, .u32, .ro, ⟨2, 0, 0, 2⟩, .value, 0x0, false, .any⟩,
  ⟨0x0B, 1, 1, 1, .bits64, .ro, ⟨2, 0, 0, 2⟩, .value, 0x0, false, .any⟩,
  ⟨0x0C, 1, 1, 1, .bool, .wo, ⟨2, 0, 0, 2⟩, .live, 0x0, false, .any⟩,
  ⟨0x0D, 1, 1, 1, .bits32, .w1c, ⟨2, 0, 0, 2⟩, .value, 0x0, false, (.mask 7)⟩]

/-- The object table of R237. -/
def tableR237 : List Row := [
  ⟨0x00, 1, 1, 1, .bool, .rw, ⟨2, 0, 0, 2⟩, .value, 0x0, false, .any⟩,
  ⟨0x01, 1, 1, 1, .enum8, .rw, ⟨2, 0, 0, 2⟩, .value, 0x0, false, (.range 0 2)⟩,
  ⟨0x02, 1, 1, 1, .u16, .rw, ⟨2, 0, 0, 2⟩, .value, 0x1, false, (.range 1 65535)⟩,
  ⟨0x03, 1, 1, 1, .u16, .rw, ⟨2, 0, 0, 2⟩, .value, 0xACE1, false, (.range 1 65535)⟩,
  ⟨0x04, 1, 1, 1, .bits32, .rw, ⟨2, 0, 0, 2⟩, .value, 0xFFFF, false, (.mask 0xFFFF)⟩,
  ⟨0x05, 1, 1, 1, .bits32, .rw, ⟨2, 0, 0, 2⟩, .value, 0x3, false, (.mask 3)⟩,
  ⟨0x06, 1, 1, 1, .bits32, .rw, ⟨2, 0, 0, 2⟩, .value, 0xFF, false, (.mask 0xFF)⟩,
  ⟨0x07, 1, 1, 1, .u16, .rw, ⟨2, 0, 0, 2⟩, .value, 0xFFFF, false, (.rangeOr 0 1023 0xFFFF)⟩,
  ⟨0x08, 1, 1, 1, .u8, .rw, ⟨2, 0, 0, 2⟩, .value, 0xFF, false, (.rangeOr 0 63 0xFF)⟩,
  ⟨0x09, 1, 1, 1, .addr64, .rw, ⟨2, 0, 0, 2⟩, .value, 0x0, false, .any⟩,
  ⟨0x0A, 1, 1, 1, .addr64, .rw, ⟨2, 0, 0, 2⟩, .value, 0x7FFFFFFFFFFF, false, .any⟩,
  ⟨0x0B, 1, 1, 1, .u16, .rw, ⟨2, 0, 0, 2⟩, .value, 0xFFFF, false, (.rangeOr 0 255 0xFFFF)⟩,
  ⟨0x0C, 1, 1, 1, .u32, .rc, ⟨2, 0, 0, 2⟩, .value, 0x0, false, .any⟩]

/-- The object table of R259. -/
def tableR259 : List Row := [
  ⟨0x00, 64, 4, 1, .bits64, .rwt, ⟨2, 0, 0, 1⟩, .value, 0x0, false, .any⟩,
  ⟨0x01, 64, 4, 1, .bits64, .rwt, ⟨2, 0, 0, 1⟩, .value, 0x0, false, .any⟩,
  ⟨0x02, 64, 4, 1, .bits64, .ro, ⟨2, 0, 0, 2⟩, .live, 0x0, false, .any⟩,
  ⟨0x03, 64, 4, 1, .u32, .rc, ⟨2, 0, 0, 2⟩, .value, 0x0, false, .any⟩]

/-- The object table of R260. -/
def tableR260 : List Row := [
  ⟨0x00, 8, 4, 1, .u16, .rwt, ⟨2, 0, 0, 1⟩, .value, 0x10, false, (.range 1 65535)⟩,
  ⟨0x01, 8, 4, 1, .u16, .rwt, ⟨2, 0, 0, 1⟩, .value, 0x10, false, (.range 1 65535)⟩,
  ⟨0x02, 8, 4, 1, .bits64, .rwt, ⟨2, 0, 0, 1⟩, .value, 0x0, false, .any⟩,
  ⟨0x03, 8, 4, 1, .bits64, .ro, ⟨2, 0, 0, 2⟩, .live, 0x0, false, .any⟩,
  ⟨0x20, 1, 1, 1, .bits64, .rwt, ⟨2, 0, 0, 1⟩, .value, 0x0, false, .any⟩,
  ⟨0x21, 1, 1, 1, .bits64, .ro, ⟨2, 0, 0, 2⟩, .live, 0x0, false, .any⟩,
  ⟨0x22, 1, 1, 1, .ticks64, .rwt, ⟨2, 0, 0, 1⟩, .value, 0x61A8, false, (.zeroOr 250 2500000)⟩,
  ⟨0x23, 1, 1, 1, .u32, .rc, ⟨2, 0, 0, 2⟩, .value, 0x0, false, .any⟩]

/-- The object table of R261. -/
def tableR261 : List Row := [
  ⟨0x00, 1, 1, 1, .bits64, .rwt, ⟨2, 1, 0, 1⟩, .value, 0x40000, false, .any⟩,
  ⟨0x01, 1, 1, 1, .u32, .rwt, ⟨2, 1, 0, 1⟩, .value, 0x0, false, (.range 0 16777215)⟩,
  ⟨0x02, 1, 1, 1, .u32, .rwt, ⟨2, 1, 0, 1⟩, .value, 0x1000, false, (.range 4096 16777215)⟩,
  ⟨0x03, 1, 1, 1, .u32, .rwt, ⟨2, 1, 0, 1⟩, .value, 0x0, false, (.range 0 16777215)⟩,
  ⟨0x04, 1, 1, 1, .u32, .rwt, ⟨2, 1, 0, 1⟩, .value, 0x1000, false, (.range 4096 16777215)⟩,
  ⟨0x05, 1, 1, 1, .u32, .rc, ⟨2, 0, 0, 2⟩, .value, 0x0, false, .any⟩,
  ⟨0x06, 1, 1, 1, .u32, .rc, ⟨2, 0, 0, 2⟩, .value, 0x0, false, .any⟩,
  ⟨0x07, 1, 1, 1, .u32, .rc, ⟨2, 0, 0, 2⟩, .value, 0x0, false, .any⟩,
  ⟨0x08, 1, 1, 1, .bool, .ro, ⟨2, 0, 0, 2⟩, .value, 0x0, false, .any⟩]

/-- The object table of R262. -/
def tableR262 : List Row := [
  ⟨0x00, 1, 1, 1, .ticks64, .rw, ⟨2, 0, 0, 1⟩, .value, 0x0, false, .any⟩,
  ⟨0x01, 1, 1, 1, .ticks64, .rw, ⟨2, 0, 0, 1⟩, .value, 0x0, false, (.zeroOr 25 2500000000)⟩,
  ⟨0x02, 1, 1, 1, .bool, .rw, ⟨2, 0, 0, 1⟩, .value, 0x0, false, .any⟩,
  ⟨0x03, 1, 1, 1, .bool, .wo, ⟨2, 0, 0, 0⟩, .live, 0x0, false, .any⟩,
  ⟨0x04, 1, 1, 1, .ticks64, .ro, ⟨2, 0, 0, 2⟩, .value, 0x0, false, .any⟩,
  ⟨0x05, 1, 1, 1, .u32, .ro, ⟨2, 0, 0, 2⟩, .value, 0x0, false, .any⟩]

/-- The object table of R263. -/
def tableR263 : List Row := [
  ⟨0x00, 64, 2, 1, .u32, .ro, ⟨2, 0, 0, 2⟩, .value, 0x0, false, .any⟩,
  ⟨0x01, 64, 2, 1, .u32, .ro, ⟨2, 0, 0, 2⟩, .value, 0x0, false, .any⟩,
  ⟨0x80, 64, 2, 1, .u32, .ro, ⟨2, 0, 0, 2⟩, .value, 0x0, false, .any⟩,
  ⟨0x81, 64, 2, 1, .u32, .ro, ⟨2, 0, 0, 2⟩, .value, 0x0, false, .any⟩]

/-- The object table of R264. -/
def tableR264 : List Row := [
  ⟨0x00, 8, 4, 1, .u32, .ro, ⟨2, 0, 0, 2⟩, .value, 0x0, false, .any⟩,
  ⟨0x01, 8, 4, 1, .u32, .ro, ⟨2, 0, 0, 2⟩, .value, 0x0, false, .any⟩,
  ⟨0x02, 8, 4, 1, .u32, .ro, ⟨2, 0, 0, 2⟩, .value, 0x0, false, .any⟩,
  ⟨0x03, 8, 4, 1, .u32, .ro, ⟨2, 0, 0, 2⟩, .value, 0x0, false, .any⟩,
  ⟨0x20, 1, 1, 1, .u32, .ro, ⟨2, 0, 0, 2⟩, .value, 0x0, false, .any⟩,
  ⟨0x21, 1, 1, 1, .u32, .ro, ⟨2, 0, 0, 2⟩, .value, 0x0, false, .any⟩,
  ⟨0x22, 1, 1, 1, .u32, .ro, ⟨2, 0, 0, 2⟩, .value, 0x0, false, .any⟩,
  ⟨0x23, 1, 1, 1, .u32, .ro, ⟨2, 0, 0, 2⟩, .value, 0x0, false, .any⟩,
  ⟨0x80, 36, 1, 1, .u32, .ro, ⟨2, 0, 0, 2⟩, .value, 0x0, false, .any⟩]

/-- The object table of R285. -/
def tableR285 : List Row := [
  ⟨0x00, 1, 1, 1, .bits64, .rwt, ⟨2, 1, 0, 1⟩, .value, 0x0, false, (.mask 0x803FF00000000000)⟩,
  ⟨0x01, 1, 1, 1, .enum8, .ro, ⟨2, 1, 0, 2⟩, .value, 0x0, false, .any⟩,
  ⟨0x02, 1, 1, 1, .bool, .rw, ⟨2, 1, 0, 1⟩, .value, 0x0, false, .any⟩,
  ⟨0x03, 1, 1, 1, .bool, .ro, ⟨2, 1, 0, 2⟩, .value, 0x0, false, .any⟩,
  ⟨0x04, 1, 1, 1, .u32, .ro, ⟨2, 0, 0, 2⟩, .value, 0x0, false, .any⟩,
  ⟨0x05, 1, 1, 1, .u32, .rwt, ⟨2, 1, 0, 1⟩, .value, 0x0, false, (.range 0 131071)⟩,
  ⟨0x06, 1, 1, 1, .u32, .rwt, ⟨2, 1, 0, 1⟩, .value, 0x0, false, (.range 0 131072)⟩,
  ⟨0x07, 1, 1, 1, .bits64, .rwt, ⟨2, 1, 0, 1⟩, .value, 0x0, false, (.mask 0x83FF83FF83FF83FF)⟩,
  ⟨0x08, 4, 1, 1, .addr64, .rwt, ⟨2, 0, 0, 1⟩, .value, 0x0, false, .any⟩,
  ⟨0x0C, 4, 1, 1, .addr64, .rwt, ⟨2, 0, 0, 1⟩, .value, 0x0, false, .any⟩,
  ⟨0x10, 1, 1, 1, .bits32, .rwt, ⟨2, 0, 0, 1⟩, .value, 0x0, false, (.mask 0xBBBB)⟩,
  ⟨0x11, 1, 1, 1, .enum8, .wo, ⟨2, 0, 0, 0⟩, .live, 0x0, false, (.range 1 4)⟩,
  ⟨0x12, 1, 1, 1, .bits64, .rwt, ⟨2, 0, 0, 1⟩, .value, 0x0, false, (.mask 0xC00000000000003F)⟩,
  ⟨0x13, 1, 1, 1, .enum8, .ro, ⟨2, 0, 0, 2⟩, .value, 0x0, false, .any⟩,
  ⟨0x14, 1, 1, 1, .ticks64, .ro, ⟨2, 1, 0, 2⟩, .value, 0x0, false, .any⟩,
  ⟨0x15, 1, 1, 1, .ticks64, .ro, ⟨2, 1, 0, 2⟩, .value, 0x0, false, .any⟩,
  ⟨0x16, 1, 1, 1, .u32, .rc, ⟨2, 0, 0, 2⟩, .value, 0x0, false, .any⟩]

/-- The object table of R286. -/
def tableR286 : List Row := [
  ⟨0x00, 1, 1, 1, .u16, .ro, ⟨2, 0, 0, 2⟩, .value, 0x400, false, .any⟩,
  ⟨0x01, 1, 1, 1, .u16, .ro, ⟨2, 0, 0, 2⟩, .value, 0x0, false, .any⟩,
  ⟨0x02, 1, 1, 1, .u8, .ro, ⟨2, 0, 0, 2⟩, .value, 0x4, false, .any⟩,
  ⟨0x03, 1, 1, 1, .bits32, .w1c, ⟨2, 0, 0, 2⟩, .value, 0x0, false, (.mask 1)⟩]

/-- The object table of R311. -/
def tableR311part1 : List Row := [
  ⟨0x00, 1, 1, 1, .enum8, .wo, ⟨2, 2, 0, 0⟩, .live, 0x0, false, (.range 1 4)⟩,
  ⟨0x01, 1, 1, 1, .enum8, .ro, ⟨2, 1, 0, 2⟩, .value, 0x0, false, .any⟩,
  ⟨0x02, 1, 1, 1, .bool, .ro, ⟨2, 1, 0, 2⟩, .value, 0x1, false, .any⟩,
  ⟨0x03, 1, 1, 1, .u8, .wo, ⟨2, 2, 0, 0⟩, .live, 0x0, false, .any⟩,
  ⟨0x04, 1, 1, 1, .addr64, .rwt, ⟨2, 1, 0, 1⟩, .value, 0x0, false, .any⟩,
  ⟨0x05, 1, 1, 1, .u32, .rwt, ⟨2, 1, 0, 1⟩, .value, 0x0, false, (.pow2Or0 16 65536)⟩,
  ⟨0x06, 1, 1, 1, .addr64, .rwt, ⟨2, 1, 0, 1⟩, .value, 0x0, false, .any⟩,
  ⟨0x07, 1, 1, 1, .enum8, .rwt, ⟨2, 1, 0, 1⟩, .value, 0x0, false, (.range 0 1)⟩,
  ⟨0x08, 1, 1, 1, .u8, .rwt, ⟨2, 1, 0, 1⟩, .value, 0x7, false, (.range 0 7)⟩,
  ⟨0x09, 1, 1, 1, .u32, .rwt, ⟨2, 1, 0, 1⟩, .value, 0x0, false, (.range 0 16777215)⟩,
  ⟨0x0A, 1, 1, 1, .u8, .rwt, ⟨2, 1, 0, 1⟩, .value, 0x8, false, (.range 1 64)⟩,
  ⟨0x0B, 1, 1, 1, .addr64, .rwt, ⟨2, 1, 0, 1⟩, .value, 0x0, false, .any⟩,
  ⟨0x0C, 1, 1, 1, .u32, .rwt, ⟨2, 1, 0, 1⟩, .value, 0x0, false, (.pow2Or0 16 4096)⟩,
  ⟨0x0D, 1, 1, 1, .u16, .rwt, ⟨2, 1, 0, 1⟩, .value, 0x1, false, (.range 1 256)⟩,
  ⟨0x0E, 1, 1, 1, .ticks64, .rwt, ⟨2, 1, 0, 1⟩, .value, 0x19, false, (.range 0 25000)⟩,
  ⟨0x0F, 1, 1, 1, .u8, .rwt, ⟨2, 1, 0, 1⟩, .value, 0xFF, false, (.rangeOr 0 31 0xFF)⟩,
  ⟨0x10, 1, 1, 1, .u32, .ro, ⟨2, 1, 0, 2⟩, .value, 0x0, false, .any⟩,
  ⟨0x11, 1, 1, 1, .u32, .ro, ⟨2, 1, 0, 2⟩, .value, 0x0, false, .any⟩,
  ⟨0x12, 1, 1, 1, .u32, .ro, ⟨2, 1, 0, 2⟩, .value, 0x0, false, .any⟩,
  ⟨0x13, 1, 1, 1, .u32, .ro, ⟨2, 1, 0, 2⟩, .value, 0x0, false, .any⟩,
  ⟨0x14, 1, 1, 1, .u32, .rw, ⟨2, 2, 0, 1⟩, .value, 0x0, false, .any⟩,
  ⟨0x15, 1, 1, 1, .bits32, .w1c, ⟨2, 2, 0, 1⟩, .value, 0x0, false, (.mask 1)⟩,
  ⟨0x16, 1, 1, 1, .u32, .rc, ⟨2, 2, 0, 1⟩, .value, 0x0, false, .any⟩,
  ⟨0x17, 1, 1, 1, .bits32, .ro, ⟨2, 1, 0, 2⟩, .value, 0x0, false, .any⟩]

/-- The object table of R311, part 2. -/
def tableR311part2 : List Row := [
  ⟨0x18, 1, 1, 1, .u32, .rc, ⟨2, 1, 0, 2⟩, .value, 0x0, false, .any⟩,
  ⟨0x19, 1, 1, 1, .u64, .rc, ⟨2, 1, 0, 2⟩, .value, 0x0, false, .any⟩]

/-- The object table of R311, whole. -/
def tableR311 : List Row := tableR311part1 ++ tableR311part2

/-- The object table of R312. -/
def tableR312 : List Row := [
  ⟨0x00, 1, 1, 1, .enum8, .ro, ⟨2, 0, 0, 2⟩, .value, 0x0, false, .any⟩,
  ⟨0x01, 1, 1, 1, .u16, .ro, ⟨2, 0, 0, 2⟩, .value, 0xFFFF, false, .any⟩,
  ⟨0x02, 1, 1, 1, .u16, .ro, ⟨2, 0, 0, 2⟩, .value, 0x0, false, .any⟩,
  ⟨0x03, 1, 1, 1, .u32, .rc, ⟨2, 0, 0, 2⟩, .value, 0x0, false, .any⟩,
  ⟨0x04, 1, 1, 1, .u64, .rc, ⟨2, 0, 0, 2⟩, .value, 0x0, false, .any⟩,
  ⟨0x05, 1, 1, 1, .u32, .rc, ⟨2, 0, 0, 2⟩, .value, 0x0, false, .any⟩,
  ⟨0x06, 1, 1, 1, .u32, .ro, ⟨2, 0, 0, 2⟩, .live, 0x0, false, .any⟩]

/-- The object table of R313. -/
def tableR313 : List Row := [
  ⟨0x00, 1, 1, 1, .bits32, .w1c, ⟨2, 0, 0, 2⟩, .value, 0x0, false, (.mask 7)⟩,
  ⟨0x01, 1, 1, 1, .u16, .ro, ⟨2, 0, 0, 2⟩, .value, 0x0, false, .any⟩,
  ⟨0x02, 1, 1, 1, .u16, .ro, ⟨2, 0, 0, 2⟩, .value, 0x0, false, .any⟩]

/-- The object table of R339. -/
def tableR339I : List Row := [
  ⟨0x00, 1, 1, 1, .u16, .rw, ⟨2, 0, 0, 1⟩, .value, 0x100, true, (.range 16 256)⟩,
  ⟨0x01, 1, 1, 1, .u32, .rw, ⟨2, 0, 0, 1⟩, .value, 0x5DC, false, (.range 500 100000)⟩,
  ⟨0x02, 1, 1, 1, .u16, .rw, ⟨2, 0, 0, 1⟩, .value, 0x100, false, (.range 64 4096)⟩,
  ⟨0x03, 1, 1, 1, .u8, .rw, ⟨2, 0, 0, 1⟩, .value, 0x8, false, (.range 1 64)⟩,
  ⟨0x04, 1, 1, 1, .u32, .rw, ⟨2, 0, 0, 1⟩, .value, 0x100000, false, (.range 65536 16777216)⟩,
  ⟨0x05, 1, 1, 1, .u16, .rw, ⟨2, 0, 0, 1⟩, .value, 0x10, false, (.range 1 65535)⟩,
  ⟨0x06, 1, 1, 1, .u8, .rw, ⟨2, 0, 0, 1⟩, .value, 0x4, false, (.range 1 16)⟩,
  ⟨0x07, 1, 1, 1, .u8, .rw, ⟨2, 0, 0, 1⟩, .value, 0x3, false, (.range 2 16)⟩,
  ⟨0x08, 1, 1, 1, .ticks64, .rw, ⟨2, 0, 0, 1⟩, .value, 0x17D7840, false, (.range 2500000 250000000)⟩,
  ⟨0x09, 1, 1, 1, .ticks64, .rw, ⟨2, 0, 0, 1⟩, .value, 0x19, false, (.range 25 2500)⟩,
  ⟨0x0A, 1, 1, 1, .u8, .rw, ⟨2, 0, 0, 1⟩, .value, 0x4, false, (.range 2 16)⟩]

/-- The object table of R339. -/
def tableR339H : List Row := [
  ⟨0x00, 1, 1, 1, .u16, .rw, ⟨2, 0, 0, 1⟩, .value, 0x40, true, (.range 4 64)⟩,
  ⟨0x01, 1, 1, 1, .u32, .rw, ⟨2, 0, 0, 1⟩, .value, 0x186A0, false, (.range 10000 10000000)⟩,
  ⟨0x02, 1, 1, 1, .u16, .rw, ⟨2, 0, 0, 1⟩, .value, 0x100, false, (.range 64 4096)⟩,
  ⟨0x03, 1, 1, 1, .u8, .rw, ⟨2, 0, 0, 1⟩, .value, 0x8, false, (.range 1 64)⟩,
  ⟨0x04, 1, 1, 1, .u32, .rw, ⟨2, 0, 0, 1⟩, .value, 0x100000, false, (.range 65536 16777216)⟩,
  ⟨0x05, 1, 1, 1, .u16, .rw, ⟨2, 0, 0, 1⟩, .value, 0x10, false, (.range 1 65535)⟩,
  ⟨0x06, 1, 1, 1, .u8, .rw, ⟨2, 0, 0, 1⟩, .value, 0x4, false, (.range 1 16)⟩,
  ⟨0x07, 1, 1, 1, .u8, .rw, ⟨2, 0, 0, 1⟩, .value, 0x3, false, (.range 2 16)⟩,
  ⟨0x08, 1, 1, 1, .ticks64, .rw, ⟨2, 0, 0, 1⟩, .value, 0x17D7840, false, (.range 2500000 250000000)⟩,
  ⟨0x09, 1, 1, 1, .ticks64, .rw, ⟨2, 0, 0, 1⟩, .value, 0xFA, false, (.range 250 250000)⟩,
  ⟨0x0A, 1, 1, 1, .u8, .rw, ⟨2, 0, 0, 1⟩, .value, 0x4, false, (.range 2 16)⟩]

/-- The object table of R340. -/
def tableR340 : List Row := [
  ⟨0x00, 1, 1, 1, .enum8, .ro, ⟨2, 0, 0, 2⟩, .fuse, 0x0, false, .any⟩,
  ⟨0x01, 1, 1, 1, .u16, .ro, ⟨2, 0, 0, 2⟩, .value, 0x0, false, .any⟩,
  ⟨0x02, 1, 1, 1, .u16, .ro, ⟨2, 0, 0, 2⟩, .value, 0x0, false, .any⟩,
  ⟨0x03, 1, 1, 1, .u16, .ro, ⟨2, 0, 0, 2⟩, .value, 0x0, false, .any⟩,
  ⟨0x04, 1, 1, 1, .u16, .ro, ⟨2, 0, 0, 2⟩, .value, 0x0, false, .any⟩,
  ⟨0x05, 1, 1, 1, .u32, .rc, ⟨2, 0, 0, 2⟩, .value, 0x0, false, .any⟩,
  ⟨0x06, 1, 1, 1, .u32, .rc, ⟨2, 0, 0, 2⟩, .value, 0x0, false, .any⟩,
  ⟨0x07, 1, 1, 1, .u32, .rc, ⟨2, 0, 0, 2⟩, .value, 0x0, false, .any⟩,
  ⟨0x08, 1, 1, 1, .u32, .rc, ⟨2, 0, 0, 2⟩, .value, 0x0, false, .any⟩,
  ⟨0x09, 1, 1, 1, .u32, .rc, ⟨2, 0, 0, 2⟩, .value, 0x0, false, .any⟩,
  ⟨0x0A, 1, 1, 1, .u32, .rc, ⟨2, 0, 0, 2⟩, .value, 0x0, false, .any⟩,
  ⟨0x0B, 1, 1, 1, .u16, .ro, ⟨2, 0, 0, 2⟩, .value, 0x0, false, .any⟩,
  ⟨0x0C, 1, 1, 1, .u8, .ro, ⟨2, 0, 0, 2⟩, .value, 0x0, false, .any⟩,
  ⟨0x0D, 1, 1, 1, .u16, .rc, ⟨2, 0, 0, 2⟩, .value, 0x0, false, .any⟩,
  ⟨0x0E, 1, 1, 1, .bits32, .w1c, ⟨2, 0, 0, 2⟩, .value, 0x0, false, (.mask 0x1F)⟩]

/-- The object table of R341. -/
def tableR341 : List Row := [
  ⟨0x00, 1, 1, 1, .enum8, .ro, ⟨2, 0, 0, 2⟩, .value, 0x0, false, .any⟩,
  ⟨0x01, 1, 1, 1, .u8, .ro, ⟨2, 0, 0, 2⟩, .fuse, 0x0, false, .any⟩,
  ⟨0x02, 1, 1, 1, .enum8, .wo, ⟨2, 0, 0, 0⟩, .live, 0x0, false, (.range 1 1)⟩,
  ⟨0x03, 1, 1, 1, .u8, .wo, ⟨2, 0, 0, 0⟩, .live, 0x0, false, (.range 0 135)⟩,
  ⟨0x04, 3, 1, 1, .bits64, .ro, ⟨2, 0, 0, 2⟩, .value, 0x0, false, .any⟩,
  ⟨0x07, 3, 1, 1, .bits64, .ro, ⟨2, 0, 0, 2⟩, .value, 0x0, false, .any⟩,
  ⟨0x0A, 1, 1, 1, .u8, .ro, ⟨2, 0, 0, 2⟩, .value, 0x0, false, .any⟩,
  ⟨0x0B, 1, 1, 1, .u32, .rc, ⟨2, 0, 0, 2⟩, .value, 0x0, false, .any⟩,
  ⟨0x0C, 1, 1, 1, .ticks64, .ro, ⟨2, 0, 0, 2⟩, .value, 0x0, false, .any⟩,
  ⟨0x0D, 1, 1, 1, .u8, .ro, ⟨2, 0, 0, 2⟩, .value, 0x0, false, .any⟩,
  ⟨0x0E, 1, 1, 1, .u16, .ro, ⟨2, 0, 0, 2⟩, .value, 0x0, false, .any⟩,
  ⟨0x0F, 1, 1, 1, .enum8, .ro, ⟨2, 0, 0, 2⟩, .value, 0x0, false, .any⟩,
  ⟨0x10, 1, 1, 1, .bits32, .w1c, ⟨2, 0, 0, 2⟩, .value, 0x0, false, (.mask 0x1F)⟩]

/-- The object table of R355. -/
def tableR355 : List Row := [
  ⟨0x00, 1, 1, 1, .u8, .ro, ⟨2, 0, 0, 2⟩, .value, 0xFF, false, .any⟩,
  ⟨0x01, 1, 1, 1, .enum8, .ro, ⟨2, 0, 0, 2⟩, .value, 0x0, false, .any⟩,
  ⟨0x02, 1, 1, 1, .enum8, .rw, ⟨2, 0, 0, 1⟩, .value, 0x2, false, (.range 1 6)⟩,
  ⟨0x03, 1, 1, 1, .u16, .ro, ⟨2, 0, 0, 2⟩, .value, 0x0, false, .any⟩,
  ⟨0x04, 1, 1, 1, .u32, .rc, ⟨2, 0, 0, 2⟩, .value, 0x0, false, .any⟩,
  ⟨0x05, 1, 1, 1, .u8, .ro, ⟨2, 0, 0, 2⟩, .value, 0x0, false, .any⟩,
  ⟨0x06, 1, 1, 1, .ticks64, .rw, ⟨2, 0, 0, 1⟩, .value, 0x3D090, false, (.range 25000 2500000)⟩,
  ⟨0x07, 1, 1, 1, .ticks64, .rw, ⟨2, 0, 0, 1⟩, .value, 0x61A8, false, (.range 2500 2500000)⟩,
  ⟨0x08, 1, 1, 1, .u32, .rc, ⟨2, 0, 0, 2⟩, .value, 0x0, false, .any⟩,
  ⟨0x09, 1, 1, 1, .u32, .rc, ⟨2, 0, 0, 2⟩, .value, 0x0, false, .any⟩,
  ⟨0x0A, 1, 1, 1, .u32, .rc, ⟨2, 0, 0, 2⟩, .value, 0x0, false, .any⟩,
  ⟨0x0B, 1, 1, 1, .bits32, .w1c, ⟨2, 0, 0, 2⟩, .value, 0x0, false, (.mask 0x1F)⟩]

/-- The object table of R356. -/
def tableR356 : List Row := [
  ⟨0x00, 1, 1, 1, .enum8, .ro, ⟨2, 0, 0, 2⟩, .value, 0x0, false, .any⟩,
  ⟨0x01, 1, 1, 1, .u8, .ro, ⟨2, 0, 0, 2⟩, .value, 0xFF, false, .any⟩,
  ⟨0x02, 1, 1, 1, .enum8, .wo, ⟨2, 0, 0, 0⟩, .live, 0x0, false, (.range 1 1)⟩,
  ⟨0x03, 1, 1, 1, .u32, .rc, ⟨2, 0, 0, 2⟩, .value, 0x0, false, .any⟩,
  ⟨0x04, 1, 1, 1, .ticks64, .ro, ⟨2, 0, 0, 2⟩, .value, 0x0, false, .any⟩]

/-- The object table of R378. -/
def tableR378 : List Row := [
  ⟨0x00, 1, 1, 1, .bool, .rw, ⟨2, 0, 0, 1⟩, .value, 0x0, false, .any⟩,
  ⟨0x01, 1, 1, 1, .enum8, .ro, ⟨2, 0, 0, 2⟩, .value, 0x0, false, .any⟩,
  ⟨0x02, 1, 1, 1, .u8, .rw, ⟨2, 0, 0, 1⟩, .value, 0xFF, true, .any⟩,
  ⟨0x03, 1, 1, 1, .u16, .rw, ⟨2, 0, 0, 1⟩, .value, 0xA0, false, (.range 20 200)⟩,
  ⟨0x04, 1, 1, 1, .u8, .rw, ⟨2, 0, 0, 1⟩, .value, 0x6, false, (.range 1 24)⟩,
  ⟨0x05, 1, 1, 1, .u16, .rw, ⟨2, 0, 0, 1⟩, .value, 0x1388, false, (.range 1000 10000)⟩,
  ⟨0x06, 1, 1, 1, .enum8, .rw, ⟨2, 0, 0, 1⟩, .value, 0x0, false, (.range 0 2)⟩,
  ⟨0x07, 1, 1, 1, .enum8, .ro, ⟨2, 0, 0, 2⟩, .value, 0x2, false, .any⟩,
  ⟨0x08, 1, 1, 1, .u16, .rw, ⟨2, 0, 0, 1⟩, .value, 0x3E8, false, (.range 100 5000)⟩,
  ⟨0x09, 1, 1, 1, .u32, .rw, ⟨2, 0, 0, 1⟩, .value, 0x2710, false, (.range 100 1000000)⟩,
  ⟨0x0A, 1, 1, 1, .bits32, .ro, ⟨2, 0, 0, 2⟩, .live, 0x0, false, .any⟩,
  ⟨0x0B, 1, 1, 1, .u16, .ro, ⟨2, 0, 0, 2⟩, .live, 0x0, false, .any⟩,
  ⟨0x0C, 1, 1, 1, .u16, .ro, ⟨2, 0, 0, 2⟩, .live, 0x0, false, .any⟩,
  ⟨0x0D, 1, 1, 1, .u16, .ro, ⟨2, 0, 0, 2⟩, .live, 0x0, false, .any⟩,
  ⟨0x0E, 1, 1, 1, .s32, .ro, ⟨2, 0, 0, 2⟩, .live, 0x0, false, .any⟩,
  ⟨0x0F, 1, 1, 1, .enum8, .ro, ⟨2, 0, 0, 2⟩, .value, 0x0, false, .any⟩,
  ⟨0x10, 1, 1, 1, .ticks64, .ro, ⟨2, 0, 0, 2⟩, .value, 0x0, false, .any⟩,
  ⟨0x11, 1, 1, 1, .bool, .wo, ⟨2, 0, 0, 0⟩, .live, 0x0, false, .any⟩,
  ⟨0x12, 1, 1, 1, .enum8, .ro, ⟨2, 0, 0, 2⟩, .value, 0x0, false, .any⟩,
  ⟨0x13, 1, 1, 1, .u16, .rc, ⟨2, 0, 0, 2⟩, .value, 0x0, false, .any⟩,
  ⟨0x14, 1, 1, 1, .u32, .rc, ⟨2, 0, 0, 2⟩, .value, 0x0, false, .any⟩,
  ⟨0x15, 1, 1, 1, .u32, .rc, ⟨2, 0, 0, 2⟩, .value, 0x0, false, .any⟩,
  ⟨0x16, 1, 1, 1, .bits32, .w1c, ⟨2, 0, 0, 2⟩, .value, 0x0, false, (.mask 0xFF)⟩,
  ⟨0x17, 1, 1, 1, .ticks64, .ro, ⟨2, 0, 0, 2⟩, .value, 0x0, false, .any⟩]

/-- The object table of R379. -/
def tableR379 : List Row := [
  ⟨0x00, 1, 1, 1, .enum8, .ro, ⟨2, 0, 0, 2⟩, .value, 0x0, false, .any⟩,
  ⟨0x01, 1, 1, 1, .u16, .rw, ⟨2, 0, 0, 1⟩, .value, 0x2A30, false, (.range 9000 12000)⟩,
  ⟨0x02, 1, 1, 1, .u16, .rw, ⟨2, 0, 0, 1⟩, .value, 0x3390, false, (.range 12000 14000)⟩,
  ⟨0x03, 1, 1, 1, .u16, .rw, ⟨2, 0, 0, 1⟩, .value, 0xC8, false, (.range 0 1000)⟩,
  ⟨0x04, 1, 1, 1, .ticks64, .rw, ⟨2, 0, 0, 1⟩, .value, 0x3D090, false, (.range 25000 25000000)⟩,
  ⟨0x05, 1, 1, 1, .ticks64, .rw, ⟨2, 0, 0, 1⟩, .value, 0x2625A0, false, (.range 250000 250000000)⟩,
  ⟨0x06, 1, 1, 1, .ticks64, .rw, ⟨2, 0, 0, 1⟩, .value, 0x1312D0, false, (.range 25000 25000000)⟩,
  ⟨0x07, 1, 1, 1, .u16, .rw, ⟨2, 0, 0, 1⟩, .value, 0x258, false, (.range 100 2000)⟩,
  ⟨0x08, 1, 1, 1, .ticks64, .rw, ⟨2, 0, 0, 1⟩, .value, 0xEE6B280, false, (.range 25000000 2500000000)⟩,
  ⟨0x09, 1, 1, 1, .u16, .rw, ⟨2, 0, 0, 1⟩, .value, 0x96, false, (.range 100 175)⟩,
  ⟨0x0A, 1, 1, 1, .u16, .rw, ⟨2, 0, 0, 1⟩, .value, 0x64, false, (.range 50 165)⟩,
  ⟨0x0B, 1, 1, 1, .u16, .rw, ⟨2, 0, 0, 1⟩, .value, 0x46, false, (.range 25 125)⟩,
  ⟨0x0C, 1, 1, 1, .u8, .rw, ⟨2, 0, 0, 1⟩, .value, 0x4, false, (.range 1 16)⟩,
  ⟨0x0D, 1, 1, 1, .ticks64, .rw, ⟨2, 0, 0, 1⟩, .value, 0x9C4, false, (.range 0 250000)⟩,
  ⟨0x0E, 1, 1, 1, .ticks64, .rw, ⟨2, 0, 0, 1⟩, .value, 0x2625A0, false, (.range 250000 25000000)⟩,
  ⟨0x0F, 1, 1, 1, .u16, .rw, ⟨2, 0, 0, 1⟩, .value, 0x7D0, false, (.range 500 6000)⟩,
  ⟨0x10, 1, 1, 1, .s32, .ro, ⟨2, 0, 0, 2⟩, .live, 0x0, false, .any⟩,
  ⟨0x11, 1, 1, 1, .bits64, .ro, ⟨2, 0, 0, 2⟩, .value, 0x0, false, .any⟩,
  ⟨0x12, 1, 1, 1, .bits64, .ro, ⟨2, 0, 0, 2⟩, .value, 0x0, false, .any⟩,
  ⟨0x13, 1, 1, 1, .bits32, .w1c, ⟨2, 0, 0, 2⟩, .value, 0x0, false, (.mask 3)⟩]

/-- The object table of R398. -/
def tableR398 : List Row := [
  ⟨0x00, 1, 1, 1, .enum8, .wo, ⟨2, 0, 0, 0⟩, .live, 0x0, false, (.range 1 2)⟩,
  ⟨0x01, 1, 1, 1, .enum8, .ro, ⟨2, 0, 0, 2⟩, .value, 0x0, false, .any⟩,
  ⟨0x02, 1, 1, 1, .enum8, .rw, ⟨2, 0, 0, 1⟩, .value, 0x0, false, (.range 0 1)⟩,
  ⟨0x03, 1, 1, 1, .u16, .rw, ⟨2, 0, 0, 1⟩, .value, 0x0, false, (.range 0 1023)⟩,
  ⟨0x04, 1, 1, 1, .ticks64, .rw, ⟨2, 0, 0, 1⟩, .value, 0x0, false, .any⟩,
  ⟨0x05, 1, 1, 1, .u32, .rw, ⟨2, 0, 0, 1⟩, .value, 0x10000, false, (.range 256 16777216)⟩,
  ⟨0x06, 1, 1, 1, .u16, .ro, ⟨2, 0, 0, 2⟩, .value, 0x0, false, .any⟩,
  ⟨0x07, 1, 1, 1, .bits32, .ro, ⟨2, 0, 0, 2⟩, .value, 0x0, false, .any⟩,
  ⟨0x08, 1, 1, 1, .enum8, .ro, ⟨2, 0, 0, 2⟩, .value, 0x0, false, .any⟩,
  ⟨0x09, 1, 1, 1, .enum8, .ro, ⟨2, 0, 0, 2⟩, .value, 0x0, false, .any⟩,
  ⟨0x0A, 1, 1, 1, .bits32, .w1c, ⟨2, 0, 0, 2⟩, .value, 0x0, false, (.mask 0xFFFFFF)⟩,
  ⟨0x0B, 1, 1, 1, .bool, .ro, ⟨2, 0, 0, 2⟩, .value, 0x0, false, .any⟩,
  ⟨0x0C, 1, 1, 1, .u32, .ro, ⟨2, 0, 0, 2⟩, .value, 0x0, false, .any⟩,
  ⟨0x0D, 1, 1, 1, .u32, .rc, ⟨2, 0, 0, 2⟩, .value, 0x0, false, .any⟩,
  ⟨0x0E, 1, 1, 1, .u32, .rc, ⟨2, 0, 0, 2⟩, .value, 0x0, false, .any⟩,
  ⟨0x10, 8, 1, 1, .u16, .rw, ⟨2, 0, 0, 1⟩, .value, 0xFFFF, false, .any⟩,
  ⟨0x18, 8, 1, 1, .u32, .ro, ⟨2, 0, 0, 2⟩, .value, 0x0, false, .any⟩]

/-- The object table of R399. -/
def tableR399 : List Row := [
  ⟨0x00, 1, 1, 1, .bool, .wo, ⟨2, 0, 0, 0⟩, .live, 0x0, false, .any⟩,
  ⟨0x01, 1, 1, 1, .enum8, .ro, ⟨2, 0, 0, 2⟩, .value, 0x0, false, .any⟩,
  ⟨0x02, 1, 1, 1, .u32, .ro, ⟨2, 0, 0, 2⟩, .value, 0x0, false, .any⟩,
  ⟨0x03, 1, 1, 1, .u16, .ro, ⟨2, 0, 0, 2⟩, .fuse, 0x0, false, .any⟩,
  ⟨0x04, 1, 1, 1, .ticks64, .rw, ⟨2, 0, 0, 1⟩, .value, 0x2625A0, false, (.range 250000 250000000)⟩,
  ⟨0x05, 1, 1, 1, .bits32, .w1c, ⟨2, 0, 0, 2⟩, .value, 0x0, false, (.mask 7)⟩]

/-- The object table of R400. -/
def tableR400 : List Row := [
  ⟨0x00, 1, 1, 1, .enum8, .ro, ⟨2, 0, 0, 2⟩, .value, 0x0, false, .any⟩,
  ⟨0x01, 1, 1, 1, .u32, .ro, ⟨2, 0, 0, 2⟩, .live, 0x0, false, .any⟩,
  ⟨0x02, 1, 1, 1, .u32, .rc, ⟨2, 0, 0, 2⟩, .value, 0x0, false, .any⟩,
  ⟨0x03, 1, 1, 1, .u32, .ro, ⟨2, 0, 0, 2⟩, .value, 0x0, false, .any⟩]

/-- The object table of R420. -/
def tableR420 : List Row := [
  ⟨0x00, 1, 1, 1, .enum8, .rw, ⟨2, 0, 0, 1⟩, .special, 0x0, false, (.range 0 5)⟩,
  ⟨0x01, 1, 1, 1, .u8, .rw, ⟨2, 0, 0, 1⟩, .value, 0xFF, false, .any⟩,
  ⟨0x02, 1, 1, 1, .u16, .rw, ⟨2, 0, 0, 1⟩, .special, 0x0, false, .any⟩,
  ⟨0x03, 1, 1, 1, .u32, .rc, ⟨2, 0, 0, 2⟩, .value, 0x0, false, .any⟩,
  ⟨0x04, 1, 1, 1, .bool, .w1c, ⟨2, 0, 0, 2⟩, .value, 0x0, false, .any⟩,
  ⟨0x05, 1, 1, 1, .bool, .w1c, ⟨2, 0, 0, 2⟩, .value, 0x0, false, .any⟩,
  ⟨0x06, 1, 1, 1, .addr64, .ro, ⟨2, 0, 0, 2⟩, .value, 0x0, false, .any⟩,
  ⟨0x07, 1, 1, 1, .u16, .ro, ⟨2, 0, 0, 2⟩, .value, 0xFFFF, false, .any⟩,
  ⟨0x08, 1, 1, 1, .u8, .ro, ⟨2, 0, 0, 2⟩, .value, 0x0, false, .any⟩,
  ⟨0x09, 1, 1, 1, .bits64, .ro, ⟨2, 0, 0, 2⟩, .value, 0x0, false, .any⟩,
  ⟨0x0A, 1, 1, 1, .bits32, .ro, ⟨2, 0, 0, 2⟩, .value, 0x0, false, .any⟩,
  ⟨0x0B, 1, 1, 1, .enum8, .ro, ⟨2, 0, 0, 2⟩, .value, 0x0, false, .any⟩,
  ⟨0x0C, 1, 1, 1, .u32, .ro, ⟨2, 0, 0, 2⟩, .value, 0x0, false, .any⟩,
  ⟨0x0D, 1, 1, 1, .bits64, .ro, ⟨2, 0, 0, 2⟩, .value, 0x0, false, .any⟩]

/-- The object table of R421. -/
def tableR421 : List Row := [
  ⟨0x00, 1, 1, 1, .enum8, .ro, ⟨2, 0, 0, 2⟩, .value, 0x0, false, .any⟩,
  ⟨0x01, 1, 1, 1, .ticks64, .rw, ⟨2, 0, 0, 1⟩, .value, 0x3D090, false, (.range 2500 250000000)⟩,
  ⟨0x02, 1, 1, 1, .enum8, .ro, ⟨2, 0, 0, 2⟩, .value, 0x0, false, .any⟩,
  ⟨0x03, 1, 1, 1, .u16, .ro, ⟨2, 0, 0, 2⟩, .value, 0xFFFF, false, .any⟩,
  ⟨0x04, 1, 1, 1, .bits64, .ro, ⟨2, 0, 0, 2⟩, .value, 0x0, false, .any⟩,
  ⟨0x05, 1, 1, 1, .bits32, .ro, ⟨2, 0, 0, 2⟩, .value, 0x0, false, .any⟩,
  ⟨0x06, 1, 1, 1, .u32, .ro, ⟨2, 0, 0, 2⟩, .value, 0x0, false, .any⟩,
  ⟨0x07, 1, 1, 1, .enum8, .ro, ⟨2, 0, 0, 2⟩, .value, 0x0, false, .any⟩,
  ⟨0x08, 1, 1, 1, .u16, .ro, ⟨2, 0, 0, 2⟩, .value, 0xFFFF, false, .any⟩,
  ⟨0x09, 1, 1, 1, .bits64, .ro, ⟨2, 0, 0, 2⟩, .value, 0x0, false, .any⟩,
  ⟨0x0A, 1, 1, 1, .bool, .wo, ⟨2, 0, 0, 0⟩, .live, 0x0, false, .any⟩,
  ⟨0x0B, 1, 1, 1, .u32, .rc, ⟨2, 0, 0, 2⟩, .value, 0x0, false, .any⟩,
  ⟨0x0C, 1, 1, 1, .u32, .ro, ⟨2, 0, 0, 2⟩, .value, 0x0, false, .any⟩]

/-- The object table of R422. -/
def tableR422 : List Row := [
  ⟨0x00, 1, 1, 1, .u32, .rc, ⟨2, 0, 0, 2⟩, .value, 0x0, false, .any⟩,
  ⟨0x01, 1, 1, 1, .u8, .ro, ⟨2, 0, 0, 2⟩, .value, 0x0, false, .any⟩,
  ⟨0x02, 1, 1, 1, .u8, .rc, ⟨2, 0, 0, 2⟩, .value, 0x0, false, .any⟩,
  ⟨0x03, 1, 1, 1, .u8, .ro, ⟨2, 0, 0, 2⟩, .value, 0x0, false, .any⟩,
  ⟨0x04, 1, 1, 1, .u32, .rc, ⟨2, 0, 0, 2⟩, .value, 0x0, false, .any⟩]

/-- The object table of R423. -/
def tableR423 : List Row := [
  ⟨0x00, 1, 1, 1, .bits32, .ro, ⟨2, 0, 0, 2⟩, .value, 0x0, false, .any⟩,
  ⟨0x01, 1, 1, 1, .u32, .rc, ⟨2, 0, 0, 2⟩, .value, 0x0, false, .any⟩,
  ⟨0x02, 1, 1, 1, .bits32, .ro, ⟨2, 0, 0, 2⟩, .value, 0x0, false, .any⟩,
  ⟨0x03, 1, 1, 1, .bits32, .wo, ⟨2, 0, 0, 0⟩, .live, 0x0, false, .any⟩,
  ⟨0x10, 7, 1, 1, .bits32, .ro, ⟨2, 0, 0, 2⟩, .special, 0x0, false, .any⟩]

/-- The object table of R441. -/
def tableR441 : List Row := [
  ⟨0x00, 1, 1, 1, .enum8, .ro, ⟨2, 1, 1, 2⟩, .value, 0x1, false, .any⟩,
  ⟨0x01, 1, 1, 1, .enum8, .wo, ⟨2, 0, 0, 0⟩, .live, 0x0, false, (.range 0 11)⟩,
  ⟨0x02, 1, 1, 1, .enum8, .ro, ⟨2, 0, 0, 2⟩, .value, 0x0, false, .any⟩,
  ⟨0x03, 1, 1, 1, .enum8, .ro, ⟨2, 0, 0, 2⟩, .value, 0x0, false, .any⟩,
  ⟨0x04, 1, 1, 1, .ticks64, .ro, ⟨2, 0, 0, 2⟩, .value, 0x0, false, .any⟩,
  ⟨0x05, 1, 1, 1, .u32, .rc, ⟨2, 0, 0, 2⟩, .value, 0x0, false, .any⟩,
  ⟨0x06, 1, 1, 1, .enum8, .rw, ⟨2, 0, 0, 1⟩, .value, 0x1, false, (.oneOf [1, 3])⟩,
  ⟨0x07, 1, 1, 1, .enum8, .ro, ⟨2, 0, 0, 2⟩, .value, 0x0, false, .any⟩,
  ⟨0x08, 1, 1, 1, .ticks64, .rw, ⟨2, 0, 0, 1⟩, .value, 0x2625A0, false, (.range 250000 25000000)⟩,
  ⟨0x09, 1, 1, 1, .bool, .ro, ⟨2, 0, 0, 2⟩, .value, 0x0, false, .any⟩,
  ⟨0x0A, 1, 1, 1, .bits32, .ro, ⟨2, 0, 0, 2⟩, .live, 0x0, false, .any⟩]

/-- The object table of R442. -/
def tableR442 : List Row := [
  ⟨0x00, 1, 1, 1, .enum8, .ro, ⟨2, 0, 0, 2⟩, .value, 0x1, false, .any⟩,
  ⟨0x01, 1, 1, 1, .ticks64, .ro, ⟨2, 0, 0, 2⟩, .value, 0x0, false, .any⟩,
  ⟨0x02, 1, 1, 1, .u32, .ro, ⟨2, 0, 0, 2⟩, .value, 0x0, false, .any⟩,
  ⟨0x03, 1, 1, 1, .u16, .wo, ⟨2, 0, 0, 0⟩, .live, 0x0, false, (.range 42405 42405)⟩,
  ⟨0x04, 1, 1, 1, .bits32, .ro, ⟨2, 0, 0, 2⟩, .live, 0x0, false, .any⟩]

/-- The object table of R443. -/
def tableR443 : List Row := [
  ⟨0x00, 1, 1, 1, .u16, .wo, ⟨2, 0, 0, 0⟩, .live, 0x0, false, (.range 42405 42405)⟩,
  ⟨0x01, 1, 1, 1, .bits32, .ro, ⟨2, 0, 0, 2⟩, .live, 0x0, false, .any⟩,
  ⟨0x02, 1, 1, 1, .bits32, .wo, ⟨2, 0, 0, 0⟩, .live, 0x0, false, .any⟩,
  ⟨0x03, 1, 1, 1, .bits32, .ro, ⟨2, 0, 0, 2⟩, .live, 0x0, false, .any⟩,
  ⟨0x04, 1, 1, 1, .bits32, .ro, ⟨2, 0, 0, 2⟩, .live, 0x0, false, .any⟩,
  ⟨0x05, 1, 1, 1, .u32, .rc, ⟨2, 0, 0, 2⟩, .value, 0x0, false, .any⟩]

/-- The object table of R469. -/
def tableR469 : List Row := [
  ⟨0x00, 1, 1, 1, .enum8, .ro, ⟨2, 1, 1, 2⟩, .fuse, 0x0, false, .any⟩,
  ⟨0x01, 1, 1, 1, .enum8, .ro, ⟨2, 0, 0, 2⟩, .fuse, 0x0, false, .any⟩,
  ⟨0x02, 1, 1, 1, .u16, .wo, ⟨2, 0, 0, 0⟩, .live, 0x0, false, .any⟩,
  ⟨0x03, 1, 1, 1, .bool, .rw, ⟨2, 0, 0, 1⟩, .value, 0x1, false, .any⟩,
  ⟨0x04, 1, 1, 1, .u32, .ro, ⟨2, 0, 0, 2⟩, .fuse, 0x0, false, .any⟩,
  ⟨0x05, 1, 1, 1, .u8, .ro, ⟨2, 0, 0, 2⟩, .value, 0x0, false, .any⟩,
  ⟨0x06, 1, 1, 1, .bits32, .w1c, ⟨2, 0, 0, 2⟩, .value, 0x0, false, (.mask 0xF)⟩]

/-- The object table of R470. -/
def tableR470 : List Row := [
  ⟨0x00, 1, 1, 1, .bits32, .ro, ⟨2, 0, 0, 2⟩, .value, 0x0, false, .any⟩,
  ⟨0x01, 1, 1, 1, .enum8, .wo, ⟨2, 0, 0, 0⟩, .live, 0x0, false, (.range 1 4)⟩,
  ⟨0x02, 1, 6, 6, (.octets 48), .ro, ⟨2, 0, 0, 2⟩, .live, 0x0, false, .any⟩,
  ⟨0x08, 1, 1, 1, .enum8, .ro, ⟨2, 0, 0, 2⟩, .value, 0x0, false, .any⟩,
  ⟨0x09, 1, 1, 1, .u32, .rc, ⟨2, 0, 0, 2⟩, .value, 0x0, false, .any⟩]

/-- The object table of R471. -/
def tableR471 : List Row := [
  ⟨0x00, 1, 1, 1, .enum8, .ro, ⟨2, 0, 0, 2⟩, .value, 0x0, false, .any⟩,
  ⟨0x01, 1, 1, 1, .enum8, .rw, ⟨2, 0, 0, 1⟩, .value, 0x3, false, (.range 0 3)⟩,
  ⟨0x02, 1, 4, 4, (.octets 32), .ro, ⟨2, 0, 0, 2⟩, .special, 0x0, false, .any⟩,
  ⟨0x06, 1, 1, 1, .u16, .wo, ⟨0, 0, 0, 2⟩, .live, 0x0, false, .any⟩,
  ⟨0x07, 1, 1, 1, .bool, .wo, ⟨2, 0, 0, 2⟩, .live, 0x0, false, .any⟩,
  ⟨0x08, 1, 1, 1, .u8, .ro, ⟨2, 0, 0, 2⟩, .value, 0x0, false, .any⟩,
  ⟨0x09, 1, 1, 1, .ticks64, .ro, ⟨2, 0, 0, 2⟩, .value, 0x0, false, .any⟩,
  ⟨0x0A, 1, 1, 1, .enum8, .ro, ⟨2, 0, 0, 2⟩, .value, 0x0, false, .any⟩,
  ⟨0x0B, 1, 1, 1, .ticks64, .ro, ⟨2, 0, 0, 2⟩, .value, 0x0, false, .any⟩,
  ⟨0x0C, 1, 1, 1, .u32, .rc, ⟨2, 0, 0, 2⟩, .value, 0x0, false, .any⟩,
  ⟨0x10, 6, 1, 1, .u64, .wo, ⟨0, 0, 0, 2⟩, .live, 0x0, false, .any⟩,
  ⟨0x16, 6, 1, 1, .u64, .wo, ⟨0, 0, 0, 2⟩, .live, 0x0, false, .any⟩,
  ⟨0x20, 6, 1, 1, .u64, .wo, ⟨0, 0, 0, 2⟩, .live, 0x0, false, .any⟩,
  ⟨0x26, 6, 1, 1, .u64, .wo, ⟨0, 0, 0, 2⟩, .live, 0x0, false, .any⟩]

/-- The object table of R472. -/
def tableR472 : List Row := [
  ⟨0x00, 32, 1, 1, .addr64, .rwt, ⟨2, 0, 0, 1⟩, .special, 0x0, false, .any⟩,
  ⟨0x20, 32, 1, 1, .addr64, .rwt, ⟨2, 0, 0, 1⟩, .special, 0x0, false, .any⟩,
  ⟨0x40, 32, 1, 1, .bits32, .rwt, ⟨2, 0, 0, 1⟩, .special, 0x0, false, .any⟩,
  ⟨0x60, 1, 1, 1, .u16, .ro, ⟨2, 0, 0, 2⟩, .live, 0x0, false, .any⟩,
  ⟨0x61, 1, 1, 1, .u32, .rc, ⟨2, 0, 0, 2⟩, .value, 0x0, false, .any⟩,
  ⟨0x62, 1, 1, 1, .addr64, .ro, ⟨2, 0, 0, 2⟩, .value, 0x0, false, .any⟩]

/-- The object table of R474. -/
def tableR474 : List Row := [
  ⟨0x00, 1, 1, 1, .u16, .ro, ⟨2, 0, 0, 2⟩, .value, 0x0, false, .any⟩,
  ⟨0x01, 1, 1, 1, .u16, .ro, ⟨2, 0, 0, 2⟩, .value, 0x0, false, .any⟩]

/-- The object table of R482. -/
def tableR482 : List Row := [
  ⟨0x00, 1, 1, 1, .ticks64, .rw, ⟨2, 0, 0, 1⟩, .value, 0x0, false, .any⟩,
  ⟨0x01, 1, 1, 1, .ticks64, .rw, ⟨2, 0, 0, 1⟩, .value, 0x0, false, (.zeroOr 25 2500000000)⟩,
  ⟨0x02, 1, 1, 1, .bool, .rw, ⟨2, 0, 0, 1⟩, .value, 0x0, false, .any⟩,
  ⟨0x03, 1, 1, 1, .ticks64, .ro, ⟨2, 1, 0, 2⟩, .value, 0x0, false, .any⟩,
  ⟨0x04, 1, 1, 1, .u32, .ro, ⟨2, 0, 0, 2⟩, .value, 0x0, false, .any⟩]

/-- The object table of R483. -/
def tableR483 : List Row := [
  ⟨0x00, 1, 1, 1, .bits32, .rw, ⟨2, 0, 0, 1⟩, .value, 0xFF0000, false, .any⟩,
  ⟨0x01, 1, 1, 1, .u64, .ro, ⟨2, 0, 0, 2⟩, .value, 0x0, false, .any⟩,
  ⟨0x02, 1, 1, 1, .u64, .ro, ⟨2, 0, 0, 2⟩, .value, 0x0, false, .any⟩,
  ⟨0x03, 1, 1, 1, .bool, .w1c, ⟨2, 0, 0, 2⟩, .value, 0x0, false, .any⟩,
  ⟨0x04, 1, 1, 1, .bool, .wo, ⟨2, 0, 0, 0⟩, .live, 0x0, false, .any⟩]

/-- The object table of R484. -/
def tableR484 : List Row := [
  ⟨0x00, 8, 4, 1, .bits32, .rw, ⟨2, 2, 0, 1⟩, .value, 0xFF0001, false, .any⟩,
  ⟨0x01, 8, 4, 1, .u64, .ro, ⟨2, 1, 0, 2⟩, .value, 0x0, false, .any⟩,
  ⟨0x02, 8, 4, 1, .u64, .ro, ⟨2, 1, 0, 2⟩, .value, 0x0, false, .any⟩,
  ⟨0x20, 1, 1, 1, .bits32, .w1c, ⟨2, 2, 0, 1⟩, .value, 0x0, false, (.mask 0xFF)⟩,
  ⟨0x21, 1, 1, 1, .bits32, .wo, ⟨2, 2, 0, 0⟩, .live, 0x0, false, (.mask 0xFF)⟩,
  ⟨0x22, 1, 1, 1, .bool, .rw, ⟨2, 2, 0, 1⟩, .value, 0x0, false, .any⟩]

/-- The instances of class 06 (R456). -/
def mpuInstance (v : Variant) (i : Nat) : Bool := decide
  (i < v.dies ∨ (0x10 ≤ i ∧ i < 0x10 + 4 * v.dies) ∨ (0x40 ≤ i ∧ i < 0x40 + 8 * v.dies) ∨ (0x80 ≤ i ∧ i ≤ 0x83) ∨
   i = 0xC0 ∨ (0xD0 ≤ i ∧ i ≤ 0xD2))

/-- The fault source numbers that exist (R401). -/
def faultSource (v : Variant) (i : Nat) : Bool := (sourceRow v i).isSome

/-- The object table that describes an instance of a class on a variant: the empty list where the class or the
instance does not exist (R32, R33). -/
def tableOf (v : Variant) (cls i : Nat) : List Row :=
  match cls with
  | 0x00 => if i = 0 then tableR46 else if 1 ≤ i ∧ i ≤ v.dies then tableR47 else []
  | 0x01 => if i = 0 then tableR441 else []
  | 0x02 => if i = 0 then tableR442 else if 1 ≤ i ∧ i ≤ v.dies then tableR443 else []
  | 0x03 => if i = 0 then tableR67 else if 1 ≤ i ∧ i ≤ v.dies then tableR68 else []
  | 0x04 => if i = 0 then tableR469 else if 0x100 ≤ i ∧ i < 0x100 + v.ports then tableR470 else []
  | 0x05 => if i = 0 then tableR471 else []
  | 0x06 => if mpuInstance v i then tableR472 else if i = 0x100 then tableR474 else []
  | 0x07 => if i = 0 then tableR83 else if 1 ≤ i ∧ i ≤ 4 then tableR84 else []
  | 0x10 => if i < v.ports then tableR107 else if i = 0x800 then tableR108 else []
  | 0x11 => if i < 64 * v.dies then tableR109 else []
  | 0x12 => if i = 0 then tableR339I else if i = 1 then tableR339H else if (0x100 ≤ i ∧ i < 0x100 + 4 * v.dies) ∨ i = 0x120 ∨ i = 0x121 then tableR340 else []
  | 0x13 => if i < 4 * v.dies then tableR341 else []
  | 0x14 => if i = 0 then tableR355 else if 1 ≤ i ∧ i ≤ 2 then tableR356 else []
  | 0x20 => if i < 64 then tableR116 else []
  | 0x21 => if i < 1024 then tableR122 else []
  | 0x22 => if 0x100 ≤ i ∧ i ≤ 0x2FF then tableR128E else if 0x400 ≤ i ∧ i ≤ 0x7FF then tableR128G else if i = 0 then tableR133 else if 1 ≤ i ∧ i ≤ 0x20 then tableR145 else []
  | 0x28 => if i = 0 then tableR185 else if 1 ≤ i ∧ i ≤ v.dies then tableR186 else if 0x100 ≤ i ∧ i < 0x100 + v.ports then tableR187 else []
  | 0x29 => if i < 0x200 ∧ i % 8 = 0 then tableR209 else if i < 0x200 ∧ i % 8 ≠ 0 then tableR210 else if i = 0x200 then tableR211 else []
  | 0x2A => if i < 64 then tableR151 else []
  | 0x30 => if i < 0x400 then tableR285 else if i = 0x400 then tableR286 else []
  | 0x31 => if i < 8 * v.ports then tableR259 else if 0x400 ≤ i ∧ i < 0x400 + v.ports then tableR260 else []
  | 0x32 => if i < 0x800 then tableR261 else []
  | 0x33 => if i = 0 then tableR262 else if 0x100 ≤ i ∧ i < 0x100 + 8 * v.ports then tableR263 else if 0x800 ≤ i ∧ i < 0x800 + v.ports then tableR264 else []
  | 0x38 => if i < 0x400 then tableR311 else []
  | 0x39 => if i < 4 * v.dies then tableR312 else if i = 0x100 then tableR313 else []
  | 0x40 => if faultSource v i then tableR420 else []
  | 0x41 => if i = 0 then tableR421 else if 1 ≤ i ∧ i ≤ v.dies then tableR422 else []
  | 0x42 => if i = 0 then tableR423 else []
  | 0x48 => if i = 0 then tableR482 else if 0x100 ≤ i ∧ i < 0x100 + 64 * v.dies then tableR483 else if 0x400 ≤ i ∧ i < 0x800 then tableR484 else []
  | 0x50 => if i < v.slotChannels then tableR378 else []
  | 0x51 => if i = 0 then tableR379 else []
  | 0x58 => if 1 ≤ i ∧ i ≤ v.dies then tableR236 else if 0x100 ≤ i ∧ i < 0x100 + 8 * v.dies then tableR237 else []
  | 0x59 => if i = 0 then tableR231 else if 1 ≤ i ∧ i ≤ v.dies then tableR232 else if 0x100 ≤ i ∧ i < 0x100 + v.ports then tableR233 else []
  | 0x5A => if i = 0 then tableR234 else if 1 ≤ i ∧ i ≤ v.dies then tableR235 else []
  | 0x60 => if i < 8 * v.dies ∨ (0x40 ≤ i ∧ i ≤ 0x43) then tableR398 else []
  | 0x61 => if i = 0 then tableR399 else if 1 ≤ i ∧ i ≤ v.dies then tableR400 else []
  | 0x7E => if i < 3 then tableR51 else []
  | 0x7F => if i = 0 then tableR48 else if 1 ≤ i ∧ i ≤ 3 then tableR49 else []
  | _ => []

end Sys2Proof.Machine
end

