-- ==== Sys2Proof/Machine/Names.lean ====
section
/-! DEFINITION. The dictionary's objects by the names the spec gives them (R5). An object is a class, an instance and a
member; each name below is the number its owning table gives it. -/
namespace Sys2Proof.Machine

/-- An object number: class, instance and member (R5). -/
structure Obj where
  cls : Nat
  inst : Nat
  mem : Nat
  deriving DecidableEq, Repr

/-- The 28-bit object number of R5. -/
def Obj.number (o : Obj) : Nat := o.cls * 0x100000 + o.inst * 0x100 + o.mem

/-- The object that a 28-bit number names (R5). -/
def Obj.ofNumber (n : Nat) : Obj := ⟨n / 0x100000 % 256, n / 0x100 % 0x1000, n % 0x100⟩

/-- The key of an object's slot in the model's register store. -/
def Obj.key (o : Obj) : Nat := o.inst * 0x10000 + o.cls * 0x100 + o.mem

namespace O

/-- VENDOR_CODE (R46). -/
def VENDOR_CODE : Obj := ⟨0x00, 0, 0x00⟩
/-- PART_CODE (R46). -/
def PART_CODE : Obj := ⟨0x00, 0, 0x01⟩
/-- DIE_COUNT (R46). -/
def DIE_COUNT : Obj := ⟨0x00, 0, 0x02⟩
/-- PORT_COUNT (R46). -/
def PORT_COUNT : Obj := ⟨0x00, 0, 0x03⟩
/-- SLOT_CHANNELS (R46). -/
def SLOT_CHANNELS : Obj := ⟨0x00, 0, 0x04⟩
/-- STEPPING (R46). -/
def STEPPING : Obj := ⟨0x00, 0, 0x05⟩
/-- TILE_STEPPING (R46). -/
def TILE_STEPPING : Obj := ⟨0x00, 0, 0x06⟩
/-- PACKAGE_SERIAL (R46). -/
def PACKAGE_SERIAL (k : Nat) : Obj := ⟨0x00, 0, 0x07 + k⟩
/-- DATE_CODE (R46). -/
def DATE_CODE : Obj := ⟨0x00, 0, 0x09⟩
/-- DIE_NUMBER (R47). -/
def DIE_NUMBER (d : Nat) : Obj := ⟨0x00, 1 + d, 0x00⟩
/-- DIE_SERIAL (R47). -/
def DIE_SERIAL (d : Nat) : Obj := ⟨0x00, 1 + d, 0x01⟩
/-- DIE_STEPPING (R47). -/
def DIE_STEPPING (d : Nat) : Obj := ⟨0x00, 1 + d, 0x02⟩
/-- LINK_MASKS (R47). -/
def LINK_MASKS (d : Nat) : Obj := ⟨0x00, 1 + d, 0x03⟩
/-- TILE_ATTACHED (R47). -/
def TILE_ATTACHED (d : Nat) : Obj := ⟨0x00, 1 + d, 0x04⟩
/-- SRAM_REPAIRS (R47). -/
def SRAM_REPAIRS (d : Nat) : Obj := ⟨0x00, 1 + d, 0x05⟩
/-- LAYOUT_VERSION (R48). -/
def LAYOUT_VERSION : Obj := ⟨0x7F, 0, 0x00⟩
/-- CLASS_MAP_LO (R48). -/
def CLASS_MAP_LO : Obj := ⟨0x7F, 0, 0x01⟩
/-- CLASS_MAP_HI (R48). -/
def CLASS_MAP_HI : Obj := ⟨0x7F, 0, 0x02⟩
/-- IB_WINDOW_SIZE (R48). -/
def IB_WINDOW_SIZE : Obj := ⟨0x7F, 0, 0x03⟩
/-- LAST_STATUS (R49). -/
def LAST_STATUS (x : Nat) : Obj := ⟨0x7F, 1 + x, 0x00⟩
/-- LAST_OBJECT (R49). -/
def LAST_OBJECT (x : Nat) : Obj := ⟨0x7F, 1 + x, 0x01⟩
/-- FIRST_ERROR_STATUS (R49). -/
def FIRST_ERROR_STATUS (x : Nat) : Obj := ⟨0x7F, 1 + x, 0x02⟩
/-- FIRST_ERROR_OBJECT (R49). -/
def FIRST_ERROR_OBJECT (x : Nat) : Obj := ⟨0x7F, 1 + x, 0x03⟩
/-- ERROR_COUNT (R49). -/
def ERROR_COUNT (x : Nat) : Obj := ⟨0x7F, 1 + x, 0x04⟩
/-- QUERY_OBJECT (R49). -/
def QUERY_OBJECT (x : Nat) : Obj := ⟨0x7F, 1 + x, 0x08⟩
/-- QUERY_RESULT (R49). -/
def QUERY_RESULT (x : Nat) : Obj := ⟨0x7F, 1 + x, 0x09⟩
/-- QUERY_DEFAULT (R49). -/
def QUERY_DEFAULT (x : Nat) : Obj := ⟨0x7F, 1 + x, 0x0A⟩
/-- DP_OP (R51). -/
def DP_OP (x : Nat) : Obj := ⟨0x7E, x, 0x00⟩
/-- DP_ADDR (R51). -/
def DP_ADDR (x : Nat) : Obj := ⟨0x7E, x, 0x01⟩
/-- DP_LENGTH (R51). -/
def DP_LENGTH (x : Nat) : Obj := ⟨0x7E, x, 0x02⟩
/-- DP_STATE (R51). -/
def DP_STATE (x : Nat) : Obj := ⟨0x7E, x, 0x03⟩
/-- DP_STATUS (R51). -/
def DP_STATUS (x : Nat) : Obj := ⟨0x7E, x, 0x04⟩
/-- DP_COUNT (R51). -/
def DP_COUNT (x : Nat) : Obj := ⟨0x7E, x, 0x05⟩
/-- DP_CRC (R51). -/
def DP_CRC (x : Nat) : Obj := ⟨0x7E, x, 0x06⟩
/-- DP_DATA (R51). -/
def DP_DATA (x : Nat) (k : Nat) : Obj := ⟨0x7E, x, 0x20 + k⟩
/-- FT_STATE (R67). -/
def FT_STATE : Obj := ⟨0x03, 0, 0x00⟩
/-- FT_NOW (R67). -/
def FT_NOW : Obj := ⟨0x03, 0, 0x01⟩
/-- FT_STAMP (R67). -/
def FT_STAMP : Obj := ⟨0x03, 0, 0x02⟩
/-- TOD_LOAD (R67). -/
def TOD_LOAD : Obj := ⟨0x03, 0, 0x03⟩
/-- TOD_ARMED (R67). -/
def TOD_ARMED : Obj := ⟨0x03, 0, 0x04⟩
/-- HOLDOVER_LIMIT (R67). -/
def HOLDOVER_LIMIT : Obj := ⟨0x03, 0, 0x05⟩
/-- HOLDOVER_START (R67). -/
def HOLDOVER_START : Obj := ⟨0x03, 0, 0x06⟩
/-- SYNC_OFFSET (R67). -/
def SYNC_OFFSET : Obj := ⟨0x03, 0, 0x07⟩
/-- FT_FLAGS (R67). -/
def FT_FLAGS : Obj := ⟨0x03, 0, 0x08⟩
/-- STEP_COUNT (R67). -/
def STEP_COUNT : Obj := ⟨0x03, 0, 0x09⟩
/-- REF_LOCK_TIME (R67). -/
def REF_LOCK_TIME : Obj := ⟨0x03, 0, 0x0A⟩
/-- DIE_SKEW (R68). -/
def DIE_SKEW (d : Nat) : Obj := ⟨0x03, 1 + d, 0x00⟩
/-- DIE_TIME_OK (R68). -/
def DIE_TIME_OK (d : Nat) : Obj := ⟨0x03, 1 + d, 0x01⟩
/-- DIE_SKEW_MAX (R68). -/
def DIE_SKEW_MAX (d : Nat) : Obj := ⟨0x03, 1 + d, 0x02⟩
/-- TX_MIN_LEAD (R83). -/
def TX_MIN_LEAD : Obj := ⟨0x07, 0, 0x00⟩
/-- TX_LOCK_LEAD (R83). -/
def TX_LOCK_LEAD : Obj := ⟨0x07, 0, 0x01⟩
/-- TX_MAX_LEAD (R83). -/
def TX_MAX_LEAD : Obj := ⟨0x07, 0, 0x02⟩
/-- TX_READY_LIMIT (R83). -/
def TX_READY_LIMIT : Obj := ⟨0x07, 0, 0x03⟩
/-- BIND_EPOCH (R83). -/
def BIND_EPOCH : Obj := ⟨0x07, 0, 0x04⟩
/-- LAST_BIND_AT (R83). -/
def LAST_BIND_AT : Obj := ⟨0x07, 0, 0x05⟩
/-- LAST_APPLIED_AT (R83). -/
def LAST_APPLIED_AT : Obj := ⟨0x07, 0, 0x06⟩
/-- APPLIED_COUNT (R83). -/
def APPLIED_COUNT : Obj := ⟨0x07, 0, 0x07⟩
/-- FAILED_COUNT (R83). -/
def FAILED_COUNT : Obj := ⟨0x07, 0, 0x08⟩
/-- TX_CMD (R84). -/
def TX_CMD (x : Nat) : Obj := ⟨0x07, x, 0x00⟩
/-- TX_STATE (R84). -/
def TX_STATE (x : Nat) : Obj := ⟨0x07, x, 0x01⟩
/-- TX_STATUS (R84). -/
def TX_STATUS (x : Nat) : Obj := ⟨0x07, x, 0x02⟩
/-- TX_INSTANT (R84). -/
def TX_INSTANT (x : Nat) : Obj := ⟨0x07, x, 0x03⟩
/-- TX_COUNT (R84). -/
def TX_COUNT (x : Nat) : Obj := ⟨0x07, x, 0x04⟩
/-- TX_FAIL_INDEX (R84). -/
def TX_FAIL_INDEX (x : Nat) : Obj := ⟨0x07, x, 0x05⟩
/-- TX_FAIL_OBJECT (R84). -/
def TX_FAIL_OBJECT (x : Nat) : Obj := ⟨0x07, x, 0x06⟩
/-- TX_READY_AT (R84). -/
def TX_READY_AT (x : Nat) : Obj := ⟨0x07, x, 0x07⟩
/-- TX_APPLIED_AT (R84). -/
def TX_APPLIED_AT (x : Nat) : Obj := ⟨0x07, x, 0x08⟩
/-- TX_SERIAL (R84). -/
def TX_SERIAL (x : Nat) : Obj := ⟨0x07, x, 0x09⟩
/-- TX_HOLDER (R84). -/
def TX_HOLDER (x : Nat) : Obj := ⟨0x07, x, 0x0A⟩
/-- PORT_ROLE (R107). -/
def PORT_ROLE (p : Nat) : Obj := ⟨0x10, p, 0x00⟩
/-- HOST_ID (R107). -/
def HOST_ID (p : Nat) : Obj := ⟨0x10, p, 0x01⟩
/-- MAX_RATE (R107). -/
def MAX_RATE (p : Nat) : Obj := ⟨0x10, p, 0x02⟩
/-- MIN_WIDTH (R107). -/
def MIN_WIDTH (p : Nat) : Obj := ⟨0x10, p, 0x03⟩
/-- PORT_WIDTH (R107). -/
def PORT_WIDTH (p : Nat) : Obj := ⟨0x10, p, 0x04⟩
/-- CLOCK_MODE (R107). -/
def CLOCK_MODE (p : Nat) : Obj := ⟨0x10, p, 0x05⟩
/-- LINK_CTRL (R107). -/
def LINK_CTRL (p : Nat) : Obj := ⟨0x10, p, 0x06⟩
/-- LINK_STATE (R107). -/
def LINK_STATE (p : Nat) : Obj := ⟨0x10, p, 0x07⟩
/-- LINK_RATE (R107). -/
def LINK_RATE (p : Nat) : Obj := ⟨0x10, p, 0x08⟩
/-- LINK_WIDTH (R107). -/
def LINK_WIDTH (p : Nat) : Obj := ⟨0x10, p, 0x09⟩
/-- LINK_EPOCH (R107). -/
def LINK_EPOCH (p : Nat) : Obj := ⟨0x10, p, 0x0A⟩
/-- LTSSM (R107). -/
def LTSSM (p : Nat) : Obj := ⟨0x10, p, 0x0B⟩
/-- PROTOCOLS (R107). -/
def PROTOCOLS (p : Nat) : Obj := ⟨0x10, p, 0x0C⟩
/-- CPL_TIMEOUT (R107). -/
def CPL_TIMEOUT (p : Nat) : Obj := ⟨0x10, p, 0x0D⟩
/-- DROP_POLICY (R107). -/
def DROP_POLICY (p : Nat) : Obj := ⟨0x10, p, 0x0E⟩
/-- DROP_TIME (R107). -/
def DROP_TIME (p : Nat) : Obj := ⟨0x10, p, 0x0F⟩
/-- TRAIN_TIMEOUT (R107). -/
def TRAIN_TIMEOUT (p : Nat) : Obj := ⟨0x10, p, 0x10⟩
/-- TRAIN_RETRIES (R107). -/
def TRAIN_RETRIES (p : Nat) : Obj := ⟨0x10, p, 0x11⟩
/-- IDE_ENABLE (R107). -/
def IDE_ENABLE (p : Nat) : Obj := ⟨0x10, p, 0x12⟩
/-- IDE_STATE (R107). -/
def IDE_STATE (p : Nat) : Obj := ⟨0x10, p, 0x13⟩
/-- DOE_ENABLE (R107). -/
def DOE_ENABLE (p : Nat) : Obj := ⟨0x10, p, 0x14⟩
/-- SIDEBAND (R107). -/
def SIDEBAND (p : Nat) : Obj := ⟨0x10, p, 0x15⟩
/-- PRESENCE_DEBOUNCE (R107). -/
def PRESENCE_DEBOUNCE (p : Nat) : Obj := ⟨0x10, p, 0x16⟩
/-- HOTPLUG_CTRL (R107). -/
def HOTPLUG_CTRL (p : Nat) : Obj := ⟨0x10, p, 0x17⟩
/-- PERST_HOLD (R107). -/
def PERST_HOLD (p : Nat) : Obj := ⟨0x10, p, 0x18⟩
/-- PORT_EVENTS (R107). -/
def PORT_EVENTS (p : Nat) : Obj := ⟨0x10, p, 0x19⟩
/-- TIMEOUT_COUNT (R107). -/
def TIMEOUT_COUNT (p : Nat) : Obj := ⟨0x10, p, 0x1A⟩
/-- STALE_RSP_COUNT (R107). -/
def STALE_RSP_COUNT (p : Nat) : Obj := ⟨0x10, p, 0x1B⟩
/-- LOST_WRITE_COUNT (R107). -/
def LOST_WRITE_COUNT (p : Nat) : Obj := ⟨0x10, p, 0x1C⟩
/-- SYNTH_READ_COUNT (R107). -/
def SYNTH_READ_COUNT (p : Nat) : Obj := ⟨0x10, p, 0x1D⟩
/-- DOWN_COUNT (R107). -/
def DOWN_COUNT (p : Nat) : Obj := ⟨0x10, p, 0x1E⟩
/-- OUTSTANDING (R107). -/
def OUTSTANDING (p : Nat) : Obj := ⟨0x10, p, 0x1F⟩
/-- QUARANTINED (R107). -/
def QUARANTINED (p : Nat) : Obj := ⟨0x10, p, 0x20⟩
/-- LD_COUNT (R107). -/
def LD_COUNT (p : Nat) : Obj := ⟨0x10, p, 0x21⟩
/-- LAYOUT_ERROR (R108). -/
def LAYOUT_ERROR : Obj := ⟨0x10, 0x800, 0x00⟩
/-- LAYOUT_RULE (R108). -/
def LAYOUT_RULE : Obj := ⟨0x10, 0x800, 0x01⟩
/-- UPSTREAM_COUNT (R108). -/
def UPSTREAM_COUNT : Obj := ⟨0x10, 0x800, 0x02⟩
/-- FM_PORT (R108). -/
def FM_PORT : Obj := ⟨0x10, 0x800, 0x03⟩
/-- LANE_STATE (R109). -/
def LANE_STATE (l : Nat) : Obj := ⟨0x11, l, 0x00⟩
/-- LANE_PORT (R109). -/
def LANE_PORT (l : Nat) : Obj := ⟨0x11, l, 0x01⟩
/-- LOGICAL_LANE (R109). -/
def LOGICAL_LANE (l : Nat) : Obj := ⟨0x11, l, 0x02⟩
/-- POLARITY (R109). -/
def POLARITY (l : Nat) : Obj := ⟨0x11, l, 0x03⟩
/-- TX_PRESET (R109). -/
def TX_PRESET (l : Nat) : Obj := ⟨0x11, l, 0x04⟩
/-- LANE_DISABLE (R109). -/
def LANE_DISABLE (l : Nat) : Obj := ⟨0x11, l, 0x05⟩
/-- SYMBOL_ERRORS (R109). -/
def SYMBOL_ERRORS (l : Nat) : Obj := ⟨0x11, l, 0x06⟩
/-- UNCORRECTED (R109). -/
def UNCORRECTED (l : Nat) : Obj := ⟨0x11, l, 0x07⟩
/-- MARGIN_CTRL (R109). -/
def MARGIN_CTRL (l : Nat) : Obj := ⟨0x11, l, 0x08⟩
/-- MARGIN_STATUS (R109). -/
def MARGIN_STATUS (l : Nat) : Obj := ⟨0x11, l, 0x09⟩
/-- VCS_PORT (R116). -/
def VCS_PORT (h : Nat) : Obj := ⟨0x20, h, 0x00⟩
/-- VCS_STATE (R116). -/
def VCS_STATE (h : Nat) : Obj := ⟨0x20, h, 0x01⟩
/-- POOL_VPPB (R116). -/
def POOL_VPPB (h : Nat) : Obj := ⟨0x20, h, 0x02⟩
/-- UNMAPPED_COUNT (R116). -/
def UNMAPPED_COUNT (h : Nat) : Obj := ⟨0x20, h, 0x03⟩
/-- VPPB_BIND (R116). -/
def VPPB_BIND (h : Nat) (k : Nat) : Obj := ⟨0x20, h, 0x10 + k⟩
/-- VPPB_STATE (R116). -/
def VPPB_STATE (h : Nat) (k : Nat) : Obj := ⟨0x20, h, 0x20 + k⟩
/-- VPPB_ADMIT (R116). -/
def VPPB_ADMIT (h : Nat) (k : Nat) : Obj := ⟨0x20, h, 0x30 + k⟩
/-- VPPB_OUTSTANDING (R116). -/
def VPPB_OUTSTANDING (h : Nat) (k : Nat) : Obj := ⟨0x20, h, 0x40 + k⟩
/-- DEC_ENABLE (R122). -/
def DEC_ENABLE (n : Nat) : Obj := ⟨0x21, n, 0x00⟩
/-- DEC_CTRL (R122). -/
def DEC_CTRL (n : Nat) : Obj := ⟨0x21, n, 0x01⟩
/-- DEC_HPA_BASE (R122). -/
def DEC_HPA_BASE (n : Nat) : Obj := ⟨0x21, n, 0x02⟩
/-- DEC_HPA_SIZE (R122). -/
def DEC_HPA_SIZE (n : Nat) : Obj := ⟨0x21, n, 0x03⟩
/-- DEC_FABRIC_BASE (R122). -/
def DEC_FABRIC_BASE (n : Nat) : Obj := ⟨0x21, n, 0x04⟩
/-- DEC_TENANT (R122). -/
def DEC_TENANT (n : Nat) : Obj := ⟨0x21, n, 0x05⟩
/-- DEC_ADMIT (R122). -/
def DEC_ADMIT (n : Nat) : Obj := ⟨0x21, n, 0x06⟩
/-- DEC_OUTSTANDING (R122). -/
def DEC_OUTSTANDING (n : Nat) : Obj := ⟨0x21, n, 0x07⟩
/-- DEC_IDLE (R122). -/
def DEC_IDLE (n : Nat) : Obj := ⟨0x21, n, 0x08⟩
/-- DEC_REFUSED (R122). -/
def DEC_REFUSED (n : Nat) : Obj := ⟨0x21, n, 0x09⟩
/-- EXT_ENTRY (R128). -/
def EXT_ENTRY (e : Nat) : Obj := ⟨0x22, 0x100 + e / 256, e % 256⟩
/-- GRN_ENTRY (R128). -/
def GRN_ENTRY (g : Nat) : Obj := ⟨0x22, 0x400 + g / 256, g % 256⟩
/-- SHADOW_APPLY (R133). -/
def SHADOW_APPLY : Obj := ⟨0x22, 0, 0x00⟩
/-- SHADOW_DISCARD (R133). -/
def SHADOW_DISCARD : Obj := ⟨0x22, 0, 0x01⟩
/-- SHADOW_STATE (R133). -/
def SHADOW_STATE : Obj := ⟨0x22, 0, 0x02⟩
/-- EXT_STAGED (R133). -/
def EXT_STAGED : Obj := ⟨0x22, 0, 0x03⟩
/-- GRN_STAGED (R133). -/
def GRN_STAGED : Obj := ⟨0x22, 0, 0x04⟩
/-- DRAINED_EPOCH (R133). -/
def DRAINED_EPOCH : Obj := ⟨0x22, 0, 0x05⟩
/-- MIG_ACTIVE (R133). -/
def MIG_ACTIVE : Obj := ⟨0x22, 0, 0x06⟩
/-- MAP_CE_COUNT (R133). -/
def MAP_CE_COUNT : Obj := ⟨0x22, 0, 0x07⟩
/-- MAP_UE_COUNT (R133). -/
def MAP_UE_COUNT : Obj := ⟨0x22, 0, 0x08⟩
/-- MIG_GRANULE (R145). -/
def MIG_GRANULE (m : Nat) : Obj := ⟨0x22, 1 + m, 0x00⟩
/-- MIG_DEST (R145). -/
def MIG_DEST (m : Nat) : Obj := ⟨0x22, 1 + m, 0x01⟩
/-- MIG_STATE (R145). -/
def MIG_STATE (m : Nat) : Obj := ⟨0x22, 1 + m, 0x02⟩
/-- MIG_STATUS (R145). -/
def MIG_STATUS (m : Nat) : Obj := ⟨0x22, 1 + m, 0x03⟩
/-- MIG_STARTED_AT (R145). -/
def MIG_STARTED_AT (m : Nat) : Obj := ⟨0x22, 1 + m, 0x04⟩
/-- MIG_COPIED_AT (R145). -/
def MIG_COPIED_AT (m : Nat) : Obj := ⟨0x22, 1 + m, 0x05⟩
/-- MIG_MIRRORED (R145). -/
def MIG_MIRRORED (m : Nat) : Obj := ⟨0x22, 1 + m, 0x06⟩
/-- MIG_SUPPRESSED (R145). -/
def MIG_SUPPRESSED (m : Nat) : Obj := ⟨0x22, 1 + m, 0x07⟩
/-- SR_ENABLE (R151). -/
def SR_ENABLE (r : Nat) : Obj := ⟨0x2A, r, 0x00⟩
/-- SR_KIND (R151). -/
def SR_KIND (r : Nat) : Obj := ⟨0x2A, r, 0x01⟩
/-- SR_BASE (R151). -/
def SR_BASE (r : Nat) : Obj := ⟨0x2A, r, 0x02⟩
/-- SR_SIZE (R151). -/
def SR_SIZE (r : Nat) : Obj := ⟨0x2A, r, 0x03⟩
/-- SR_HOSTS (R151). -/
def SR_HOSTS (r : Nat) : Obj := ⟨0x2A, r, 0x04⟩
/-- SR_RECALL (R151). -/
def SR_RECALL (r : Nat) : Obj := ⟨0x2A, r, 0x05⟩
/-- SR_STATE (R151). -/
def SR_STATE (r : Nat) : Obj := ⟨0x2A, r, 0x06⟩
/-- SR_HELD (R151). -/
def SR_HELD (r : Nat) : Obj := ⟨0x2A, r, 0x07⟩
/-- SR_ENTRIES (R151). -/
def SR_ENTRIES (r : Nat) : Obj := ⟨0x2A, r, 0x08⟩
/-- SR_REFUSED (R151). -/
def SR_REFUSED (r : Nat) : Obj := ⟨0x2A, r, 0x09⟩
/-- SR_BI_SENT (R151). -/
def SR_BI_SENT (r : Nat) : Obj := ⟨0x2A, r, 0x0A⟩
/-- DIR_STATE (R185). -/
def DIR_STATE : Obj := ⟨0x28, 0, 0x00⟩
/-- BI_TIMEOUT (R185). -/
def BI_TIMEOUT : Obj := ⟨0x28, 0, 0x01⟩
/-- ALLOC_WAIT (R185). -/
def ALLOC_WAIT : Obj := ⟨0x28, 0, 0x02⟩
/-- SCRUB_PERIOD (R185). -/
def SCRUB_PERIOD : Obj := ⟨0x28, 0, 0x03⟩
/-- DIR_EVENTS (R185). -/
def DIR_EVENTS : Obj := ⟨0x28, 0, 0x04⟩
/-- SHARED_REFUSED (R185). -/
def SHARED_REFUSED : Obj := ⟨0x28, 0, 0x05⟩
/-- OWNER_LOST_COUNT (R185). -/
def OWNER_LOST_COUNT : Obj := ⟨0x28, 0, 0x06⟩
/-- BANK_STATE (R186). -/
def BANK_STATE (d : Nat) : Obj := ⟨0x28, 1 + d, 0x00⟩
/-- BANK_RETIRE (R186). -/
def BANK_RETIRE (d : Nat) : Obj := ⟨0x28, 1 + d, 0x01⟩
/-- FOLD_MAP (R186). -/
def FOLD_MAP (d : Nat) : Obj := ⟨0x28, 1 + d, 0x02⟩
/-- VALID_ENTRIES (R186). -/
def VALID_ENTRIES (d : Nat) : Obj := ⟨0x28, 1 + d, 0x03⟩
/-- PINNED_WAYS (R186). -/
def PINNED_WAYS (d : Nat) : Obj := ⟨0x28, 1 + d, 0x04⟩
/-- BI_SENT (R186). -/
def BI_SENT (d : Nat) : Obj := ⟨0x28, 1 + d, 0x05⟩
/-- VICTIMS (R186). -/
def VICTIMS (d : Nat) : Obj := ⟨0x28, 1 + d, 0x06⟩
/-- ALLOC_RETRIES (R186). -/
def ALLOC_RETRIES (d : Nat) : Obj := ⟨0x28, 1 + d, 0x07⟩
/-- DIR_CE_COUNT (R186). -/
def DIR_CE_COUNT (d : Nat) : Obj := ⟨0x28, 1 + d, 0x08⟩
/-- DIR_UE_COUNT (R186). -/
def DIR_UE_COUNT (d : Nat) : Obj := ⟨0x28, 1 + d, 0x09⟩
/-- BI_TIMEOUT_COUNT (R186). -/
def BI_TIMEOUT_COUNT (d : Nat) : Obj := ⟨0x28, 1 + d, 0x0A⟩
/-- PROTOCOL_COUNT (R186). -/
def PROTOCOL_COUNT (d : Nat) : Obj := ⟨0x28, 1 + d, 0x0B⟩
/-- SCRUB_PASSES (R186). -/
def SCRUB_PASSES (d : Nat) : Obj := ⟨0x28, 1 + d, 0x0C⟩
/-- ATOM_DEVICE (R187). -/
def ATOM_DEVICE (p : Nat) : Obj := ⟨0x28, 0x100 + p, 0x00⟩
/-- ATOM_BASE (R187). -/
def ATOM_BASE (p : Nat) (k : Nat) : Obj := ⟨0x28, 0x100 + p, 0x10 + k⟩
/-- GRP_EVENTS (R209). -/
def GRP_EVENTS (h : Nat) : Obj := ⟨0x29, h * 8, 0x00⟩
/-- GRP_COMMITS (R209). -/
def GRP_COMMITS (h : Nat) : Obj := ⟨0x29, h * 8, 0x01⟩
/-- GRP_ABORTS (R209). -/
def GRP_ABORTS (h : Nat) : Obj := ⟨0x29, h * 8, 0x02⟩
/-- GRP_CONFLICTS (R209). -/
def GRP_CONFLICTS (h : Nat) : Obj := ⟨0x29, h * 8, 0x03⟩
/-- GRP_DISCARDED (R209). -/
def GRP_DISCARDED (h : Nat) : Obj := ⟨0x29, h * 8, 0x04⟩
/-- GRP_PROTOCOL (R209). -/
def GRP_PROTOCOL (h : Nat) : Obj := ⟨0x29, h * 8, 0x05⟩
/-- GRP_BUSY_SLOTS (R209). -/
def GRP_BUSY_SLOTS (h : Nat) : Obj := ⟨0x29, h * 8, 0x06⟩
/-- GRP_STATE (R210). -/
def GRP_STATE (h : Nat) (k : Nat) : Obj := ⟨0x29, h * 8 + k, 0x00⟩
/-- GRP_STATUS (R210). -/
def GRP_STATUS (h : Nat) (k : Nat) : Obj := ⟨0x29, h * 8 + k, 0x01⟩
/-- GRP_LINES (R210). -/
def GRP_LINES (h : Nat) (k : Nat) : Obj := ⟨0x29, h * 8 + k, 0x02⟩
/-- GRP_GEN (R210). -/
def GRP_GEN (h : Nat) (k : Nat) : Obj := ⟨0x29, h * 8 + k, 0x03⟩
/-- GRP_TENANT (R210). -/
def GRP_TENANT (h : Nat) (k : Nat) : Obj := ⟨0x29, h * 8 + k, 0x04⟩
/-- GRP_OPENED_AT (R210). -/
def GRP_OPENED_AT (h : Nat) (k : Nat) : Obj := ⟨0x29, h * 8 + k, 0x05⟩
/-- GRP_COMMIT_STAMP (R210). -/
def GRP_COMMIT_STAMP (h : Nat) (k : Nat) : Obj := ⟨0x29, h * 8 + k, 0x06⟩
/-- GRP_DONE_AT (R210). -/
def GRP_DONE_AT (h : Nat) (k : Nat) : Obj := ⟨0x29, h * 8 + k, 0x07⟩
/-- GRP_CTRL (R210). -/
def GRP_CTRL (h : Nat) (k : Nat) : Obj := ⟨0x29, h * 8 + k, 0x08⟩
/-- GRP_COMMIT_WAIT (R211). -/
def GRP_COMMIT_WAIT : Obj := ⟨0x29, 0x200, 0x00⟩
/-- GRP_SLOTS (R211). -/
def GRP_SLOTS : Obj := ⟨0x29, 0x200, 0x01⟩
/-- GRP_ACTIVE (R211). -/
def GRP_ACTIVE : Obj := ⟨0x29, 0x200, 0x02⟩
/-- GRP_APPLYING (R211). -/
def GRP_APPLYING : Obj := ⟨0x29, 0x200, 0x03⟩
/-- SLT_PEAK (R211). -/
def SLT_PEAK : Obj := ⟨0x29, 0x200, 0x04⟩
/-- EGRESS_CAP (R231). -/
def EGRESS_CAP : Obj := ⟨0x59, 0, 0x00⟩
/-- WEEVIL_ENABLE (R231). -/
def WEEVIL_ENABLE : Obj := ⟨0x59, 0, 0x01⟩
/-- WEEVIL_RECLAIM (R231). -/
def WEEVIL_RECLAIM : Obj := ⟨0x59, 0, 0x02⟩
/-- WEEVIL_AGE_LIMIT (R231). -/
def WEEVIL_AGE_LIMIT : Obj := ⟨0x59, 0, 0x03⟩
/-- BUF_EVENTS (R231). -/
def BUF_EVENTS : Obj := ⟨0x59, 0, 0x04⟩
/-- CELLS_FREE (R232). -/
def CELLS_FREE (d : Nat) : Obj := ⟨0x59, 1 + d, 0x00⟩
/-- POOL_INGRESS (R232). -/
def POOL_INGRESS (d : Nat) : Obj := ⟨0x59, 1 + d, 0x01⟩
/-- POOL_LINK (R232). -/
def POOL_LINK (d : Nat) : Obj := ⟨0x59, 1 + d, 0x02⟩
/-- POOL_ABSORB (R232). -/
def POOL_ABSORB (d : Nat) : Obj := ⟨0x59, 1 + d, 0x03⟩
/-- POOL_GROUP (R232). -/
def POOL_GROUP (d : Nat) : Obj := ⟨0x59, 1 + d, 0x04⟩
/-- POOL_MOVER (R232). -/
def POOL_MOVER (d : Nat) : Obj := ⟨0x59, 1 + d, 0x05⟩
/-- POOL_INTERNAL (R232). -/
def POOL_INTERNAL (d : Nat) : Obj := ⟨0x59, 1 + d, 0x06⟩
/-- POOL_SHARED (R232). -/
def POOL_SHARED (d : Nat) : Obj := ⟨0x59, 1 + d, 0x07⟩
/-- SHARED_SIZE (R232). -/
def SHARED_SIZE (d : Nat) : Obj := ⟨0x59, 1 + d, 0x08⟩
/-- FREE_LOW (R232). -/
def FREE_LOW (d : Nat) : Obj := ⟨0x59, 1 + d, 0x09⟩
/-- WEEVIL_PASSES (R232). -/
def WEEVIL_PASSES (d : Nat) : Obj := ⟨0x59, 1 + d, 0x0A⟩
/-- LEAKS_FOUND (R232). -/
def LEAKS_FOUND (d : Nat) : Obj := ⟨0x59, 1 + d, 0x0B⟩
/-- LEAKS_RECLAIMED (R232). -/
def LEAKS_RECLAIMED (d : Nat) : Obj := ⟨0x59, 1 + d, 0x0C⟩
/-- STALE_CELLS (R232). -/
def STALE_CELLS (d : Nat) : Obj := ⟨0x59, 1 + d, 0x0D⟩
/-- BUF_QUARANTINED (R232). -/
def BUF_QUARANTINED (d : Nat) : Obj := ⟨0x59, 1 + d, 0x0E⟩
/-- CELL_CE_COUNT (R232). -/
def CELL_CE_COUNT (d : Nat) : Obj := ⟨0x59, 1 + d, 0x0F⟩
/-- CELL_UE_COUNT (R232). -/
def CELL_UE_COUNT (d : Nat) : Obj := ⟨0x59, 1 + d, 0x10⟩
/-- FIRST_LEAK_CELL (R232). -/
def FIRST_LEAK_CELL (d : Nat) : Obj := ⟨0x59, 1 + d, 0x11⟩
/-- EGRESS_CELLS (R233). -/
def EGRESS_CELLS (p : Nat) : Obj := ⟨0x59, 0x100 + p, 0x00⟩
/-- EGRESS_PEAK (R233). -/
def EGRESS_PEAK (p : Nat) : Obj := ⟨0x59, 0x100 + p, 0x01⟩
/-- CA_AT (R234). -/
def CA_AT : Obj := ⟨0x5A, 0, 0x00⟩
/-- CA_PERIOD (R234). -/
def CA_PERIOD : Obj := ⟨0x5A, 0, 0x01⟩
/-- CA_STATE (R234). -/
def CA_STATE : Obj := ⟨0x5A, 0, 0x02⟩
/-- CA_RESULT (R234). -/
def CA_RESULT : Obj := ⟨0x5A, 0, 0x03⟩
/-- CA_LAST_AT (R234). -/
def CA_LAST_AT : Obj := ⟨0x5A, 0, 0x04⟩
/-- CA_FAIL_LOOP (R234). -/
def CA_FAIL_LOOP : Obj := ⟨0x5A, 0, 0x05⟩
/-- CA_FAIL_CHECK (R234). -/
def CA_FAIL_CHECK : Obj := ⟨0x5A, 0, 0x06⟩
/-- CA_RUNS (R234). -/
def CA_RUNS : Obj := ⟨0x5A, 0, 0x07⟩
/-- CA_FAILS (R234). -/
def CA_FAILS : Obj := ⟨0x5A, 0, 0x08⟩
/-- CA_SKIPPED (R234). -/
def CA_SKIPPED : Obj := ⟨0x5A, 0, 0x09⟩
/-- CA_EVENTS (R234). -/
def CA_EVENTS : Obj := ⟨0x5A, 0, 0x0A⟩
/-- CA_LOOPS (R235). -/
def CA_LOOPS (d : Nat) : Obj := ⟨0x5A, 1 + d, 0x00⟩
/-- CA_LOOP_FAILS (R235). -/
def CA_LOOP_FAILS (d : Nat) : Obj := ⟨0x5A, 1 + d, 0x01⟩
/-- TRACKERS_FREE (R235). -/
def TRACKERS_FREE (d : Nat) : Obj := ⟨0x5A, 1 + d, 0x02⟩
/-- CAP_ENABLE (R236). -/
def CAP_ENABLE (d : Nat) : Obj := ⟨0x58, 1 + d, 0x00⟩
/-- CAP_MODE (R236). -/
def CAP_MODE (d : Nat) : Obj := ⟨0x58, 1 + d, 0x01⟩
/-- CAP_START_AT (R236). -/
def CAP_START_AT (d : Nat) : Obj := ⟨0x58, 1 + d, 0x02⟩
/-- CAP_STOP_AT (R236). -/
def CAP_STOP_AT (d : Nat) : Obj := ⟨0x58, 1 + d, 0x03⟩
/-- CAP_TRIGGER_SRC (R236). -/
def CAP_TRIGGER_SRC (d : Nat) : Obj := ⟨0x58, 1 + d, 0x04⟩
/-- CAP_POST_COUNT (R236). -/
def CAP_POST_COUNT (d : Nat) : Obj := ⟨0x58, 1 + d, 0x05⟩
/-- CAP_STATE (R236). -/
def CAP_STATE (d : Nat) : Obj := ⟨0x58, 1 + d, 0x06⟩
/-- CAP_WRITE_INDEX (R236). -/
def CAP_WRITE_INDEX (d : Nat) : Obj := ⟨0x58, 1 + d, 0x07⟩
/-- CAP_WRAPS (R236). -/
def CAP_WRAPS (d : Nat) : Obj := ⟨0x58, 1 + d, 0x08⟩
/-- CAP_LOST (R236). -/
def CAP_LOST (d : Nat) : Obj := ⟨0x58, 1 + d, 0x09⟩
/-- CAP_RECORDS (R236). -/
def CAP_RECORDS (d : Nat) : Obj := ⟨0x58, 1 + d, 0x0A⟩
/-- CAP_TRIGGER_AT (R236). -/
def CAP_TRIGGER_AT (d : Nat) : Obj := ⟨0x58, 1 + d, 0x0B⟩
/-- CAP_CLEAR (R236). -/
def CAP_CLEAR (d : Nat) : Obj := ⟨0x58, 1 + d, 0x0C⟩
/-- CAP_EVENTS (R236). -/
def CAP_EVENTS (d : Nat) : Obj := ⟨0x58, 1 + d, 0x0D⟩
/-- CF_ENABLE (R237). -/
def CF_ENABLE (d : Nat) (f : Nat) : Obj := ⟨0x58, 0x100 + d * 8 + f, 0x00⟩
/-- CF_ACTION (R237). -/
def CF_ACTION (d : Nat) (f : Nat) : Obj := ⟨0x58, 0x100 + d * 8 + f, 0x01⟩
/-- CF_RATE (R237). -/
def CF_RATE (d : Nat) (f : Nat) : Obj := ⟨0x58, 0x100 + d * 8 + f, 0x02⟩
/-- CF_SEED (R237). -/
def CF_SEED (d : Nat) (f : Nat) : Obj := ⟨0x58, 0x100 + d * 8 + f, 0x03⟩
/-- CF_PORTS (R237). -/
def CF_PORTS (d : Nat) (f : Nat) : Obj := ⟨0x58, 0x100 + d * 8 + f, 0x04⟩
/-- CF_DIR (R237). -/
def CF_DIR (d : Nat) (f : Nat) : Obj := ⟨0x58, 0x100 + d * 8 + f, 0x05⟩
/-- CF_CHANNELS (R237). -/
def CF_CHANNELS (d : Nat) (f : Nat) : Obj := ⟨0x58, 0x100 + d * 8 + f, 0x06⟩
/-- CF_TENANT (R237). -/
def CF_TENANT (d : Nat) (f : Nat) : Obj := ⟨0x58, 0x100 + d * 8 + f, 0x07⟩
/-- CF_HOST (R237). -/
def CF_HOST (d : Nat) (f : Nat) : Obj := ⟨0x58, 0x100 + d * 8 + f, 0x08⟩
/-- CF_ADDR_LO (R237). -/
def CF_ADDR_LO (d : Nat) (f : Nat) : Obj := ⟨0x58, 0x100 + d * 8 + f, 0x09⟩
/-- CF_ADDR_HI (R237). -/
def CF_ADDR_HI (d : Nat) (f : Nat) : Obj := ⟨0x58, 0x100 + d * 8 + f, 0x0A⟩
/-- CF_OPCODE (R237). -/
def CF_OPCODE (d : Nat) (f : Nat) : Obj := ⟨0x58, 0x100 + d * 8 + f, 0x0B⟩
/-- CF_MATCHES (R237). -/
def CF_MATCHES (d : Nat) (f : Nat) : Obj := ⟨0x58, 0x100 + d * 8 + f, 0x0C⟩
/-- LEAF_CFG (R259). -/
def LEAF_CFG (p : Nat) (c : Nat) (k : Nat) : Obj := ⟨0x31, p * 8 + c, 0x00 + 4 * k⟩
/-- LEAF_SHAPE (R259). -/
def LEAF_SHAPE (p : Nat) (c : Nat) (k : Nat) : Obj := ⟨0x31, p * 8 + c, 0x01 + 4 * k⟩
/-- LEAF_STATUS (R259). -/
def LEAF_STATUS (p : Nat) (c : Nat) (k : Nat) : Obj := ⟨0x31, p * 8 + c, 0x02 + 4 * k⟩
/-- LEAF_SENT (R259). -/
def LEAF_SENT (p : Nat) (c : Nat) (k : Nat) : Obj := ⟨0x31, p * 8 + c, 0x03 + 4 * k⟩
/-- CLS_WEIGHT (R260). -/
def CLS_WEIGHT (p : Nat) (k : Nat) : Obj := ⟨0x31, 0x400 + p, 0x00 + 4 * k⟩
/-- COMMON_WEIGHT (R260). -/
def COMMON_WEIGHT (p : Nat) (k : Nat) : Obj := ⟨0x31, 0x400 + p, 0x01 + 4 * k⟩
/-- COMMON_SHAPE (R260). -/
def COMMON_SHAPE (p : Nat) (k : Nat) : Obj := ⟨0x31, 0x400 + p, 0x02 + 4 * k⟩
/-- CLS_STATUS (R260). -/
def CLS_STATUS (p : Nat) (k : Nat) : Obj := ⟨0x31, 0x400 + p, 0x03 + 4 * k⟩
/-- PORT_SHAPE (R260). -/
def PORT_SHAPE (p : Nat) : Obj := ⟨0x31, 0x400 + p, 0x20⟩
/-- PORT_STATUS (R260). -/
def PORT_STATUS (p : Nat) : Obj := ⟨0x31, 0x400 + p, 0x21⟩
/-- SCAV_GUARD (R260). -/
def SCAV_GUARD (p : Nat) : Obj := ⟨0x31, 0x400 + p, 0x22⟩
/-- GUARD_COUNT (R260). -/
def GUARD_COUNT (p : Nat) : Obj := ⟨0x31, 0x400 + p, 0x23⟩
/-- M_CFG (R261). -/
def M_CFG (t : Nat) (d : Nat) : Obj := ⟨0x32, t * 2 + d, 0x00⟩
/-- M_CIR (R261). -/
def M_CIR (t : Nat) (d : Nat) : Obj := ⟨0x32, t * 2 + d, 0x01⟩
/-- M_CBS (R261). -/
def M_CBS (t : Nat) (d : Nat) : Obj := ⟨0x32, t * 2 + d, 0x02⟩
/-- M_PIR (R261). -/
def M_PIR (t : Nat) (d : Nat) : Obj := ⟨0x32, t * 2 + d, 0x03⟩
/-- M_PBS (R261). -/
def M_PBS (t : Nat) (d : Nat) : Obj := ⟨0x32, t * 2 + d, 0x04⟩
/-- M_GREEN (R261). -/
def M_GREEN (t : Nat) (d : Nat) : Obj := ⟨0x32, t * 2 + d, 0x05⟩
/-- M_YELLOW (R261). -/
def M_YELLOW (t : Nat) (d : Nat) : Obj := ⟨0x32, t * 2 + d, 0x06⟩
/-- M_RED (R261). -/
def M_RED (t : Nat) (d : Nat) : Obj := ⟨0x32, t * 2 + d, 0x07⟩
/-- M_PENDING (R261). -/
def M_PENDING (t : Nat) (d : Nat) : Obj := ⟨0x32, t * 2 + d, 0x08⟩
/-- HWM_SNAP_AT (R262). -/
def HWM_SNAP_AT : Obj := ⟨0x33, 0, 0x00⟩
/-- HWM_SNAP_PERIOD (R262). -/
def HWM_SNAP_PERIOD : Obj := ⟨0x33, 0, 0x01⟩
/-- HWM_SNAP_CLEAR (R262). -/
def HWM_SNAP_CLEAR : Obj := ⟨0x33, 0, 0x02⟩
/-- HWM_CLEAR (R262). -/
def HWM_CLEAR : Obj := ⟨0x33, 0, 0x03⟩
/-- HWM_LAST_SNAP_AT (R262). -/
def HWM_LAST_SNAP_AT : Obj := ⟨0x33, 0, 0x04⟩
/-- HWM_SNAP_COUNT (R262). -/
def HWM_SNAP_COUNT : Obj := ⟨0x33, 0, 0x05⟩
/-- LM_DEPTH (R263). -/
def LM_DEPTH (p : Nat) (c : Nat) (k : Nat) : Obj := ⟨0x33, 0x100 + p * 8 + c, 0x00 + 2 * k⟩
/-- LM_SOJOURN (R263). -/
def LM_SOJOURN (p : Nat) (c : Nat) (k : Nat) : Obj := ⟨0x33, 0x100 + p * 8 + c, 0x01 + 2 * k⟩
/-- LS_DEPTH (R263). -/
def LS_DEPTH (p : Nat) (c : Nat) (k : Nat) : Obj := ⟨0x33, 0x100 + p * 8 + c, 0x80 + 2 * k⟩
/-- LS_SOJOURN (R263). -/
def LS_SOJOURN (p : Nat) (c : Nat) (k : Nat) : Obj := ⟨0x33, 0x100 + p * 8 + c, 0x81 + 2 * k⟩
/-- CM_DEPTH (R264). -/
def CM_DEPTH (p : Nat) (k : Nat) : Obj := ⟨0x33, 0x800 + p, 0x00 + 4 * k⟩
/-- CM_SOJOURN (R264). -/
def CM_SOJOURN (p : Nat) (k : Nat) : Obj := ⟨0x33, 0x800 + p, 0x01 + 4 * k⟩
/-- CCM_DEPTH (R264). -/
def CCM_DEPTH (p : Nat) (k : Nat) : Obj := ⟨0x33, 0x800 + p, 0x02 + 4 * k⟩
/-- CCM_SOJOURN (R264). -/
def CCM_SOJOURN (p : Nat) (k : Nat) : Obj := ⟨0x33, 0x800 + p, 0x03 + 4 * k⟩
/-- PM_DEPTH (R264). -/
def PM_DEPTH (p : Nat) : Obj := ⟨0x33, 0x800 + p, 0x20⟩
/-- PM_SOJOURN (R264). -/
def PM_SOJOURN (p : Nat) : Obj := ⟨0x33, 0x800 + p, 0x21⟩
/-- BM_DEPTH (R264). -/
def BM_DEPTH (p : Nat) : Obj := ⟨0x33, 0x800 + p, 0x22⟩
/-- BM_SOJOURN (R264). -/
def BM_SOJOURN (p : Nat) : Obj := ⟨0x33, 0x800 + p, 0x23⟩
/-- SNAP_ (R264). -/
def SNAP_ (p : Nat) (k : Nat) : Obj := ⟨0x33, 0x800 + p, 0x80 + k⟩
/-- T_CFG (R285). -/
def T_CFG (t : Nat) : Obj := ⟨0x30, t, 0x00⟩
/-- T_STATE (R285). -/
def T_STATE (t : Nat) : Obj := ⟨0x30, t, 0x01⟩
/-- T_ADMIT (R285). -/
def T_ADMIT (t : Nat) : Obj := ⟨0x30, t, 0x02⟩
/-- T_IDLE (R285). -/
def T_IDLE (t : Nat) : Obj := ⟨0x30, t, 0x03⟩
/-- T_OUTSTANDING (R285). -/
def T_OUTSTANDING (t : Nat) : Obj := ⟨0x30, t, 0x04⟩
/-- T_EXT_FIRST (R285). -/
def T_EXT_FIRST (t : Nat) : Obj := ⟨0x30, t, 0x05⟩
/-- T_EXT_COUNT (R285). -/
def T_EXT_COUNT (t : Nat) : Obj := ⟨0x30, t, 0x06⟩
/-- T_QUEUES (R285). -/
def T_QUEUES (t : Nat) : Obj := ⟨0x30, t, 0x07⟩
/-- T_RGN_LO (R285). -/
def T_RGN_LO (t : Nat) (k : Nat) : Obj := ⟨0x30, t, 0x08 + k⟩
/-- T_RGN_HI (R285). -/
def T_RGN_HI (t : Nat) (k : Nat) : Obj := ⟨0x30, t, 0x0C + k⟩
/-- T_RGN_PERM (R285). -/
def T_RGN_PERM (t : Nat) : Obj := ⟨0x30, t, 0x10⟩
/-- T_CMD (R285). -/
def T_CMD (t : Nat) : Obj := ⟨0x30, t, 0x11⟩
/-- T_RESTORE (R285). -/
def T_RESTORE (t : Nat) : Obj := ⟨0x30, t, 0x12⟩
/-- T_IMAGE (R285). -/
def T_IMAGE (t : Nat) : Obj := ⟨0x30, t, 0x13⟩
/-- T_FROZEN_AT (R285). -/
def T_FROZEN_AT (t : Nat) : Obj := ⟨0x30, t, 0x14⟩
/-- T_RESTORED_AT (R285). -/
def T_RESTORED_AT (t : Nat) : Obj := ⟨0x30, t, 0x15⟩
/-- T_REFUSED (R285). -/
def T_REFUSED (t : Nat) : Obj := ⟨0x30, t, 0x16⟩
/-- T_FREE (R286). -/
def T_FREE : Obj := ⟨0x30, 0x400, 0x00⟩
/-- T_NEXT_FREE (R286). -/
def T_NEXT_FREE : Obj := ⟨0x30, 0x400, 0x01⟩
/-- IMAGE_SLOTS_FREE (R286). -/
def IMAGE_SLOTS_FREE : Obj := ⟨0x30, 0x400, 0x02⟩
/-- T_EVENTS (R286). -/
def T_EVENTS : Obj := ⟨0x30, 0x400, 0x03⟩
/-- Q_CTRL (R311). -/
def Q_CTRL (q : Nat) : Obj := ⟨0x38, q, 0x00⟩
/-- Q_STATE (R311). -/
def Q_STATE (q : Nat) : Obj := ⟨0x38, q, 0x01⟩
/-- Q_IDLE (R311). -/
def Q_IDLE (q : Nat) : Obj := ⟨0x38, q, 0x02⟩
/-- Q_DOORBELL (R311). -/
def Q_DOORBELL (q : Nat) : Obj := ⟨0x38, q, 0x03⟩
/-- Q_RING_BASE (R311). -/
def Q_RING_BASE (q : Nat) : Obj := ⟨0x38, q, 0x04⟩
/-- Q_RING_SIZE (R311). -/
def Q_RING_SIZE (q : Nat) : Obj := ⟨0x38, q, 0x05⟩
/-- Q_PI_ADDR (R311). -/
def Q_PI_ADDR (q : Nat) : Obj := ⟨0x38, q, 0x06⟩
/-- Q_SPACE (R311). -/
def Q_SPACE (q : Nat) : Obj := ⟨0x38, q, 0x07⟩
/-- Q_CLASS (R311). -/
def Q_CLASS (q : Nat) : Obj := ⟨0x38, q, 0x08⟩
/-- Q_RATE (R311). -/
def Q_RATE (q : Nat) : Obj := ⟨0x38, q, 0x09⟩
/-- Q_BURST (R311). -/
def Q_BURST (q : Nat) : Obj := ⟨0x38, q, 0x0A⟩
/-- Q_NTF_BASE (R311). -/
def Q_NTF_BASE (q : Nat) : Obj := ⟨0x38, q, 0x0B⟩
/-- Q_NTF_SIZE (R311). -/
def Q_NTF_SIZE (q : Nat) : Obj := ⟨0x38, q, 0x0C⟩
/-- Q_NTF_COUNT (R311). -/
def Q_NTF_COUNT (q : Nat) : Obj := ⟨0x38, q, 0x0D⟩
/-- Q_NTF_DELAY (R311). -/
def Q_NTF_DELAY (q : Nat) : Obj := ⟨0x38, q, 0x0E⟩
/-- Q_MSI_VEC (R311). -/
def Q_MSI_VEC (q : Nat) : Obj := ⟨0x38, q, 0x0F⟩
/-- Q_FETCH (R311). -/
def Q_FETCH (q : Nat) : Obj := ⟨0x38, q, 0x10⟩
/-- Q_CI (R311). -/
def Q_CI (q : Nat) : Obj := ⟨0x38, q, 0x11⟩
/-- Q_PI_SEEN (R311). -/
def Q_PI_SEEN (q : Nat) : Obj := ⟨0x38, q, 0x12⟩
/-- Q_NTF_PI (R311). -/
def Q_NTF_PI (q : Nat) : Obj := ⟨0x38, q, 0x13⟩
/-- Q_NTF_ACK (R311). -/
def Q_NTF_ACK (q : Nat) : Obj := ⟨0x38, q, 0x14⟩
/-- Q_NTF_STATUS (R311). -/
def Q_NTF_STATUS (q : Nat) : Obj := ⟨0x38, q, 0x15⟩
/-- Q_NTF_LOST (R311). -/
def Q_NTF_LOST (q : Nat) : Obj := ⟨0x38, q, 0x16⟩
/-- Q_ERROR (R311). -/
def Q_ERROR (q : Nat) : Obj := ⟨0x38, q, 0x17⟩
/-- Q_COMPLETED (R311). -/
def Q_COMPLETED (q : Nat) : Obj := ⟨0x38, q, 0x18⟩
/-- Q_BYTES (R311). -/
def Q_BYTES (q : Nat) : Obj := ⟨0x38, q, 0x19⟩
/-- E_STATE (R312). -/
def E_STATE (d : Nat) (e : Nat) : Obj := ⟨0x39, d * 4 + e, 0x00⟩
/-- E_QUEUE (R312). -/
def E_QUEUE (d : Nat) (e : Nat) : Obj := ⟨0x39, d * 4 + e, 0x01⟩
/-- E_LINES (R312). -/
def E_LINES (d : Nat) (e : Nat) : Obj := ⟨0x39, d * 4 + e, 0x02⟩
/-- E_DESCRIPTORS (R312). -/
def E_DESCRIPTORS (d : Nat) (e : Nat) : Obj := ⟨0x39, d * 4 + e, 0x03⟩
/-- E_BYTES (R312). -/
def E_BYTES (d : Nat) (e : Nat) : Obj := ⟨0x39, d * 4 + e, 0x04⟩
/-- E_FAULTS (R312). -/
def E_FAULTS (d : Nat) (e : Nat) : Obj := ⟨0x39, d * 4 + e, 0x05⟩
/-- E_UCODE (R312). -/
def E_UCODE (d : Nat) (e : Nat) : Obj := ⟨0x39, d * 4 + e, 0x06⟩
/-- MV_EVENTS (R313). -/
def MV_EVENTS : Obj := ⟨0x39, 0x100, 0x00⟩
/-- MV_ENABLED (R313). -/
def MV_ENABLED : Obj := ⟨0x39, 0x100, 0x01⟩
/-- MV_HALTED (R313). -/
def MV_HALTED : Obj := ⟨0x39, 0x100, 0x02⟩
/-- LL_REPLAY_DEPTH (R339). -/
def LL_REPLAY_DEPTH (x : Nat) : Obj := ⟨0x12, x, 0x00⟩
/-- LL_TIMEOUT (R339). -/
def LL_TIMEOUT (x : Nat) : Obj := ⟨0x12, x, 0x01⟩
/-- LL_NAK_RETRY (R339). -/
def LL_NAK_RETRY (x : Nat) : Obj := ⟨0x12, x, 0x02⟩
/-- LL_ACK_EVERY (R339). -/
def LL_ACK_EVERY (x : Nat) : Obj := ⟨0x12, x, 0x03⟩
/-- LL_WINDOW (R339). -/
def LL_WINDOW (x : Nat) : Obj := ⟨0x12, x, 0x04⟩
/-- LL_REPLAY_LIMIT (R339). -/
def LL_REPLAY_LIMIT (x : Nat) : Obj := ⟨0x12, x, 0x05⟩
/-- LL_BAD_WINDOWS (R339). -/
def LL_BAD_WINDOWS (x : Nat) : Obj := ⟨0x12, x, 0x06⟩
/-- LL_RETRAIN_LIMIT (R339). -/
def LL_RETRAIN_LIMIT (x : Nat) : Obj := ⟨0x12, x, 0x07⟩
/-- LL_RETRAIN_SPAN (R339). -/
def LL_RETRAIN_SPAN (x : Nat) : Obj := ⟨0x12, x, 0x08⟩
/-- LL_HB_PERIOD (R339). -/
def LL_HB_PERIOD (x : Nat) : Obj := ⟨0x12, x, 0x09⟩
/-- LL_HB_MISS (R339). -/
def LL_HB_MISS (x : Nat) : Obj := ⟨0x12, x, 0x0A⟩
/-- LL_MODE (R340). -/
def LL_MODE (l : Nat) : Obj := ⟨0x12, 0x100 + l, 0x00⟩
/-- NEXT_TX (R340). -/
def NEXT_TX (l : Nat) : Obj := ⟨0x12, 0x100 + l, 0x01⟩
/-- UNACKED (R340). -/
def UNACKED (l : Nat) : Obj := ⟨0x12, 0x100 + l, 0x02⟩
/-- NEXT_RX (R340). -/
def NEXT_RX (l : Nat) : Obj := ⟨0x12, 0x100 + l, 0x03⟩
/-- LL_OUTSTANDING (R340). -/
def LL_OUTSTANDING (l : Nat) : Obj := ⟨0x12, 0x100 + l, 0x04⟩
/-- REPLAYS (R340). -/
def REPLAYS (l : Nat) : Obj := ⟨0x12, 0x100 + l, 0x05⟩
/-- REPLAYED (R340). -/
def REPLAYED (l : Nat) : Obj := ⟨0x12, 0x100 + l, 0x06⟩
/-- CRC_ERRORS (R340). -/
def CRC_ERRORS (l : Nat) : Obj := ⟨0x12, 0x100 + l, 0x07⟩
/-- DUPLICATES (R340). -/
def DUPLICATES (l : Nat) : Obj := ⟨0x12, 0x100 + l, 0x08⟩
/-- NAKS_SENT (R340). -/
def NAKS_SENT (l : Nat) : Obj := ⟨0x12, 0x100 + l, 0x09⟩
/-- STALLS (R340). -/
def STALLS (l : Nat) : Obj := ⟨0x12, 0x100 + l, 0x0A⟩
/-- WIN_REPLAYS (R340). -/
def WIN_REPLAYS (l : Nat) : Obj := ⟨0x12, 0x100 + l, 0x0B⟩
/-- BAD_RUN (R340). -/
def BAD_RUN (l : Nat) : Obj := ⟨0x12, 0x100 + l, 0x0C⟩
/-- WORST_WINDOW (R340). -/
def WORST_WINDOW (l : Nat) : Obj := ⟨0x12, 0x100 + l, 0x0D⟩
/-- LL_EVENTS (R340). -/
def LL_EVENTS (l : Nat) : Obj := ⟨0x12, 0x100 + l, 0x0E⟩
/-- D2D_STATE (R341). -/
def D2D_STATE (l : Nat) : Obj := ⟨0x13, l, 0x00⟩
/-- D2D_PEER (R341). -/
def D2D_PEER (l : Nat) : Obj := ⟨0x13, l, 0x01⟩
/-- D2D_CTRL (R341). -/
def D2D_CTRL (l : Nat) : Obj := ⟨0x13, l, 0x02⟩
/-- LANE_RETIRE (R341). -/
def LANE_RETIRE (l : Nat) : Obj := ⟨0x13, l, 0x03⟩
/-- LANE_FAILED (R341). -/
def LANE_FAILED (l : Nat) (k : Nat) : Obj := ⟨0x13, l, 0x04 + k⟩
/-- LANE_RETIRED (R341). -/
def LANE_RETIRED (l : Nat) (k : Nat) : Obj := ⟨0x13, l, 0x07 + k⟩
/-- SPARES_USED (R341). -/
def SPARES_USED (l : Nat) : Obj := ⟨0x13, l, 0x0A⟩
/-- RETRAINS (R341). -/
def RETRAINS (l : Nat) : Obj := ⟨0x13, l, 0x0B⟩
/-- LAST_RETRAIN_AT (R341). -/
def LAST_RETRAIN_AT (l : Nat) : Obj := ⟨0x13, l, 0x0C⟩
/-- SPAN_RETRAINS (R341). -/
def SPAN_RETRAINS (l : Nat) : Obj := ⟨0x13, l, 0x0D⟩
/-- LINK_DELAY (R341). -/
def LINK_DELAY (l : Nat) : Obj := ⟨0x13, l, 0x0E⟩
/-- DOWN_CAUSE (R341). -/
def DOWN_CAUSE (l : Nat) : Obj := ⟨0x13, l, 0x0F⟩
/-- D2D_EVENTS (R341). -/
def D2D_EVENTS (l : Nat) : Obj := ⟨0x13, l, 0x10⟩
/-- NODE_ADDR (R355). -/
def NODE_ADDR : Obj := ⟨0x14, 0, 0x00⟩
/-- IH_RING_STATE (R355). -/
def IH_RING_STATE : Obj := ⟨0x14, 0, 0x01⟩
/-- EP_MIN_SEVERITY (R355). -/
def EP_MIN_SEVERITY : Obj := ⟨0x14, 0, 0x02⟩
/-- EVENT_SEQ (R355). -/
def EVENT_SEQ : Obj := ⟨0x14, 0, 0x03⟩
/-- EP_LOST (R355). -/
def EP_LOST : Obj := ⟨0x14, 0, 0x04⟩
/-- EP_QUEUED (R355). -/
def EP_QUEUED : Obj := ⟨0x14, 0, 0x05⟩
/-- RST_WINDOW (R355). -/
def RST_WINDOW : Obj := ⟨0x14, 0, 0x06⟩
/-- IH_RETRY (R355). -/
def IH_RETRY : Obj := ⟨0x14, 0, 0x07⟩
/-- IH_FORWARDED (R355). -/
def IH_FORWARDED : Obj := ⟨0x14, 0, 0x08⟩
/-- IH_ORPHANS (R355). -/
def IH_ORPHANS : Obj := ⟨0x14, 0, 0x09⟩
/-- IH_REFUSED (R355). -/
def IH_REFUSED : Obj := ⟨0x14, 0, 0x0A⟩
/-- IH_EVENTS (R355). -/
def IH_EVENTS : Obj := ⟨0x14, 0, 0x0B⟩
/-- SEG_STATE (R356). -/
def SEG_STATE (x : Nat) : Obj := ⟨0x14, 1 + x, 0x00⟩
/-- SEG_PEER (R356). -/
def SEG_PEER (x : Nat) : Obj := ⟨0x14, 1 + x, 0x01⟩
/-- SEG_CTRL (R356). -/
def SEG_CTRL (x : Nat) : Obj := ⟨0x14, 1 + x, 0x02⟩
/-- IH_SEG_DOWN_COUNT (R356). -/
def IH_SEG_DOWN_COUNT (x : Nat) : Obj := ⟨0x14, 1 + x, 0x03⟩
/-- SEG_DOWN_AT (R356). -/
def SEG_DOWN_AT (x : Nat) : Obj := ⟨0x14, 1 + x, 0x04⟩
/-- CH_ENABLE (R378). -/
def CH_ENABLE (n : Nat) : Obj := ⟨0x50, n, 0x00⟩
/-- CH_STATE (R378). -/
def CH_STATE (n : Nat) : Obj := ⟨0x50, n, 0x01⟩
/-- CH_PORT (R378). -/
def CH_PORT (n : Nat) : Obj := ⟨0x50, n, 0x02⟩
/-- CH_ILIM (R378). -/
def CH_ILIM (n : Nat) : Obj := ⟨0x50, n, 0x03⟩
/-- CH_SLEW (R378). -/
def CH_SLEW (n : Nat) : Obj := ⟨0x50, n, 0x04⟩
/-- CH_SHUNT (R378). -/
def CH_SHUNT (n : Nat) : Obj := ⟨0x50, n, 0x05⟩
/-- CH_TEMP_SRC (R378). -/
def CH_TEMP_SRC (n : Nat) : Obj := ⟨0x50, n, 0x06⟩
/-- CH_TEMP_USED (R378). -/
def CH_TEMP_USED (n : Nat) : Obj := ⟨0x50, n, 0x07⟩
/-- MODEL_RTH (R378). -/
def MODEL_RTH (n : Nat) : Obj := ⟨0x50, n, 0x08⟩
/-- MODEL_TAU (R378). -/
def MODEL_TAU (n : Nat) : Obj := ⟨0x50, n, 0x09⟩
/-- CH_COND (R378). -/
def CH_COND (n : Nat) : Obj := ⟨0x50, n, 0x0A⟩
/-- CH_VIN (R378). -/
def CH_VIN (n : Nat) : Obj := ⟨0x50, n, 0x0B⟩
/-- CH_VOUT (R378). -/
def CH_VOUT (n : Nat) : Obj := ⟨0x50, n, 0x0C⟩
/-- CH_IOUT (R378). -/
def CH_IOUT (n : Nat) : Obj := ⟨0x50, n, 0x0D⟩
/-- CH_FET_TEMP (R378). -/
def CH_FET_TEMP (n : Nat) : Obj := ⟨0x50, n, 0x0E⟩
/-- CH_TRIP_CAUSE (R378). -/
def CH_TRIP_CAUSE (n : Nat) : Obj := ⟨0x50, n, 0x0F⟩
/-- CH_TRIP_AT (R378). -/
def CH_TRIP_AT (n : Nat) : Obj := ⟨0x50, n, 0x10⟩
/-- CH_DAMAGE_CLEAR (R378). -/
def CH_DAMAGE_CLEAR (n : Nat) : Obj := ⟨0x50, n, 0x11⟩
/-- CH_STATUS (R378). -/
def CH_STATUS (n : Nat) : Obj := ⟨0x50, n, 0x12⟩
/-- CH_PEAK_I (R378). -/
def CH_PEAK_I (n : Nat) : Obj := ⟨0x50, n, 0x13⟩
/-- CH_STARTS (R378). -/
def CH_STARTS (n : Nat) : Obj := ⟨0x50, n, 0x14⟩
/-- CH_TRIPS (R378). -/
def CH_TRIPS (n : Nat) : Obj := ⟨0x50, n, 0x15⟩
/-- CH_EVENTS (R378). -/
def CH_EVENTS (n : Nat) : Obj := ⟨0x50, n, 0x16⟩
/-- CH_PRES_EDGE_AT (R378). -/
def CH_PRES_EDGE_AT (n : Nat) : Obj := ⟨0x50, n, 0x17⟩
/-- TILE_STATE (R379). -/
def TILE_STATE : Obj := ⟨0x51, 0, 0x00⟩
/-- VIN_MIN (R379). -/
def VIN_MIN : Obj := ⟨0x51, 0, 0x01⟩
/-- VIN_MAX (R379). -/
def VIN_MAX : Obj := ⟨0x51, 0, 0x02⟩
/-- VIN_HYST (R379). -/
def VIN_HYST : Obj := ⟨0x51, 0, 0x03⟩
/-- VIN_SETTLE (R379). -/
def VIN_SETTLE : Obj := ⟨0x51, 0, 0x04⟩
/-- INSERT_DELAY (R379). -/
def INSERT_DELAY : Obj := ⟨0x51, 0, 0x05⟩
/-- PG_TIMEOUT (R379). -/
def PG_TIMEOUT : Obj := ⟨0x51, 0, 0x06⟩
/-- PG_MARGIN (R379). -/
def PG_MARGIN : Obj := ⟨0x51, 0, 0x07⟩
/-- COOLDOWN (R379). -/
def COOLDOWN : Obj := ⟨0x51, 0, 0x08⟩
/-- FET_TLIM (R379). -/
def FET_TLIM : Obj := ⟨0x51, 0, 0x09⟩
/-- FET_TRESUME (R379). -/
def FET_TRESUME : Obj := ⟨0x51, 0, 0x0A⟩
/-- MODEL_TREF (R379). -/
def MODEL_TREF : Obj := ⟨0x51, 0, 0x0B⟩
/-- RAMP_MAX (R379). -/
def RAMP_MAX : Obj := ⟨0x51, 0, 0x0C⟩
/-- OFF_DELAY (R379). -/
def OFF_DELAY : Obj := ⟨0x51, 0, 0x0D⟩
/-- DAMAGE_GRACE (R379). -/
def DAMAGE_GRACE : Obj := ⟨0x51, 0, 0x0E⟩
/-- DAMAGE_V (R379). -/
def DAMAGE_V : Obj := ⟨0x51, 0, 0x0F⟩
/-- TILE_TEMP (R379). -/
def TILE_TEMP : Obj := ⟨0x51, 0, 0x10⟩
/-- CH_ON_MASK (R379). -/
def CH_ON_MASK : Obj := ⟨0x51, 0, 0x11⟩
/-- CH_TRIPPED_MASK (R379). -/
def CH_TRIPPED_MASK : Obj := ⟨0x51, 0, 0x12⟩
/-- TILE_EVENTS (R379). -/
def TILE_EVENTS : Obj := ⟨0x51, 0, 0x13⟩
/-- SQ_CMD (R398). -/
def SQ_CMD (n : Nat) : Obj := ⟨0x60, n, 0x00⟩
/-- SQ_STATE (R398). -/
def SQ_STATE (n : Nat) : Obj := ⟨0x60, n, 0x01⟩
/-- SQ_ROLE (R398). -/
def SQ_ROLE (n : Nat) : Obj := ⟨0x60, n, 0x02⟩
/-- SQ_ENTRY (R398). -/
def SQ_ENTRY (n : Nat) : Obj := ⟨0x60, n, 0x03⟩
/-- SQ_START_AT (R398). -/
def SQ_START_AT (n : Nat) : Obj := ⟨0x60, n, 0x04⟩
/-- SQ_STEP_LIMIT (R398). -/
def SQ_STEP_LIMIT (n : Nat) : Obj := ⟨0x60, n, 0x05⟩
/-- SQ_PC (R398). -/
def SQ_PC (n : Nat) : Obj := ⟨0x60, n, 0x06⟩
/-- SQ_FLAGS (R398). -/
def SQ_FLAGS (n : Nat) : Obj := ⟨0x60, n, 0x07⟩
/-- SQ_FAULT (R398). -/
def SQ_FAULT (n : Nat) : Obj := ⟨0x60, n, 0x08⟩
/-- SQ_LAST_STATUS (R398). -/
def SQ_LAST_STATUS (n : Nat) : Obj := ⟨0x60, n, 0x09⟩
/-- SQ_EVT (R398). -/
def SQ_EVT (n : Nat) : Obj := ⟨0x60, n, 0x0A⟩
/-- SQ_VALID (R398). -/
def SQ_VALID (n : Nat) : Obj := ⟨0x60, n, 0x0B⟩
/-- SQ_PROG_CRC (R398). -/
def SQ_PROG_CRC (n : Nat) : Obj := ⟨0x60, n, 0x0C⟩
/-- SQ_RUNS (R398). -/
def SQ_RUNS (n : Nat) : Obj := ⟨0x60, n, 0x0D⟩
/-- SQ_FAULTS (R398). -/
def SQ_FAULTS (n : Nat) : Obj := ⟨0x60, n, 0x0E⟩
/-- SQ_BIND (R398). -/
def SQ_BIND (n : Nat) (k : Nat) : Obj := ⟨0x60, n, 0x10 + k⟩
/-- SQ_REG (R398). -/
def SQ_REG (n : Nat) (k : Nat) : Obj := ⟨0x60, n, 0x18 + k⟩
/-- CC_ACTIVATE (R399). -/
def CC_ACTIVATE : Obj := ⟨0x61, 0, 0x00⟩
/-- CC_ACT_STATUS (R399). -/
def CC_ACT_STATUS : Obj := ⟨0x61, 0, 0x01⟩
/-- CC_STAGED_VERSION (R399). -/
def CC_STAGED_VERSION : Obj := ⟨0x61, 0, 0x02⟩
/-- CC_MIN_SVN (R399). -/
def CC_MIN_SVN : Obj := ⟨0x61, 0, 0x03⟩
/-- CC_WDT_PERIOD (R399). -/
def CC_WDT_PERIOD : Obj := ⟨0x61, 0, 0x04⟩
/-- CC_EVENTS (R399). -/
def CC_EVENTS : Obj := ⟨0x61, 0, 0x05⟩
/-- CC_STATE (R400). -/
def CC_STATE (d : Nat) : Obj := ⟨0x61, 1 + d, 0x00⟩
/-- CC_FW_VERSION (R400). -/
def CC_FW_VERSION (d : Nat) : Obj := ⟨0x61, 1 + d, 0x01⟩
/-- CC_LOCKSTEP_ERRORS (R400). -/
def CC_LOCKSTEP_ERRORS (d : Nat) : Obj := ⟨0x61, 1 + d, 0x02⟩
/-- CC_WDT_EXPIRIES (R400). -/
def CC_WDT_EXPIRIES (d : Nat) : Obj := ⟨0x61, 1 + d, 0x03⟩
/-- FS_SEVERITY (R420). -/
def FS_SEVERITY (x : Nat) : Obj := ⟨0x40, x, 0x00⟩
/-- FS_REACTION (R420). -/
def FS_REACTION (x : Nat) : Obj := ⟨0x40, x, 0x01⟩
/-- FS_RATE_LIMIT (R420). -/
def FS_RATE_LIMIT (x : Nat) : Obj := ⟨0x40, x, 0x02⟩
/-- FS_COUNT (R420). -/
def FS_COUNT (x : Nat) : Obj := ⟨0x40, x, 0x03⟩
/-- FS_PENDING (R420). -/
def FS_PENDING (x : Nat) : Obj := ⟨0x40, x, 0x04⟩
/-- FS_CAP_VALID (R420). -/
def FS_CAP_VALID (x : Nat) : Obj := ⟨0x40, x, 0x05⟩
/-- FS_CAP_ADDR (R420). -/
def FS_CAP_ADDR (x : Nat) : Obj := ⟨0x40, x, 0x06⟩
/-- FS_CAP_MASTER (R420). -/
def FS_CAP_MASTER (x : Nat) : Obj := ⟨0x40, x, 0x07⟩
/-- FS_CAP_TYPE (R420). -/
def FS_CAP_TYPE (x : Nat) : Obj := ⟨0x40, x, 0x08⟩
/-- FS_CAP_STAMP (R420). -/
def FS_CAP_STAMP (x : Nat) : Obj := ⟨0x40, x, 0x09⟩
/-- FS_CAP_CHANNEL (R420). -/
def FS_CAP_CHANNEL (x : Nat) : Obj := ⟨0x40, x, 0x0A⟩
/-- FS_CAP_SEVERITY (R420). -/
def FS_CAP_SEVERITY (x : Nat) : Obj := ⟨0x40, x, 0x0B⟩
/-- FS_LATER (R420). -/
def FS_LATER (x : Nat) : Obj := ⟨0x40, x, 0x0C⟩
/-- FS_LAST_STAMP (R420). -/
def FS_LAST_STAMP (x : Nat) : Obj := ⟨0x40, x, 0x0D⟩
/-- FC_STATE (R421). -/
def FC_STATE : Obj := ⟨0x41, 0, 0x00⟩
/-- FC_WINDOW (R421). -/
def FC_WINDOW : Obj := ⟨0x41, 0, 0x01⟩
/-- FC_WORST (R421). -/
def FC_WORST : Obj := ⟨0x41, 0, 0x02⟩
/-- FC_FIRST_SOURCE (R421). -/
def FC_FIRST_SOURCE : Obj := ⟨0x41, 0, 0x03⟩
/-- FC_FIRST_STAMP (R421). -/
def FC_FIRST_STAMP : Obj := ⟨0x41, 0, 0x04⟩
/-- FC_FIRST_CHANNEL (R421). -/
def FC_FIRST_CHANNEL : Obj := ⟨0x41, 0, 0x05⟩
/-- FC_WINDOW_RAISES (R421). -/
def FC_WINDOW_RAISES : Obj := ⟨0x41, 0, 0x06⟩
/-- FC_SAFE_CAUSE (R421). -/
def FC_SAFE_CAUSE : Obj := ⟨0x41, 0, 0x07⟩
/-- FC_SAFE_SOURCE (R421). -/
def FC_SAFE_SOURCE : Obj := ⟨0x41, 0, 0x08⟩
/-- FC_SAFE_AT (R421). -/
def FC_SAFE_AT : Obj := ⟨0x41, 0, 0x09⟩
/-- FC_ENTER_SAFE (R421). -/
def FC_ENTER_SAFE : Obj := ⟨0x41, 0, 0x0A⟩
/-- FC_ESCALATIONS (R421). -/
def FC_ESCALATIONS : Obj := ⟨0x41, 0, 0x0B⟩
/-- FC_RETIRED (R421). -/
def FC_RETIRED : Obj := ⟨0x41, 0, 0x0C⟩
/-- FD_RAISES (R422). -/
def FD_RAISES (d : Nat) : Obj := ⟨0x41, 1 + d, 0x00⟩
/-- FD_REACT_DEPTH (R422). -/
def FD_REACT_DEPTH (d : Nat) : Obj := ⟨0x41, 1 + d, 0x01⟩
/-- FD_REACT_PEAK (R422). -/
def FD_REACT_PEAK (d : Nat) : Obj := ⟨0x41, 1 + d, 0x02⟩
/-- FD_NOTICE_PENDING (R422). -/
def FD_NOTICE_PENDING (d : Nat) : Obj := ⟨0x41, 1 + d, 0x03⟩
/-- FD_NOTICE_LOST (R422). -/
def FD_NOTICE_LOST (d : Nat) : Obj := ⟨0x41, 1 + d, 0x04⟩
/-- MX_ACTIVE (R423). -/
def MX_ACTIVE : Obj := ⟨0x42, 0, 0x00⟩
/-- MX_REFUSED (R423). -/
def MX_REFUSED : Obj := ⟨0x42, 0, 0x01⟩
/-- MX_LAST_REFUSED (R423). -/
def MX_LAST_REFUSED : Obj := ⟨0x42, 0, 0x02⟩
/-- RET_CLEAR (R423). -/
def RET_CLEAR : Obj := ⟨0x42, 0, 0x03⟩
/-- MX_ROW (R423). -/
def MX_ROW (k : Nat) : Obj := ⟨0x42, 0, 0x10 + k⟩
/-- MODE (R441). -/
def MODE : Obj := ⟨0x01, 0, 0x00⟩
/-- MODE_REQUEST (R441). -/
def MODE_REQUEST : Obj := ⟨0x01, 0, 0x01⟩
/-- MODE_STATUS (R441). -/
def MODE_STATUS : Obj := ⟨0x01, 0, 0x02⟩
/-- MODE_PREV (R441). -/
def MODE_PREV : Obj := ⟨0x01, 0, 0x03⟩
/-- MODE_CHANGED_AT (R441). -/
def MODE_CHANGED_AT : Obj := ⟨0x01, 0, 0x04⟩
/-- MODE_CHANGES (R441). -/
def MODE_CHANGES : Obj := ⟨0x01, 0, 0x05⟩
/-- BOOT_MODE (R441). -/
def BOOT_MODE : Obj := ⟨0x01, 0, 0x06⟩
/-- INIT_STATUS (R441). -/
def INIT_STATUS : Obj := ⟨0x01, 0, 0x07⟩
/-- INIT_LIMIT (R441). -/
def INIT_LIMIT : Obj := ⟨0x01, 0, 0x08⟩
/-- DRAIN_IDLE (R441). -/
def DRAIN_IDLE : Obj := ⟨0x01, 0, 0x09⟩
/-- RAIL_STATE (R441). -/
def RAIL_STATE : Obj := ⟨0x01, 0, 0x0A⟩
/-- LAST_RESET (R442). -/
def LAST_RESET : Obj := ⟨0x02, 0, 0x00⟩
/-- LAST_RESET_AT (R442). -/
def LAST_RESET_AT : Obj := ⟨0x02, 0, 0x01⟩
/-- WARM_COUNT (R442). -/
def WARM_COUNT : Obj := ⟨0x02, 0, 0x02⟩
/-- PKG_RESET (R442). -/
def PKG_RESET : Obj := ⟨0x02, 0, 0x03⟩
/-- RESET_ACTIVE (R442). -/
def RESET_ACTIVE : Obj := ⟨0x02, 0, 0x04⟩
/-- DIE_RESET (R443). -/
def DIE_RESET (d : Nat) : Obj := ⟨0x02, 1 + d, 0x00⟩
/-- BLOCK_IDLE (R443). -/
def BLOCK_IDLE (d : Nat) : Obj := ⟨0x02, 1 + d, 0x01⟩
/-- BLOCK_RESET (R443). -/
def BLOCK_RESET (d : Nat) : Obj := ⟨0x02, 1 + d, 0x02⟩
/-- DOMAIN_STATE (R443). -/
def DOMAIN_STATE (d : Nat) : Obj := ⟨0x02, 1 + d, 0x03⟩
/-- CLOCK_LOCK (R443). -/
def CLOCK_LOCK (d : Nat) : Obj := ⟨0x02, 1 + d, 0x04⟩
/-- UNLOCK_COUNT (R443). -/
def UNLOCK_COUNT (d : Nat) : Obj := ⟨0x02, 1 + d, 0x05⟩
/-- SEC_STATE (R469). -/
def SEC_STATE : Obj := ⟨0x04, 0, 0x00⟩
/-- SEC_PENDING (R469). -/
def SEC_PENDING : Obj := ⟨0x04, 0, 0x01⟩
/-- RMA_ENTER (R469). -/
def RMA_ENTER : Obj := ⟨0x04, 0, 0x02⟩
/-- IHLOD_RESET (R469). -/
def IHLOD_RESET : Obj := ⟨0x04, 0, 0x03⟩
/-- FW_KEY_ID (R469). -/
def FW_KEY_ID : Obj := ⟨0x04, 0, 0x04⟩
/-- SPDM_SESSIONS (R469). -/
def SPDM_SESSIONS : Obj := ⟨0x04, 0, 0x05⟩
/-- SEC_EVENTS (R469). -/
def SEC_EVENTS : Obj := ⟨0x04, 0, 0x06⟩
/-- IDE_KEYS (R470). -/
def IDE_KEYS (p : Nat) : Obj := ⟨0x04, 0x100 + p, 0x00⟩
/-- IDE_KEY_CMD (R470). -/
def IDE_KEY_CMD (p : Nat) : Obj := ⟨0x04, 0x100 + p, 0x01⟩
/-- IDE_PEER_DIGEST (R470). -/
def IDE_PEER_DIGEST (p : Nat) : Obj := ⟨0x04, 0x100 + p, 0x02⟩
/-- IDE_LAST_FAIL (R470). -/
def IDE_LAST_FAIL (p : Nat) : Obj := ⟨0x04, 0x100 + p, 0x08⟩
/-- IDE_REFRESHES (R470). -/
def IDE_REFRESHES (p : Nat) : Obj := ⟨0x04, 0x100 + p, 0x09⟩
/-- DBG_LEVEL (R471). -/
def DBG_LEVEL : Obj := ⟨0x05, 0, 0x00⟩
/-- DBG_MAX_LEVEL (R471). -/
def DBG_MAX_LEVEL : Obj := ⟨0x05, 0, 0x01⟩
/-- DBG_CHALLENGE (R471). -/
def DBG_CHALLENGE : Obj := ⟨0x05, 0, 0x02⟩
/-- DBG_AUTH (R471). -/
def DBG_AUTH : Obj := ⟨0x05, 0, 0x06⟩
/-- DBG_CLOSE (R471). -/
def DBG_CLOSE : Obj := ⟨0x05, 0, 0x07⟩
/-- DBG_AUTH_FAILS (R471). -/
def DBG_AUTH_FAILS : Obj := ⟨0x05, 0, 0x08⟩
/-- DBG_LOCKOUT_UNTIL (R471). -/
def DBG_LOCKOUT_UNTIL : Obj := ⟨0x05, 0, 0x09⟩
/-- DBG_CREDENTIAL (R471). -/
def DBG_CREDENTIAL : Obj := ⟨0x05, 0, 0x0A⟩
/-- DBG_LEVEL_AT (R471). -/
def DBG_LEVEL_AT : Obj := ⟨0x05, 0, 0x0B⟩
/-- DBG_REFUSED (R471). -/
def DBG_REFUSED : Obj := ⟨0x05, 0, 0x0C⟩
/-- DBG_SIG_R (R471). -/
def DBG_SIG_R (k : Nat) : Obj := ⟨0x05, 0, 0x10 + k⟩
/-- DBG_SIG_S (R471). -/
def DBG_SIG_S (k : Nat) : Obj := ⟨0x05, 0, 0x16 + k⟩
/-- DBG_PUBKEY_X (R471). -/
def DBG_PUBKEY_X (k : Nat) : Obj := ⟨0x05, 0, 0x20 + k⟩
/-- DBG_PUBKEY_Y (R471). -/
def DBG_PUBKEY_Y (k : Nat) : Obj := ⟨0x05, 0, 0x26 + k⟩
/-- MPU_LO (R472). -/
def MPU_LO (m : Nat) (k : Nat) : Obj := ⟨0x06, m, 0x00 + k⟩
/-- MPU_HI (R472). -/
def MPU_HI (m : Nat) (k : Nat) : Obj := ⟨0x06, m, 0x20 + k⟩
/-- MPU_ATTR (R472). -/
def MPU_ATTR (m : Nat) (k : Nat) : Obj := ⟨0x06, m, 0x40 + k⟩
/-- MPU_MASTER (R472). -/
def MPU_MASTER (m : Nat) : Obj := ⟨0x06, m, 0x60⟩
/-- MPU_REFUSED_COUNT (R472). -/
def MPU_REFUSED_COUNT (m : Nat) : Obj := ⟨0x06, m, 0x61⟩
/-- MPU_LAST_ADDR (R472). -/
def MPU_LAST_ADDR (m : Nat) : Obj := ⟨0x06, m, 0x62⟩
/-- LOCK_L1_REGIONS (R474). -/
def LOCK_L1_REGIONS : Obj := ⟨0x06, 0x100, 0x00⟩
/-- LOCK_L2_REGIONS (R474). -/
def LOCK_L2_REGIONS : Obj := ⟨0x06, 0x100, 0x01⟩
/-- PC_SNAP_AT (R482). -/
def PC_SNAP_AT : Obj := ⟨0x48, 0, 0x00⟩
/-- PC_SNAP_PERIOD (R482). -/
def PC_SNAP_PERIOD : Obj := ⟨0x48, 0, 0x01⟩
/-- PC_SNAP_CLEAR (R482). -/
def PC_SNAP_CLEAR : Obj := ⟨0x48, 0, 0x02⟩
/-- PC_LAST_SNAP_AT (R482). -/
def PC_LAST_SNAP_AT : Obj := ⟨0x48, 0, 0x03⟩
/-- PC_SNAP_COUNT (R482). -/
def PC_SNAP_COUNT : Obj := ⟨0x48, 0, 0x04⟩
/-- PC_SELECT (R483). -/
def PC_SELECT (d : Nat) (n : Nat) : Obj := ⟨0x48, 0x100 + d * 64 + n, 0x00⟩
/-- PC_VALUE (R483). -/
def PC_VALUE (d : Nat) (n : Nat) : Obj := ⟨0x48, 0x100 + d * 64 + n, 0x01⟩
/-- PC_SNAP (R483). -/
def PC_SNAP (d : Nat) (n : Nat) : Obj := ⟨0x48, 0x100 + d * 64 + n, 0x02⟩
/-- PC_OVF (R483). -/
def PC_OVF (d : Nat) (n : Nat) : Obj := ⟨0x48, 0x100 + d * 64 + n, 0x03⟩
/-- PC_CLEAR (R483). -/
def PC_CLEAR (d : Nat) (n : Nat) : Obj := ⟨0x48, 0x100 + d * 64 + n, 0x04⟩
/-- TC_SELECT (R484). -/
def TC_SELECT (t : Nat) (k : Nat) : Obj := ⟨0x48, 0x400 + t, 0x00 + 4 * k⟩
/-- TC_VALUE (R484). -/
def TC_VALUE (t : Nat) (k : Nat) : Obj := ⟨0x48, 0x400 + t, 0x01 + 4 * k⟩
/-- TC_SNAP (R484). -/
def TC_SNAP (t : Nat) (k : Nat) : Obj := ⟨0x48, 0x400 + t, 0x02 + 4 * k⟩
/-- TC_OVF (R484). -/
def TC_OVF (t : Nat) : Obj := ⟨0x48, 0x400 + t, 0x20⟩
/-- TC_CLEAR (R484). -/
def TC_CLEAR (t : Nat) : Obj := ⟨0x48, 0x400 + t, 0x21⟩
/-- USER_READ (R484). -/
def USER_READ (t : Nat) : Obj := ⟨0x48, 0x400 + t, 0x22⟩

end O

end Sys2Proof.Machine
end

