-- ==== Sys2Proof/Machine/State.lean ====
section
/-! DEFINITION. The block's whole state as plain data: the object store, the addressed memories, the state that each
chapter gives its units, the messages the block has sent out, and the queue of commands that are waiting. -/
namespace Sys2Proof.Machine

/-- Why a command stops with a fault. -/
inductive Fault where
  /-- Raised by any meaning whose operand names a die, port, link, channel, queue or other unit that the variant does
  not have (R2, R33): an address that does not exist. Safe: nothing is claimed of such a command. -/
  | noSuchUnit
  deriving DecidableEq, Repr

/-- Why a command is refused. -/
inductive Refusal where
  /-- Answered only by an arm of the dispatch whose command has no meaning yet. Safe: nothing is claimed of it. -/
  | notModelled (mnemonic : String)
  deriving DecidableEq, Repr

/-! ## The dictionary (R35, R51 to R57) -/

/-- A tenant mailbox (R35). `op` is the operation started by the MBX_OP write: 1 read, 2 write; `since` is the core cycle of that
write, by which R40 orders the accesses that wait at a die. -/
structure Mailbox where
  object : Nat := 0
  value : Nat := 0
  op : Nat := 0
  busy : Bool := false
  status : Nat := 0
  since : Nat := 0
  deriving DecidableEq, Repr, Inhabited

/-- A data port instance beside its objects (R53, R54): the start offset, the next slot of the burst, the running CRC-32C
register, and the words of the set or record that a DUMP is reading whole, with the offset where they begin (R183, R230). -/
structure DataPort where
  start : Nat := 0
  slot : Nat := 0
  crc : Nat := 0
  snap : List Nat := []
  snapAt : Nat := 0
  deriving DecidableEq, Repr, Inhabited

/-- A range of a space marked invalid by a LOAD that was stopped (R57). -/
structure BadRange where
  space : Nat
  start : Nat
  length : Nat
  deriving DecidableEq, Repr

/-- Dictionary state beside the objects: the mailboxes, the data ports, the ranges marked invalid, and the instant of the FM-API
bind or unbind in progress (R115). -/
structure DictSt where
  mailbox : Table Mailbox := []
  port : Table DataPort := []
  invalid : List BadRange := []
  fmBind : Option Nat := none
  deriving DecidableEq, Repr, Inhabited

/-! ## Fabric time (R58 to R66) -/

/-- A die's copy of time: its FT_NOW and sub-tick count, the model's count of the ticks that have passed on the die
whatever its copy read, whether the copy runs unloaded, the ticks since its last sync message, and its skew flag. -/
structure DieTime where
  now : Nat := 0
  sub : Nat := 0
  elapsed : Nat := 0
  loaded : Bool := false
  flagged : Bool := false
  lastSync : Nat := 0
  deriving DecidableEq, Repr, Inhabited

/-- The time state of the package (R62 to R66). `windowAt` is die 0's elapsed tick at which the latest window of R64 ended. -/
structure ClkSt where
  die : Table DieTime := []
  refEdges : Bool := false
  refGood : Bool := false
  goodWindows : Nat := 0
  windowSpoilt : Bool := false
  windowAt : Nat := 0
  todValue : Nat := 0
  todAt : Nat := 0
  acquiringFrom : Nat := 0
  slewLeft : Int := 0
  slewAt : Nat := 0
  syncSeen : Nat := 0
  syncMissed : Bool := false
  lockedSince : Nat := 0
  dieHoldover : Bool := false
  deriving DecidableEq, Repr, Inhabited

/-! ## Transactions (R71 to R84) -/

/-- One staged write: an object and its value; the slots of an OCTETS object are kept together. -/
structure Staged where
  obj : Nat
  values : List Nat
  deriving DecidableEq, Repr

/-- An interface's transaction beside its objects: the staged set in staging order, the READY limit it took, and the
read set its validation consulted (R75). -/
structure TxInst where
  staged : List Staged := []
  readSet : List Nat := []
  implicit : List Nat := []
  readyLimit : Nat := 0
  prepareAt : Nat := 0
  deriving DecidableEq, Repr, Inhabited

/-! ## Faults (R401 to R423) -/

/-- A tracked pair of source and channel with the stamps of its raises, newest first (R406). -/
structure RaisePair where
  source : Nat
  channel : Nat
  stamps : List Nat
  deriving DecidableEq, Repr

/-- A RECOVER or CONTAIN raise remembered for a channel, with its stamp (R406). -/
structure RecoverNote where
  channel : Nat
  stamp : Nat
  deriving DecidableEq, Repr

/-- An entry of a reaction queue (R410). -/
structure Reaction where
  seq : Nat
  source : Nat
  severity : Nat
  channel : Nat
  stamp : Nat
  deriving DecidableEq, Repr

/-- A FAULT_NOTICE a die holds until it is acknowledged (R407, R330): its destination, what it carries, when it was last sent
(none where it waits for a place), and whether the destination has handled it. -/
structure Notice where
  dst : Nat
  source : Nat
  severity : Nat
  stamp : Nat
  channel : Nat
  serial : Nat
  sentAt : Option Nat
  handled : Bool
  deriving DecidableEq, Repr

/-- A die's collector beside its objects. -/
structure Collector where
  pairs : List RaisePair := []
  recover : List RecoverNote := []
  queue : List Reaction := []
  notices : List Notice := []
  serial : Nat := 0
  deriving DecidableEq, Repr, Inhabited

/-- The collectors; the TICK of the latest raise that keeps the recovery window open; the channels retired now (R412); and the
dies that the decision for SAFE has not reached yet, with the elapsed tick by which each enters it all the same (R417). -/
structure FaultSt where
  die : Table Collector := []
  windowTick : Nat := 0
  retired : List Nat := []
  safeWait : List Nat := []
  safeBy : Table Nat := []
  deriving DecidableEq, Repr, Inhabited

/-! ## Reset, clocks and modes (R424 to R443) -/

/-- An asserted reset source: its code of R427, the die and domain it names (where it names one), and the die-0
elapsed tick of its assertion. -/
structure ResetSource where
  code : Nat
  die : Nat
  dom : Nat
  since : Nat
  deriving DecidableEq, Repr

/-- A PLL: running, locked, and stable after 64 reference cycles (R425). -/
structure Pll where
  run : Bool := false
  since : Nat := 0
  stable : Bool := false
  unstable : Bool := false
  deriving DecidableEq, Repr, Inhabited

/-- A reset domain of a die: released, and the elapsed tick of its release (R426, R430). -/
structure Domain where
  running : Bool := false
  since : Nat := 0
  deriving DecidableEq, Repr, Inhabited

/-- Reset and mode state beside the objects: the sources asserted, PLLs by 16 × die + number and domains by 10 × die + number,
the rails, an accepted mode change that waits, what INIT has done on each die and since when, the dies that run INIT's steps for
themselves (R432), the mode DRAIN came from, and the package-wide sources asserted since none was. -/
structure RstSt where
  sources : List ResetSource := []
  pll : Table Pll := []
  domain : Table Domain := []
  auxRails : Bool := false
  mainRails : Bool := false
  pendingMode : Option Nat := none
  pendingAt : Nat := 0
  initAt : Nat := 0
  initTested : Table Bool := []
  initCleared : Table Bool := []
  dieInit : Table Bool := []
  drainFrom : Nat := 0
  episode : List Nat := []
  deriving DecidableEq, Repr, Inhabited

/-! ## Messages (R25, R101, R156) -/

/-- The kind of a request as its completion depends on it: a read, a write, another request that a Cmp completes, a
MemSpecRd that nothing completes (R503), an AtomicOp, a CXL.io non-posted request and a posted one. -/
inductive ReqKind where
  | read | write | other | specRd | atomic | ioNp | ioPosted
  deriving DecidableEq, Repr, Inhabited

/-- Who waits for the completion of a request: a tracker of an ingress die, a home transaction's read or write, a
mover line, an apply write of a group, a private atomic, a bound host for CXL.io, the debug access port, or nobody. -/
inductive Owner where
  | none
  | tracker (die slot : Nat)
  | homeRead (die txn : Nat)
  | homeWrite (die txn : Nat)
  | mover (die engine line : Nat)
  | apply (host slot line : Nat)
  | atomicRead (die n : Nat)
  | atomicWrite (die n : Nat)
  | mirror (die n : Nat)
  | host (host tag : Nat)
  | debug
  deriving DecidableEq, Repr, Inhabited

/-- What a queued message is: a request; data, or a completion without data, for a host with the state it grants
(0 none, 1 Cmp-S, 2 Cmp-E); a back-invalidate snoop (0 Inv, 1 Data, 2 Cur); a conflict acknowledgement; a CXL.io
completion with its status; a snoop answer or a BIConflict for a device; or a CXL.cache message. -/
inductive MsgType where
  | req
  | data (grant : Nat)
  | cmp (grant : Nat)
  | bisnp (snoop : Nat)
  | conflictAck
  | ioCpl (status : Nat)
  | birsp (answer : Nat)
  | biConflict
  | cache
  deriving DecidableEq, Repr, Inhabited

/-- A message in an egress queue or a tag slot. `channel` is the CHANNEL code of R229. `data` is the line as one
number, byte 0 least significant; `mask` has one bit for each byte written. `charge` is in bytes (R240), `since` the
timestamp of the enqueue and `origin` the origin stamp of R226. `epoch` is the epoch of its translation, once that has run (R136), and
`device` the address at which a device performs an AtomicOp (R173). Of a device's snoop and its answer `drops` is the count of drops of
the device's link (R102), `home` is the home die plus one of a message that a home
sends to a host (R155), and `up` the number plus one of a device's request among those not completed (R273). -/
structure Msg where
  type : MsgType := .req
  kind : ReqKind := .read
  opcode : Nat := 0
  channel : Nat := 0
  owner : Owner := .none
  host : Nat := 0xFF
  tenant : Nat := 0xFFFF
  fa : Nat := 0
  hasFa : Bool := false
  hpa : Nat := 0
  dpa : Nat := 0
  ld : Nat := 0
  tag : Nat := 0
  data : Nat := 0
  mask : Nat := 0
  poison : Bool := false
  colour : Nat := 0
  metered : Bool := false
  cls : Nat := 0
  charge : Nat := 64
  since : Nat := 0
  origin : Nat := 0
  aliasNo : Nat := 0
  mcast : Bool := false
  epoch : Option Nat := none
  device : Option Nat := none
  cell : Nat := 0
  mig : Option Nat := none
  line : Nat := 0
  len : Nat := 0
  drops : Nat := 0
  home : Nat := 0
  up : Nat := 0
  deriving DecidableEq, Repr, Inhabited

/-! ## Ports (R86 to R109) -/

/-- A port beside its objects: its pins (`prsntLow` that PRSNT_N is low, `present` that presence is declared), the hot-plug
sequence, the training attempt and the time out of L0, and the settings that the latest attempt took (R107). Ticks are the elapsed
ticks of the port's die. `ltssm` is a code of R501, or 0x100 in training and 0x101 in Recovery, with `phase` the number of the free
values by which the state then moves. `drops` counts the drops of the link, and `uncorr` holds the lanes to which uncorrectable flits have
been attributed since the link came up or last entered Recovery (R403). `cfg` holds the registers of the port's CXL.io functions, `doeIn` and `doeOut` the words of the
objects in its DOE mailbox (R106). -/
structure Port where
  perstIn : Bool := false
  perstOut : Bool := true
  prsntLow : Bool := false
  present : Bool := false
  enabled : Bool := false
  want : Bool := false
  seqAt : Option Nat := none
  attemptAt : Option Nat := none
  pauseAt : Option Nat := none
  outSince : Option Nat := none
  fails : Nat := 0
  ltssm : Nat := 0
  phase : Nat := 0
  maxRate : Nat := 0x80
  minWidth : Nat := 4
  sris : Nat := 0
  cmdDisabled : Bool := false
  drops : Nat := 0
  uncorr : List Nat := []
  cfg : Table Nat := []
  doeIn : List Nat := []
  doeOut : List Nat := []
  deriving DecidableEq, Repr, Inhabited

/-- A tag slot of a downstream port (R101): 0 free, 1 outstanding, 2 quarantined; `held` marks a slot quarantined by
its completion timer, which a late response frees (R103); `upAt` is when the port first reached UP after a drop quarantined it. -/
structure TagSlot where
  state : Nat := 0
  epoch : Nat := 0
  msg : Msg := {}
  sentAt : Nat := 0
  held : Bool := false
  upAt : Option Nat := none
  deriving DecidableEq, Repr, Inhabited

/-- Port state beside the objects; a tag slot's key is 4,096 × port + slot. `margin` lists the lanes whose margining
command awaits its response (R109). -/
structure PortSt where
  port : Table Port := []
  tag : Table TagSlot := []
  margin : List Nat := []
  deriving DecidableEq, Repr, Inhabited

/-! ## Translation results (R119, R123, R135) -/

/-- Where a fabric address lies on a device: port, LD, DPA, its extent's REGION, the migration slot of a granule that is MIGRATING,
and whether that slot mirrored writes when the address was translated (R140). -/
structure Target where
  port : Nat := 0
  ld : Nat := 0
  dpa : Nat := 0
  region : Nat := 0
  mig : Option Nat := none
  mirror : Bool := false
  deriving DecidableEq, Repr, Inhabited

/-- What the decoder stage makes of an address of a host (R119, R121, R272): the decoder and the tenant, whether DEC_ADMIT or T_ADMIT
turned it away, whether it is unmapped so far, the vPPB and binding of a VPPB-kind decoder, and the fabric address and alias of a
FABRIC-kind one. -/
structure Route where
  dec : Option Nat := none
  tenant : Nat := 0xFFFF
  closed : Bool := false
  shut : Bool := false
  unmapped : Bool := false
  vppb : Option Nat := none
  bind : Nat := 0
  fa : Option (Nat × Nat) := none
  deriving DecidableEq, Repr, Inhabited

/-! ## Request trackers (R26, R27) -/

/-- A CXL.mem request as a host port accepted it: the message, its MetaValue (0 I, 1 A, 2 S), the tag the host gave, whether it
is of the eviction and writeback class (R27), and the error that reading a staging line for it shows (R213). -/
structure HostReq where
  port : Nat := 0
  op : MemOp := .memRd
  meta_ : Nat := 0
  hpa : Nat := 0
  tag : Nat := 0
  data : Nat := 0
  mask : Nat := 0
  poison : Bool := false
  cell : Nat := 0
  origin : Nat := 0
  evict : Bool := false
  err : Nat := 0
  deriving DecidableEq, Repr, Inhabited

/-- A request tracker: allocated, its class, the request, the decoder and vPPB it went through, the bind epoch it
carries, whether it is a shared-region request, whether its answer is discarded (R104) or on its way, its colour, and what the decoder
stage and the meter stage gave it (R70): its route and its class. -/
structure Tracker where
  busy : Bool := false
  evict : Bool := false
  req : HostReq := {}
  host : Nat := 0
  tenant : Nat := 0xFFFF
  fa : Nat := 0
  aliasNo : Nat := 0
  dec : Option Nat := none
  vppb : Option Nat := none
  epoch : Nat := 0
  shared : Bool := false
  discard : Bool := false
  answered : Bool := false
  colour : Nat := 0
  metered : Bool := false
  coloured : Bool := false
  route : Route := {}
  cls : Nat := 0
  deriving DecidableEq, Repr, Inhabited

/-- A write sent to the source and the destination of a migrating granule (R140): what the source's completion was, synthesised for the
reason `why`, or answered with an error. -/
structure MirrorWrite where
  owner : Owner := .none
  slot : Nat := 0
  srcDone : Bool := false
  dstDone : Bool := false
  synthetic : Bool := false
  why : Nat := 0
  poison : Bool := false
  deriving DecidableEq, Repr, Inhabited

/-- A BISnp delivered to a host that it has not answered: from the home of a region or from a device (R27), with the drops of that
device's link when it was sent (R102). -/
structure Delivered where
  port : Nat
  hpa : Nat
  fromDevice : Bool
  device : Nat
  drops : Nat := 0
  deriving DecidableEq, Repr

/-! ## Maps and migration (R123 to R145) -/

/-- A bad copy of a map entry (R127). -/
structure BadEntry where
  die : Nat
  granule : Bool
  index : Nat
  since : Nat
  deriving DecidableEq, Repr

/-- A migration slot beside its objects: the range held while DRAINING and the epoch of the flip (R142). -/
structure MigSlot where
  held : Nat := 0
  epoch : Nat := 0
  source : Nat := 0
  lines : List Nat := []
  engine : Option Nat := none
  deriving DecidableEq, Repr, Inhabited

/-! ## The directory (R146 to R187) -/

/-- The classes of R160, and the switch-originated transactions of R156. -/
inductive HomeClass where
  | rdS | rdOwn | rdCur | upgrade | cleanEvict | memWrite | atomic | specRd | bad
  | mark | claim | pin | unpin | cancel | applyWrite | sweep | moverWrite | moverRead
  deriving DecidableEq, Repr, Inhabited

/-- An AtomicOp (R171): 0 FetchAdd, 1 Swap, 2 CAS; its size in bytes and its operands. -/
structure AtomicOp where
  op : Nat := 0
  size : Nat := 4
  operand : Nat := 0
  compare : Nat := 0
  deriving DecidableEq, Repr, Inhabited

/-- A request at a home die. `port` is the number it has in the bank's rotation (R156), 128 for the switch's own.
`full` marks a whole line, `hosts` the hosts a sweep recalls, `arrived` the stamp of its arrival, `returns` how often its
allocation was returned (R176), `cell` the cell that holds it, `target` and `epoch` what its translation gave (R123, R136), and
`asksData` that its refusal is data with poison (R149). -/
structure HomeReq where
  cls : HomeClass := .rdS
  die : Nat := 0
  line : Nat := 0
  host : Nat := 0xFF
  port : Nat := 128
  tenant : Nat := 0xFFFF
  tcls : Nat := 0
  colour : Nat := 0
  owner : Owner := .none
  meta_ : Nat := 0
  data : Nat := 0
  mask : Nat := 0
  poison : Bool := false
  full : Bool := true
  hosts : Nat := 0
  atomic : AtomicOp := {}
  slot : Nat := 0
  gen : Nat := 0
  stamp : Nat := 0
  arrived : Nat := 0
  returns : Nat := 0
  cell : Nat := 0
  target : Option Target := none
  epoch : Option Nat := none
  asksData : Bool := false
  deriving DecidableEq, Repr, Inhabited

/-- A directory entry (R153). `held` keeps the way for a transaction that has allocated it (R175). -/
structure DirEntry where
  fold : Nat := 0
  pin : Nat := 0
  tag : Nat := 0
  state : Nat := 0
  owner : Nat := 0
  sharers : Nat := 0
  held : Bool := false
  deriving DecidableEq, Repr, Inhabited

/-- A transaction in service at a home (R156). `plan` is what its end does: 1 nothing to the entry, 2 an owner becomes a
sharer beside the requester, 3 the requester becomes the owner, 4 a write, 5 an atomic, 6 a pin, 7 a recall, 8 a victim,
9 an apply write. `grant` is the state its completion grants and `need` that it carries data. `memory` is what the
memory read has returned, `synth` that it was completed for want of the device with `why` the reason (0 R102, 1 R103, 2 an address
that the maps no longer give), `owned` what the host `source` has written back, `lost` that this host failed to answer (R168), `keeps`
that it stays a sharer, `stuck` that its memory access waits for an INTERNAL cell (R216) with `store` the data, mask and poison that it is to write. -/
structure HomeTxn where
  id : Nat := 0
  req : HomeReq := {}
  plan : Nat := 1
  grant : Nat := 0
  need : Bool := false
  reading : Bool := false
  memory : Option (Nat × Bool) := none
  source : Option Nat := none
  owned : Option (Nat × Bool) := none
  lost : Bool := false
  keeps : Bool := false
  writing : Bool := false
  acked : Option Bool := none
  ackErr : Bool := false
  synth : Bool := false
  why : Nat := 0
  original : Nat := 0
  stuck : Bool := false
  store : Option (Nat × Nat × Bool) := none
  cell : Nat := 0
  deriving DecidableEq, Repr, Inhabited

/-- A BISnp of a home that has no answer (R158, R168), and whether it has been sent. Transaction 0 waits for no answer. -/
structure Snoop where
  die : Nat
  txn : Nat
  host : Nat
  line : Nat
  hpa : Nat
  kind : Nat
  since : Nat
  sent : Bool
  deriving DecidableEq, Repr

/-- A writeback absorbed by a home (R157): its Cmp goes to `owner` at the acknowledgement. `acked` is 0 in flight, 1 when the
device has acknowledged, 2 when the home has taken that up, 3 while it waits for an INTERNAL cell (R216). -/
structure WriteBack where
  die : Nat
  id : Nat
  line : Nat
  data : Nat
  poison : Bool
  host : Nat
  owner : Owner
  cell : Nat
  acked : Nat
  req : HomeReq
  deriving DecidableEq, Repr

/-- A sweep on one die (R170): 0 recall of region `arg` with a host mask, 1 drop of host `arg`, 2 retirement of bank
`arg`. `granted` gathers hosts granted a line since the recall began, `lost` lines poisoned by a drop. -/
structure Sweep where
  kind : Nat
  die : Nat
  arg : Nat
  mask : Nat
  started : Bool
  since : Nat
  done : Bool
  granted : Nat
  lost : Nat
  serial : Nat
  deriving DecidableEq, Repr

/-- A bank's rotation pointer (R156): the pointer of the current cycle, the cycle, and the pointer after it. -/
structure Rotation where
  start : Nat := 0
  cycle : Nat := 0
  next : Nat := 0
  deriving DecidableEq, Repr, Inhabited

/-- A request that waits for a way: since when it has found every unpinned way busy, plus one (R176), or 0 while the sector `victim`
is recalled for it (R175). -/
structure Stalled where
  req : HomeReq
  since : Nat
  victim : Option Nat := none
  deriving DecidableEq, Repr

/-- A private atomic at its egress die (R173): 0 waiting, 1 reading, 2 writing, 3 at the device. `target` is its translation. -/
structure PrivAtomic where
  die : Nat
  id : Nat
  phase : Nat
  port : Nat
  msg : Msg
  atomic : AtomicOp
  original : Nat
  owner : Owner
  target : Target
  deriving DecidableEq, Repr

/-- The state of the homes. Entries are keyed by 2^22 × die + 16 × set + way; the pseudo-LRU bits by
2^18 × die + set. -/
structure DirSt where
  entry : Table DirEntry := []
  lru : Table Nat := []
  rot : Table Rotation := []
  queue : List HomeReq := []
  txn : List HomeTxn := []
  serial : Nat := 1
  snoop : List Snoop := []
  wb : List WriteBack := []
  sweep : List Sweep := []
  stalled : List Stalled := []
  atomics : List PrivAtomic := []
  held : List (Nat × Msg) := []
  clearing : List Nat := []
  clearAt : Nat := 0
  lastScrub : Table Nat := []
  dropWait : List Nat := []
  late : List (Nat × Nat) := []
  deriving DecidableEq, Repr, Inhabited

/-! ## Write groups (R188 to R211) -/

/-- A staging line of a group: the bytes staged, which, whether its mark is acknowledged, its claim and pin answered,
its apply write acknowledged, and the writes whose Cmp waits for the mark. -/
structure StagingLine where
  line : Nat
  data : Nat
  mask : Nat
  marked : Bool
  claimed : Bool
  pinned : Bool
  written : Bool
  bad : Bool
  region : Nat
  waiting : List Owner
  deriving DecidableEq, Repr

/-- A group slot beside its objects: its lines in staging order, the cells they take, whether any apply write was lost and whether a
staging line was found bad in the apply (R206), the outcome of the latest command, the tick of COMMIT, the core cycle and rank of the
cause of an abort and whether the count of conflicts rose by it (R209), and the latest core cycle in which the state changed with the state at its start (R198). -/
structure Group where
  lines : List StagingLine := []
  cells : List Nat := []
  lost : Bool := false
  bad : Bool := false
  lastCmd : Nat := 0
  commitAt : Nat := 0
  abortAt : Nat := 0
  rank : Nat := 0
  counted : Bool := false
  cycleAt : Nat := 0
  startState : Nat := 0
  deriving DecidableEq, Repr, Inhabited

/-- A mark, claimed mark or pin at a home (R193, R200, R201): `pinned` when the group's pin of the line has been served, `holds` when
it was accepted. -/
structure Mark where
  die : Nat
  line : Nat
  host : Nat
  slot : Nat
  gen : Nat
  claimed : Bool
  stamp : Nat
  pinned : Bool
  holds : Bool := false
  deriving DecidableEq, Repr

/-- An answer on its way to a group: 0 mark, 1 claim, 2 pin, 3 apply write, 4 abort from a home, with a status. -/
structure GroupAnswer where
  kind : Nat
  host : Nat
  slot : Nat
  line : Nat
  status : Nat
  gen : Nat
  deriving DecidableEq, Repr

/-- The groups, by 8 × host + slot, the marks of every home, the answers that have reached the ingress dies, and the trackers of staged
writes that wait for a GROUP cell (R216). -/
structure GrpSt where
  slot : Table Group := []
  mark : List Mark := []
  answer : List GroupAnswer := []
  waiting : List Nat := []
  deriving DecidableEq, Repr, Inhabited

/-! ## Cells, credits and capture (R213 to R237) -/

/-- A cell (R213): its pool (0 free, 1 INGRESS, 2 LINK, 3 ABSORB, 4 GROUP, 5 MOVER, 6 INTERNAL, 7 SHARED,
8 quarantined), the port or link whose loop it backs with the data credits and the request class it counts there, the egress its
SHARED charge counts at, the copies not yet sent, the tick of its allocation, whether the auditor's latest pass suspects it, its
place among the cells that wait to move to SHARED (0 for none), and its allocation's number. -/
structure Cell where
  pool : Nat := 0
  loop : Nat := 0
  egress : Nat := 0
  copies : Nat := 0
  since : Nat := 0
  suspect : Bool := false
  want : Nat := 0
  units : Nat := 0
  evict : Bool := false
  gen : Nat := 0
  deriving DecidableEq, Repr, Inhabited

/-- The two ends of a credit loop (R224), their snapshots in an audit, and the credits of general requests and of evictions that a
host port withholds (R27, R438). -/
structure Loop where
  limit : Nat := 0
  available : Nat := 0
  consumed : Nat := 0
  returnedRx : Nat := 0
  received : Nat := 0
  returnedTx : Nat := 0
  charged : Nat := 0
  snapConsumed : Nat := 0
  marker : Nat := 0
  heldGeneral : Nat := 0
  heldEvict : Nat := 0
  deriving DecidableEq, Repr, Inhabited

/-- The pools of a die: their sizes since CONFIG was left (R214), and the auditor's place with the cells it has found charged
to each pool. -/
structure DieCore where
  sized : Bool := false
  ingress : Nat := 0
  link : Nat := 0
  absorb : Nat := 0
  group : Nat := 0
  weevil : Nat := 0
  found : Table Nat := []
  deriving DecidableEq, Repr, Inhabited

/-- A capture unit beside its objects (R227, R228): the record queue, records written after a trigger, lost records
not yet reported, and each filter's counter and LFSR; `counting` once the trigger's
record is written, `missed` where that record was lost. -/
structure Capture where
  queue : List (List Nat) := []
  post : Nat := 0
  lost : Nat := 0
  count : List Nat := []
  lfsr : List Nat := []
  counting : Bool := false
  missed : Bool := false
  deriving DecidableEq, Repr, Inhabited

/-- Cells by 65,536 × die + number; port loops by 16 × port + channel (receive) and 16 × port + 2^12 + channel (send);
link channel loops by 8 × link + channel. `failed` gathers the failures of the running audit
and `awaited` the link loops whose markers are out.
-/
structure CoreSt where
  cell : Table Cell := []
  portLoop : Table Loop := []
  linkLoop : Table Loop := []
  die : Table DieCore := []
  cap : Table Capture := []
  failed : List (Nat × Nat) := []
  awaited : List Nat := []
  auditAt : Nat := 0
  auditT : Nat := 0
  serial : Nat := 0
  deriving DecidableEq, Repr, Inhabited

/-! ## Scheduling (R238 to R264) -/

/-- A queue of the hierarchy: a subscriber leaf or a common leaf, with its deficit, its shaper in force, its tokens,
the change that awaits a refill, and what it is FENCED behind (R242): a tenant, the queue that took its requests before,
and how many of them that queue still holds. -/
structure Leaf where
  queue : List Msg := []
  deficit : Nat := 0
  shape : Nat := 0
  tokens : Int := 0
  pending : Bool := false
  reset : Nat := 0
  weight : Nat := 0
  fences : List (Nat × Nat × Nat) := []
  deriving DecidableEq, Repr, Inhabited

/-- A round-robin list with the leaf or class at the pointer first; `keep` when that one keeps its turn (R250). -/
structure Ring where
  order : List Nat := []
  keep : Bool := false
  deriving DecidableEq, Repr, Inhabited

/-- A port's egress: the bypass FIFOs by channel, their rotation, the class deficits and rings, the port shaper, and
the refill interval in which the guard has served. -/
structure Egress where
  bypass : List Msg := []
  rotor : Nat := 0
  wrr : Ring := {}
  clsDeficit : List Nat := []
  shape : Nat := 0
  tokens : Int := 0
  pending : Bool := false
  reset : Nat := 0
  guardUsed : Bool := false
  deriving DecidableEq, Repr, Inhabited

/-- A meter's buckets on one die: what is missing from the committed and peak bursts, the settings in force (none for
the defaults), and the change that awaits a refill (R245, R247). -/
structure Bucket where
  missC : Nat := 0
  missP : Nat := 0
  settings : Option (List Nat) := none
  pending : Bool := false
  reset : Nat := 0
  deriving DecidableEq, Repr, Inhabited

/-- Leaves by 65 × (8 × port + class) + slot, slot 64 the common leaf; rings by 8 × port + class; buckets by
2,048 × die + meter; the elapsed tick of each die's latest refill. -/
structure QosSt where
  leaf : Table Leaf := []
  ring : Table Ring := []
  egress : Table Egress := []
  bucket : Table Bucket := []
  refilled : Table Nat := []
  snapped : Nat := 0
  deriving DecidableEq, Repr, Inhabited

/-! ## Performance counters (R475 to R484) -/

/-- Tenant counters by die: key 8,192 × die + 8 × tenant + counter. The partial of each die, and the latest partial the
home die has received from it. -/
structure PerfSt where
  part : Table Nat := []
  latest : Table Nat := []
  deriving DecidableEq, Repr, Inhabited

/-! ## The Scarab mover (R287 to R313) -/

/-- A request of an engine or of a queue in flight: a line of a descriptor (kind 0), or an access of a queue: 1 the PI read,
2 a descriptor fetch, 3 words 1–7 of a record, 4 word 0, 5 a notification entry. `result` is what came back: the data,
whether they are poisoned, and a status. `drop` marks a fetch whose descriptor ends with ABORTED, `epoch` is that of its
translation (R136), and `ready` holds the data, with their poison, of a line that has been read and is to be written (R295). -/
structure MvReq where
  id : Nat
  kind : Nat
  die : Nat
  engine : Nat
  queue : Nat
  index : Nat
  line : Nat
  write : Bool
  cell : Nat
  drop : Bool
  result : Option (Nat × Bool × Nat)
  epoch : Option Nat := none
  ready : Option (Nat × Bool) := none
  deriving DecidableEq, Repr

/-- A descriptor that the die holds. `phase` is 0 fetched, 1 running, 2 finished, 3 words 1–7 in flight, 4 ready for word
0, 5 completed. `next` is the next line to issue of `total`, `fail` the lowest failing line with its status and `failAddr` its fabric
address, `undone` the lowest line that was read and not written because the descriptor had stopped (R297), `crcNext` the next line the
CRC takes and `crcPend` lines read ahead of it. -/
structure MvDesc where
  queue : Nat
  index : Nat
  words : List Nat
  phase : Nat
  engine : Nat
  next : Nat
  total : Nat
  fail : Option (Nat × Nat)
  poisonSeen : Bool
  stop : Bool
  status : Nat
  crc : Nat
  crcNext : Nat
  crcPend : List (Nat × Nat)
  startedAt : Nat
  doneAt : Nat
  failAddr : Nat := 0
  undone : Option Nat := none
  deriving DecidableEq, Repr

/-- A queue beside its objects: its doorbell flag, whether PI has been read since it was last enabled, its
pacing budget, merged notifications not yet reported, and the notifications since the last interrupt with the tick of the
first. -/
structure MvQueue where
  bell : Bool := false
  live : Bool := false
  budget : Int := 0
  merged : Nat := 0
  notes : Nat := 0
  noteAt : Nat := 0
  owed : Bool := false
  deriving DecidableEq, Repr, Inhabited

/-- An engine beside its objects: the queue it holds, the descriptors started in this hold, the one whose lines it issues, and the MOVER
cells it has taken (R296). -/
structure MvEngine where
  queue : Option Nat := none
  burst : Nat := 0
  current : Option (Nat × Nat) := none
  cells : List Nat := []
  deriving DecidableEq, Repr, Inhabited

/-- The mover: requests in flight, descriptors held, queues, engines by 4 × die + engine, each die's rotation pointer. -/
structure MvSt where
  serial : Nat := 0
  req : List MvReq := []
  desc : List MvDesc := []
  queue : Table MvQueue := []
  engine : Table MvEngine := []
  ptr : Table Nat := []
  deriving DecidableEq, Repr, Inhabited

/-! ## Tenants (R265 to R286) -/

/-- Tenants beside their objects: those FROZEN, the images formed at their freezes (without the zero bytes at the end), and
the tenants that hold the four image store slots, whose bytes lie in the data port's space (R279). -/
structure TenSt where
  frozen : List Nat := []
  formed : Table (List Byte) := []
  store : List Nat := []
  deriving DecidableEq, Repr, Inhabited

/-! ## Slot power (R357 to R379) -/

/-- A slot power channel beside its objects; ticks are die 0's elapsed ticks. VIN's state: since when it has been within limits
and how many samples in a row it has been out of them. The contact: the tick of its latest edge. The model: Tj in µ°C; the
diode's latest good reading in m°C and whether it is present. Power good: samples in a row that meet it, and the tick at which
the timer of a start or of a loss runs out (R379). Of a trip its tick, the causes raised (bit by CH_TRIP_CAUSE) and the cool-down
taken with it. Of a stop its tick, of the gate the tick it was last turned off, and of the damage check since when VOUT has been
high. Then the limit and the ramp in force (CH_ILIM as of the latest sample, CH_SLEW as of the latest start, R378), the tick of the diode's
latest reading and whether its check for the next start has been made (R367), and the tick of a write that came after that tick's sample
(R360). -/
structure Slot where
  vinSince : Option Nat := none
  vinBad : Nat := 0
  edgeAt : Nat := 0
  tj : Int := 70000000
  diode : Bool := false
  diodeTemp : Int := 0
  pgRun : Nat := 0
  pgDue : Option Nat := none
  tripAt : Nat := 0
  causes : Nat := 0
  coolLimit : Nat := 0
  stopAt : Nat := 0
  offAt : Nat := 0
  damageSince : Option Nat := none
  ilim : Nat := 160
  slew : Nat := 6
  diodeAt : Nat := 0
  checked : Bool := false
  lateAt : Option Nat := none
  deriving DecidableEq, Repr, Inhabited

/-- The tile: its channels, the tick of the latest sample, the raises that wait for die 0 (R376) as source, channel, address and
master, and of an AUTONOMOUS tile the count and die 0's elapsed ticks at the loss, from which its own count runs on (R389). -/
structure SlotSt where
  chan : Table Slot := []
  sampled : Option Nat := none
  waiting : List (Nat × Nat × Nat × Nat) := []
  base : Nat × Nat := (0, 0)
  deriving DecidableEq, Repr, Inhabited

/-! ## Click sequencers and Cicada pairs (R380 to R400) -/

/-- A wait of a sequencer: 1 WAITT relative to a target, 2 WAITT absolute, 3 WAITE with its mask, register and limit (0 none),
4 TXC before its commit, 5 TXC after it, 6 TXC whose commit was refused with the status in `target`. -/
structure SqWait where
  kind : Nat
  target : Nat
  mask : Nat
  rd : Nat
  deriving DecidableEq, Repr

/-- A sequencer beside its objects: its return stack, top first, the instructions since its last start or wait, its wait, and
whether it runs a reaction. -/
structure Seq where
  stack : List Nat := []
  steps : Nat := 0
  wait : Option SqWait := none
  reaction : Option Reaction := none
  deriving DecidableEq, Repr, Inhabited

/-- A firmware image that a package has activated (R395): its version and SVN, and the digests of its body and its microcode. -/
structure FwImage where
  version : Nat
  svn : Nat
  digest : Nat
  microcode : Nat
  deriving DecidableEq, Repr

/-- The Cicada firmware: whether the latest LOAD of the staging image ended DONE, the image that runs and the one before it
(none for the one the package came with), the tick of an activation, the pairs that have still to reach the new image, those
that fell back to the one before it, by die the tick from which the watchdog counts and that of a debugger's halt (R397, R454), the halted
pairs whose stepped instruction may still make its access (R454), and the pairs that have taken a bus-error exception (R459). -/
structure CicSt where
  loaded : Bool := false
  running : Option FwImage := none
  previous : Option FwImage := none
  actAt : Nat := 0
  await : List Nat := []
  old : List Nat := []
  watch : Table Nat := []
  haltedAt : Table Nat := []
  stepped : List Nat := []
  busError : List Nat := []
  deriving DecidableEq, Repr, Inhabited

/-- The sequencers by number, and the firmware. -/
structure SeqSt where
  seq : Table Seq := []
  cic : CicSt := {}
  deriving DecidableEq, Repr, Inhabited

/-! ## Security and debug (R444 to R468) -/

/-- An SPDM session: its number and the port whose DOE holds it, none for the Ihlod link (R463). -/
structure Session where
  id : Nat
  via : Option Nat
  deriving DecidableEq, Repr

/-- Security state beside the objects: the sessions, the SPDM message the Ihlod link is sending in segments and the frame that
completed one, whether the identity key is destroyed, the ports whose device has a session of R467, the directions selected per
port (bit 0 TX, bit 1 RX), the TAP's instruction and whether it selects the bypass register, what boundary scan does with the
pins (0 nothing, 1 EXTEST, 2 CLAMP, 3 HIGHZ), the boundary-scan register, the status and data of the previous debug command, and the address of a FABRIC
access that has not come back. -/
structure SecSt where
  session : List Session := []
  serial : Nat := 0
  segments : List Byte := []
  segNext : Nat := 0
  waiting : Option Frame := none
  idGone : Bool := false
  peer : List Nat := []
  selected : Table Nat := []
  ir : Nat := 0xFF
  bypassed : Bool := true
  scan : Nat := 0
  boundary : List Bool := []
  status : Nat := 0
  data : Nat := 0
  fabric : Option Nat := none
  deriving DecidableEq, Repr, Inhabited

/-! ## CXL.io above the devices (R114, R273) -/

/-- A device's request that is not completed (R273), by its `kind`: 0 a read of CXL.io, which its host completes; 1 a request of
CXL.cache, which its host answers; 2 a posted write, which is over once it has left. One of the mover's writes toward a host, which is posted
too, names no device (0xFFFF). -/
structure UpReq where
  port : Nat
  tag : Nat
  device : Nat
  ld : Nat
  devTag : Nat
  tenant : Nat
  kind : Nat := 0
  deriving DecidableEq, Repr

/-- CXL.io state: the requests of devices that hosts have not completed, the next tag upstream, and the state that each vPPB
(16 × host + vPPB) last showed its host (R110). -/
structure IoSt where
  up : List UpReq := []
  tag : Nat := 0
  seen : Table Nat := []
  deriving DecidableEq, Repr, Inhabited

/-! ## Work a command leaves for the end of the same command -/

/-- A reaction still owed: what the hardware does by itself within the bounds the spec gives (R407, R412, R418). The origin of an
answer is the origin stamp of R226, none where it is made on the die that sends it out; a completion of CXL.io has a status,
a length and the tenant of its request. -/
inductive Act where
  | raise (source channel addr master typ : Nat)
  | retire (channel : Nat)
  | react (source severity channel stamp : Nat)
  | safe (die cause source : Nat)
  | deliver (die : Nat) (owner : Owner) (kind : ReqKind) (data : Nat) (poison synthetic : Bool) (cell : Nat) (origin : Option Nat := none)
      (status : Nat := 0) (len : Nat := 64) (tenant : Nat := 0xFFFF)
  | enqueue (port : Nat) (msg : Msg)
  | bypass (port : Nat) (msg : Msg)
  | home (req : HomeReq)
  | birsp (die host line answer : Nat)
  | answer (tracker : Nat) (type : MsgType) (data : Nat) (poison : Bool) (cell : Nat) (origin : Option Nat := none)
  | stage (tracker : Nat)
  | group (a : GroupAnswer)
  | admitOne
  | kick (die line : Nat)
  | serve (req : HomeReq)
  | hostGone (host : Nat)
  | viralFor (port : Nat)
  | viralBound (port : Nat)
  | portDropped (port : Nat)
  | route (tracker : Nat)
  | spec (host : Nat) (msg : Msg) (port : Nat) (route : Route)
  | memory (die fa vc : Nat) (bypass : Bool) (msg : Msg)
  | toHome (die : Nat) (req : HomeReq) (origin cell : Nat)
  | atomic (port tc ecc : Nat) (msg : Msg) (op : AtomicOp)
  | atomicOn (port : Nat) (msg : Msg) (op : AtomicOp) (route : Route)
  | atomicAt (port : Nat) (msg : Msg) (op : AtomicOp) (target : Target)
  | biconflict (die host line port hpa origin : Nat)
  deriving DecidableEq, Repr

/-! ## What waits to be carried out -/

/-- What waits for a map entry whose copy on a die is bad (R127). -/
structure MapHold where
  die : Nat
  granule : Bool
  index : Nat
  act : Act
  deriving DecidableEq, Repr

/-- The request path: trackers by 8,192 × die + number, requests that wait in their INGRESS cells in arrival order,
mirrored writes by 2^20 × die + serial, the BISnp delivered on each port, and by host the AtomicOps that wait for its drop sweep
(R169). -/
structure ReqSt where
  tracker : Table Tracker := []
  waiting : List HostReq := []
  mirror : Table MirrorWrite := []
  mirrorSerial : Nat := 0
  delivered : List Delivered := []
  held : List (Nat × Act) := []
  deriving DecidableEq, Repr, Inhabited

/-- The staging stores of the two maps (R131), the bad copies, and the migration slots. -/
structure MapSt where
  extStage : Table Nat := []
  grnStage : Table Nat := []
  bad : List BadEntry := []
  hold : List MapHold := []
  mig : Table MigSlot := []
  deriving DecidableEq, Repr, Inhabited

/-! ## Links (R314 to R356) -/

/-- A message between dies, as it waits for a link or travels in a flit (R319): what it brings about at each of its
destinations by die and route key (several for a multicast, R219), its channel (R218: 0 WB, 1 RSP, 2 SNP, 3 REQ, 4 MNT), whether its header
must be long, its data part (0 none, 1 64 bytes, 2 256 bytes), its origin stamp, the cell it holds on
this die (plus one), for a data marker the audit serial, and the streams from a home die to a host whose order it keeps (R155). -/
structure NetMsg where
  parts : List (Nat × Nat × Act) := []
  vc : Nat := 1
  long : Bool := false
  dsz : Nat := 0
  origin : Nat := 0
  cell : Nat := 0
  marker : Option Nat := none
  order : List Nat := []
  deriving DecidableEq, Repr, Inhabited

/-- A flit or frame that a sender has numbered (none for IDLE), with its transmission's serial. -/
structure Flit where
  seq : Option Nat := none
  msgs : List NetMsg := []
  frame : Option Frame := none
  again : Bool := false
  serial : Nat := 0
  deriving DecidableEq, Repr, Inhabited

/-- A bypass message (R329): its BTYPE, the die it is for, its fields, and the flit time it was queued in. -/
structure Bypass where
  type : Nat := 0
  dst : Nat := 0
  args : List Nat := []
  at_ : Nat := 0
  serial : Nat := 0
  deriving DecidableEq, Repr, Inhabited

/-- One end of a link: what it sends and what it has of the direction it receives. `wire` and `bwire` hold what it has
sent and the far end has not yet taken. Times of the layer are counted in the flit or frame times of this end. -/
structure Link where
  queue : List NetMsg := []
  frames : List Frame := []
  replay : List Flit := []
  rpos : Option Nat := none
  wire : List Flit := []
  bwire : List Bypass := []
  bypass : List Bypass := []
  flits : Nat := 0
  slots : Nat := 0
  windowFrom : Nat := 0
  serial : Nat := 0
  stalled : Bool := false
  restart : Nat := 0
  nakPending : Bool := false
  nakAt : Nat := 0
  accFirst : Option Nat := none
  accCount : Nat := 0
  ackAt : Nat := 0
  alt : Bool := false
  mntWait : Nat := 0
  vcTurn : Nat := 0
  creditTurn : Nat := 0
  window : Option (Nat × Nat × Nat) := none
  hbCount : Nat := 0
  hbSentAt : Nat := 0
  hbSeenAt : Nat := 0
  downAt : Nat := 0
  attemptAt : Nat := 0
  fails : Nat := 0
  tested : Bool := false
  counted : List Nat := []
  laneFails : List (Nat × Nat) := []
  permanent : Bool := false
  handing : Bool := false
  markers : List (Nat × Nat × Nat × Nat) := []
  returns : List (Nat × Nat × Nat × Nat) := []
  markOut : Table (Nat × Nat) := []
  markSeen : Table Nat := []
  deriving DecidableEq, Repr, Inhabited

/-- The Invar link ends by 4 × die + link, the Ihlod ports A and B as 32 and 33, and by die the bypass messages that wait for a path of
UP links (R330). -/
structure LnkSt where
  link : Table Link := []
  stray : Table (List Bypass) := []
  deriving DecidableEq, Repr, Inhabited

/-- The Ihlod node (R342 to R353): requests held with the sub-ticks that had passed at their arrival, that of the one
being served, responses kept by request, events that wait for an address, the merge count, the armed reset, and the RST_GO answer that is not yet
acknowledged. -/
structure IhlSt where
  held : List Frame := []
  heldAt : List Nat := []
  servedAt : Nat := 0
  kept : List (List Frame) := []
  events : List Frame := []
  merged : Nat := 0
  armedId : Option Nat := none
  armedAt : Nat := 0
  goReq : Option Frame := none
  goAcked : Option Nat := none
  segTry : Table Nat := []
  segWait : Table Nat := []
  deriving DecidableEq, Repr, Inhabited

/-- What the block has sent to the outside: dictionary replies, messages to hosts, devices and links, pin changes. -/
inductive Out where
  | value (ifc : Iface) (status value : Nat)
  | status (ifc : Iface) (status : Nat)
  | bytes (ifc : Iface) (data : List Byte)
  | viral (port : Nat)
  | perst (port : Nat) (asserted : Bool)
  | hotReset (port : Nat)
  | margin (lane command : Nat)
  | toDevice (port tag : Nat) (msg : Msg)
  | toHost (port : Nat) (msg : Msg)
  | frame (x : Nat) (data : List Byte)
  | trainingSet (x : Nat) (data : List Byte)
  | ihBypass (x type : Nat) (args : List Nat)
  | tap (status : Nat) (data : Nat)
  | boundary (scan : Nat) (cells : List Bool)
  | spdmInfo (via : Option Nat) (versions capabilities algorithms : List Nat)
  | spdm (via : Option Nat) (code : Nat)
  | measurement (via : Option Nat) (index : Nat) (data : List Byte)
  | ideKm (port : Nat) (accepted : Bool)
  | fmApi (code : Nat)
  | switchInfo (host : Nat) (values : List Nat)
  | gate (channel slew : Nat)
  | gateOff (channel : Nat)
  | shuntLimit (channel limit trip : Nat)
  deriving DecidableEq, Repr

/-- The state of one package. -/
structure State where
  variant : Variant
  pending : List Instr
  regs : Table Word
  ram : List Host.Cell
  out : List Out
  acts : List Act
  free : Nat
  dict : DictSt
  clk : ClkSt
  tx : Table TxInst
  flt : FaultSt
  rst : RstSt
  prt : PortSt
  rq : ReqSt
  map : MapSt
  dir : DirSt
  grp : GrpSt
  core : CoreSt
  qos : QosSt
  perf : PerfSt
  lnk : LnkSt
  ihl : IhlSt
  mv : MvSt
  ten : TenSt
  io : IoSt
  slt : SlotSt
  sqs : SeqSt
  sec : SecSt
  deriving DecidableEq, Repr

/-! ## Reset -/

/-- The PLLs that are stable after a cold start: MGMT of every die, TIME and IHLOD of die 0 (R434). -/
def resetPlls : Table Pll :=
  let on : Pll := { run := true, stable := true }
  [(0, on), (4, on), (5, on)] ++ [16, 32, 48, 64, 80, 96, 112].map (fun k => (k, on))

/-- The domains that run after a cold start: MGMT, CICADA and the sequencers of every die, and the tile's sequencers (R434). -/
def resetDomains : Table Domain :=
  let on : Domain := { running := true }
  [(0, on), (1, on), (7, on), (9, on)] ++ [10, 20, 30, 40, 50, 60, 70].flatMap (fun k => [(k, on), (k + 1, on), (k + 7, on)])

/-- The block right after a cold start of an SHF-8180 has released (R434): every object reads its default, the tile runs, the mode
is AUX, and nothing is connected, waiting or sent. -/
def State.reset : State :=
  { variant := .shf8180, pending := [], regs := [((⟨0x51, 0, 0⟩ : Obj).key, 1)], ram := [], out := [], acts := [], free := 0,
    dict := {}, clk := {}, tx := [], flt := {},
    rst := { pll := resetPlls, domain := resetDomains, auxRails := true, mainRails := true },
    prt := {}, rq := {}, map := {}, dir := {}, grp := {}, core := {}, qos := {}, perf := {}, lnk := {},
    ihl := { segTry := [(0, 0), (1, 0)] }, mv := {}, ten := {}, io := {}, slt := {}, sqs := {}, sec := {} }

end Sys2Proof.Machine
end

