-- ==== Sys2Proof/Machine/Ops.lean ====
section
/-! DEFINITION. The named operations every meaning is built from: reading and writing the object store, saturating
counters, event bits, time stamps, the dies and links of a variant, and the ways a command ends. -/
namespace Sys2Proof.Machine

/-- An outcome of a command. -/
abbrev Result := Host.Outcome State Fault Refusal

/-! ## Defaults of the object store (R6, R500) -/

/-- A row holds the object of member `m`. -/
def Row.holds (m : Nat) (r : Row) : Bool :=
  decide (r.mem ≤ m ∧ (m - r.mem) % r.stride = 0 ∧ (m - r.mem) / r.stride < r.count)

/-- A row holds the slot of member `m`, a later slot of an OCTETS object among them. -/
def Row.holdsSlot (m : Nat) (r : Row) : Bool :=
  decide (r.mem ≤ m ∧ (m - r.mem) % r.stride < r.slots ∧ (m - r.mem) / r.stride < r.count)

/-- The row that describes an object, if the object exists (R33). -/
def rowOf (v : Variant) (o : Obj) : Option Row := (tableOf v o.cls o.inst).find? (Row.holds o.mem)

/-- The row that covers a slot. -/
def rowOfSlot (v : Variant) (o : Obj) : Option Row := (tableOf v o.cls o.inst).find? (Row.holdsSlot o.mem)

/-- The bits a type occupies in its slot (R36). -/
def Ty.bits : Ty → Nat
  | .u8 => 8 | .u16 => 16 | .u32 => 32 | .u64 => 64 | .s32 => 64 | .bool => 1 | .enum8 => 8
  | .bits32 => 32 | .bits64 => 64 | .ticks64 => 64 | .addr64 => 64 | .octets _ => 64

/-- PART_CODE of a variant (R46). -/
def partCode : Variant → Nat
  | .shf2180 => 0x21 | .shf4180 => 0x41 | .shf8180 => 0x81

/-- The four link masks of a variant, one byte each (R47). -/
def linkMasks (v : Variant) : Nat :=
  v.linkMask 0 + 0x100 * v.linkMask 1 + 0x10000 * v.linkMask 2 + 0x1000000 * v.linkMask 3

/-- DATE_CODE: any year and a week of 1 to 53 (R46, R500), which of them the package's own fuses say. -/
def dateCode : Nat :=
  let w := (Config.fuse 0x00 0 9).toNat
  w / 256 % 256 * 256 + (w % 256 % 53 + 1)

/-- Byte `i` of PACKAGE_SERIAL: 1 to 16 printable characters and then 0x00 (R500), which of them the package's own fuses say. -/
def serialByte (i : Nat) : Nat :=
  let raw := (Config.fuse 0x00 0 (7 + i / 8)).toNat / 256 ^ (i % 8) % 256
  if i ≤ Config.serialLength.toNat % 16 then 0x20 + raw % 95 else 0

/-- A slot of PACKAGE_SERIAL. -/
def serialSlot (k : Nat) : Nat := (List.range 8).foldl (fun v j => v + serialByte (8 * k + j) * 256 ^ j) 0

/-- A value that none of a list is: the raw one, or a small number where the list holds it. -/
def unlike (used : List Nat) (raw : Nat) : Nat :=
  if used.contains raw then (List.range 9).foldl (fun a k => if used.contains a then k else a) raw else raw

/-- The DIE_SERIALs of the first `n` dies: the fuses say which values, no two of which are equal (R500). -/
def dieSerials (n : Nat) : List Nat :=
  (List.range n).foldl (fun l d => l ++ [unlike l (Config.fuse 0x00 (d + 1) 1).toNat]) []

/-- DIE_SERIAL of a die. -/
def dieSerial (d : Nat) : Nat := (dieSerials (d + 1)).getD d 0

/-- The value the fuses give an object: the spec's own value where it states one (R500, R315, R341, R444), otherwise
the package's (R46, R47). -/
def fuseDefault (v : Variant) (o : Obj) (bits : Nat) : Nat :=
  match o.cls, o.mem with
  | 0x00, m =>
    if o.inst = 0 ∧ m = 1 then partCode v
    else if o.inst = 0 ∧ m = 2 then v.dies
    else if o.inst = 0 ∧ m = 3 then v.ports
    else if o.inst = 0 ∧ m = 4 then v.slotChannels
    else if 0 < o.inst ∧ m = 0 then o.inst - 1
    else if 0 < o.inst ∧ m = 1 then dieSerial (o.inst - 1)
    else if 0 < o.inst ∧ m = 3 then linkMasks v
    else if 0 < o.inst ∧ m = 4 then (if o.inst = 1 then 1 else 0)
    else if o.inst = 0 ∧ (m = 7 ∨ m = 8) then serialSlot (m - 7)
    else if o.inst = 0 ∧ m = 9 then dateCode
    else (Config.fuse o.cls o.inst m).toNat % 2 ^ bits
  | 0x12, _ => if 0x100 ≤ o.inst ∧ o.inst < 0x120 ∧ v = .shf8180 then 1 else 0
  | 0x13, _ => Nat.xor (o.inst / 4) (v.linkMask (o.inst % 4)) * 4 + o.inst % 4
  | 0x04, 0 => 1
  | 0x04, 1 => 1
  | c, m => (Config.fuse c o.inst m).toNat % 2 ^ bits

/-- MX_ROW of R415. -/
def mxRow (a : Nat) : Nat := [0x63, 0x41, 0x58, 0x4C, 0x04, 0x41, 0x2F].getD a 0

/-- The MPU regions enabled after a reset (R473): low address, high address, attributes. -/
def mpuDefault (inst region : Nat) : Nat × Nat × Nat :=
  if inst < 0x10 then
    match region with
    | 0 => (0x0002000000000000, 0x0002FFFFFFFFFFFF, 0x80000007)
    | 1 => (0x0001000000000000, 0x000100007FFFFFFF, 0x80000003)
    | 2 => (0, 0x00007FFFFFFFFFFF, 0x80000003)
    | _ => (0, 0, 0)
  else if 0x40 ≤ inst ∧ inst ≤ 0x83 ∧ region = 0 then (0x0001000000000000, 0x000100007FFFFFFF, 0x80000003)
  else if inst = 0xC0 ∧ region = 0 then (0, 0x0004FFFFFFFFFFFF, 0x80000007)
  else if 0xD0 ≤ inst ∧ region = 0 then (0x0003000000000000, 0x0003FFFFFFFFFFFF, 0x80000003)
  else (0, 0, 0)

/-- Defaults that a rule of their own gives (R107, R403, R404, R415, R447, R473). -/
def specialDefault (v : Variant) (o : Obj) : Nat :=
  match o.cls with
  | 0x05 => (Config.challenge (o.mem - 2)).toNat
  | 0x10 => if o.inst = 0 then 3 else 0
  | 0x40 =>
    match sourceRow v o.inst with
    | some (sev, rate) => if o.mem = 0 then sev else rate
    | none => 0
  | 0x42 => mxRow (o.mem - 0x10)
  | 0x06 =>
    if o.mem < 0x20 then (mpuDefault o.inst o.mem).1
    else if o.mem < 0x40 then (mpuDefault o.inst (o.mem - 0x20)).2.1
    else (mpuDefault o.inst (o.mem - 0x40)).2.2
  | _ => 0

/-- What a live object that is held as a value reads while its unit holds nothing: every cell of a die is free (R213, R232). DESIGN CHOICE
(log 129): QUERY_RESULT and QUERY_DEFAULT (R49), whose default the table gives as a dash, read 0 before the first query. -/
def liveDefault (o : Obj) : Nat := if o.cls = 0x59 ∧ o.mem = 0 then 0x10000 else 0

/-- The default of an object's slot on a variant (R6). -/
def defaultOf (v : Variant) (o : Obj) : Nat :=
  match rowOfSlot v o with
  | none => 0
  | some r =>
    match r.kind with
    | .value => r.dflt
    | .live => liveDefault o
    | .fuse => fuseDefault v o r.ty.bits
    | .special => specialDefault v o

/-! ## The object store -/

/-- The value held for an object. -/
def State.get (s : State) (o : Obj) : Nat :=
  match s.regs.find o.key with
  | some w => w.toNat
  | none => defaultOf s.variant o % 2 ^ 64

/-- Hold a value for an object; the default is not listed. -/
def State.put (s : State) (o : Obj) (v : Nat) : State :=
  { s with regs := Table.write (BitVec.ofNat 64 (defaultOf s.variant o)) s.regs o.key (BitVec.ofNat 64 v) }

/-- Return an object to its default. -/
def State.clear (s : State) (o : Obj) : State := { s with regs := s.regs.drop o.key }

/-- The object of a key of the store. -/
def Obj.ofKey (k : Nat) : Obj := ⟨k / 0x100 % 0x100, k / 0x10000, k % 0x100⟩

/-- Return every object that satisfies a test to its default. -/
def State.clearWhere (s : State) (p : Obj → Bool) : State :=
  { s with regs := s.regs.filter (fun c => !p (Obj.ofKey c.1)) }

/-- Add to a counter that saturates at `top`. -/
def State.addSat (s : State) (o : Obj) (n top : Nat) : State := s.put o (min (s.get o + n) top)

/-- Count one in a saturating U32 counter. -/
def State.count32 (s : State) (o : Obj) : State := s.addSat o 1 0xFFFFFFFF

/-- Count one in a U32 counter that wraps. -/
def State.wrap32 (s : State) (o : Obj) : State := s.put o ((s.get o + 1) % 2 ^ 32)

/-- Bit `b` of an object. -/
def State.bit (s : State) (o : Obj) (b : Nat) : Bool := (s.get o).testBit b

/-- Set or clear bit `b` of an object. -/
def State.setBit (s : State) (o : Obj) (b : Nat) (on : Bool) : State :=
  if s.bit o b = on then s
  else if on then s.put o (s.get o + 2 ^ b) else s.put o (s.get o - 2 ^ b)

/-- A Boolean as a register value. -/
def b2n (b : Bool) : Nat := if b then 1 else 0

/-- A signed 32-bit value in its slot, sign-extended (R36). -/
def ofS32 (i : Int) : Nat := (BitVec.ofInt 64 i).toNat

/-- The signed value of an S32 slot (R36). -/
def toS32 (v : Nat) : Int := (BitVec.ofNat 32 v).toInt

/-- What a type holds of the 64 bits of a slot: its own bits, and of S32 their sign above them (R36). -/
def Ty.held (t : Ty) (w : Word) : Word :=
  match t with
  | .s32 => (w.setWidth 32).signExtend 64
  | t => (w.setWidth t.bits).setWidth 64

/-- What an object's slot holds of a value: nothing beyond its type's width (R36). -/
def heldBy (v : Variant) (o : Obj) (w : Word) : Word :=
  match rowOfSlot v o with
  | some r => r.ty.held w
  | none => w

/-- Bits `hi` to `lo` of a number (R8). -/
def bitsOf (v hi lo : Nat) : Nat := v / 2 ^ lo % 2 ^ (hi + 1 - lo)

/-! ## Units of the variant -/

/-- The dies of the package. -/
def State.dies (s : State) : Nat := s.variant.dies

/-- The port slices of the package. -/
def State.ports (s : State) : Nat := s.variant.ports

/-- The die of a port (R88: 16 slices a die). -/
def dieOfPort (p : Nat) : Nat := p / 16

/-- The die at the far end of link `k` of die `d` (R19). -/
def peerDie (v : Variant) (d k : Nat) : Nat := Nat.xor d (v.linkMask k)

/-- Do one thing for each of a list of units, in order. -/
def forEach {α : Type} (l : List α) (f : α → State → State) (s : State) : State := l.foldl (fun s a => f a s) s

/-! ## Time -/

/-- A die's copy of time. -/
def State.time (s : State) (d : Nat) : DieTime := s.clk.die.at d

/-- Change a die's copy of time. -/
def State.setTime (s : State) (d : Nat) (f : DieTime → DieTime) : State :=
  { s with clk := { s.clk with die := s.clk.die.upd d f } }

/-- FT_NOW by a die's copy. -/
def State.now (s : State) (d : Nat) : Nat := (s.time d).now

/-- The ticks that have passed on a die since reset, whatever its FT_NOW was loaded with. -/
def State.elapsed (s : State) (d : Nat) : Nat := (s.time d).elapsed

/-- The timestamp of R60 by a die's copy. -/
def State.stamp (s : State) (d : Nat) : Nat := (s.now d % 2 ^ 58) * 64 + (s.time d).sub

/-! ## Messages out and work owed -/

/-- Send a message to the outside. -/
def State.send (s : State) (o : Out) : State := { s with out := s.out ++ [o] }

/-- Owe a reaction. -/
def State.owe (s : State) (a : Act) : State := { s with acts := s.acts ++ [a] }

/-- The die whose collector serves a source (R401). -/
def sourceDie (n : Nat) : Nat := if 0xE00 ≤ n ∧ n < 0xE60 then 0 else n / 512

/-- A raise joins what is owed: within one collector raises of one cycle are handled in ascending source number (R407). -/
def insertRaise (source : Nat) (a : Act) : List Act → List Act
  | [] => [a]
  | .raise n c x m t :: rest =>
    if sourceDie n = sourceDie source ∧ source < n then a :: .raise n c x m t :: rest
    else .raise n c x m t :: insertRaise source a rest
  | b :: rest => b :: insertRaise source a rest

/-- Owe a raise: the collector acts on it before the command ends (R407). -/
def State.raise (s : State) (source channel addr master typ : Nat) : State :=
  { s with acts := insertRaise source (.raise source channel addr master typ) s.acts }

/-- Raise a local source of a die with no channel and nothing captured but a zero address (R403, R408). -/
def State.raiseDie (s : State) (d loc : Nat) : State := s.raise (d * 512 + loc) 0 0 0xFFFF 0

/-- A fresh free value: nothing constrains it. -/
def State.fresh (s : State) : Nat × State := ((Config.freeValue s.free).toNat, { s with free := s.free + 1 })

/-! ## Modes (R435) -/

def mAux : Nat := 0x01
def mInit : Nat := 0x02
def mConfig : Nat := 0x03
def mLinkup : Nat := 0x04
def mRun : Nat := 0x05
def mRunNc : Nat := 0x06
def mDegraded : Nat := 0x07
def mDrain : Nat := 0x08
def mMaint : Nat := 0x09
def mUpdate : Nat := 0x0A
def mSafe : Nat := 0x0B

/-- The current mode. -/
def State.mode (s : State) : Nat := s.get O.MODE

/-- The mode whose blocks are powered: in SAFE, the mode the package came from (R435). -/
def State.powerMode (s : State) : Nat := if s.mode = mSafe then s.get O.MODE_PREV else s.mode

/-- A die is in SAFE: the package is, and the decision has reached it (R417). -/
def State.dieSafe (s : State) (d : Nat) : Bool := s.mode == mSafe && !s.flt.safeWait.contains d

/-- The mode powers the datapath (R435). -/
def State.datapathOn (s : State) : Bool := decide (mInit ≤ s.powerMode)

/-! ## Reset domains (R426) -/

def dMgmt : Nat := 0
def dCicada : Nat := 1
def dDatapath : Nat := 2
def dDirectory : Nat := 3
def dMover : Nat := 4
def dCapture : Nat := 5
def dAuditor : Nat := 6
def dSequencers : Nat := 7
def dCounters : Nat := 8
def dTileSequencers : Nat := 9

/-- A domain of a die is RUNNING. -/
def State.domainOn (s : State) (d i : Nat) : Bool := (s.rst.domain.at (10 * d + i)).running

/-! ## Status codes (R45) -/

def stOk : Nat := 0x00
def stBusy : Nat := 0x01
def stDenied : Nat := 0x02
def stBadObject : Nat := 0x03
def stBadValue : Nat := 0x04
def stAborted : Nat := 0x05
def stConflict : Nat := 0x06
def stTimeout : Nat := 0x07
def stRetired : Nat := 0x08
def stCooldown : Nat := 0x09
def stLimit : Nat := 0x0A
def stPoison : Nat := 0x0B
def stNotIdle : Nat := 0x0C
def stFrozen : Nat := 0x0D
def stLinkDown : Nat := 0x0E
def stProtection : Nat := 0x0F
def stClock : Nat := 0x10
def stHoldover : Nat := 0x11

/-- The security state, changed. -/
def State.setSec (s : State) (f : SecSt → SecSt) : State := { s with sec := f s.sec }

/-! ## What a capture names (R408) -/

/-- The access type of a capture. -/
def ReqKind.accessType : ReqKind → Nat
  | .write => 2 | .atomic => 3 | .read => 1 | _ => 0

/-- The master of a message on a die: the host, the mover's engine or the debug access port whose request it is, or the die's own agent. -/
def Msg.master (m : Msg) (d : Nat) : Nat :=
  match m.owner with
  | .mover e g _ => 0x200 + 4 * e + g
  | .debug => 0x600
  | .homeRead e _ | .homeWrite e _ => if m.host < 64 then m.host else 0x700 + e
  | _ => if m.host < 64 then m.host else 0x700 + d

end Sys2Proof.Machine
end

