-- ==== Sys2Proof/Machine/Memory.lean ====
section
/-! DEFINITION. The block's addressed memories in the internal address space of R455: Cicada core memory, the data
port's image spaces and the capture rings, one canonical list of cells. A byte nothing has written reads 0. -/
namespace Sys2Proof.Machine

/-- What an unlisted address reads as. -/
def ramDefault : Byte := 0

/-- The canonical form: addresses strictly rising, no entry equal to what an unlisted address reads as. -/
def Memory.wf (m : List Host.Cell) : Bool := Table.wfBy (fun _ => ramDefault) m

/-- Read a byte. -/
def State.readByte (s : State) (a : Nat) : Byte := (Table.find s.ram a).getD ramDefault

/-- Write a byte. -/
def State.writeByte (s : State) (a : Nat) (b : Byte) : State := { s with ram := Table.write ramDefault s.ram a b }

/-- Read `n` bytes, lowest address first. -/
def State.readBytes (s : State) (a n : Nat) : List Byte := (List.range n).map (fun i => s.readByte (a + i))

/-- Write bytes, lowest address first. -/
def State.writeBytes (s : State) (a : Nat) (bs : List Byte) : State :=
  forEach (bs.zipIdx) (fun p s => s.writeByte (a + p.2) p.1) s

/-- The `n` bytes of a number, least significant first (R9). -/
def bytesOf (v n : Nat) : List Byte := (List.range n).map (fun i => BitVec.ofNat 8 (v / 256 ^ i))

/-- The number that bytes spell, least significant first (R9). -/
def ofBytes (bs : List Byte) : Nat := bs.foldr (fun b a => b.toNat + 256 * a) 0

/-- Remove every listed byte in a range, so that it reads as unwritten. -/
def State.eraseRange (s : State) (lo n : Nat) : State :=
  { s with ram := s.ram.filter (fun c => decide (c.1 < lo ∨ lo + n ≤ c.1)) }

/-- The object store and the memories in their canonical form, whatever way their entries came about: the first entry of a key
holds, in the width of its object's type, and an entry equal to its key's default goes. -/
def State.tidy (s : State) : State :=
  { s with
    regs := s.regs.foldr (fun c t => Table.write (BitVec.ofNat 64 (defaultOf s.variant (Obj.ofKey c.1))) t c.1 (heldBy s.variant (Obj.ofKey c.1) c.2)) [],
    ram := s.ram.foldr (fun c m => Table.write ramDefault m c.1 c.2) [] }

/-- CORE: a die's Cicada core memory (R455). -/
def coreAddr (d off : Nat) : Nat := 0x0002 * 2 ^ 48 + d * 2 ^ 40 + off

/-- DPORT: a data-port space (R455). -/
def dportAddr (space off : Nat) : Nat := 0x0003 * 2 ^ 48 + space * 2 ^ 40 + off

/-- CAPTURE: a die's capture ring (R455). -/
def captureAddr (d off : Nat) : Nat := 0x0004 * 2 ^ 48 + d * 2 ^ 40 + off

/-! ## CRC-32C (R51) -/

/-- One bit of the reflected Castagnoli CRC. -/
def crcBit (c : Nat) : Nat := if c % 2 = 1 then Nat.xor (c / 2) 0x82F63B78 else c / 2

/-- The running register after one more byte. -/
def crcByte (c b : Nat) : Nat := crcBit (crcBit (crcBit (crcBit (crcBit (crcBit (crcBit (crcBit (Nat.xor c b))))))))

/-- The running register after more bytes; it starts at `crcStart`, and its complement is the CRC. -/
def crcBytes (c : Nat) (bs : List Byte) : Nat := bs.foldl (fun c b => crcByte c b.toNat) c
def crcStart : Nat := 0xFFFFFFFF
def crcEnd (c : Nat) : Nat := Nat.xor c 0xFFFFFFFF

end Sys2Proof.Machine
end

