-- ==== Sys2Proof/Machine/Frames.lean ====
section
/-! DEFINITION. An Ihlod frame on the wire: its words, with each field at its offset and bits (R321, R349), and a training set (R346). -/
namespace Sys2Proof.Machine

/-- The header word (R321). `again` is REPLAY. -/
def frameHead (f : Frame) (seq : Nat) (again : Bool) : Nat :=
  seq % 2 ^ 10 * 2 ^ 54 + f.dst % 2 ^ 5 * 2 ^ 49 + f.src % 2 ^ 5 * 2 ^ 44 + f.payload.length % 2 ^ 9 * 2 ^ 35 + f.type % 2 ^ 8 * 2 ^ 27 +
    (if again then 2 ^ 26 else 0)

/-- The first word of OP_HEADER (R349). -/
def frameOp (f : Frame) : Nat :=
  f.reqId % 2 ^ 16 * 2 ^ 48 + (if f.bcast then 2 ^ 47 else 0) + (if f.more then 2 ^ 46 else 0) + f.resv % 2 ^ 2 * 2 ^ 44 +
    f.object % 2 ^ 28 * 2 ^ 16 + f.count % 2 ^ 8 * 2 ^ 8 + f.status % 2 ^ 8

/-- The bytes between the delimiters but for the CRC, multi-byte fields little-endian (R321, R349). -/
def frameBytes (f : Frame) (seq : Nat) (again : Bool) : List Byte :=
  bytesOf (frameHead f seq again) 8 ++ bytesOf (frameOp f) 8 ++ bytesOf f.value 8 ++ bytesOf f.aux 4 ++ f.payload

/-- The frame that a header word, OP_HEADER and a payload spell (R321, R349). -/
def frameOf (head op value aux : Nat) (payload : List Byte) : Frame :=
  { dst := head / 2 ^ 49 % 2 ^ 5, src := head / 2 ^ 44 % 2 ^ 5, type := head / 2 ^ 27 % 2 ^ 8,
    reqId := op / 2 ^ 48 % 2 ^ 16, bcast := op / 2 ^ 47 % 2 == 1, more := op / 2 ^ 46 % 2 == 1, resv := op / 2 ^ 44 % 2 ^ 2,
    object := op / 2 ^ 16 % 2 ^ 28, count := op / 2 ^ 8 % 2 ^ 8, status := op % 2 ^ 8,
    value := value % 2 ^ 64, aux := aux % 2 ^ 32, payload := payload }

/-- A frame as the far end reads it: each field in the width that R321 and R349 give it. -/
def frameRead (f : Frame) : Frame := frameOf (frameHead f 0 false) (frameOp f) f.value f.aux f.payload

/-- LENGTH is at most 256 and a multiple of 8; a frame of another size fails as its CRC would (R321). -/
def frameSized (f : Frame) : Bool := decide (f.payload.length ≤ 256 ∧ f.payload.length % 8 = 0)

/-- A training set: K28.5 and D10.2, then NODE_ADDR, the port and four zero bytes (R346). -/
def trainingSet (node x : Nat) : List Byte := bytesOf 0x4ABC 2 ++ bytesOf node 1 ++ bytesOf x 1 ++ bytesOf 0 4

end Sys2Proof.Machine
end

