-- ==== Sys2Proof/Machine/Perf.lean ====
section
/-! DEFINITION. Performance counters: what an event adds to, the tenant partials, snapshots and clears (R475 to R484). -/
namespace Sys2Proof.Machine

/-! ## Events (R476) -/

/-- The events of R476: number, qualifier kind (0 none, 1 port, 2 link, 3 bank, 4 engine), and whether marked T. -/
def perfEvents : List (Nat × Nat × Bool) := [
  (0x000, 0, false), (0x001, 0, true), (0x100, 1, false), (0x101, 1, false), (0x102, 1, true), (0x103, 1, true),
  (0x104, 1, true), (0x105, 1, true), (0x106, 1, true), (0x107, 1, true), (0x108, 1, true), (0x109, 1, false),
  (0x10A, 1, false), (0x10B, 1, true), (0x200, 2, false), (0x201, 2, false), (0x202, 2, false), (0x203, 2, false)] ++ [
  (0x300, 3, false), (0x301, 3, false), (0x302, 3, false), (0x303, 3, false), (0x304, 3, false), (0x305, 3, false),
  (0x306, 3, true), (0x400, 0, true), (0x401, 0, true), (0x402, 0, true), (0x500, 0, false), (0x501, 0, false),
  (0x600, 1, true), (0x601, 1, true), (0x602, 1, true), (0x603, 1, true), (0x604, 1, false), (0x605, 1, true)] ++ [
  (0x700, 4, true), (0x701, 4, true), (0x702, 4, true), (0x800, 0, false), (0x801, 0, false)]

def evCycles : Nat := 0x000
def evTicks : Nat := 0x001
def evRxFlits : Nat := 0x100
def evTxFlits : Nat := 0x101
def evMemRd : Nat := 0x102
def evMemWr : Nat := 0x103
def evRdBytes : Nat := 0x104
def evWrBytes : Nat := 0x105
def evIoReq : Nat := 0x106
def evUnmapped : Nat := 0x107
def evSynthCpl : Nat := 0x108
def evFecCorrected : Nat := 0x109
def evTrackerWait : Nat := 0x10A
def evRdLatency : Nat := 0x10B
def evD2dData : Nat := 0x200
def evD2dIdle : Nat := 0x201
def evD2dReplays : Nat := 0x202
def evD2dCreditWait : Nat := 0x203
def evDirLookup : Nat := 0x300
def evDirHit : Nat := 0x301
def evBisnpSent : Nat := 0x302
def evDirVictims : Nat := 0x303
def evDirForward : Nat := 0x304
def evLineWait : Nat := 0x305
def evSharedReq : Nat := 0x306
def evGrpCommit : Nat := 0x400
def evGrpAbort : Nat := 0x401
def evGrpConflict : Nat := 0x402
def evCellAlloc : Nat := 0x500
def evSharedFull : Nat := 0x501
def evSentGreen : Nat := 0x600
def evShaperHeld : Nat := 0x603
def evBypassSent : Nat := 0x604
def evSojournSum : Nat := 0x605
def evMvDesc : Nat := 0x700
def evMvBytes : Nat := 0x701
def evMvErrors : Nat := 0x702
def evMirrorWrites : Nat := 0x800
def evMapLookup : Nat := 0x801

/-- No tenant, and no qualifier. -/
def noTenant : Nat := 0xFFFF

/-- A select word (R475) counts an event with a qualifier. -/
def selCounts (w ev q : Nat) : Bool :=
  w.testBit 31 && w % 0x1000 == ev && (bitsOf w 23 16 == 0xFF || bitsOf w 23 16 == q)

/-! ## Counting -/

/-- The tenants' home die: the die of the upstream port of the tenant's host (R478). -/
def State.tenantHome (s : State) (t : Nat) : Nat :=
  let h := bitsOf (s.get (O.T_CFG t)) 53 48
  match (List.range s.ports).find? (fun p =>
      s.get (O.PORT_WIDTH p) != 0 && s.get (O.PORT_ROLE p) == 1 && s.get (O.HOST_ID p) == h) with
  | some p => p / 16
  | none => 0

/-- A partial's key. -/
def partKey (d t k : Nat) : Nat := 8192 * d + 8 * t + k

/-- TC_VALUE: the home die's own partial and the latest partial received from each other die (R478). -/
def State.tcValue (s : State) (t k : Nat) : Nat :=
  let home := s.tenantHome t
  ((List.range s.dies).foldl (fun a d =>
    a + (if d = home then s.perf.part else s.perf.latest).at (partKey d t k)) 0) % 2 ^ 48

/-- A tenant value grows by `n`: its overflow bit when the sum wraps (R477, R478). -/
def State.tcGrow (s : State) (t k old n : Nat) : State :=
  if 2 ^ 48 ≤ old + n then s.setBit (O.TC_OVF t) k true else s

/-- Add to a die's partial of a tenant counter. -/
def State.addPartial (s : State) (d t k n : Nat) : State :=
  let old := s.tcValue t k
  let s1 := { s with perf := { s.perf with part := s.perf.part.upd (partKey d t k) (fun v => (v + n) % 2 ^ 48) } }
  if d = s.tenantHome t then s1.tcGrow t k old n else s1

/-- Add to a general counter (R477). -/
def State.addGeneral (s : State) (inst n : Nat) : State :=
  let v := s.get ⟨0x48, inst, 1⟩ + n
  let s := s.put ⟨0x48, inst, 1⟩ (v % 2 ^ 48)
  if 2 ^ 48 ≤ v then s.put ⟨0x48, inst, 3⟩ 1 else s

/-- The listed select words of class 48: instance, member and word. -/
def State.selects (s : State) : List (Nat × Nat × Nat) :=
  (s.regs.filter (fun c => decide (c.1 / 0x100 % 0x100 = 0x48))).map
    (fun c => (c.1 / 0x10000, c.1 % 0x100, c.2.toNat))

/-- Change every counter whose select word makes it count an event on a die: the die's general counters, and the counters of the
tenant whose work it is (R476). -/
def State.perfEach (s : State) (d ev q t : Nat) (general : Nat → State → State) (part : Nat → Nat → State → State) : State :=
  forEach s.selects (fun e s =>
    let (inst, m, w) := e
    if selCounts w ev q then
      if 0x100 + 64 * d ≤ inst ∧ inst < 0x100 + 64 * (d + 1) ∧ m = 0 then general inst s
      else if 0x400 ≤ inst ∧ m < 0x20 ∧ m % 4 = 0 ∧ (inst - 0x400 = t ∨ (ev = evTicks ∧ d = s.tenantHome (inst - 0x400))) then
        part (inst - 0x400) (m / 4) s
      else s
    else s) s

/-- An event on a die adds `n` to every counter that counts it, while the die's COUNTERS domain runs (R430, R435). -/
def State.perfCount (s : State) (d ev q t n : Nat) : State :=
  if n = 0 ∨ s.domainOn d dCounters = false then s
  else s.perfEach d ev q t (fun i s => s.addGeneral i n) (fun x k s => s.addPartial d x k n)

/-- An event that the core cycle counted and that another takes the place of in the same cycle is not counted (R209). -/
def State.perfUncount (s : State) (d ev q t : Nat) : State :=
  s.perfEach d ev q t (fun i s => s.put ⟨0x48, i, 1⟩ ((s.get ⟨0x48, i, 1⟩ + (2 ^ 48 - 1)) % 2 ^ 48))
    (fun x k s => { s with perf := { s.perf with part := s.perf.part.upd (partKey d x k) (fun v => (v + (2 ^ 48 - 1)) % 2 ^ 48) } })

/-! ## Select words (R475) -/

/-- A qualifier names an instance of its kind; a port must be led by a slice, of die `d` for a general counter. -/
def State.qualOk (s : State) (kind q : Nat) (d : Option Nat) : Bool :=
  q == 0xFF ||
    (match kind with
     | 1 => decide (q < s.ports) && s.get (O.PORT_WIDTH q) != 0 && (match d with | some d => q / 16 == d | none => true)
     | 2 => decide (q < 4)
     | 3 => decide (q < 16)
     | 4 => decide (q < 4)
     | _ => false)

/-- A select word is accepted for a general counter of die `d`, or for a tenant counter (R475); its reserved bits are zero (R10). -/
def State.selectOk (s : State) (w : Nat) (d : Option Nat) : Bool :=
  match perfEvents.find? (fun e => e.1 == w % 0x1000) with
  | some (_, kind, isT) => bitsOf w 30 24 == 0 && bitsOf w 15 12 == 0 && s.qualOk kind (bitsOf w 23 16) d && (d.isSome || isT)
  | none => false

/-- A served write of PC_SELECT: a change of EVENT or QUAL clears the counter. -/
def fxPcSelect (d n w : Nat) (s : State) : State :=
  let changes := s.get (O.PC_SELECT d n) % 2 ^ 24 ≠ w % 2 ^ 24
  let s := s.put (O.PC_SELECT d n) w
  if changes then (s.put (O.PC_VALUE d n) 0).put (O.PC_OVF d n) 0 else s

/-- Every die's partial of a tenant counter is set to 0 and its overflow bit cleared (R480). -/
def State.tcClear (s : State) (t k : Nat) : State :=
  let s := forEach (List.range s.dies) (fun d s =>
    { s with perf := { s.perf with part := s.perf.part.drop (partKey d t k),
                                   latest := s.perf.latest.drop (partKey d t k) } }) s
  s.setBit (O.TC_OVF t) k false

/-- A served write of TC_SELECT. -/
def fxTcSelect (t k w : Nat) (s : State) : State :=
  let changes := s.get (O.TC_SELECT t k) % 2 ^ 24 ≠ w % 2 ^ 24
  let s := s.put (O.TC_SELECT t k) w
  if changes then s.tcClear t k else s

/-- PC_CLEAR of a general counter (R480). -/
def fxPcClear (d n : Nat) (s : State) : State := (s.put (O.PC_VALUE d n) 0).put (O.PC_OVF d n) 0

/-- TC_CLEAR with a bit for each counter (R480). -/
def fxTcClear (t mask : Nat) (s : State) : State :=
  forEach (List.range 8) (fun k s => if mask.testBit k then s.tcClear t k else s) s

/-! ## Partials and snapshots -/

/-- A die sends its partials to the tenants' home dies (R478), at a tick that is a multiple of 25. -/
def fxPartialSend (d : Nat) (s : State) : State :=
  if s.now d % 25 = 0 then
    forEach ((s.perf.part.keys ++ s.perf.latest.keys).filter (fun k => k / 8192 == d)).eraseDups (fun key s =>
      let i := key % 8192
      let t := i / 8
      if d = s.tenantHome t then s
      else
        let new := s.perf.part.at key
        let old := s.perf.latest.at key
        if new = old then s
        else
          let sum := s.tcValue t (i % 8)
          let s := { s with perf := { s.perf with latest := s.perf.latest.set key new } }
          s.tcGrow t (i % 8) sum ((new + 2 ^ 48 - old) % 2 ^ 48)) 
      s
  else s

/-- The snapshot of tick PC_SNAP_AT (R479). -/
def fxPcSnapshot (s : State) : State :=
  let at_ := s.get O.PC_SNAP_AT
  if at_ ≠ 0 ∧ at_ ≤ s.now 0 then
    let clr := s.get O.PC_SNAP_CLEAR = 1
    let gens := (s.regs.filter (fun c => decide (c.1 / 0x100 % 0x100 = 0x48 ∧ 0x100 ≤ c.1 / 0x10000 ∧
      c.1 / 0x10000 < 0x400 ∧ (c.1 % 0x100 = 1 ∨ c.1 % 0x100 = 2)))).map (fun c => c.1 / 0x10000)
    let s := forEach gens.eraseDups (fun i s => s.put ⟨0x48, i, 2⟩ (s.get ⟨0x48, i, 1⟩)) s
    let s := if clr then forEach gens.eraseDups (fun i s => s.put ⟨0x48, i, 1⟩ 0) s else s
    let tcs := (s.perf.part.keys.map (fun k => k % 8192)) ++
      ((s.regs.filter (fun c => decide (c.1 / 0x100 % 0x100 = 0x48 ∧ 0x400 ≤ c.1 / 0x10000 ∧ c.1 % 0x100 < 0x20 ∧
        c.1 % 4 = 2))).map (fun c => (c.1 / 0x10000 - 0x400) * 8 + c.1 % 0x100 / 4))
    let s := forEach tcs.eraseDups (fun i s =>
      s.put (O.TC_SNAP (i / 8) (i % 8))
        (((List.range s.dies).foldl (fun a d => a + s.perf.part.at (8192 * d + i)) 0) % 2 ^ 48)) s
    let s := if clr then { s with perf := { part := [], latest := [] } } else s
    let per := s.get O.PC_SNAP_PERIOD
    ((s.put O.PC_LAST_SNAP_AT at_).wrap32 O.PC_SNAP_COUNT).put O.PC_SNAP_AT (if per = 0 then 0 else at_ + per)
  else s

/-- Block reset of COUNTERS on a die (R480). -/
def State.resetCounters (s : State) (d : Nat) : State :=
  let s := s.clearWhere (fun o => o.cls == 0x48 && decide (0x100 + 64 * d ≤ o.inst ∧ o.inst < 0x100 + 64 * (d + 1)))
  { s with perf := { part := s.perf.part.filter (fun e => e.1 / 8192 != d),
                     latest := s.perf.latest.filter (fun e => e.1 / 8192 != d) } }

end Sys2Proof.Machine
end

