-- ==== Sys2Proof/Machine/Bypass.lean ====
section
/-! DEFINITION. Routing between dies (R19 to R21) and the bypass channel of a link (R329, R330). -/
namespace Sys2Proof.Machine

/-! ## Link ends -/

/-- The number of link `k` of die `d`: its instance in class 13, and 0x100 below its instance in class 12. -/
def linkNo (d k : Nat) : Nat := 4 * d + k

/-- Ihlod ports A and B in the numbering of class 12 (R340). -/
def ihlodA : Nat := 32
def ihlodB : Nat := 33

/-- A link end's record. -/
def State.link (s : State) (l : Nat) : Link := s.lnk.link.at l

/-- Change a link end's record. -/
def State.setLink (s : State) (l : Nat) (f : Link → Link) : State :=
  { s with lnk := { s.lnk with link := s.lnk.link.upd l f } }

/-- The other end of an Invar link. -/
def State.peerLink (s : State) (l : Nat) : Nat := linkNo (peerDie s.variant (l / 4) (l % 4)) (l % 4)

def d2dTraining : Nat := 0
def d2dUp : Nat := 1
def d2dRetraining : Nat := 2
def d2dRetired : Nat := 3

/-- An Invar link end is healthy for R20: it is not retired. -/
def State.linkHealthy (s : State) (l : Nat) : Bool := s.get (O.D2D_STATE l) != d2dRetired

/-- A link end is up: an Invar link's D2D_STATE, an Ihlod port's SEG_STATE. -/
def State.linkIsUp (s : State) (l : Nat) : Bool :=
  if l < 32 then s.get (O.D2D_STATE l) == d2dUp else s.get (O.SEG_STATE (l - 32)) == 1

/-- The settings instance of a link (R339). -/
def llSet (l : Nat) : Nat := if l < 32 then 0 else 1

/-! ## Routes (R20, R21) -/

/-- Links of die `cur` whose far end is die `dst` and that a test accepts. -/
def State.linksTo (s : State) (ok : Nat → Bool) (cur dst : Nat) : List Nat :=
  (List.range 4).filter (fun k => peerDie s.variant cur k == dst && ok (linkNo cur k))

/-- The mask of a die's links that a test accepts. -/
def okMask (ok : Nat → Bool) (d : Nat) : Nat :=
  (List.range 4).foldl (fun a k => if ok (linkNo d k) then a + 2 ^ k else a) 0

/-- The dies from which a die is reached over at most `n` links that a test accepts. -/
def State.near (s : State) (ok : Nat → Bool) (dst : Nat) : Nat → List Nat
  | 0 => [dst]
  | n + 1 =>
    let r := s.near ok dst n
    (List.range s.dies).filter (fun i => r.contains i || (List.range 4).any (fun k => ok (linkNo i k) && r.contains (peerDie s.variant i k)))

/-- The intermediate dies of the shortest paths from `cur` to `dst` where no link joins the two. -/
def State.midDies (s : State) (ok : Nat → Bool) (cur dst : Nat) : List Nat :=
  let mids := fun n => (s.near ok dst n).filter (fun i => i != cur && !(s.linksTo ok cur i).isEmpty)
  match (List.range s.dies).find? (fun n => !(mids n).isEmpty) with
  | some n => mids n
  | none => []

/-- The link a message takes from die `cur` toward die `dst`: a direct link, else a link toward an intermediate die on a shortest
path, each chosen by the hash of the route key (R20, R21). That two dies left with paths of three links or more keep the shortest
of them, and are not yet without a path, is DEDUCED (log 87). -/
def State.route (s : State) (ok : Nat → Bool) (cur dst key : Nat) : Option Nat :=
  let h := Config.routeHash key cur dst (okMask ok cur)
  match s.linksTo ok cur dst with
  | [] =>
    let mids := s.midDies ok cur dst
    if mids.isEmpty then none
    else
      let ks := s.linksTo ok cur (mids.getD (h % mids.length) 0)
      some (ks.getD (h / 16 % ks.length) 0)
  | ks => some (ks.getD (h % ks.length) 0)

/-- A die that some other die can no longer be reached from, over the links that are not retired (R21). -/
def State.severed (s : State) (cur : Nat) : Bool :=
  (List.range s.dies).any (fun dst => dst != cur && (s.route s.linkHealthy cur dst 0).isNone)

/-- The link of R20 for a message of the body. -/
def State.nextLink (s : State) (cur dst key : Nat) : Option Nat := s.route s.linkHealthy cur dst key

/-! ## The bypass channel (R329, R330) -/

def bAck : Nat := 1
def bNak : Nat := 2
def bCredit : Nat := 3
def bTimeSync : Nat := 4
def bHeartbeat : Nat := 5
def bFaultNotice : Nat := 6
def bNoticeAck : Nat := 7
def bHandover : Nat := 8

/-- A newer message replaces a waiting one of its kind, for CREDIT of its channel; a repeat of a waiting FAULT_NOTICE
is not queued. -/
def Bypass.coalesces (b c : Bypass) : Bool :=
  b.type == c.type &&
    (b.type == bAck || b.type == bNak || b.type == bTimeSync || b.type == bHeartbeat ||
      (b.type == bCredit && b.args.head? == c.args.head?) || (b.type == bFaultNotice && b.args == c.args))

/-- Put a message in a list of waiting ones. -/
def queueBypass (q : List Bypass) (b : Bypass) : List Bypass :=
  if q.any (fun c => b.coalesces c) then
    q.map (fun c => if b.coalesces c then { b with at_ := c.at_ } else c)
  else q ++ [b]

/-- Queue a bypass message at a link end. -/
def State.pushBypass (s : State) (l type dst : Nat) (args : List Nat) : State :=
  s.setLink l (fun k => { k with bypass := queueBypass k.bypass { type := type, dst := dst, args := args, at_ := k.flits } })

/-- Queue a bypass message toward another die, over an UP path chosen as in R21; where there is none it waits on its die for one. -/
def State.sendBypass (s : State) (src dst type : Nat) (args : List Nat) : State :=
  match s.route s.linkIsUp src dst 0 with
  | some k => s.pushBypass (linkNo src k) type dst args
  | none => { s with lnk := { s.lnk with stray := s.lnk.stray.upd src (fun q => queueBypass q { type := type, dst := dst, args := args }) } }

/-- The bypass messages that waited for a path go out where there is one (R330). -/
def State.sendStrays (s : State) : State :=
  forEach s.lnk.stray (fun x s => forEach x.2 (fun b s => s.sendBypass x.1 b.dst b.type b.args) s) { s with lnk := { s.lnk with stray := [] } }

/-- The messages that are relayed where their link is not UP (R330). -/
def Bypass.relayed (b : Bypass) : Bool := b.type == bTimeSync || b.type == bFaultNotice || b.type == bNoticeAck || b.type == bHandover

/-- What waits at a link end that is not UP, and may be relayed, takes another path (R330). -/
def State.relayBypass (s : State) (l : Nat) : State :=
  let mine := (s.link l).bypass.filter Bypass.relayed
  forEach mine (fun b s => s.sendBypass (l / 4) b.dst b.type b.args) (s.setLink l (fun r => { r with bypass := r.bypass.filter (fun b => !b.relayed) }))

/-- Bypass messages that a link end has sent are lost. No later HANDOVER makes a lost one good, and its sender sends it again (DEDUCED,
log 117). -/
def State.loseBypass (s : State) (l : Nat) (lost : Bypass → Bool) : State :=
  let gone := (s.link l).bwire.filter (fun b => lost b && b.type == bHandover)
  forEach gone (fun b s => s.sendBypass (l / 4) b.dst b.type b.args) (s.setLink l (fun r => { r with bwire := r.bwire.filter (fun b => !lost b) }))

/-- The order of R330 among messages that have waited less than 8 flit times. -/
def bypassRank (b : Bypass) : Nat :=
  match b.type with
  | 2 => 0 | 1 => 1 | 4 => 2 | 7 => 3 | 6 => 4 | 8 => 5 | 3 => 6 | _ => 7

/-- The message that fills the next slot: the oldest that has waited 8 flit times, else the first in the order of R330,
CREDIT by channel in rotation from `turn`. -/
def pickBypass (q : List Bypass) (now turn : Nat) : Option Bypass :=
  match q.filter (fun b => decide (b.at_ + 8 ≤ now)) with
  | b :: r => some (r.foldl (fun a c => if c.at_ < a.at_ then c else a) b)
  | [] =>
    let rank := fun (b : Bypass) => bypassRank b * 8 + (if b.type = bCredit then (b.args.headD 0 + 5 - turn % 5) % 5 else 0)
    match q with
    | [] => none
    | b :: r => some (r.foldl (fun a c => if rank c < rank a then c else a) b)

/-- Take the oldest bypass message of a type that a link end's peer has sent and this end, which is UP, has not yet taken. -/
def State.takeBypass (s : State) (far type : Nat) : Option (Bypass × State) :=
  match (s.link far).bwire.find? (fun b => b.type == type && s.linkIsUp (s.peerLink far)) with
  | some b => some (b, s.setLink far (fun k => { k with bwire := k.bwire.erase b }))
  | none => none

end Sys2Proof.Machine
end

