-- ==== Sys2Proof/Machine/Time.lean ====
section
/-! DEFINITION. Fabric time: the tick, the time states and their events (R58 to R66), and how a transaction ends
without being applied (R72, R76, R80), which the time events bring about. -/
namespace Sys2Proof.Machine

/-! ## Time states (R63) -/

def ftFree : Nat := 0
def ftLocked : Nat := 1
def ftHoldover : Nat := 2
def ftExpired : Nat := 3
def ftAcquiring : Nat := 4

/-- One second in ticks: FT_SYNC marks the multiples of it (R58). -/
def second : Nat := 25000000

/-- FT_STATE. -/
def State.ftState (s : State) : Nat := s.get O.FT_STATE

/-- DIE_TIME_OK of a die: its copy is loaded and R61 does not flag it; always so for die 0 (R68). -/
def State.timeOk (s : State) (d : Nat) : Bool := d == 0 || ((s.time d).loaded && !(s.time d).flagged)

/-- A die is flagged while the mode powers the datapath, so that the package treats its time state as HOLDOVER (R61). -/
def State.dieHeld (s : State) : Bool := s.datapathOn && (List.range s.dies).any (fun d => !s.timeOk d)

/-- The package is in holdover for R77: HOLDOVER, ACQUIRING after holdover, or a die flagged. -/
def State.inHoldover (s : State) : Bool :=
  s.ftState == ftHoldover || s.ftState == ftAcquiring || s.dieHeld

/-- The time state counts as EXPIRED, itself or as the state that ACQUIRING follows (R63). -/
def State.inExpired (s : State) : Bool :=
  s.ftState == ftExpired || (s.ftState == ftAcquiring && s.clk.acquiringFrom == ftExpired)

/-! ## How a transaction ends unapplied (R72, R76, R80) -/

def txIdle : Nat := 0
def txOpenSt : Nat := 1
def txPreparing : Nat := 2
def txReady : Nat := 3
def txScheduled : Nat := 4
def txLocked : Nat := 5
def txApplied : Nat := 6
def txFailed : Nat := 7
def txAborted : Nat := 8

/-- The four instances of class 07 that hold transactions, in interface order (R71). -/
def txInstances : List Nat := [1, 2, 3, 4]

/-- Forget the staged set and the reservations of a transaction. -/
def State.txDiscard (s : State) (x : Nat) : State := { s with tx := s.tx.drop x }

/-- A transaction that fails or is applied releases its reservations; TX_COUNT goes on reading its staged set until the next
OPEN. -/
def State.txRelease (s : State) (x : Nat) : State :=
  { s with tx := s.tx.upd x (fun t => { t with readSet := [], implicit := [] }) }

/-- A transaction fails: FAILED with a status, TX_FAILED raised on die 0, reservations released (R76, R80). -/
def State.txFail (s : State) (x status index object : Nat) : State :=
  ((((((s.put (O.TX_STATE x) txFailed).put (O.TX_STATUS x) status).put (O.TX_FAIL_INDEX x) index).put
    (O.TX_FAIL_OBJECT x) object).count32 O.FAILED_COUNT).txRelease x).raiseDie 0 F.TX_FAILED

/-- A transaction is aborted: ABORTED, with status ABORTED (R80). -/
def State.txAbort (s : State) (x : Nat) : State :=
  (((s.put (O.TX_STATE x) txAborted).put (O.TX_STATUS x) stAborted).count32 O.FAILED_COUNT).txDiscard x

/-- A transaction is READY or SCHEDULED, so that an event of R76 can fail it. -/
def State.txWaiting (s : State) (x : Nat) : Bool :=
  s.get (O.TX_STATE x) == txReady || s.get (O.TX_STATE x) == txScheduled

/-- Some transaction is LOCKED. -/
def State.anyLocked (s : State) : Bool := txInstances.any (fun x => s.get (O.TX_STATE x) == txLocked)

/-- Fail every READY or SCHEDULED transaction that satisfies a test (R76). -/
def State.txFailWhere (s : State) (p : State → Nat → Bool) (status : Nat) : State :=
  forEach txInstances (fun x s => if s.txWaiting x && p s x then s.txFail x status 0xFFFF 0 else s) s

/-- Holdover begins: a SCHEDULED transaction beyond the limit fails with HOLDOVER (R76). -/
def State.txHoldover (s : State) : State :=
  s.txFailWhere (fun s x => s.get (O.TX_STATE x) == txScheduled &&
    decide (s.get O.HOLDOVER_START + s.get O.HOLDOVER_LIMIT < s.get (O.TX_INSTANT x))) stHoldover

/-! ## Events of time -/

/-- The slew that ACQUIRING was doing ends. -/
def State.endSlew (s : State) : State := { s with clk := { s.clk with slewLeft := 0 } }

/-- Die 0 becomes LOCKED (R63). REF_LOCK_TIME starts again where it was not LOCKED before (R67). -/
def State.lockTime (s : State) : State :=
  let s := if s.ftState = ftLocked then s else s.put O.REF_LOCK_TIME 0
  (s.put O.FT_STATE ftLocked).endSlew

/-- A periodic activity resumes at the first tick after a step, forward or back, that falls on its period (R65). DEDUCED (log 109): so does one
whose first instant has not come, since that instant and its period fix the ticks it falls on. -/
def State.resumePeriod (s : State) (at_ per : Obj) (value : Nat) : State :=
  let t := s.get at_
  let p := s.get per
  if t = 0 ∨ p = 0 then s
  else if value < t then s.put at_ (t - (t - value - 1) / p * p)
  else s.put at_ (t + ((value - t) / p + 1) * p)

/-- A step of the counter (R65): unlocked transactions fail with CLOCK, the count is set, the step is recorded. DESIGN CHOICE
(log 83): STEP_COUNT wraps at 2^32; R67 says of it neither that it wraps nor that it saturates. Periodic activities resume on their
periods; DESIGN CHOICE (log 109): a single instant that the step passes over is taken at once. -/
def State.stepTime (s : State) (value : Nat) : State :=
  let s := s.txFailWhere (fun _ _ => true) stClock
  let s := s.setTime 0 (fun t => { t with now := value, sub := 0 })
  let s := { s with clk := { s.clk with windowSpoilt := true } }
  let s := ((s.resumePeriod O.HWM_SNAP_AT O.HWM_SNAP_PERIOD value).resumePeriod O.PC_SNAP_AT O.PC_SNAP_PERIOD value).resumePeriod
    O.CA_AT O.CA_PERIOD value
  ((s.setBit O.FT_FLAGS 3 true).wrap32 O.STEP_COUNT).raiseDie 0 F.TIME_STEPPED

/-- The multiple of one second nearest to die 0's count (R65). -/
def State.nearestSecond (s : State) : Nat := (s.now 0 + second / 2) / second * second

/-- The offset of the counter in sub-ticks at an FT_SYNC edge (R65). -/
def State.syncOffset (s : State) : Int :=
  (Int.ofNat (s.now 0 * 64 + (s.time 0).sub)) - Int.ofNat (s.nearestSecond * 64)

/-- FT_REF is declared lost (R64): HOLDOVER from LOCKED or ACQUIRING, and the loss recorded and raised. -/
def State.loseRef (s : State) (edges : Bool) : State :=
  let s := { s with clk := { s.clk with refEdges := edges, refGood := false, goodWindows := 0, windowSpoilt := true } }
  let s := (s.setBit O.FT_FLAGS 0 true).raiseDie 0 F.FT_REF_LOST
  if s.ftState = ftLocked ∨ s.ftState = ftAcquiring then
    (((s.put O.FT_STATE ftHoldover).put O.HOLDOVER_START (s.now 0)).endSlew).txHoldover
  else s

/-- FT_REF is restored (R63, R64): HOLDOVER and EXPIRED become ACQUIRING. -/
def State.restoreRef (s : State) : State :=
  let s := { s with clk := { s.clk with refGood := true } }
  if s.ftState = ftHoldover ∨ s.ftState = ftExpired then
    { s with clk := { s.clk with acquiringFrom := s.ftState } }.put O.FT_STATE ftAcquiring
  else s

/-- A die is flagged under R61: DIE_SKEW is raised there, the flag set, and waiting transactions fail with CLOCK
while the mode powers the datapath (R76). DESIGN CHOICE (log 84): a SCHEDULED one whose instant lies beyond the holdover limit meets
two rows of R76, CLOCK and HOLDOVER, and takes CLOCK, the earlier row. -/
def State.flagDie (s : State) (d : Nat) : State :=
  let s := s.setTime d (fun t => { t with flagged := true })
  let s := (s.setBit O.FT_FLAGS 5 true).raiseDie d F.DIE_SKEW
  if s.datapathOn then s.txFailWhere (fun _ _ => true) stClock else s

/-- A die's copy falls back to running unloaded (R61): its Invar links are unpowered or its DATAPATH is in reset. -/
def State.unloadDie (s : State) (d : Nat) : State :=
  if d = 0 then s
  else
    let was := s.timeOk d
    let s := s.setTime d (fun t => { t with loaded := false, flagged := false, sub := 0 })
    if was && s.datapathOn then s.txFailWhere (fun _ _ => true) stClock else s

/-- HOLDOVER_START at the beginning of the holdover that a flagged die brings (R61), which fails SCHEDULED sets beyond its limit (R76). -/
def State.noteDieHold (s : State) : State :=
  if s.dieHeld = s.clk.dieHoldover then s
  else
    let begins := s.dieHeld
    let s := { s with clk := { s.clk with dieHoldover := begins } }
    if begins && !(s.ftState == ftHoldover || s.ftState == ftExpired) then (s.put O.HOLDOVER_START (s.now 0)).txHoldover else s

/-! ## The effects of the time commands -/

/-- The counter of a die runs: die 0's on a stable TIME PLL, and each while its MGMT domain runs (R424, R434). -/
def State.counting (s : State) (d : Nat) : Bool := s.domainOn d dMgmt && (d != 0 || (s.rst.pll.at 4).stable)

/-- One tick on a die (R59, R61): FT_NOW advances and the sub-tick count restarts. REF_LOCK_TIME counts LOCKED ticks. -/
def fxTick (d : Nat) (s : State) : State :=
  let on := s.counting d
  let s := s.setTime d (fun t => { t with now := if on then (t.now + 1) % 2 ^ 64 else t.now, sub := 0, elapsed := t.elapsed + 1 })
  if d = 0 ∧ on = true ∧ s.ftState = ftLocked then s.put O.REF_LOCK_TIME (s.get O.REF_LOCK_TIME + 1) else s

/-- A core cycle passes within the current tick (R59): the sub-tick count of die 0, and of every die with a loaded copy, goes up
while the die counts, and holds at 63 (R424). -/
def fxCoreCycle (s : State) : State :=
  forEach (List.range s.dies) (fun d s =>
    s.setTime d (fun t => { t with sub := if s.counting d && (d == 0 || t.loaded) && decide (t.sub < 63) then t.sub + 1 else t.sub })) s

/-- Arm a TOD load (R62). -/
def fxTodArm (v : Nat) (s : State) : State :=
  ({ s with clk := { s.clk with todValue := v, todAt := s.elapsed 0 } }.put O.TOD_LOAD v).put O.TOD_ARMED 1

/-- The armed load is due at this edge (R62). One that steps FT_NOW waits while a transaction is LOCKED (R65). -/
def State.todDue (s : State) : Bool :=
  s.get O.TOD_ARMED == 1 && decide (s.clk.todAt + 250 ≤ s.elapsed 0) &&
    (!s.anyLocked || s.now 0 == s.clk.todValue)

/-- The armed load completes (R62, R63). It is a step where it changes FT_NOW; where FT_NOW has the value already, only the sub-tick
count becomes 0. DESIGN CHOICE (log 85): SYNC_OFFSET reads 0 after the edge of a load, since the counter then stands at the multiple
that the edge marks, and R66's check of the edge is not made; the spec does not say which comes first. -/
def State.todComplete (s : State) : State :=
  let s := if s.now 0 = s.clk.todValue then s.setTime 0 (fun t => { t with sub := 0 }) else s.stepTime s.clk.todValue
  let s := (s.put O.TOD_ARMED 0).put O.SYNC_OFFSET 0
  let s := { s with clk := { s.clk with windowSpoilt := true } }
  if s.clk.refGood then s.lockTime else s

/-- FT_REF has returned part of the way through a window, which is then out of tolerance (R64). -/
def State.refReturns (s : State) : State :=
  if s.clk.refEdges then s else { s with clk := { s.clk with refEdges := true, windowSpoilt := true } }

/-- An FT_SYNC edge (R62, R65, R66). Die 0 samples FT_SYNC at each FT_REF edge and at no other moment (R488), so FT_REF delivers edges. -/
def fxFtSyncEdge (s : State) : State :=
  let s := s.refReturns
  let s := { s with clk := { s.clk with syncSeen := s.elapsed 0, syncMissed := false } }
  if s.todDue then s.todComplete
  else
    let off := s.syncOffset
    let s := s.put O.SYNC_OFFSET (ofS32 off)
    if s.ftState = ftAcquiring then
      if s.clk.slewLeft ≠ 0 then s
      else if off.natAbs ≤ 64 then
        if off = 0 then s.lockTime
        else { s with clk := { s.clk with slewLeft := off, slewAt := s.elapsed 0 } }
      else if s.anyLocked then s
      else (s.stepTime s.nearestSecond).lockTime
    else if s.ftState = ftLocked then
      if off = 0 then s else (s.setBit O.FT_FLAGS 2 true).raiseDie 0 F.SYNC_ERROR
    else s

/-- FT_REF delivers no edge for three nominal periods (R64). -/
def fxFtRefLost (s : State) : State := if s.clk.refEdges then s.loseRef false else s

/-- A window of R64 can end: it is 1,024 ft since the one before ended, or a step or load came between, and one ends in a tick at most. -/
def State.windowEnds (s : State) : Bool :=
  decide (s.clk.windowAt < s.elapsed 0) && (s.clk.windowSpoilt || decide (s.clk.windowAt + 1024 ≤ s.elapsed 0))

/-- A window begins whole: what went before it does not count against it (R64). -/
def State.newWindow (s : State) : State := { s with clk := { s.clk with windowSpoilt := false } }

/-- The end of a 1,024 ft frequency window (R64). DESIGN CHOICE (log 86): a window in which FT_NOW was stepped or loaded, or part of
the way through which FT_REF was lost or returned, is out of tolerance for the count of good windows and declares no loss by
itself; R64 does not say whether such a window of LOCKED is a loss. After a reset too FT_REF counts as good from its second whole
good window on: DESIGN CHOICE (log 12). -/
def fxFrequencyWindowEnd (edges : Bool) (ppm : Int) (s : State) : State :=
  if s.now 0 % 1024 ≠ 0 ∨ s.windowEnds = false then s
  else
    let whole := s.clk.refEdges
    let spoilt := s.clk.windowSpoilt
    let s := { s with clk := { s.clk with refEdges := edges, windowSpoilt := false, windowAt := s.elapsed 0 } }
    if !edges then (if s.clk.refGood then (s.loseRef false).newWindow else s)
    else if !whole then { s with clk := { s.clk with goodWindows := 0 } }
    else if spoilt then { s with clk := { s.clk with goodWindows := 0 } }
    else if 200 < ppm.natAbs then
      (if s.clk.refGood then (s.loseRef true).newWindow else { s with clk := { s.clk with goodWindows := 0 } })
    else if s.clk.refGood then s
    else
      let s := { s with clk := { s.clk with goodWindows := s.clk.goodWindows + 1 } }
      if 2 ≤ s.clk.goodWindows then s.restoreRef else s

/-- One step of a slew (R65). -/
def fxSlewStep (s : State) : State :=
  if s.ftState = ftAcquiring ∧ s.clk.slewLeft ≠ 0 ∧ s.clk.slewAt + 64 ≤ s.elapsed 0 then
    let left := if 0 < s.clk.slewLeft then s.clk.slewLeft - 1 else s.clk.slewLeft + 1
    let s := { s with clk := { s.clk with slewLeft := left, slewAt := s.elapsed 0 } }
    if left = 0 then s.lockTime else s
  else s

/-- FT_NOW reaches HOLDOVER_START + HOLDOVER_LIMIT + 1 in HOLDOVER (R63). -/
def fxHoldoverExpired (s : State) : State :=
  if s.ftState = ftHoldover ∧ s.get O.HOLDOVER_START + s.get O.HOLDOVER_LIMIT + 1 ≤ s.now 0 then
    ((s.put O.FT_STATE ftExpired).setBit O.FT_FLAGS 4 true).raiseDie 0 F.HOLDOVER_EXPIRED
  else s

/-- No FT_SYNC edge for 27,500,000 ft in LOCKED (R66). -/
def fxFtSyncMissing (s : State) : State :=
  if s.ftState = ftLocked ∧ s.clk.syncMissed = false ∧ s.clk.syncSeen + 27500000 ≤ s.elapsed 0 then
    ({ s with clk := { s.clk with syncMissed := true } }.setBit O.FT_FLAGS 1 true).raiseDie 0 F.FT_SYNC_MISSING
  else s

/-- A die misses eight consecutive sync messages (R61). -/
def fxSyncMessagesMissed (d : Nat) (s : State) : State :=
  if d ≠ 0 ∧ (s.time d).loaded ∧ (s.time d).flagged = false ∧ (s.time d).lastSync + 200 ≤ s.elapsed d then
    s.flagDie d
  else s

end Sys2Proof.Machine
end

