-- ==== Sys2Proof/Machine/Ports.lean ====
section
/-! DEFINITION. CXL ports and lanes: the layout of slices, training, the sideband and the hot-plug sequence, port
commands, tag slots, and link drops (R86 to R109, R501). -/
namespace Sys2Proof.Machine

/-! ## Codes and geometry (R88, R107, R501) -/

def roleDisabled : Nat := 0
def roleUpstream : Nat := 1
def roleDownstream : Nat := 2
def roleFm : Nat := 3

def lsDisabled : Nat := 0
def lsDetect : Nat := 1
def lsTraining : Nat := 2
def lsUp : Nat := 3
def lsRecovery : Nat := 4
def lsFailed : Nat := 5
def lsRetired : Nat := 6

/-- The LTSSM codes of R501 that a training attempt may pass through: every state but Detect.Quiet and Disabled, Recovery among them
for the rates above the first (R94) and Hot Reset for a port that a HOT_RESET retrains. DEDUCED (log 22). -/
def ltssmTraining : List Nat :=
  [0x01, 0x02, 0x03, 0x04, 0x05, 0x06, 0x07, 0x08, 0x09, 0x0A, 0x0B, 0x0C, 0x0D, 0x0E, 0x0F, 0x10, 0x11, 0x12, 0x13, 0x15, 0x16, 0x17, 0x18]

/-- The LTSSM codes of Recovery. -/
def ltssmRecovery : List Nat := [0x0C, 0x0D, 0x0E, 0x0F, 0x10, 0x11, 0x12, 0x13]

def ltTraining : Nat := 0x100
def ltRecovery : Nat := 0x101

/-- A port's record. -/
def State.port (s : State) (p : Nat) : Port := s.prt.port.at p

/-- Change a port's record. -/
def State.setPort (s : State) (p : Nat) (f : Port → Port) : State :=
  { s with prt := { s.prt with port := s.prt.port.upd p f } }

/-- A tag slot of a port. -/
def State.tagSlot (s : State) (p n : Nat) : TagSlot := s.prt.tag.at (4096 * p + n)

/-- Change a tag slot. -/
def State.setTag (s : State) (p n : Nat) (f : TagSlot → TagSlot) : State :=
  { s with prt := { s.prt with tag := s.prt.tag.upd (4096 * p + n) f } }

/-- PORT_ROLE of a slice, DISABLED where it is absorbed (R89). -/
def State.role (s : State) (p : Nat) : Nat := if s.get (O.PORT_WIDTH p) = 0 then roleDisabled else s.get (O.PORT_ROLE p)

/-- LINK_STATE. -/
def State.linkState (s : State) (p : Nat) : Nat := s.get (O.LINK_STATE p)

/-- Ticks elapsed on a port's die. -/
def State.portClock (s : State) (p : Nat) : Nat := s.elapsed (dieOfPort p)

/-- Slices a port takes (R88). -/
def State.slicesOf (s : State) (p : Nat) : Nat := s.get (O.PORT_WIDTH p) / 4

/-- The lead slice of the port that holds a slice (R88, R89): the nearest slice at or below it, on its die, that is
not absorbed. -/
def State.leadOf (s : State) (p : Nat) : Nat :=
  let cands := (List.range (p % 16 + 1)).map (fun k => p - k)
  (cands.find? (fun q => s.get (O.PORT_WIDTH q) != 0)).getD p

/-- The lanes of a port, logical lane 0 first in normal order (R88). -/
def State.lanesOf (s : State) (p : Nat) : List Nat := (List.range (4 * s.slicesOf p)).map (fun k => 4 * p + k)

/-- The modes in which ports train (R91). -/
def State.trainMode (s : State) : Bool := decide (mLinkup ≤ s.mode ∧ s.mode ≤ mMaint)

/-- The channel identifier of a port (R402). -/
def chPort (p : Nat) : Nat := channelId 4 p

/-- Raise a port source of the port's die, with the port as its channel. -/
def State.raisePort (s : State) (p loc addr master typ : Nat) : State :=
  s.raise (dieOfPort p * 512 + loc) (chPort p) addr master typ

/-- The upstream port of a host (R90). -/
def State.hostPort (s : State) (h : Nat) : Option Nat :=
  (List.range s.ports).find? (fun p => s.role p == roleUpstream && s.get (O.HOST_ID p) == h)

/-- Ports with a role, in port-number order. -/
def State.portsWith (s : State) (r : Nat) : List Nat := (List.range s.ports).filter (fun p => s.role p == r)

/-- The LTSSM state of a port (R501). -/
def State.ltssmOf (s : State) (p : Nat) : Nat :=
  let r := s.port p
  let k := Config.ltssm r.phase (s.portClock p)
  if r.ltssm = ltTraining then ltssmTraining.getD (k % 23) 1
  else if r.ltssm = ltRecovery then ltssmRecovery.getD (k % 8) 0x0C
  else r.ltssm

/-- A protocol that a port has negotiated (R94, R107): 1 CXL.mem, 2 CXL.cache, 3 back-invalidate. -/
def State.speaks (s : State) (p bit : Nat) : Bool := s.bit (O.PROTOCOLS p) bit

/-- A port carries data: it is UP, and IDE that it has enabled is SECURE (R105). -/
def State.carries (s : State) (p : Nat) : Bool :=
  s.linkState p == lsUp && (s.get (O.IDE_STATE p) == 0 || s.get (O.IDE_STATE p) == 2)

/-- Drive a downstream port's PERST_N output (R97); in SAFE it is held as it stands (R418). -/
def State.drivePerst (s : State) (p : Nat) (asserted : Bool) : State :=
  if s.role p = roleDownstream ∧ (s.port p).perstOut ≠ asserted ∧ s.dieSafe (dieOfPort p) = false then
    (s.setPort p (fun r => { r with perstOut := asserted })).send (.perst p asserted)
  else s

/-! ## Layout (R89) -/

/-- The first rule of R89 that a slice breaks as a lead or as an absorbed slice; 0 when it breaks none. DESIGN CHOICE (log 106): of two
ports with one HOST_ID, and of two FM ports, the higher-numbered breaks the rule; R89 says only that the ports must differ. -/
def State.layoutRule (s : State) (p : Nat) : Nat :=
  let w := s.get (O.PORT_WIDTH p)
  let slice := p % 16
  if w = 0 then
    let q := s.leadOf p
    if s.get (O.PORT_WIDTH q) = 0 ∨ q + s.slicesOf q ≤ p then 2 else 0
  else if (w = 8 ∧ slice % 2 ≠ 0) ∨ (w = 16 ∧ slice % 4 ≠ 0) ∨
      ((List.range (w / 4)).any (fun k => decide (0 < k) && s.get (O.PORT_WIDTH (p + k)) != 0)) then 1
  else
    let ups := s.portsWith roleUpstream
    let r := s.get (O.PORT_ROLE p)
    if r = roleUpstream ∧
        (64 < (ups.filter (fun q => decide (q ≤ p))).length ∨ 63 < s.get (O.HOST_ID p) ∨
          ups.any (fun q => decide (q < p) && s.get (O.HOST_ID q) == s.get (O.HOST_ID p))) then 3
    else if r = roleFm ∧ (s.portsWith roleFm).any (fun q => decide (q < p)) then 4
    else 0

/-- The check of R89: the first failing port and rule, if any. -/
def State.layoutFailure (s : State) : Option (Nat × Nat) :=
  ((List.range s.ports).map (fun p => (p, s.layoutRule p))).find? (fun x => decide (x.2 ≠ 0))

/-- Record the outcome of the layout check (R108). -/
def State.recordLayout (s : State) : State :=
  match s.layoutFailure with
  | some (p, r) => (s.put O.LAYOUT_ERROR p).put O.LAYOUT_RULE r
  | none => (s.put O.LAYOUT_ERROR 0xFFFFFFFF).put O.LAYOUT_RULE 0

/-! ## Training (R92 to R96) -/

/-- The LTSSM moves in training or in Recovery as free values say. -/
def State.moveLtssm (s : State) (p c : Nat) : State :=
  { s with free := s.free + 1 }.setPort p (fun r => { r with ltssm := c, phase := s.free })

/-- A training attempt begins with the settings of now (R107). -/
def State.beginAttempt (s : State) (p : Nat) : State :=
  s.setPort p (fun r => { r with attemptAt := some (s.portClock p), pauseAt := none,
                                 maxRate := s.get (O.MAX_RATE p), minWidth := s.get (O.MIN_WIDTH p), sris := s.get (O.CLOCK_MODE p) })

/-- Start a training attempt (R93) of a port that has no link. -/
def State.startAttempt (s : State) (p : Nat) : State :=
  let s := (s.put (O.LINK_STATE p) lsTraining).moveLtssm p ltTraining
  (s.setPort p (fun r => { r with outSince := none })).beginAttempt p

/-- A port's lanes run: DATAPATH of its die is released, and the PHY PLL that clocks them is stable (R424, R425, R430). -/
def State.lanesRun (s : State) (p : Nat) : Bool :=
  s.domainOn (dieOfPort p) dDatapath && (s.rst.pll.at (16 * dieOfPort p + 2)).stable

/-- A training attempt may start on a port: the mode permits it, its lanes run, and an upstream or FM port's PERST_N is high. -/
def State.mayTrain (s : State) (p : Nat) : Bool :=
  s.trainMode && s.lanesRun p && !(s.port p).cmdDisabled && s.linkState p != lsRetired &&
    (s.role p == roleDownstream || ((s.role p == roleUpstream || s.role p == roleFm) && !(s.port p).perstIn))

/-- The slot power channel associated with a port, if any, is good (R99, R377). -/
def State.slotPowerOk (s : State) (p : Nat) : Bool :=
  (List.range s.variant.slotChannels).all (fun n => s.get (O.CH_PORT n) != p || (s.get (O.CH_STATE n) == 3 && s.bit (O.CH_COND n) 6))

/-- A port may start an attempt at once: a downstream port needs a device, its power, and PERST_N released (R92, R99). -/
def State.canAttempt (s : State) (p : Nat) : Bool :=
  s.mayTrain p && (s.role p != roleDownstream || ((s.port p).present && s.slotPowerOk p && !(s.port p).perstOut))

/-- Begin the hot-plug sequence where everything it waits for has come (R99): instant P is now. A FAILED or RETIRED port is left by
its own ways only (R93, R96). -/
def State.tryHotplug (s : State) (p : Nat) : State :=
  let r := s.port p
  if s.role p = roleDownstream ∧ s.linkState p ≠ lsFailed ∧ s.linkState p ≠ lsRetired ∧ s.trainMode = true ∧ r.want = true ∧ r.present = true ∧ r.seqAt = none ∧
      s.slotPowerOk p = true then
    let s := (s.put (O.LINK_STATE p) lsDetect).drivePerst p true
    s.setPort p (fun r => { r with seqAt := some (s.portClock p), want := false, fails := 0, ltssm := 0,
                                   attemptAt := none, pauseAt := none })
  else s

/-- Clear what a port's trained link showed. -/
def State.clearLink (s : State) (p : Nat) : State :=
  let s := ((s.put (O.LINK_RATE p) 0).put (O.LINK_WIDTH p) 0).put (O.PROTOCOLS p) 0
  forEach (s.lanesOf p) (fun l s =>
    if s.get (O.LANE_STATE l) = 3 then s
    else ((s.put (O.LANE_STATE l) 0).put (O.LOGICAL_LANE l) 0xFF).put (O.TX_PRESET l) 0xFF) s

/-- The lane of a logical lane of a port, in normal or reversed order (R88). -/
def State.laneAt (s : State) (p k : Nat) (reversed : Bool) : Nat :=
  if reversed then 4 * p + 4 * s.slicesOf p - 1 - k else 4 * p + k

/-- A width at which a port may train (R95). -/
def State.widthOk (s : State) (p w : Nat) (reversed : Bool) : Bool :=
  decide (w ∈ [16, 8, 4, 2, 1] ∧ w ≤ s.get (O.PORT_WIDTH p) ∧ (s.port p).minWidth ≤ w) &&
    (List.range w).all (fun k =>
      let l := s.laneAt p k reversed
      s.get (O.LANE_STATE l) != 3 && s.get (O.LANE_DISABLE l) == 0)

/-- A rate at which a port may train (R94). -/
def State.rateOk (s : State) (p rate : Nat) : Bool :=
  decide (rate ∈ [0x20, 0x40, 0x80] ∧ rate ≤ (s.port p).maxRate)

/-- The lanes of a link: ACTIVE in logical order, the others EXCLUDED (R95, R109). -/
def State.setLanes (s : State) (p w : Nat) (reversed : Bool) : State :=
  let mine := (List.range w).map (fun k => s.laneAt p k reversed)
  let s := forEach ((s.lanesOf p).filter (fun l => !mine.contains l)) (fun l s =>
    if s.get (O.LANE_STATE l) = 3 then s
    else ((s.put (O.LANE_STATE l) 2).put (O.LOGICAL_LANE l) 0xFF).put (O.TX_PRESET l) 0xFF) s
  forEach (List.range w) (fun k s =>
    let l := s.laneAt p k reversed
    (s.put (O.LANE_STATE l) 1).put (O.LOGICAL_LANE l) k) s

/-- TX_PRESET of a lane (R109): a preset of the table, or 0xFE for coefficients that match none. -/
def presetCode (v : Nat) : Nat := if v ≤ 10 then v else 0xFE

/-- What the training of a link has found of its lanes: the polarity and the preset of each logical lane. -/
def State.tuneLanes (s : State) (p w : Nat) (reversed : Bool) (polarity : Nat) (presets : List Nat) : State :=
  forEach (List.range w) (fun k s =>
    let l := s.laneAt p k reversed
    (s.put (O.POLARITY l) (b2n (polarity.testBit k))).put (O.TX_PRESET l) (presetCode (presets.getD k 0xFE))) s

/-- IDE_STATE of a link that has come up (R105). -/
def State.ideAtUp (s : State) (p : Nat) : State :=
  s.put (O.IDE_STATE p) (if s.get (O.IDE_ENABLE p) = 0 then 0 else 1)

/-- The tag slots of a port listed in the state, in slot order. -/
def State.slotsOf (s : State) (p : Nat) : List Nat :=
  (s.prt.tag.keys.filter (fun k => k / 4096 == p)).map (fun k => k % 4096)

/-- The port is UP again: the quarantine of the slots that an earlier drop quarantined runs from now (R102). -/
def State.dateQuarantine (s : State) (p : Nat) : State :=
  forEach ((s.slotsOf p).filter (fun n => (s.tagSlot p n).state == 2 && !(s.tagSlot p n).held && (s.tagSlot p n).upAt.isNone))
    (fun n s => s.setTag p n (fun t => { t with upAt := some (s.portClock p) })) s

/-- What a port can have negotiated (R86, R90): an FM port carries CXL.io alone. -/
def State.protocolsOf (s : State) (p protocols : Nat) : Nat :=
  if s.role p = roleFm then Nat.land protocols 0x21 else protocols % 128

/-- A training attempt succeeds (R93, R95, R107). A far end that reports more logical devices than the 16 of R86 is none that the port
negotiates with: DEDUCED (log 93). -/
def fxLinkUp (p rate width protocols ldCount : Nat) (reversed : Bool) (polarity : Nat) (presets : List Nat)
    (s : State) : State :=
  let protocols := s.protocolsOf p protocols
  if s.linkState p = lsTraining ∧ (s.port p).attemptAt.isSome ∧ s.rateOk p rate ∧ s.widthOk p width reversed ∧
      (protocols.testBit 4 = true → ldCount ≤ 16) then
    let s := (((s.put (O.LINK_STATE p) lsUp).put (O.LINK_RATE p) rate).put (O.LINK_WIDTH p) width).put
      (O.PROTOCOLS p) protocols
    let s := (s.put (O.LINK_EPOCH p) ((s.get (O.LINK_EPOCH p) + 1) % 16)).put (O.LD_COUNT p)
      (if protocols.testBit 4 then ldCount else 0)
    let s := s.setPort p (fun r => { r with attemptAt := none, pauseAt := none, seqAt := none, outSince := none,
                                            fails := 0, ltssm := 0x0B, uncorr := [] })
    let s := ((s.setLanes p width reversed).tuneLanes p width reversed polarity presets).ideAtUp p
    let s := s.dateQuarantine p
    let s := (s.setBit (O.PORT_EVENTS p) 0 true).raisePort p (F.LINK_UP (p % 16)) 0 0xFFFF 0
    if width < s.get (O.PORT_WIDTH p) then
      (s.setBit (O.PORT_EVENTS p) 2 true).raisePort p F.WIDTH_DEGRADED 0 0xFFFF 0
    else s
  else s

/-- The pause after a failed attempt ends (R93). -/
def fxRetryPauseEnd (p : Nat) (s : State) : State :=
  match (s.port p).pauseAt with
  | none => s
  | some t =>
    if t + 25000 ≤ s.portClock p ∧ s.trainMode = true ∧ s.lanesRun p = true ∧ (s.role p = roleDownstream → s.slotPowerOk p = true) then
      let s := s.setPort p (fun r => { r with pauseAt := none })
      if s.mayTrain p then (s.drivePerst p false).startAttempt p else s
    else s

/-! ## Link drops (R102, R104) -/

/-- Complete one outstanding tag slot as R102 prescribes for its kind, and quarantine it. `held` marks an expiry of its
completion timer (R103); the data of a completion so made say which it was. -/
def State.dropSlot (s : State) (p n : Nat) (held : Bool) : State :=
  let t := s.tagSlot p n
  let s := s.setTag p n (fun t => { t with state := 2, held := held, msg := {} })
  let s := s.perfCount (dieOfPort p) evSynthCpl p t.msg.tenant 1
  match t.msg.kind with
  | .read =>
    (s.count32 (O.SYNTH_READ_COUNT p)).owe (.deliver (dieOfPort p) t.msg.owner .read (b2n held) true true 0)
  | .write =>
    let s := s.count32 (O.LOST_WRITE_COUNT p)
    let s :=
      if s.get (O.DROP_POLICY p) = 0 then
        (s.setBit (O.PORT_EVENTS p) 6 true).raisePort p F.WRITE_LOST t.msg.hpa (t.msg.master (dieOfPort p)) 2
      else s
    s.owe (.deliver (dieOfPort p) t.msg.owner .write (b2n held) false true 0)
  | k => s.owe (.deliver (dieOfPort p) t.msg.owner k 0 false true 0)

/-- The outstanding tag slots of a port. -/
def State.outstandingOf (s : State) (p : Nat) : List Nat := (s.slotsOf p).filter (fun n => (s.tagSlot p n).state == 1)

/-- Bring OUTSTANDING and QUARANTINED of a port up to date (R107). -/
def State.countSlots (s : State) (p : Nat) : State :=
  (s.put (O.OUTSTANDING p) (s.outstandingOf p).length).put (O.QUARANTINED p)
    ((s.slotsOf p).filter (fun n => (s.tagSlot p n).state == 2)).length

/-- Complete and quarantine every outstanding slot of a port (R102); a slot its timer had quarantined is free (R103). -/
def State.dropSlots (s : State) (p : Nat) : State :=
  let s := forEach ((s.slotsOf p).filter (fun n => (s.tagSlot p n).held)) (fun n s => s.setTag p n (fun _ => {})) s
  (forEach (s.outstandingOf p) (fun n s => s.dropSlot p n false) s).countSlots p

/-- Viral of a drop or expiry under DROP_POLICY VIRAL (R102, R502). -/
def State.dropViral (s : State) (p : Nat) : State :=
  if s.get (O.DROP_POLICY p) = 1 then s.owe (.viralFor p) else s

/-- A link drop is counted and raised. -/
def State.noteDrop (s : State) (p : Nat) : State :=
  ((s.count32 (O.DOWN_COUNT p)).setBit (O.PORT_EVENTS p) 1 true).raisePort p F.LINK_DOWN 0 0xFFFF 0

/-- The CXL.io functions of an upstream or FM port return to their defaults, the DOE mailbox among them (R97, R100). -/
def State.resetFunctions (s : State) (p : Nat) : State := s.setPort p (fun r => { r with cfg := [], doeIn := [], doeOut := [] })

/-- A link drop is declared (R102 for a downstream port, R104 for an upstream or FM port). `state` is the LINK_STATE
the port is left in. A drop on a port that carries CXL.cache signals viral on the bound host's port under either policy, once. -/
def State.linkDrop (s : State) (p state : Nat) : State :=
  let cache := s.speaks p 2
  let s := s.noteDrop p
  let s := if s.role p = roleDownstream then (s.dropSlots p).dropViral p else s
  let s := if cache && s.role p == roleDownstream && s.get (O.DROP_POLICY p) != 1 then s.owe (.viralBound p) else s
  let s := s.setPort p (fun r => { r with outSince := none, attemptAt := none, pauseAt := none, ltssm := 0, drops := r.drops + 1 })
  let s := ((s.clearLink p).put (O.IDE_STATE p) (if s.get (O.IDE_STATE p) = 0 then 0 else 1)).owe (.portDropped p)
  if state = lsTraining then
    if s.canAttempt p then s.startAttempt p else s.put (O.LINK_STATE p) lsDetect
  else s.put (O.LINK_STATE p) state

/-- The link leaves L0 for Recovery; LINK_RATE and LINK_WIDTH read 0 while it is not UP (R107). Lanes to which uncorrectable flits have been
attributed since the link came up or last entered Recovery raise LANE_FAULT: those that UNCORRECTED has counted, and those that the event
names (R403; DEDUCED, log 124). -/
def State.enterRecovery (s : State) (p : Nat) (faulty : List Nat) : State :=
  let lanes := (faulty.filter (fun l => decide (l / 4 = p ∨ s.leadOf (l / 4) = p)) ++ (s.port p).uncorr).eraseDups
  let s := forEach lanes (fun l s => s.raise (dieOfPort p * 512 + F.LANE_FAULT) (channelId 1 l) 0 0xFFFF 0) s
  ((((s.put (O.LINK_STATE p) lsRecovery).put (O.LINK_RATE p) 0).put (O.LINK_WIDTH p) 0).moveLtssm p ltRecovery).setPort p
    (fun r => { r with outSince := some (s.portClock p), uncorr := [] })

/-- A port's link is up or in Recovery. -/
def State.linkAlive (s : State) (p : Nat) : Bool := s.linkState p == lsUp || s.linkState p == lsRecovery

/-- The LTSSM leaves L0 (R96, R102, R104): target 0 is Recovery, 1 Detect, 2 Disabled. -/
def fxRecoveryEntry (p target : Nat) (faulty : List Nat) (s : State) : State :=
  if s.linkAlive p then
    if target = 0 then (if s.linkState p = lsUp then s.enterRecovery p faulty else s)
    else s.linkDrop p lsTraining
  else s

/-- The port returns from Recovery to L0 with the lanes that it now has (R95, R96, R107). Below MIN_WIDTH the port fails. -/
def fxRecoveryExit (p rate width : Nat) (reversed : Bool) (s : State) : State :=
  if s.linkState p = lsRecovery ∧ s.rateOk p rate then
    if s.widthOk p width reversed then
      let s := ((s.put (O.LINK_STATE p) lsUp).put (O.LINK_RATE p) rate).put (O.LINK_WIDTH p) width
      let s := (s.setPort p (fun r => { r with outSince := none, attemptAt := none, fails := 0, ltssm := 0x0B })).setLanes p width reversed
      if width < s.get (O.PORT_WIDTH p) then
        (s.raisePort p F.WIDTH_DEGRADED 0 0xFFFF 0).setBit (O.PORT_EVENTS p) 2 true
      else s
    else if width < (s.port p).minWidth then s.linkDrop p lsFailed
    else s
  else s

/-- The port has been out of L0 for DROP_TIME (R102, R104). -/
def fxDropTimeExpiry (p : Nat) (s : State) : State :=
  match (s.port p).outSince with
  | none => s
  | some t =>
    if s.linkState p = lsRecovery ∧ t + s.get (O.DROP_TIME p) ≤ s.portClock p then s.linkDrop p lsTraining else s

/-- A training attempt fails (R93). That LINK_STATE reads DETECT in the pause after it is a DESIGN CHOICE (log 92). The attempt of a RETRAIN
that is still in Recovery takes the link to Detect, a drop of R102 or R104: DEDUCED (log 113). -/
def fxTrainTimeout (p : Nat) (s : State) : State :=
  match (s.port p).attemptAt with
  | none => s
  | some t =>
    if (s.linkState p = lsTraining ∨ s.linkState p = lsRecovery) ∧ t + s.get (O.TRAIN_TIMEOUT p) ≤ s.portClock p then
      let n := (s.port p).fails + 1
      let s := if s.linkState p = lsRecovery then s.linkDrop p lsDetect else s
      if s.get (O.TRAIN_RETRIES p) ≤ n then
        let s := (s.put (O.LINK_STATE p) lsFailed).setPort p
          (fun r => { r with attemptAt := none, fails := 0, ltssm := 0, seqAt := none })
        (s.setBit (O.PORT_EVENTS p) 3 true).raisePort p F.TRAIN_FAIL 0 0xFFFF 0
      else
        let s := s.put (O.LINK_STATE p) lsDetect
        let s := s.setPort p
          (fun r => { r with attemptAt := none, fails := n, pauseAt := some (s.portClock p), ltssm := 0 })
        s.drivePerst p true
    else s

/-! ## Sideband (R97 to R99) -/

/-- The PERST_N pin of a port that does not drive it is asserted (R107); of an upstream or FM port that resets its functions and takes
the link down (R97, R104). -/
def fxPerstAssert (p : Nat) (s : State) : State :=
  let s := if s.role p = roleDownstream then s else s.setPort p (fun r => { r with perstIn := true })
  if s.role p = roleUpstream ∨ s.role p = roleFm then
    let s := s.resetFunctions p
    if s.linkAlive p then s.linkDrop p lsDetect
    else if s.linkState p = lsTraining then
      (s.put (O.LINK_STATE p) lsDetect).setPort p (fun r => { r with attemptAt := none, ltssm := 0 })
    else s
  else s

/-- The PERST_N pin of a port that does not drive it is deasserted (R107); an upstream or FM port trains where it may (R92, R93). -/
def fxPerstDeassert (p : Nat) (s : State) : State :=
  if s.role p = roleDisabled then s.setPort p (fun r => { r with perstIn := false })
  else if (s.role p = roleUpstream ∨ s.role p = roleFm) ∧ (s.port p).perstIn = true then
    let failed := s.linkState p = lsFailed
    let s := s.setPort p (fun r => { r with perstIn := false, fails := if failed then 0 else r.fails })
    let s := if failed then s.put (O.LINK_STATE p) lsDetect else s
    if s.mayTrain p ∧ (s.port p).pauseAt = none ∧ s.linkAlive p = false ∧ s.linkState p ≠ lsTraining then
      s.startAttempt p
    else s
  else s

/-- PRSNT_N has been low for `held` ticks: presence is declared once that is PRESENCE_DEBOUNCE (R98, R99). -/
def fxPresenceDeclared (p held : Nat) (s : State) : State :=
  let s := s.setPort p (fun r => { r with prsntLow := true })
  if (s.port p).present ∨ held < s.get (O.PRESENCE_DEBOUNCE p) then s
  else
    let s := s.setPort p (fun r => { r with present := true })
    if s.role p = roleDownstream ∧ s.linkState p ≠ lsRetired then
      let s := s.setPort p (fun r =>
        { r with want := r.want || (!r.cmdDisabled && (s.get (O.HOTPLUG_CTRL p) == 0 || r.enabled)) })
      let s := if s.linkState p = lsFailed then s.put (O.LINK_STATE p) lsDetect else s
      s.tryHotplug p
    else s

/-- PRSNT_N has been high for `held` ticks: absence is declared once that is 25 ft (R98). PERST_N is asserted, ENABLEs are
cancelled, a live link drops, and the port returns to DETECT. -/
def fxAbsenceDeclared (p held : Nat) (s : State) : State :=
  let s := s.setPort p (fun r => { r with prsntLow := false })
  if (s.port p).present = true ∧ 25 ≤ held then
    let s := s.setPort p (fun r =>
      { r with present := false, enabled := false, want := false, cmdDisabled := false, seqAt := none, attemptAt := none, pauseAt := none,
               ltssm := if s.linkAlive p then r.ltssm else 0 })
    if s.role p = roleDownstream ∧ s.linkState p ≠ lsRetired then
      let live := s.linkAlive p || s.linkState p == lsTraining
      let s := s.drivePerst p true
      if live then s.linkDrop p lsDetect else s.put (O.LINK_STATE p) lsDetect
    else s
  else s

/-- PERST_HOLD after instant P a downstream port releases PERST_N and trains (R99). -/
def fxPerstRelease (p : Nat) (s : State) : State :=
  match (s.port p).seqAt with
  | none => s
  | some t =>
    if t + s.get (O.PERST_HOLD p) ≤ s.portClock p ∧ s.mayTrain p then
      ((s.drivePerst p false).setPort p (fun r => { r with seqAt := none })).startAttempt p
    else s

/-- A port's slot power is gone (R99, R102): PERST_N at once, and a link drop while the link is alive. The sequence runs again at
POWER_GOOD under AUTO, and under MANUAL while an ENABLE since the latest absence stands. -/
def State.slotPowerLost (s : State) (p : Nat) : State :=
  if s.role p = roleDownstream then
    let s := s.drivePerst p true
    let s := s.setPort p (fun r =>
      { r with want := r.present && !r.cmdDisabled && (s.get (O.HOTPLUG_CTRL p) == 0 || r.enabled), seqAt := none, pauseAt := none })
    if s.linkAlive p then s.linkDrop p lsDetect
    else if s.linkState p = lsTraining then
      (s.put (O.LINK_STATE p) lsDetect).setPort p (fun r => { r with attemptAt := none, ltssm := 0 })
    else s
  else s

/-! ## Port commands (R100) -/

/-- LINK_CTRL RETRAIN: a port that is UP goes through Recovery in a training attempt with the settings of now (R93, R107), and one that has no link starts an attempt where it may (R93, R100).
What it does of the latter is DEDUCED (log 27). -/
def fxRetrain (p : Nat) (s : State) : State :=
  let st := s.linkState p
  if st = lsUp then (s.enterRecovery p []).beginAttempt p
  else if st = lsFailed then
    let s := s.setPort p (fun r => { r with fails := 0 })
    let ready := s.mayTrain p && (s.role p != roleDownstream || ((s.port p).present && s.slotPowerOk p))
    if ready then (s.drivePerst p false).startAttempt p
    else (s.put (O.LINK_STATE p) lsDetect).setPort p (fun r => { r with want := r.want || r.present })
  else if (st = lsDetect ∨ st = lsTraining) ∧ (s.port p).pauseAt = none ∧ s.canAttempt p = true then s.startAttempt p
  else s

/-- LINK_CTRL DISABLE. The LTSSM of a port whose role is DISABLED stays in Detect.Quiet (R90, R501). -/
def fxDisable (p : Nat) (s : State) : State :=
  let s := if s.linkAlive p then s.linkDrop p lsDisabled else s.put (O.LINK_STATE p) lsDisabled
  let s := s.setPort p (fun r => { r with cmdDisabled := true, attemptAt := none, pauseAt := none, seqAt := none,
                                          want := false, ltssm := if s.role p = roleDisabled then 0 else 0x14 })
  s.drivePerst p true

/-- LINK_CTRL ENABLE. DESIGN CHOICE (log 110): of a port whose role is DISABLED it sets LINK_STATE to DETECT. -/
def fxEnable (p : Nat) (s : State) : State :=
  let st := s.linkState p
  let out := st = lsDisabled ∨ st = lsFailed
  let s := s.setPort p (fun r => { r with cmdDisabled := false, enabled := true })
  if s.role p = roleDownstream then
    let waiting := s.get (O.HOTPLUG_CTRL p) = 1 ∧ st = lsDetect ∧ (s.port p).seqAt = none ∧ (s.port p).pauseAt = none
    if out ∨ waiting then
      let s := (s.put (O.LINK_STATE p) lsDetect).setPort p (fun r => { r with want := true, fails := 0, ltssm := 0 })
      (s.drivePerst p true).tryHotplug p
    else s
  else if out then
    let s := (s.put (O.LINK_STATE p) lsDetect).setPort p (fun r => { r with fails := 0, ltssm := 0 })
    if s.mayTrain p then s.startAttempt p else s
  else s

/-- LINK_CTRL HOT_RESET: a link drop, then retraining (R100). A port whose link is down counts and raises the drop too, signals
the viral of R502, aborts what a drop aborts (R143), and retrains where it may; a FAILED or DISABLED one stays so (R93). DESIGN CHOICE (log 110): so does a port whose
role is DISABLED. -/
def fxHotReset (p : Nat) (s : State) : State :=
  let st := s.linkState p
  let s := if s.role p = roleDownstream then s.send (.hotReset p) else s.resetFunctions p
  if s.linkAlive p ∨ st = lsTraining then s.linkDrop p lsTraining
  else
    let s := s.noteDrop p
    let s := if s.role p = roleDownstream then (s.dropSlots p).dropViral p else s
    let s := (s.setPort p (fun r => { r with drops := r.drops + 1 })).owe (.portDropped p)
    if st = lsDetect ∧ (s.port p).pauseAt = none ∧ s.canAttempt p = true then s.startAttempt p else s

/-- The effect of a LINK_CTRL command (R100). -/
def fxLinkCtrl (p code : Nat) (s : State) : State :=
  match code with
  | 1 => fxRetrain p s
  | 2 => fxDisable p s
  | 3 => fxEnable p s
  | _ => fxHotReset p s

/-! ## Responses and timers (R101 to R103) -/

/-- A response is discarded as stale (R101). -/
def State.staleResponse (s : State) (p : Nat) : State :=
  ((s.count32 (O.STALE_RSP_COUNT p)).setBit (O.PORT_EVENTS p) 5 true).raisePort p F.STALE_RSP 0 (0x100 + p) 0

/-- A response from a device (R101): its Tag names an epoch and a slot. A late response frees a slot that its
completion timer quarantined (R103). `cell` holds the response, which has a status and a length where it is of CXL.io. -/
def State.takeResponse (s : State) (p tag status data : Nat) (poison : Bool) (cell len : Nat) : State :=
  let n := tag % 4096
  let t := s.tagSlot p n
  if tag / 4096 % 16 = s.get (O.LINK_EPOCH p) ∧ t.state = 1 then
    ((s.setTag p n (fun _ => {})).countSlots p).owe (.deliver (dieOfPort p) t.msg.owner t.msg.kind data poison false cell
      (some (s.stamp (dieOfPort p))) status len t.msg.tenant)
  else
    let s := if t.state = 2 ∧ t.held = true ∧ tag / 4096 % 16 = t.epoch then (s.setTag p n (fun _ => {})).countSlots p else s
    s.staleResponse p

/-- A slot's completion timer expires (R103). R103 names no address for the capture, which reads zero; the access is the request's (R408). -/
def fxCplTimeout (p n : Nat) (s : State) : State :=
  let t := s.tagSlot p n
  if t.state = 1 ∧ t.sentAt + s.get (O.CPL_TIMEOUT p) ≤ s.portClock p then
    let s := (s.dropSlot p n true).countSlots p
    let s := (s.count32 (O.TIMEOUT_COUNT p)).setBit (O.PORT_EVENTS p) 4 true
    (s.raisePort p F.CPL_TIMEOUT 0 (t.msg.master (dieOfPort p)) t.msg.kind.accessType).dropViral p
  else s

/-- CPL_TIMEOUT after the port next reached UP, a slot that a drop quarantined is usable again (R102). -/
def fxQuarantineEnd (p : Nat) (s : State) : State :=
  (forEach ((s.slotsOf p).filter (fun n =>
      match (s.tagSlot p n).upAt with
      | some t => (s.tagSlot p n).state == 2 && decide (t + s.get (O.CPL_TIMEOUT p) ≤ s.portClock p)
      | none => false))
    (fun n s => s.setTag p n (fun _ => {})) s).countSlots p

/-- A port receives a flit (R105, R109): lanes with FEC symbol errors are counted, an uncorrectable flit is counted
against its lanes, and an IDE integrity failure drops the link. -/
def fxFlitReceived (p : Nat) (badFec badIde : Bool) (lanes : List Nat) (s : State) : State :=
  if s.linkState p = lsUp then
    let mine := lanes.filter (fun l => decide (l / 4 = p ∨ s.leadOf (l / 4) = p))
    let s := forEach mine (fun l s => s.count32 (O.SYMBOL_ERRORS l)) s
    let s := if badFec then (forEach mine (fun l s => s.count32 (O.UNCORRECTED l)) s).setPort p (fun r => { r with uncorr := (r.uncorr ++ mine).eraseDups })
      else s
    if badIde && s.get (O.IDE_STATE p) == 2 then
      let s := (s.setBit (O.PORT_EVENTS p) 7 true).raisePort p F.IDE_CHECK 0 0xFFFF 7
      s.linkDrop p lsTraining
    else s
  else s

/-! ## Margining (R109) -/

/-- A margining command goes out on a lane. -/
def fxMarginCtrl (l v : Nat) (s : State) : State :=
  ({ s with prt := { s.prt with margin := l :: s.prt.margin } }.put (O.MARGIN_CTRL l) v).send (.margin l v)

/-- The receiver completes a margining command. -/
def fxMarginResponse (l v : Nat) (s : State) : State :=
  if l ∈ s.prt.margin then
    { s with prt := { s.prt with margin := s.prt.margin.erase l } }.put (O.MARGIN_STATUS l) (v % 2 ^ 32)
  else s

/-! ## Modes (R91) -/

/-- Ports that the mode and their clocks begin to let train: upstream and FM ports start an attempt, downstream ones the hot-plug sequence
(R91, R92). -/
def State.portsStart (s : State) (ps : List Nat) : State :=
  forEach ps (fun p s =>
    let r := s.role p
    if s.linkState p = lsRetired ∨ (s.port p).cmdDisabled = true then s
    else if r = roleUpstream ∨ r = roleFm then
      let s := if s.linkState p = lsDisabled then s.put (O.LINK_STATE p) lsDetect else s
      if s.linkState p = lsDetect ∧ s.mayTrain p then s.startAttempt p else s
    else if r = roleDownstream then
      let s := if s.linkState p = lsDisabled then s.put (O.LINK_STATE p) lsDetect else s
      let s := s.drivePerst p true
      let s := s.setPort p (fun q => { q with want := q.want || (q.present && (s.get (O.HOTPLUG_CTRL p) == 0 || q.enabled)) })
      s.tryHotplug p
    else s) s

/-- The ports when the mode begins to let them train. -/
def State.portsUp (s : State) : State := s.portsStart (List.range s.ports)

/-- The ports of a die whose lanes run again in a mode that lets them train, once DATAPATH is released: each starts as when the mode
began (R92, R430). -/
def State.portsReleased (s : State) (d : Nat) : State :=
  if s.trainMode then s.portsStart ((List.range s.ports).filter (fun p => dieOfPort p == d)) else s

/-- The ports of a die whose PHY PLL is stable again: those that wait in DETECT for nothing else start an attempt (R92, R425). -/
def State.portsClocked (s : State) (d : Nat) : State :=
  forEach ((List.range s.ports).filter (fun p => dieOfPort p == d && s.linkState p == lsDetect && (s.port p).pauseAt.isNone &&
      (s.port p).seqAt.isNone && s.role p != roleDisabled && s.canAttempt p))
    (fun p s => s.startAttempt p) s

/-- The ports when the mode holds them down: LTSSM in Detect.Quiet, downstream PERST_N asserted, and a live link
goes down as a drop. -/
def State.portsDown (s : State) : State :=
  forEach (List.range s.ports) (fun p s =>
    if s.linkState p = lsRetired then s
    else
      let s := s.drivePerst p true
      let s := s.setPort p (fun r => { r with seqAt := none, attemptAt := none, pauseAt := none, ltssm := 0 })
      if s.linkAlive p then s.linkDrop p lsDetect
      else if s.linkState p = lsTraining then s.put (O.LINK_STATE p) lsDetect
      else s) s

end Sys2Proof.Machine
end

