-- ==== Sys2Proof/Machine/Buffer.lean ====
section
/-! DEFINITION. The cell buffer, credits, the Weevil auditor, the credit audit and Mayfly capture (R212 to R237). -/
namespace Sys2Proof.Machine

/-! ## Cells and pools (R213 to R216) -/

def poolIngress : Nat := 1
def poolLink : Nat := 2
def poolAbsorb : Nat := 3
def poolGroup : Nat := 4
def poolMover : Nat := 5
def poolInternal : Nat := 6
def poolShared : Nat := 7
def poolQuarantine : Nat := 8

/-- Cells of a die's buffer (R213). -/
def cellsPerDie : Nat := 65536

/-- A die's pools. -/
def State.dieCore (s : State) (d : Nat) : DieCore := s.core.die.at d

/-- Change a die's pools. -/
def State.setDieCore (s : State) (d : Nat) (f : DieCore → DieCore) : State :=
  { s with core := { s.core with die := s.core.die.upd d f } }

/-- A cell's record. -/
def State.cellAt (s : State) (d n : Nat) : Cell := s.core.cell.at (65536 * d + n)

/-- Change a cell's record. -/
def State.setCell (s : State) (d n : Nat) (f : Cell → Cell) : State :=
  { s with core := { s.core with cell := s.core.cell.upd (65536 * d + n) f } }

/-- The counter of a pool (R232). -/
def poolObj (d pool : Nat) : Obj := ⟨0x59, 1 + d, pool⟩

/-- Reserve of INGRESS per slice of a role (R214). -/
def ingressPerSlice (role : Nat) : Nat :=
  if role = roleUpstream then 394 else if role = roleDownstream then 442 else if role = roleFm then 170 else 0

/-- The size of a pool on a die (R214). -/
def State.poolSize (s : State) (d pool : Nat) : Nat :=
  let c := s.dieCore d
  match pool with
  | 1 => c.ingress
  | 2 => c.link
  | 3 => c.absorb
  | 4 => c.group
  | 5 => 1024
  | 6 => 512
  | 7 => s.get (O.SHARED_SIZE d)
  | _ => 0

/-- Divide the cells of every die into its pools, when CONFIG is left (R214). -/
def State.sizePools (s : State) : State :=
  forEach (List.range s.dies) (fun d s =>
    let mine := (List.range 16).map (fun k => 16 * d + k)
    let ingress := mine.foldl (fun a p => a + s.slicesOf p * ingressPerSlice (s.role p)) 0
    let ups := (mine.filter (fun p => s.role p == roleUpstream)).length
    let s := s.setDieCore d (fun c =>
      { c with sized := true, ingress := ingress, link := 2816, absorb := 1024 * s.dies, group := 112 * ups })
    s.put (O.SHARED_SIZE d) (cellsPerDie - (ingress + 2816 + 1024 * s.dies + 112 * ups + 1024 + 512))) s

/-- The counter of free cells goes down or up, keeping FREE_LOW, which takes in what stood before the change (R232). -/
def State.setFree (s : State) (d v : Nat) : State :=
  let low := min (s.get (O.FREE_LOW d)) (min (s.get (O.CELLS_FREE d)) v)
  (s.put (O.CELLS_FREE d) v).put (O.FREE_LOW d) low

/-- The auditor has passed a cell in the running pass: a change of its pool changes what the pass has found. -/
def State.refound (s : State) (d n old new : Nat) : State :=
  if n < (s.dieCore d).weevil then
    s.setDieCore d (fun c => { c with found := (c.found.upd old (fun v => v - 1)).upd new (fun v => v + 1) })
  else s

/-- The lowest-numbered free cell of a die. -/
def State.freeCellNo (s : State) (d : Nat) : Option Nat :=
  let used := (s.core.cell.keys.filter (fun k => k / 65536 == d)).map (fun k => k % 65536)
  let n := used.foldl (fun a k => if k = a then a + 1 else a) 0
  if n < cellsPerDie then some n else none

/-- A cell is named by its number and its allocation, so that a message whose cell was reclaimed names no later allocation (R220);
0 names none. -/
def cellName (n gen : Nat) : Nat := 65536 * gen + n + 1
def cellNo (cell : Nat) : Nat := (cell - 1) % 65536

/-- A name is that of a cell's present allocation. -/
def State.holdsCell (s : State) (d cell : Nat) : Bool :=
  let c := s.cellAt d (cellNo cell)
  cell != 0 && c.pool != 0 && c.pool != poolQuarantine && c.gen == (cell - 1) / 65536

/-- Allocate a cell from a pool for a loop: its name, or 0 where the pool has none free (R215, R216). -/
def State.allocCell (s : State) (d pool loop : Nat) : Nat × State :=
  match s.freeCellNo d with
  | none => (0, s)
  | some n =>
    if s.poolSize d pool ≤ s.get (poolObj d pool) then (0, s)
    else
      let g := s.core.serial
      let s := { s with core := { s.core with serial := g + 1 } }.setCell d n
        (fun _ => { pool := pool, loop := loop, since := s.elapsed d, copies := 1, gen := g })
      let s := (s.put (poolObj d pool) (s.get (poolObj d pool) + 1)).setFree d (s.get (O.CELLS_FREE d) - 1)
      (cellName n g, (s.refound d n 0 pool).perfCount d evCellAlloc 0xFF noTenant 1)

/-! ## Credit loops (R217, R218, R224) -/

/-- A loop's key for a cell: 0 none; a port's receive loop; a link's channel. -/
def portLoopKey (p c : Nat) : Nat := 1 + 16 * p + c
def linkLoopKey (l vc : Nat) : Nat := 0x10000 + 8 * l + vc

/-- The row of R217 that a message counts in on the side that sends it: requests, data and answers of CXL.mem 0 to 2,
CXL.cache 3 to 5, CXL.io posted 6, non-posted 8 and completions 10, each with its data row above it. -/
def Msg.loopRow (m : Msg) : Nat :=
  if m.channel < 3 then m.channel
  else if m.channel < 6 then m.channel - 3
  else if m.channel = 6 then (match m.type with | .req => 3 | .cache => 4 | _ => 5)
  else
    match m.type, m.kind with
    | .ioCpl _, _ => 10
    | _, .ioPosted => 6
    | _, _ => 8

/-- The payload bytes of a message: of a CXL.io read request `len` is what it asks for, and it carries none. -/
def Msg.payload (m : Msg) : Nat := if m.type = .req ∧ m.kind = .read then 0 else m.len

/-- CXL.io data credits a message takes, in units of 16 bytes (R217). -/
def Msg.dataUnits (m : Msg) : Nat := if m.channel = 7 then (m.payload + 15) / 16 else 0

/-- The credits a port advertises for a row of R217. -/
def State.advertised (s : State) (p row : Nat) : Nat :=
  let per :=
    if s.role p = roleUpstream then [48, 96, 32, 16, 16, 16, 32, 512, 32, 64, 32, 512].getD row 0
    else if s.role p = roleDownstream then [96, 96, 32, 16, 16, 16, 32, 512, 32, 64, 32, 512].getD row 0
    else if s.role p = roleFm then [0, 0, 0, 0, 0, 0, 32, 512, 32, 64, 32, 512].getD row 0
    else 0
  per * s.slicesOf p

/-- A port's receive loop and send loop. -/
def State.recvLoop (s : State) (p row : Nat) : Loop := s.core.portLoop.at (16 * p + row)
def State.sendLoop (s : State) (p row : Nat) : Loop := s.core.portLoop.at (16 * p + row + 4096)

/-- Change a port's receive or send loop. -/
def State.setRecv (s : State) (p row : Nat) (f : Loop → Loop) : State :=
  { s with core := { s.core with portLoop := s.core.portLoop.upd (16 * p + row) f } }
def State.setSend (s : State) (p row : Nat) (f : Loop → Loop) : State :=
  { s with core := { s.core with portLoop := s.core.portLoop.upd (16 * p + row + 4096) f } }

/-- A link channel's loop ends. -/
def State.linkLoop (s : State) (l vc : Nat) : Loop := s.core.linkLoop.at (8 * l + vc)
def State.setLinkLoop (s : State) (l vc : Nat) (f : Loop → Loop) : State :=
  { s with core := { s.core with linkLoop := s.core.linkLoop.upd (8 * l + vc) f } }

/-- The credits of a link channel (R218). -/
def linkCredits (vc : Nat) : Nat := [64, 256, 64, 256, 64].getD vc 0

/-- A port's loops start again at an entry into UP (R217); the far end's figures come with its first returns. -/
def State.freshPortLoops (s : State) (p : Nat) : State :=
  let s := forEach (List.range 12) (fun row s =>
    (s.setRecv p row (fun _ => { limit := s.advertised p row })).setSend p row (fun _ => {})) s
  { s with core := { s.core with cell := s.core.cell.map (fun c =>
      if 1 + 16 * p ≤ c.2.loop ∧ c.2.loop < 17 + 16 * p then (c.1, { c.2 with loop := 0 }) else c) } }

/-- A link's loops start again at a training (R218). -/
def State.freshLinkLoops (s : State) (l : Nat) : State :=
  let s := forEach (List.range 5) (fun vc s =>
    s.setLinkLoop l vc (fun _ => { limit := linkCredits vc, available := linkCredits vc })) s
  { s with core := { s.core with cell := s.core.cell.map (fun c =>
      if 0x10000 + 8 * l ≤ c.2.loop ∧ c.2.loop < 0x10008 + 8 * l then (c.1, { c.2 with loop := 0 }) else c) } }

/-- Take a credit of a port's send loop for a message. -/
def State.spendCredit (s : State) (p : Nat) (m : Msg) : State :=
  let take := fun (n : Nat) (l : Loop) =>
    { l with available := l.available - n, consumed := (l.consumed + n) % 2 ^ 32 }
  let s := s.setSend p m.loopRow (take 1)
  if m.channel = 7 ∧ 0 < m.dataUnits then s.setSend p (m.loopRow + 1) (take m.dataUnits) else s

/-- The far end of a port has credits for a message. -/
def State.hasCredit (s : State) (p : Nat) (m : Msg) : Bool :=
  decide (1 ≤ (s.sendLoop p m.loopRow).available) &&
    (m.channel != 7 || decide (m.dataUnits ≤ (s.sendLoop p (m.loopRow + 1)).available))

/-- The far end of a port grants or returns credits of a row: beyond what was consumed they raise the loop's limit. -/
def State.gainCredit (s : State) (p row n : Nat) : State :=
  s.setSend p row (fun l =>
    let owed := (l.consumed + 2 ^ 32 - l.returnedRx) % 2 ^ 32
    let back := min n owed
    { l with available := l.available + n, returnedRx := (l.returnedRx + back) % 2 ^ 32, limit := l.limit + (n - back) })

/-- The lowest free tracker of a class on a die: 0–7167 general, 7168–8191 evictions and writebacks (R27). DESIGN CHOICE (log 103): R27
gives how many trackers each class has, and neither their numbers nor which free one a request takes. -/
def State.freeTracker (s : State) (d : Nat) (evict : Bool) : Option Nat :=
  let lo := 8192 * d + (if evict then 7168 else 0)
  let hi := 8192 * d + (if evict then 8192 else 7168)
  let n := s.rq.tracker.keys.foldl (fun a k => if k = a then a + 1 else a) lo
  if n < hi then some n else none

/-- The mode holds requests of the general class back (R438). -/
def State.holdsGeneral (s : State) : Bool := s.mode == mLinkup || s.mode == mDrain

/-- A host port withholds the credits of a class of requests: no tracker of the class is free (R27), or the mode holds the class
back (R438). -/
def State.withholds (s : State) (d : Nat) (evict : Bool) : Bool :=
  (!evict && s.holdsGeneral) || (s.freeTracker d evict).isNone

/-- Credits of a receive loop are returned. -/
def Loop.give (l : Loop) (n : Nat) : Loop := { l with returnedTx := (l.returnedTx + n) % 2 ^ 32 }

/-- A CREDIT of a link channel is queued, with the return marker that the channel carries since its latest audit (R330). -/
def State.sendCredit (s : State) (l vc : Nat) : State :=
  let m := (s.link l).markOut.at vc
  s.pushBypass l bCredit 0 [vc, (s.linkLoop l vc).returnedTx, m.1, m.2]

/-- Return the credits that a cell backed (R215): of a host's requests they may be withheld, which DESIGN CHOICE (log 89) counts as
credits held at the receiver. -/
def State.returnCredit (s : State) (c : Cell) : State :=
  if c.loop = 0 then s
  else if c.loop < 0x10000 then
    let p := (c.loop - 1) / 16
    let row := (c.loop - 1) % 16
    if row < 2 ∧ s.role p = roleUpstream ∧ s.withholds (dieOfPort p) c.evict = true then
      s.setRecv p row (fun l => if c.evict then { l with heldEvict := l.heldEvict + 1 } else { l with heldGeneral := l.heldGeneral + 1 })
    else
      let s := s.setRecv p row (fun l => l.give 1)
      if c.units = 0 then s else s.setRecv p (row + 1) (fun l => l.give c.units)
  else
    let l := (c.loop - 0x10000) / 8
    let vc := (c.loop - 0x10000) % 8
    (s.setLinkLoop l vc (fun k => k.give 1)).sendCredit l vc

/-- The credits that a host port withheld go back once it need not withhold them. -/
def State.giveHeld (s : State) : State :=
  forEach ((s.core.portLoop.filter (fun e => e.2.heldGeneral != 0 || e.2.heldEvict != 0)).map (fun e => e.1)) (fun k s =>
    let d := dieOfPort (k / 16)
    let gen := !s.withholds d false
    let ev := !s.withholds d true
    s.setRecv (k / 16) (k % 16) (fun l =>
      let l := if gen then { l.give l.heldGeneral with heldGeneral := 0 } else l
      if ev then { l.give l.heldEvict with heldEvict := 0 } else l)) s

/-- SHARED cells an egress holds (R215): a port's from its object, a link's by count. Egress codes are port + 1 and
0x1000 + link. -/
def State.egressCells (s : State) (d e : Nat) : Nat :=
  if e < 0x1000 then s.get (O.EGRESS_CELLS (e - 1))
  else (s.core.cell.filter (fun c => c.1 / 65536 == d && c.2.pool == poolShared && c.2.egress == e)).length

/-- An egress's SHARED charge changes, keeping EGRESS_PEAK, which takes in what stood before the change (R233). -/
def State.setEgress (s : State) (e : Nat) (f : Nat → Nat) : State :=
  if e < 0x1000 ∧ 0 < e then
    let v := f (s.get (O.EGRESS_CELLS (e - 1)))
    let peak := max (s.get (O.EGRESS_PEAK (e - 1))) (max (s.get (O.EGRESS_CELLS (e - 1))) v)
    (s.put (O.EGRESS_CELLS (e - 1)) v).put (O.EGRESS_PEAK (e - 1)) peak
  else s

/-- A cell's charge may move to SHARED for an egress now (R215). -/
def State.mayShare (s : State) (d e : Nat) : Bool :=
  decide (s.get (poolObj d poolShared) < s.poolSize d poolShared) && decide (s.egressCells d e < s.get O.EGRESS_CAP)

/-- Move a cell's charge to SHARED and return the credit it backed. -/
def State.toShared (s : State) (d n e : Nat) : State :=
  let c := s.cellAt d n
  let s := s.put (poolObj d c.pool) (s.get (poolObj d c.pool) - 1)
  let s := s.put (poolObj d poolShared) (s.get (poolObj d poolShared) + 1)
  let s := (s.setCell d n (fun c => { c with pool := poolShared, egress := e, loop := 0, want := 0 })).setEgress e (· + 1)
  (s.refound d n c.pool poolShared).returnCredit c

/-- A cell is enqueued on an egress: its INGRESS or LINK charge moves to SHARED, or waits its turn (R215). -/
def State.enqueueCell (s : State) (d cell e : Nat) : State :=
  if !s.holdsCell d cell then s
  else
    let n := cellNo cell
    let c := s.cellAt d n
    if (c.pool = poolIngress ∨ c.pool = poolLink) ∧ c.want = 0 then
      if s.mayShare d e then s.toShared d n e
      else
        { s with core := { s.core with serial := s.core.serial + 1 } }.setCell d n
          (fun c => { c with egress := e, want := s.core.serial + 1 })
    else s

/-- The oldest cell of a die that waits to move to SHARED and may. -/
def State.nextWanting (s : State) (d : Nat) : Option (Nat × Nat) :=
  let ws := s.core.cell.filter (fun c => c.1 / 65536 == d && c.2.want != 0 && s.mayShare d c.2.egress)
  match ws with
  | [] => none
  | w :: r =>
    let m := r.foldl (fun a c => if c.2.want < a.2.want then c else a) w
    some (m.1 % 65536, m.2.egress)

/-- Cells that wait for SHARED move in enqueue order as long as the conditions hold (R215): at most `n` of them. -/
def State.moveWanting (s : State) (d : Nat) : Nat → State
  | 0 => s
  | n + 1 =>
    match s.nextWanting d with
    | some (m, e) => (s.toShared d m e).moveWanting d n
    | none => s

/-- Every cell of a die that may move to SHARED now does. -/
def State.settleWanting (s : State) (d : Nat) : State :=
  s.moveWanting d (s.core.cell.filter (fun c => c.1 / 65536 == d && c.2.want != 0)).length

/-- Free a cell (R215): the last copy has left. Cells that waited for SHARED may then move. -/
def State.freeCell (s : State) (d cell : Nat) : State :=
  if !s.holdsCell d cell then s
  else
    let n := cellNo cell
    let c := s.cellAt d n
    let s := s.put (poolObj d c.pool) (s.get (poolObj d c.pool) - 1)
    let s := if c.pool = poolShared then s.setEgress c.egress (· - 1) else s
    let s := (s.setCell d n (fun _ => {})).setFree d (s.get (O.CELLS_FREE d) + 1)
    ((s.refound d n c.pool 0).returnCredit c).settleWanting d

/-- A message is received on a port's loop, with the data credits of CXL.io: it takes an INGRESS cell (R215, R217). -/
def State.receiveCell (s : State) (p : Nat) (m : Msg) (evict : Bool := false) : Nat × State :=
  let count := fun (n : Nat) (l : Loop) => { l with received := (l.received + n) % 2 ^ 32 }
  let s := s.setRecv p m.loopRow (count 1)
  let units := m.dataUnits
  let s := if units = 0 then s else s.setRecv p (m.loopRow + 1) (count units)
  let got := s.allocCell (dieOfPort p) poolIngress (portLoopKey p m.loopRow)
  if got.1 = 0 then got
  else (got.1, got.2.setCell (dieOfPort p) (cellNo got.1) (fun c => { c with units := units, evict := evict }))

/-! ## Who holds a cell (R221) -/

/-- The cells that an effect which still waits names. -/
def State.actCells (s : State) (a : Act) : List Nat :=
  match a with
  | .enqueue _ m => [m.cell]
  | .bypass _ m => [m.cell]
  | .home q => [q.cell]
  | .deliver _ _ _ _ _ _ c _ _ _ _ => [c]
  | .answer _ _ _ _ c _ => [c]
  | .route k => [(s.rq.tracker.at k).req.cell]
  | .spec _ m _ _ => [m.cell]
  | .memory _ _ _ _ m => [m.cell]
  | .toHome _ _ _ c => [c]
  | .atomic _ _ _ m _ => [m.cell]
  | .atomicOn _ m _ _ => [m.cell]
  | .atomicAt _ m _ _ => [m.cell]
  | _ => []

/-- The cells that queued messages, waiting requests, the homes' transactions, the groups and the mover name. -/
def State.namedCells (s : State) : List Nat :=
  let reqs := s.rq.waiting.map (fun r => r.cell) ++ s.rq.held.flatMap (fun h => s.actCells h.2)
  let maps := s.map.hold.flatMap (fun h => s.actCells h.act)
  let leaves := s.qos.leaf.flatMap (fun l => l.2.queue.map (fun m => m.cell))
  let bypass := s.qos.egress.flatMap (fun e => e.2.bypass.map (fun m => m.cell))
  let links := s.lnk.link.flatMap (fun l => l.2.queue.map (fun m => m.cell))
  let homes := s.dir.queue.map (fun q => q.cell) ++ s.dir.stalled.map (fun q => q.req.cell) ++
    s.dir.txn.flatMap (fun t => [t.cell, t.req.cell]) ++ s.dir.wb.map (fun w => w.cell)
  let atomics := s.dir.atomics.map (fun a => a.msg.cell) ++ s.dir.held.map (fun h => h.2.cell)
  reqs ++ maps ++ leaves ++ bypass ++ links ++ homes ++ atomics ++ s.grp.slot.flatMap (fun g => g.2.cells) ++
    s.grp.waiting.map (fun k => (s.rq.tracker.at k).req.cell) ++
    s.mv.req.map (fun r => r.cell)

/-! ## The Weevil auditor (R221, R222) -/

/-- Raise a buffer source of a die and set its event bit. -/
def State.bufEvent (s : State) (d loc bit addr : Nat) : State :=
  (s.setBit O.BUF_EVENTS bit true).raise (d * 512 + loc) 0 addr 0xFFFF 0

/-- Quarantine a cell (R222). -/
def State.quarantine (s : State) (d n : Nat) : State :=
  let c := s.cellAt d n
  let s :=
    if c.pool = 0 then s.setFree d (s.get (O.CELLS_FREE d) - 1)
    else if c.pool = poolQuarantine then s
    else
      let s := s.put (poolObj d c.pool) (s.get (poolObj d c.pool) - 1)
      if c.pool = poolShared then s.setEgress c.egress (· - 1) else s
  if c.pool = poolQuarantine then s
  else
    let s := (s.setCell d n (fun _ => { pool := poolQuarantine })).settleWanting d
    let q := s.get (O.BUF_QUARANTINED d) + 1
    let s := s.put (O.BUF_QUARANTINED d) q
    if q ≤ 63 then s.bufEvent d F.CELL_INTEGRITY 1 n else s.bufEvent d F.QUARANTINE_FULL 5 n

/-- The auditor examines its next cell. `finding` is 1 where the cell's free bit and its owner record disagree (check 1), which is a
fault of the records themselves; checks 2 and 3 are the model's to make. -/
def fxWeevilExamine (d finding : Nat) (s : State) : State :=
  let n := (s.dieCore d).weevil
  if s.datapathOn && s.domainOn d dAuditor && s.get O.WEEVIL_ENABLE == 1 && decide (n < cellsPerDie) then
    let s := if n = 0 then s.put (O.STALE_CELLS d) 0 else s
    let c := s.cellAt d n
    let s :=
      if finding = 1 then s.quarantine d n
      else if c.pool = 0 ∨ c.pool = poolQuarantine then s
      else
        let s :=
          if !s.namedCells.contains (cellName n c.gen) then
            if c.suspect then
              let s := s.count32 (O.LEAKS_FOUND d)
              let s := if s.get (O.FIRST_LEAK_CELL d) = 0xFFFFFFFF then s.put (O.FIRST_LEAK_CELL d) n else s
              let s := s.bufEvent d F.CELL_LEAK 0 n
              if s.get O.WEEVIL_RECLAIM = 1 then (s.count32 (O.LEAKS_RECLAIMED d)).freeCell d (cellName n c.gen) else s
            else s.setCell d n (fun c => { c with suspect := true })
          else s.setCell d n (fun c => { c with suspect := false })
        if c.since + s.get O.WEEVIL_AGE_LIMIT ≤ s.elapsed d then
          (s.count32 (O.STALE_CELLS d)).bufEvent d F.CELL_STALE 2 n
        else s
    let pool := (s.cellAt d n).pool
    s.setDieCore d (fun k => { k with weevil := n + 1, found := k.found.upd pool (· + 1) })
  else s

/-- The end of a pass (R221): the cells found charged to each pool against its counter. -/
def fxWeevilPassEnd (d : Nat) (mismatch : Bool) (s : State) : State :=
  let k := s.dieCore d
  if cellsPerDie ≤ k.weevil then
    let bad := mismatch || ([1, 2, 3, 4, 5, 6, 7].any (fun p => k.found.at p != s.get (poolObj d p)))
    let s := s.setDieCore d (fun k => { k with weevil := 0, found := [] })
    let s := s.wrap32 (O.WEEVIL_PASSES d)
    if bad then s.bufEvent d F.POOL_MISMATCH 3 0 else s
  else s

/-! ## The credit audit (R223 to R225) -/

/-- A loop's code in CA_FAIL_LOOP. -/
def auditCode (kind d index channel : Nat) : Nat := kind * 2 ^ 24 + d * 2 ^ 16 + index * 2 ^ 8 + channel

/-- The die, kind, index and channel order of R225. -/
def auditOrder (code check : Nat) : Nat :=
  ((((code / 2 ^ 16 % 256) * 256 + code / 2 ^ 24) * 256 + code / 2 ^ 8 % 256) * 256 + code % 256) * 8 + check

/-- A check of the audit fails on a die (R225); check 0 stands for a timeout. -/
def State.auditFail (s : State) (d code check : Nat) : State :=
  let s := { s with core := { s.core with failed := s.core.failed ++ [(code, check)] } }
  if check = 0 then (s.setBit O.CA_EVENTS 1 true).raiseDie d F.CREDIT_AUDIT_TIMEOUT
  else (s.setBit O.CA_EVENTS 0 true).raiseDie d F.CREDIT_AUDIT_FAIL

/-- Cells charged to a loop. -/
def State.chargedTo (s : State) (loop : Nat) : Nat := (s.core.cell.filter (fun c => c.2.loop == loop)).length

/-- What the receiver of a row of a port holds: the cells charged to it with the credits withheld, of a data row of CXL.io the
data credits of the cells charged to the row before it. -/
def State.heldAt (s : State) (p row : Nat) : Nat :=
  let r := s.recvLoop p row
  if 7 ≤ row ∧ row % 2 = 1 then
    (s.core.cell.filter (fun c => c.2.loop == portLoopKey p (row - 1))).foldl (fun a c => a + c.2.units) 0
  else s.chargedTo (portLoopKey p row) + r.heldGeneral + r.heldEvict

/-- Check 3 for a send loop. -/
def Loop.check3 (l : Loop) : Bool := (l.available + l.consumed) % 2 ^ 32 == (l.limit + l.returnedRx) % 2 ^ 32

/-- Trackers a die holds. -/
def State.trackersUsed (s : State) (d : Nat) : Nat :=
  (s.rq.tracker.filter (fun t => t.1 / 8192 == d && t.2.busy)).length

/-- The credit loops of a port: its role's rows, in both directions. -/
def State.portLoops (s : State) (p : Nat) : Nat :=
  if s.get (O.PORT_WIDTH p) = 0 ∨ s.role p = roleDisabled then 0 else if s.role p = roleFm then 12 else 24

/-- Checks 1 to 4 that a die makes at T; the loops of a port that is not UP are skipped and counted. -/
def State.auditDie (s : State) (d : Nat) : State :=
  let total := [1, 2, 3, 4, 5, 6, 7].foldl (fun a p => a + s.get (poolObj d p)) (s.get (O.CELLS_FREE d)) +
    s.get (O.BUF_QUARANTINED d)
  let s := if total ≠ cellsPerDie then s.auditFail d (auditCode 4 d 0 0) 1 else s
  let s := if 8192 < s.trackersUsed d then s.auditFail d (auditCode 5 d 0 0) 2 else s
  forEach ((List.range 16).map (fun k => 16 * d + k)) (fun p s =>
    if s.linkState p = lsUp then
      forEach (List.range 12) (fun row s =>
        let s := if (s.sendLoop p row).check3 then s else s.auditFail d (auditCode 2 d p row) 3
        let r := s.recvLoop p row
        if (r.received + 2 ^ 32 - r.returnedTx) % 2 ^ 32 = s.heldAt p row then s
        else s.auditFail d (auditCode 1 d p row) 4) s
    else s.addSat O.CA_SKIPPED (s.portLoops p) 0xFFFFFFFF) s

/-- The audit's first core cycle on a link end: check 3, the snapshots and the data markers, each behind the messages sent by then
and before those that wait; a link that is not UP is skipped. -/
def State.auditLink (s : State) (l : Nat) : State :=
  forEach (List.range 5) (fun vc s =>
    if s.linkIsUp l then
      let k := s.linkLoop l vc
      let s := if k.check3 then s else s.auditFail (l / 4) (auditCode 3 (l / 4) (l % 4) vc) 3
      let s := s.setLinkLoop l vc (fun k => { k with snapConsumed := k.consumed })
      let s := s.setLink l (fun r => { r with queue :=
        ({ vc := vc, long := true, marker := some (s.get O.CA_RUNS % 65536) } : NetMsg) :: r.queue })
      { s with core := { s.core with awaited := s.core.awaited ++ [8 * l + vc] } }
    else s.count32 O.CA_SKIPPED) s

/-- Disarm or arm (R223). -/
def fxCaAt (v : Nat) (s : State) : State := (s.put O.CA_AT v).put O.CA_STATE (if v = 0 then 0 else 1)

/-- A served write of CA_AT is refused (R223). -/
def State.caAtStatus (s : State) (v : Nat) : Nat :=
  if v ≠ 0 ∧ v < s.now 0 + 25 then stBadValue else if s.get O.CA_STATE = 2 then stBusy else stOk

/-- The loops that a die checks (R235): of each port that is UP those of its role's rows, in both directions, and of each link that
is UP those of its five channels. -/
def State.auditedLoops (s : State) (d : Nat) : Nat :=
  let ports := ((List.range 16).map (fun k => 16 * d + k)).filter (fun p => s.linkState p == lsUp)
  ports.foldl (fun a p => a + s.portLoops p) 0 +
    10 * ((List.range 4).filter (fun k => s.linkIsUp (linkNo d k))).length

/-- The audit starts at T (R225). -/
def fxCreditAuditStart (s : State) : State :=
  let t := s.get O.CA_AT
  if s.datapathOn && s.domainOn 0 dAuditor && s.get O.CA_STATE == 1 && t != 0 && decide (t ≤ s.now 0) then
    let s := { s with core := { s.core with failed := [], awaited := [], auditAt := s.elapsed 0, auditT := t } }
    let per := s.get O.CA_PERIOD
    let s := (s.put O.CA_STATE 2).put O.CA_AT (if per = 0 then 0 else t + per)
    let s := forEach (List.range s.dies) (fun d s => s.put (O.CA_LOOPS d) (s.auditedLoops d)) s
    let s := forEach (List.range s.dies) (fun d s => s.auditDie d) s
    forEach (List.range (4 * s.dies)) (fun l s => s.auditLink l) s
  else s

/-- A data marker of a channel that has arrived at a link end is processed: checks 4 and 5, and the return marker. -/
def fxMarker (l vc : Nat) (s : State) : State :=
  match (s.link l).markers.find? (fun m => m.1 == vc) with
  | none => s
  | some (_, serial, received, charged) =>
    let s := s.setLink l (fun k => { k with markers := k.markers.filter (fun m => m.1 != vc) })
    let far := s.peerLink l
    let code := auditCode 3 (far / 4) (far % 4) vc
    let r := s.linkLoop l vc
    let s := if (received + 2 ^ 32 - r.marker) % 2 ^ 32 = charged then s else s.auditFail (l / 4) code 4
    let s := if received = (s.linkLoop far vc).snapConsumed then s else s.auditFail (l / 4) code 5
    (s.setLink l (fun k => { k with markOut := k.markOut.set vc (serial + 1, r.returnedTx) })).sendCredit l vc

/-- A return marker of a channel that has come back to its sender is processed: check 6, RETURNED_RX there against the RETURNED_TX
of the receiver when it sent the marker, MARK_RETURNED. DEDUCED (log 90): R330 lets the CREDIT that carries the marker stand for
returns before it and after it, so the marker's count must lie between RETURNED_RX before that CREDIT and with it. -/
def fxReturnMarker (l vc : Nat) (s : State) : State :=
  match (s.link l).returns.find? (fun m => m.1 == vc) with
  | none => s
  | some (_, before, mark, now) =>
    let s := s.setLink l (fun k => { k with returns := k.returns.filter (fun m => m.1 != vc) })
    let s := if (mark + 2 ^ 32 - before) % 2 ^ 32 ≤ (now + 2 ^ 32 - before) % 2 ^ 32 then s
             else s.auditFail (l / 4) (auditCode 3 (l / 4) (l % 4) vc) 6
    { s with core := { s.core with awaited := s.core.awaited.filter (· != 8 * l + vc) } }

/-- A link goes down while an audit awaits its markers: its loops are skipped (R225). -/
def State.auditSkip (s : State) (l : Nat) : State :=
  let mine := s.core.awaited.filter (fun c => c / 8 == l)
  let n := mine.length
  let s := ({ s with core := { s.core with awaited := s.core.awaited.filter (fun c => c / 8 != l) } }).addSat
    O.CA_SKIPPED n 0xFFFFFFFF
  let s := s.put (O.CA_LOOPS (l / 4)) (s.get (O.CA_LOOPS (l / 4)) - n)
  s.put (O.CA_LOOPS (s.peerLink l / 4)) (s.get (O.CA_LOOPS (s.peerLink l / 4)) - n)

/-- Die 0 gathers the outcomes at T + 50 ft (R225). -/
def fxCreditAuditGather (s : State) : State :=
  if s.get O.CA_STATE = 2 ∧ s.core.auditAt + 50 ≤ s.elapsed 0 then
    let s := forEach s.core.awaited (fun c s =>
      s.auditFail (c / 8 / 4) (auditCode 3 (c / 8 / 4) (c / 8 % 4) (c % 8)) 0) s
    let fails := s.core.failed
    let res := if fails.any (fun f => f.2 == 0) then stTimeout else if fails.isEmpty then stOk else stConflict
    let best := fails.foldl (fun (a : Option (Nat × Nat)) f =>
      match a with
      | none => some f
      | some b => if auditOrder f.1 f.2 < auditOrder b.1 b.2 then some f else some b) none
    let s := (s.put O.CA_RESULT res).put O.CA_LAST_AT s.core.auditT
    let s := match best with
      | some f => (s.put O.CA_FAIL_LOOP f.1).put O.CA_FAIL_CHECK f.2
      | none => (s.put O.CA_FAIL_LOOP 0).put O.CA_FAIL_CHECK 0
    let s := forEach (fails.map Prod.fst).eraseDups (fun c s => s.count32 (O.CA_LOOP_FAILS (c / 2 ^ 16 % 256))) s
    let s := s.wrap32 O.CA_RUNS
    let s := if res = stOk then s else s.count32 O.CA_FAILS
    { s with core := { s.core with awaited := [], failed := [] } }.put O.CA_STATE (if s.get O.CA_AT = 0 then 0 else 1)
  else s

/-! ## Capture (R226 to R230) -/

def capOff : Nat := 0
def capWaiting : Nat := 1
def capRunning : Nat := 2
def capPost : Nat := 3
def capStopped : Nat := 4

/-- A die's capture unit. -/
def State.capture (s : State) (d : Nat) : Capture := s.core.cap.at d
def State.setCapture (s : State) (d : Nat) (f : Capture → Capture) : State :=
  { s with core := { s.core with cap := s.core.cap.upd d f } }

/-- The LFSR step of R227. -/
def lfsrStep (x : Nat) : Nat := Nat.xor (x / 2) (if x % 2 = 1 then 0xB400 else 0)

/-- Set an element of a list of eight. -/
def setEight (l : List Nat) (i v : Nat) : List Nat := (List.range 8).map (fun k => if k = i then v else l.getD k 0)

/-- A filter matches a message at a capture point (R227). `dir` is 0 ingress, 1 egress. -/
def State.filterMatches (s : State) (d f p dir : Nat) (m : Msg) : Bool :=
  s.get (O.CF_ENABLE d f) == 1 && s.bit (O.CF_PORTS d f) (p % 16) && s.bit (O.CF_DIR d f) dir &&
    s.bit (O.CF_CHANNELS d f) m.channel &&
    (s.get (O.CF_TENANT d f) == 0xFFFF || s.get (O.CF_TENANT d f) == m.tenant) &&
    (s.get (O.CF_HOST d f) == 0xFF || s.get (O.CF_HOST d f) == m.host) &&
    (s.get (O.CF_OPCODE d f) == 0xFFFF || s.get (O.CF_OPCODE d f) % 256 == m.opcode % 256) &&
    (if m.hasFa then decide (s.get (O.CF_ADDR_LO d f) ≤ m.fa ∧ m.fa ≤ s.get (O.CF_ADDR_HI d f))
     else s.get (O.CF_ADDR_LO d f) == 0 && s.get (O.CF_ADDR_HI d f) == 0x7FFFFFFFFFFF)

/-- A matching filter decides (R227). -/
def State.filterDecides (s : State) (d f : Nat) : Bool × State :=
  let rate := s.get (O.CF_RATE d f)
  let u := s.capture d
  match s.get (O.CF_ACTION d f) with
  | 0 => (true, s)
  | 1 =>
    let n := u.count.getD f 0 + 1
    if n = rate then (true, s.setCapture d (fun u => { u with count := setEight u.count f 0 }))
    else (false, s.setCapture d (fun u => { u with count := setEight u.count f n }))
  | _ =>
    let x := lfsrStep (u.lfsr.getD f 0)
    (decide (x ≤ 65535 / rate), s.setCapture d (fun u => { u with lfsr := setEight u.lfsr f x }))

/-- A MESSAGE record (R229), its LOST field still zero. -/
def State.record (s : State) (d f p dir : Nat) (m : Msg) : List Nat :=
  let kind := if m.hasFa && dir == 0 then 2 else if dir == 1 && m.channel < 2 then 1 else if m.hasFa then 2
              else if m.channel == 3 then 3 else 0
  let addr := if kind = 2 then m.fa else if kind = 1 then m.dpa else if kind = 3 then 0 else m.hpa
  let colour := if m.metered then m.colour else 3
  let noT := b2n (m.tenant == noTenant)
  let noH := b2n (m.host == 0xFF)
  let soj := if dir = 0 then 0 else min (s.stamp d - m.origin) 0xFFFFFFFF
  [if dir = 0 then m.origin else s.stamp d,
   1 * 2 ^ 60 + f * 2 ^ 57 + p * 2 ^ 50 + dir * 2 ^ 49 + m.channel * 2 ^ 45 + (m.opcode % 256) * 2 ^ 37 +
     colour * 2 ^ 35 + (m.aliasNo % 8) * 2 ^ 32 + b2n m.poison * 2 ^ 31 + b2n m.mcast * 2 ^ 30 +
     (if noT = 1 then 0 else m.tenant % 1024) * 2 ^ 20 + (if noH = 1 then 0 else m.host % 64) * 2 ^ 14 +
     noT * 2 ^ 13 + noH * 2 ^ 12,
   kind * 2 ^ 62 + (if kind = 1 then m.ld % 16 else 0) * 2 ^ 52 + addr % 2 ^ 52,
   (m.tag % 65536) * 2 ^ 48 + (m.payload % 8192) * 2 ^ 35 + soj]

/-- Queue a capture record, or lose it (R228); a trigger's record that is lost is not waited for. -/
def State.queueRecord (s : State) (d : Nat) (r : List Nat) : State :=
  if 64 ≤ (s.capture d).queue.length then
    let s := (s.count32 (O.CAP_LOST d)).setCapture d (fun u => { u with lost := u.lost + 1, missed := u.missed || r.getD 1 0 / 2 ^ 60 == 2 })
    (s.setBit (O.CAP_EVENTS d) 2 true).raiseDie d F.CAP_LOST
  else s.setCapture d (fun u => { u with queue := u.queue ++ [r] })

/-- A message passes a capture point (R226, R227). -/
def State.observe (s : State) (p dir : Nat) (m : Msg) : State :=
  let d := dieOfPort p
  let st := s.get (O.CAP_STATE d)
  if st = capRunning ∨ st = capPost then
    let go := (List.range 8).foldl (fun (a : Option Nat × State) f =>
      if a.2.filterMatches d f p dir m then
        let (yes, s) := a.2.filterDecides d f
        if yes then (a.1.orElse (fun _ => some f), s.count32 (O.CF_MATCHES d f)) else (a.1, s)
      else a) (none, s)
    match go.1 with
    | some f => go.2.queueRecord d (go.2.record d f p dir m)
    | none => go.2
  else s

/-- A raise of the trigger source reaches a capture unit (R228). -/
def State.capTrigger (s : State) (d source : Nat) : State :=
  if s.get (O.CAP_STATE d) = capRunning ∧ s.get (O.CAP_TRIGGER_SRC d) = source then
    let s := s.queueRecord d [s.stamp d, 2 * 2 ^ 60 + 2 ^ 13 + 2 ^ 12, 3 * 2 ^ 62 + source, 0]
    let s := (s.put (O.CAP_TRIGGER_AT d) (s.stamp d)).put (O.CAP_STATE d) capPost
    let s := s.setCapture d (fun u => { u with post := 0, counting := u.missed, missed := false })
    (s.setBit (O.CAP_EVENTS d) 0 true).raiseDie d F.CAP_TRIGGERED
  else s

/-- A served write of CAP_ENABLE. -/
def fxCapEnable (d b : Nat) (s : State) : State :=
  let was := s.get (O.CAP_ENABLE d)
  let s := s.put (O.CAP_ENABLE d) b
  if b = 0 then (s.put (O.CAP_STATE d) capOff).setCapture d (fun u => { u with queue := [], counting := false })
  else if was = 1 then s
  else
    let s := (s.put (O.CAP_RECORDS d) 0).setCapture d (fun u => { u with queue := [], post := 0, counting := false })
    s.put (O.CAP_STATE d) (if s.get (O.CAP_START_AT d) = 0 then capRunning else capWaiting)

/-- CAP_START_AT arrives. -/
def fxCapStart (d : Nat) (s : State) : State :=
  if s.get (O.CAP_STATE d) = capWaiting ∧ s.get (O.CAP_START_AT d) ≤ s.now d then s.put (O.CAP_STATE d) capRunning else s

/-- CAP_STOP_AT arrives; the records still queued are discarded, as at every stop (R228; DEDUCED, log 43). -/
def fxCapStop (d : Nat) (s : State) : State :=
  let st := s.get (O.CAP_STATE d)
  let t := s.get (O.CAP_STOP_AT d)
  if (st = capRunning ∨ st = capPost) ∧ t ≠ 0 ∧ t ≤ s.now d then
    (s.put (O.CAP_STATE d) capStopped).setCapture d (fun u => { u with queue := [] })
  else s

/-- A full ring stops a unit in CAP_MODE STOP (R228). -/
def State.captureFull (s : State) (d : Nat) : State :=
  let s := (s.put (O.CAP_STATE d) capStopped).setCapture d (fun u => { u with queue := [] })
  (s.setBit (O.CAP_EVENTS d) 1 true).raiseDie d F.CAP_FULL

/-- One record moves from the queue into the ring (R228). Where CAP_MODE was set to STOP on a ring that had wrapped, it is full. -/
def fxCapRecordWrite (d : Nat) (s : State) : State :=
  match (s.capture d).queue with
  | [] => s
  | r :: q =>
    let u := s.capture d
    let i := s.get (O.CAP_WRITE_INDEX d)
    if s.get (O.CAP_MODE d) = 1 ∧ 0 < s.get (O.CAP_WRAPS d) then s.captureFull d
    else
    let w2 := r.getD 2 0 + (min u.lost 63) * 2 ^ 56
    let isTrigger := r.getD 1 0 / 2 ^ 60 = 2
    let s := s.writeBytes (captureAddr d (32 * i))
      (bytesOf (r.getD 0 0) 8 ++ bytesOf (r.getD 1 0) 8 ++ bytesOf w2 8 ++ bytesOf (r.getD 3 0) 8)
    let s := s.setCapture d (fun u => { u with queue := q, lost := 0, counting := u.counting || isTrigger,
                                               post := if u.counting then u.post + 1 else u.post })
    let s := s.wrap32 (O.CAP_RECORDS d)
    let s := if i + 1 = 8192 then (s.put (O.CAP_WRITE_INDEX d) 0).wrap32 (O.CAP_WRAPS d)
             else s.put (O.CAP_WRITE_INDEX d) (i + 1)
    let s :=
      if s.get (O.CAP_STATE d) = capPost ∧ (s.capture d).counting = true ∧
          s.get (O.CAP_POST_COUNT d) ≤ (s.capture d).post then
        (s.put (O.CAP_STATE d) capStopped).setCapture d (fun u => { u with queue := [] })
      else s
    if i + 1 = 8192 ∧ s.get (O.CAP_MODE d) = 1 then s.captureFull d else s

/-- Empty a die's ring (R230). -/
def State.emptyRing (s : State) (d : Nat) : State :=
  ((s.eraseRange (captureAddr d 0) 0x40000).put (O.CAP_WRITE_INDEX d) 0).put (O.CAP_WRAPS d) 0

/-- A served write of CAP_CLEAR. -/
def fxCapClear (d : Nat) (s : State) : State := s.emptyRing d

/-- A served write of CF_ENABLE: the LFSR takes CF_SEED at a change from 0 to 1 (R227). -/
def fxCfEnable (d f b : Nat) (s : State) : State :=
  let was := s.get (O.CF_ENABLE d f)
  let s := s.put (O.CF_ENABLE d f) b
  if was = 0 ∧ b = 1 then s.setCapture d (fun u => { u with lfsr := setEight u.lfsr f (s.get (O.CF_SEED d f)) }) else s

end Sys2Proof.Machine
end

