-- ==== Sys2Proof/Machine/Sched.lean ====
section
/-! DEFINITION. The Babbitt scheduler: leaves, the bypass, selection, shapers, meters and high-water marks
(R238 to R264). -/
namespace Sys2Proof.Machine

/-! ## Queues of a port -/

/-- The slot number of a class's common leaf. -/
def commonSlot : Nat := 64

/-- A leaf's key. -/
def leafKey (p c slot : Nat) : Nat := 65 * (8 * p + c) + slot
def leafPort (k : Nat) : Nat := k / 65 / 8
def leafClass (k : Nat) : Nat := k / 65 % 8
def leafSlot (k : Nat) : Nat := k % 65

/-- A leaf's record, and its change. -/
def State.leaf (s : State) (k : Nat) : Leaf := s.qos.leaf.at k
def State.setLeaf (s : State) (k : Nat) (f : Leaf → Leaf) : State :=
  { s with qos := { s.qos with leaf := s.qos.leaf.upd k f } }

/-- A port's egress, and its change. -/
def State.egress (s : State) (p : Nat) : Egress := s.qos.egress.at p
def State.setEgressOf (s : State) (p : Nat) (f : Egress → Egress) : State :=
  { s with qos := { s.qos with egress := s.qos.egress.upd p f } }

/-- The enabled leaf slot of a port and class whose TENANT is `t`, else the common leaf (R241). -/
def State.leafFor (s : State) (p c t : Nat) : Nat :=
  let cfgs := (s.regs.filter (fun e => decide (e.1 / 0x100 = (p * 8 + c) * 0x100 + 0x31 ∧ e.1 % 4 = 0))).map
    (fun e => (e.1 % 0x100 / 4, e.2.toNat))
  match cfgs.find? (fun e => e.2.testBit 63 && bitsOf e.2 41 32 == t) with
  | some e => leafKey p c e.1
  | none => leafKey p c commonSlot

/-- The object of a leaf's shaper. -/
def shapeObj (k : Nat) : Obj :=
  if leafSlot k = commonSlot then O.COMMON_SHAPE (leafPort k) (leafClass k)
  else O.LEAF_SHAPE (leafPort k) (leafClass k) (leafSlot k)

/-- A leaf's DWRR weight: a disabled leaf that still holds requests keeps its last one (R242). -/
def State.leafWeight (s : State) (k : Nat) : Nat :=
  if leafSlot k = commonSlot then s.get (O.COMMON_WEIGHT (leafPort k) (leafClass k))
  else
    let cfg := s.get (O.LEAF_CFG (leafPort k) (leafClass k) (leafSlot k))
    if cfg.testBit 63 then cfg % 65536 else (s.leaf k).weight

/-- The leaves listed of a port and class, lowest slot first. -/
def State.leavesOf (s : State) (p c : Nat) : List Nat :=
  s.qos.leaf.keys.filter (fun k => leafPort k == p && leafClass k == c)

/-- Leaves of a port that hold a message. -/
def State.busyLeaves (s : State) (p : Nat) : List Nat :=
  (s.qos.leaf.filter (fun e => leafPort e.1 == p && !e.2.queue.isEmpty)).map Prod.fst

/-- Messages in the leaves of a class, in the hierarchy, and in the bypass of a port. -/
def State.classDepth (s : State) (p c : Nat) : Nat :=
  (s.leavesOf p c).foldl (fun a k => a + (s.leaf k).queue.length) 0
def State.hierDepth (s : State) (p : Nat) : Nat :=
  (s.busyLeaves p).foldl (fun a k => a + (s.leaf k).queue.length) 0
def State.bypassDepth (s : State) (p : Nat) : Nat := (s.egress p).bypass.length

/-! ## Marks (R257) -/

/-- Raise a mark to a value. -/
def State.mark (s : State) (o : Obj) (v : Nat) : State := if s.get o < v then s.put o (min v 0xFFFFFFFF) else s

/-- The depth mark of a leaf, and its sojourn mark. -/
def depthObj (k : Nat) : Obj :=
  if leafSlot k = commonSlot then O.CCM_DEPTH (leafPort k) (leafClass k)
  else O.LM_DEPTH (leafPort k) (leafClass k) (leafSlot k)
def sojournObj (k : Nat) : Obj :=
  if leafSlot k = commonSlot then O.CCM_SOJOURN (leafPort k) (leafClass k)
  else O.LM_SOJOURN (leafPort k) (leafClass k) (leafSlot k)

/-- The sojourn of R257, from two stamps in sub-ticks, in ft rounded up. -/
def sojournFt (since now : Nat) : Nat := (now - since + 63) / 64

/-! ## Enqueue -/

/-- Bring a round-robin list up to date: what no longer belongs leaves, what is new joins at the tail (R250). The list is kept with the pointer
at its head, so the tail lies just behind the pointer (DESIGN CHOICE, log 137). -/
def syncRing (order members : List Nat) : List Nat :=
  order.filter (· ∈ members) ++ members.filter (fun k => !order.contains k)

/-- The key of a class's round-robin list, and of a port's list for class 7's red pass (R248). -/
def ringKey (p c : Nat) : Nat := 8 * p + c
def redKey (p : Nat) : Nat := 1024 + p

/-- A round-robin list, and its change. -/
def State.ring (s : State) (k : Nat) : Ring := s.qos.ring.at k
def State.setRing (s : State) (k : Nat) (r : Ring) : State :=
  { s with qos := { s.qos with ring := s.qos.ring.set k r } }

/-- The head of a leaf. -/
def State.headOf (s : State) (k : Nat) : Option Msg := (s.leaf k).queue.head?

/-- The colour of a leaf's head; 3 when empty. -/
def State.headColour (s : State) (k : Nat) : Nat := match s.headOf k with | some m => m.colour | none => 3

/-- Bring the lists of a port up to date with its leaves. -/
def State.syncRings (s : State) (p : Nat) : State :=
  let busy := s.busyLeaves p
  let s := forEach (List.range 8) (fun c s =>
    let r := s.ring (ringKey p c)
    let order := syncRing r.order (busy.filter (fun k => leafClass k == c))
    s.setRing (ringKey p c) { order := order, keep := r.keep && order.head? == r.order.head? }) s
  let r := s.ring (redKey p)
  let order := syncRing r.order (busy.filter (fun k => s.headColour k == 2))
  let s := s.setRing (redKey p) { order := order, keep := r.keep && order.head? == r.order.head? }
  let e := s.egress p
  let classes := [2, 3, 4, 5, 6].filter (fun c => busy.any (fun k => leafClass k == c))
  let wrr := syncRing e.wrr.order classes
  let ds := (List.range 8).map (fun c => if classes.contains c then e.clsDeficit.getD c 0 else 0)
  s.setEgressOf p (fun e =>
    { e with wrr := { order := wrr, keep := e.wrr.keep && wrr.head? == e.wrr.order.head? }, clsDeficit := ds })

/-- A message joins the hierarchy of a port in a class (R241). -/
def State.enqueue (s : State) (p : Nat) (m : Msg) : State :=
  let s := s.enqueueCell (dieOfPort p) m.cell (p + 1)
  let k := s.leafFor p m.cls m.tenant
  let m := { m with since := s.stamp (dieOfPort p) }
  let s := (s.setLeaf k (fun l => { l with queue := l.queue ++ [m] })).syncRings p
  let s := s.mark (depthObj k) (s.leaf k).queue.length
  let s := s.mark (O.CM_DEPTH p m.cls) (s.classDepth p m.cls)
  s.mark (O.PM_DEPTH p) (s.hierDepth p + s.bypassDepth p)

/-- A message joins the bypass of a port (R238, R239). -/
def State.enqueueBypass (s : State) (p : Nat) (m : Msg) : State :=
  let s := s.enqueueCell (dieOfPort p) m.cell (p + 1)
  let m := { m with since := s.stamp (dieOfPort p) }
  let s := s.setEgressOf p (fun e => { e with bypass := e.bypass ++ [m] })
  let s := s.mark (O.BM_DEPTH p) (s.bypassDepth p)
  s.mark (O.PM_DEPTH p) (s.hierDepth p + s.bypassDepth p)

/-! ## Fences (R242) -/

/-- Requests of a tenant in a queue. -/
def State.heldFor (s : State) (k t : Nat) : Nat := ((s.leaf k).queue.filter (fun m => m.tenant == t)).length

/-- The queue of a tenant's requests moves: the new one is FENCED behind those the old one holds. -/
def State.fence (s : State) (old new t : Nat) : State :=
  let n := s.heldFor old t
  if old = new ∨ n = 0 then s else s.setLeaf new (fun l => { l with fences := l.fences ++ [(t, old, n)] })

/-- A request of a tenant has been sent from a queue. -/
def State.unfence (s : State) (k t : Nat) : State :=
  let less := fun (fs : List (Nat × Nat × Nat)) =>
    (fs.map (fun f => if f.1 = t ∧ f.2.1 = k then (f.1, f.2.1, f.2.2 - 1) else f)).filter (fun f => decide (0 < f.2.2))
  forEach (s.qos.leaf.filter (fun e => !e.2.fences.isEmpty)) (fun e s =>
    s.setLeaf e.1 (fun l => { l with fences := less l.fences })) s

/-! ## Shapers (R253 to R256) -/

def shapeOn (w : Nat) : Bool := w.testBit 61
def shapeMsgs (w : Nat) : Bool := w.testBit 60
def shapeRate (w : Nat) : Nat := bitsOf w 55 32
def shapeBurst (w : Nat) : Nat := bitsOf w 23 0
def shapeReset (w : Nat) : Nat := bitsOf w 63 62

/-- The tokens a refill leaves (R254): pending, the reset, the settings it uses and the tokens before. -/
def refillTokens (pending : Bool) (reset w : Nat) (tokens : Int) : Int :=
  let carried := if shapeOn w then min (tokens + shapeRate w) (shapeBurst w) else tokens
  if pending && reset == 1 then shapeBurst w else if pending && reset == 2 then 0 else carried

/-- The tokens a charge leaves (R254). -/
def spendTokens (w charge : Nat) (tokens : Int) : Int :=
  if shapeOn w then max (tokens - (if shapeMsgs w then 1 else charge)) (-2147483648) else tokens

/-- A shaper lets a message pass. -/
def shapePass (w : Nat) (tokens : Int) : Bool := !shapeOn w || decide (0 < tokens)

/-- An applied change of a leaf's shaper (R255). -/
def State.shapeApplied (s : State) (k w : Nat) : State :=
  s.setLeaf k (fun l => { l with pending := true, reset := if shapeReset w = 0 then l.reset else shapeReset w })

/-- An applied change of a port's shaper (R255). -/
def State.portShapeApplied (s : State) (p w : Nat) : State :=
  s.setEgressOf p (fun e => { e with pending := true, reset := if shapeReset w = 0 then e.reset else shapeReset w })

/-! ## Meters (R244 to R247) -/

/-- A meter's settings: M_CFG, M_CIR, M_CBS, M_PIR, M_PBS. -/
def State.meterRegs (s : State) (m : Nat) : List Nat := (List.range 5).map (fun k => s.get ⟨0x32, m, k⟩)

/-- A meter's buckets on a die, and their change. -/
def State.bucket (s : State) (d m : Nat) : Bucket := s.qos.bucket.at (2048 * d + m)
def State.setBucket (s : State) (d m : Nat) (f : Bucket → Bucket) : State :=
  { s with qos := { s.qos with bucket := s.qos.bucket.upd (2048 * d + m) f } }

/-- The settings a die's meter colours with. -/
def State.meterInForce (s : State) (d m : Nat) : List Nat := (s.bucket d m).settings.getD (s.meterRegs m)

/-- An apply changes a field of a meter other than M_CLASS: every die keeps the old settings till its refill (R247). -/
def State.meterApplied (s : State) (m : Nat) (old : List Nat) (reset : Nat) : State :=
  forEach (List.range s.dies) (fun d s => s.setBucket d m (fun b =>
    { b with settings := b.settings.orElse (fun _ => some old), pending := true,
             reset := if reset = 0 then b.reset else reset })) s

/-- The tokens missing from a bucket after a refill that carries it over. -/
def carryMissing (missing oldBurst rate burst : Nat) : Nat := burst - min ((oldBurst - missing) + rate) burst

/-- A meter's refill on a die (R245, R247). -/
def State.refillMeter (s : State) (d m : Nat) : State :=
  let b := s.bucket d m
  let old := s.meterInForce d m
  let new := s.meterRegs m
  let cbs := new.getD 2 0
  let pbs := new.getD 4 0
  if b.pending then
    let rises := !(old.getD 0 0).testBit 61 && (new.getD 0 0).testBit 61
    if b.reset = 2 then s.setBucket d m (fun _ => { missC := cbs, missP := pbs })
    else if b.reset = 1 ∨ rises = true then s.setBucket d m (fun _ => {})
    else s.setBucket d m (fun _ => { missC := carryMissing b.missC (old.getD 2 0) (new.getD 1 0) cbs,
                                     missP := carryMissing b.missP (old.getD 4 0) (new.getD 3 0) pbs })
  else s.setBucket d m (fun b => { b with missC := carryMissing b.missC cbs (new.getD 1 0) cbs,
                                          missP := carryMissing b.missP pbs (new.getD 3 0) pbs })

/-- Colour a request of a tenant in a direction on a die (R245): the colour, and whether it is metered (R244). `pre` is
the pre-colour that a colour-aware meter takes for CXL.io traffic class `tc`, none for CXL.mem and CXL.cache. -/
def State.colour (s : State) (d t dir charge : Nat) (tc : Option Nat) : Nat × Bool × State :=
  let m := 2 * t + dir
  let w := s.meterInForce d m
  let cfg := w.getD 0 0
  if t = noTenant ∨ cfg.testBit 61 = false then (0, false, s)
  else
    let pre := if cfg.testBit 60 then (match tc with | some i => bitsOf cfg (2 * i + 1) (2 * i) | none => bitsOf cfg 59 58) else 0
    let b := s.bucket d m
    let tcTokens := w.getD 2 0 - b.missC
    let tpTokens := w.getD 4 0 - b.missP
    if pre = 2 ∨ tpTokens < charge then (2, true, s)
    else if pre = 1 ∨ tcTokens < charge then (1, true, s.setBucket d m (fun b => { b with missP := b.missP + charge }))
    else (0, true, s.setBucket d m (fun b => { b with missP := b.missP + charge, missC := b.missC + charge }))

/-- Count the colour with which a request is scheduled (R245). -/
def State.countColour (s : State) (t dir colour : Nat) : State :=
  if t = noTenant then s
  else s.count32 (if colour = 0 then O.M_GREEN t dir else if colour = 1 then O.M_YELLOW t dir else O.M_RED t dir)

/-- A tenant's class in a direction (R241). -/
def State.meterClass (s : State) (t dir : Nat) : Nat := if t = noTenant then 0 else bitsOf (s.get (O.M_CFG t dir)) 18 16

/-! ## Selection (R248 to R252) -/

/-- A message needs a tag slot of a downstream port (R101, R503). DESIGN CHOICE (log 107): a slot is completed by a response, so a posted
CXL.io write and a CXL.cache request to a device, which bring none with a Tag of R101, take none. -/
def Msg.needsTag (m : Msg) : Bool :=
  match m.type with
  | .req => (match m.kind with | .specRd => false | .ioPosted => false | _ => true)
  | _ => false

/-- The lowest free tag slot of a port. -/
def State.freeTag (s : State) (p : Nat) : Option Nat :=
  let n := (s.slotsOf p).foldl (fun a k => if k = a then a + 1 else a) 0
  if n < 4096 then some n else none

/-- A leaf may be served (R251). -/
def State.eligible (s : State) (k : Nat) : Bool :=
  let l := s.leaf k
  let p := leafPort k
  match l.queue with
  | [] => false
  | m :: _ => l.fences.isEmpty && shapePass l.shape l.tokens && s.hasCredit p m &&
      (s.role p != roleDownstream || !m.needsTag || (s.freeTag p).isSome)

/-- One walk of R250 over a list: what it selects, and the deficits it changed. -/
def dwrrWalk (elig : Nat → Bool) (charge quantum deficit : Nat → Nat) (keep : Bool) (order : List Nat)
    (done : List (Nat × Nat)) : Option Nat × List (Nat × Nat) :=
  match order with
  | [] => (none, done)
  | k :: r =>
    if elig k then
      let v := if keep then deficit k else deficit k + quantum k
      if charge k ≤ v then (some k, done ++ [(k, v)]) else dwrrWalk elig charge quantum deficit false r (done ++ [(k, v)])
    else dwrrWalk elig charge quantum deficit false r done

/-- Further quanta that let an entry be served. -/
def quantaNeeded (quantum charge v : Nat) : Nat := (charge - v + quantum - 1) / max quantum 1

/-- DWRR over a list (R250): the selected entry and the deficits after the walk. -/
def dwrr (elig : Nat → Bool) (charge quantum deficit : Nat → Nat) (keep : Bool) (order : List Nat) :
    Option (Nat × List (Nat × Nat)) :=
  match dwrrWalk elig charge quantum deficit keep order [] with
  | (some k, ds) => some (k, ds)
  | (none, []) => none
  | (none, e :: ds) =>
    let all := e :: ds
    let need := fun (x : Nat × Nat) => quantaNeeded (quantum x.1) (charge x.1) x.2
    let n := all.foldl (fun a x => min a (need x)) (need e)
    match all.find? (fun x => need x == n) with
    | some x => some (x.1, all.map (fun y => (y.1, y.2 + n * quantum y.1)))
    | none => none

/-- Rotate a list so that an element stands first. -/
def rotateTo (order : List Nat) (k : Nat) : List Nat := order.dropWhile (· != k) ++ order.takeWhile (· != k)

/-- The charge of a leaf's head. -/
def State.headCharge (s : State) (k : Nat) : Nat := match s.headOf k with | some m => m.charge | none => 0

/-- DWRR over one pass of a class, or class 7's red pass: the leaf and the state with its turn taken (R250). -/
def State.pickPass (s : State) (ring colour : Nat) : Option (Nat × State) :=
  let r := s.ring ring
  match dwrr (fun k => s.eligible k && s.headColour k == colour) s.headCharge (fun k => s.leafWeight k * 64)
      (fun k => (s.leaf k).deficit) r.keep r.order with
  | none => none
  | some (k, ds) =>
    let s := forEach ds (fun d s => s.setLeaf d.1 (fun l => { l with deficit := d.2 })) s
    some (k, s.setRing ring { order := rotateTo r.order k, keep := true })

/-- pick_class of R248. -/
def State.pickClass (s : State) (p c : Nat) : Option (Nat × State) :=
  (s.pickPass (ringKey p c) 0).orElse (fun _ => (s.pickPass (ringKey p c) 1).orElse (fun _ =>
    if c = 7 then s.pickPass (redKey p) 2 else none))

/-- Members of class 7: its own leaves and every leaf with a red head (R248). -/
def State.class7Members (s : State) (p : Nat) : List Nat :=
  (s.busyLeaves p).filter (fun k => leafClass k == 7 || s.headColour k == 2)

/-- guard_due of R252. -/
def State.guardDue (s : State) (p : Nat) : Bool :=
  let g := s.get (O.SCAV_GUARD p)
  g != 0 && !(s.egress p).guardUsed &&
    (s.class7Members p).any (fun k => match s.headOf k with
      | some m => decide (m.since + 64 * g ≤ s.stamp (dieOfPort p))
      | none => false)

/-- wrr_class of R248: the class, with its turn taken, and its leaf. -/
def State.pickWrr (s : State) (p : Nat) : Option (Nat × State) :=
  let e := s.egress p
  let chargeOf := fun c => match s.pickClass p c with | some (k, _) => s.headCharge k | none => 0
  match dwrr (fun c => (s.pickClass p c).isSome) chargeOf (fun c => s.get (O.CLS_WEIGHT p c) * 64)
      (fun c => e.clsDeficit.getD c 0) e.wrr.keep e.wrr.order with
  | none => none
  | some (c, ds) =>
    let def' := (List.range 8).map (fun i => match ds.find? (fun d => d.1 == i) with
      | some d => if i = c then d.2 - chargeOf c else d.2
      | none => e.clsDeficit.getD i 0)
    match s.pickClass p c with
    | some (k, s) => some (k, s.setEgressOf p (fun e =>
        { e with clsDeficit := def', wrr := { order := rotateTo e.wrr.order c, keep := true } }))
    | none => none

/-- A port shaper holds the hierarchy (R248). -/
def State.portHeld (s : State) (p : Nat) : Bool := !shapePass (s.egress p).shape (s.egress p).tokens

/-- The leaf that R248 selects, with what the selection changed; the flag marks a message of the guard. -/
def State.pickLeaf (s : State) (p : Nat) : Option (Nat × Bool × State) :=
  let plain := fun (x : Option (Nat × State)) => x.map (fun y => (y.1, false, y.2))
  (plain (s.pickClass p 0)).orElse (fun _ => (plain (s.pickClass p 1)).orElse (fun _ =>
    (if s.guardDue p then (s.pickClass p 7).map (fun y => (y.1, true, y.2)) else none).orElse (fun _ =>
      (plain (s.pickWrr p)).orElse (fun _ => plain (s.pickClass p 7)))))

/-- A message of a home stands in a port's bypass behind an earlier one of the same home to the same host (R155). -/
def Msg.follows (m : Msg) (q : List Msg) : Bool :=
  decide (0 < m.home) && (q.takeWhile (· != m)).any (fun x => x.home == m.home && x.host == m.host)

/-- bypass_pick of R248: the first message of the next channel in rotation whose head has a credit (R239). -/
def State.pickBypassMsg (s : State) (p : Nat) : Option Msg :=
  let all := (s.egress p).bypass
  let q := all.filter (fun m => !m.follows all)
  let rows := (List.range 12).map (fun i => ((s.egress p).rotor + i) % 12)
  let heads := rows.filterMap (fun r => q.find? (fun m => m.loopRow == r))
  heads.find? (fun m => s.hasCredit p m)

/-- Charge and remove a message of the bypass (R239, R249). -/
def State.takeBypassMsg (s : State) (p : Nat) (m : Msg) : State :=
  let now := s.stamp (dieOfPort p)
  let s := s.setEgressOf p (fun e =>
    { e with bypass := e.bypass.erase m, rotor := (m.loopRow + 1) % 12, tokens := spendTokens e.shape m.charge e.tokens })
  let s := (s.mark (O.BM_SOJOURN p) (sojournFt m.since now)).mark (O.PM_SOJOURN p) (sojournFt m.since now)
  s.perfCount (dieOfPort p) evBypassSent p noTenant 1

/-- Charge and remove the head of a leaf (R249). -/
def State.takeLeafMsg (s : State) (k : Nat) (guard : Bool) : Option (Msg × State) :=
  let p := leafPort k
  match s.headOf k with
  | none => none
  | some m =>
    let now := s.stamp (dieOfPort p)
    let s := s.setLeaf k (fun l =>
      let rest := l.queue.drop 1
      { l with queue := rest, deficit := if rest.isEmpty then 0 else l.deficit - m.charge,
               tokens := spendTokens l.shape m.charge l.tokens })
    let s := s.setEgressOf p (fun e => { e with tokens := spendTokens e.shape m.charge e.tokens,
                                                guardUsed := e.guardUsed || guard })
    let s := if guard then s.count32 (O.GUARD_COUNT p) else s
    let s := if leafSlot k = commonSlot then s else s.count32 (O.LEAF_SENT p (leafClass k) (leafSlot k))
    let soj := sojournFt m.since now
    let s := ((s.mark (sojournObj k) soj).mark (O.CM_SOJOURN p (leafClass k)) soj).mark (O.PM_SOJOURN p) soj
    let s := (s.unfence k m.tenant).syncRings p
    let s := s.perfCount (dieOfPort p) (evSentGreen + m.colour) p m.tenant 1
    some (m, s.perfCount (dieOfPort p) evSojournSum p m.tenant (now - m.since))

/-- Select the next message of a port (R248). -/
def State.selectMsg (s : State) (p : Nat) : Option (Msg × State) :=
  match s.pickBypassMsg p with
  | some m => some (m, s.takeBypassMsg p m)
  | none =>
    if s.portHeld p then none
    else match s.pickLeaf p with
      | some (k, guard, s) => s.takeLeafMsg k guard
      | none => none

/-! ## Refill (R245, R254, R255) -/

/-- A transaction locked for an instant that has come is still to be applied (R79). -/
def State.applyDue (s : State) : Bool :=
  txInstances.any (fun x => s.get (O.TX_STATE x) == txLocked && decide (s.get (O.TX_INSTANT x) ≤ s.now 0))

/-- A refill tick on a die, after any apply of the same tick: every shaper and meter of it, at most once in a tick. A disabled leaf that still holds requests
keeps its last shaper (R242). -/
def fxShaperRefill (d : Nat) (s : State) : State :=
  if s.datapathOn && !s.applyDue && s.now d % 25 == 0 && s.qos.refilled.find d != some (s.elapsed d) then
    let s := { s with qos := { s.qos with refilled := s.qos.refilled.place d (s.elapsed d) } }
    let s := forEach (s.qos.leaf.keys.filter (fun k => dieOfPort (leafPort k) == d)) (fun k s =>
      s.setLeaf k (fun l =>
        let last := leafSlot k != commonSlot && !(s.get (O.LEAF_CFG (leafPort k) (leafClass k) (leafSlot k))).testBit 63 && !l.queue.isEmpty
        let now := l.pending && !last
        let w := if now then s.get (shapeObj k) else l.shape
        { l with shape := w, tokens := refillTokens now l.reset w l.tokens, pending := l.pending && last, reset := if now then 0 else l.reset })) s
    let s := forEach (s.qos.egress.keys.filter (fun p => dieOfPort p == d)) (fun p s =>
      s.setEgressOf p (fun e =>
        let w := if e.pending then s.get (O.PORT_SHAPE p) else e.shape
        { e with shape := w, tokens := refillTokens e.pending e.reset w e.tokens, pending := false, reset := 0,
                 guardUsed := false })) s
    forEach ((s.qos.bucket.keys.filter (fun k => k / 2048 == d)).map (fun k => k % 2048)) (fun m s => s.refillMeter d m) s
  else s

/-! ## Resets of scheduling state (R256, R275) -/

/-- A leaf's tokens at BURST and its deficit 0. -/
def State.freshLeaf (s : State) (k : Nat) : State :=
  s.setLeaf k (fun l => { l with deficit := 0, tokens := Int.ofNat (shapeBurst (s.get (shapeObj k))) })

/-- A port shaper's tokens at BURST. -/
def State.freshEgress (s : State) (p : Nat) : State :=
  s.setEgressOf p (fun e => { e with tokens := Int.ofNat (shapeBurst (s.get (O.PORT_SHAPE p))), guardUsed := false })

/-- A tenant's leaves: the enabled slots that name it. -/
def State.tenantLeaves (s : State) (t : Nat) : List Nat :=
  (s.regs.filter (fun e => decide (e.1 / 0x100 % 0x100 = 0x31 ∧ e.1 / 0x10000 < 0x400 ∧ e.1 % 4 = 0) &&
    e.2.toNat.testBit 63 && bitsOf e.2.toNat 41 32 == t)).map
    (fun e => 65 * (e.1 / 0x10000) + e.1 % 0x100 / 4)

/-- Fill both meters of a tenant on every die (R275): a change of their settings that still awaits its refill goes on
awaiting it (R247). -/
def State.fillMeters (s : State) (t : Nat) : State :=
  let full := fun (b : Bucket) => { b with missC := 0, missP := 0 }
  { s with qos := { s.qos with bucket := s.qos.bucket.map (fun e => if e.1 % 2048 / 2 = t then (e.1, full e.2) else e) } }

/-- Fill both meters of a restored tenant (R283): a bucket whose settings come into force at the next refill starts full under them too,
whatever bursts it had before. -/
def State.freshMeters (s : State) (t : Nat) : State :=
  let s := s.fillMeters t
  { s with qos := { s.qos with bucket := s.qos.bucket.map (fun e =>
      if e.1 % 2048 / 2 = t ∧ e.2.pending = true then (e.1, { e.2 with reset := 1 }) else e) } }

/-! ## High-water-mark snapshots (R258) -/

/-- The live marks listed: leaf marks and port marks. -/
def isLiveMark (o : Obj) : Bool :=
  o.cls == 0x33 && ((decide (0x100 ≤ o.inst ∧ o.inst < 0x500) && decide (o.mem < 0x80)) ||
    (decide (0x800 ≤ o.inst) && decide (o.mem < 0x24)))

/-- A mark is one of a die's ports. -/
def markOfDie (d : Nat) (o : Obj) : Bool := (if o.inst < 0x800 then (o.inst - 0x100) / 128 else (o.inst - 0x800) / 16) == d

/-- Clear every live mark. -/
def fxHwmClear (s : State) : State := s.clearWhere isLiveMark

/-- The snapshot of tick HWM_SNAP_AT. -/
def fxHwmSnapshot (s : State) : State :=
  let t := s.get O.HWM_SNAP_AT
  if t ≠ 0 ∧ t ≤ s.now 0 then
    let old := s.clearWhere (fun o => o.cls == 0x33 && decide (0x100 ≤ o.inst) && decide (0x80 ≤ o.mem))
    let live := (s.regs.filter (fun e => isLiveMark (Obj.ofKey e.1)))
    let s := forEach live (fun e s =>
      let o := Obj.ofKey e.1
      s.put ⟨o.cls, o.inst, o.mem + 0x80⟩ e.2.toNat) old
    let s := if s.get O.HWM_SNAP_CLEAR = 1 then fxHwmClear s else s
    let per := s.get O.HWM_SNAP_PERIOD
    ((s.put O.HWM_LAST_SNAP_AT t).wrap32 O.HWM_SNAP_COUNT).put O.HWM_SNAP_AT (if per = 0 then 0 else t + per)
  else s

end Sys2Proof.Machine
end

