-- ==== Sys2Proof/Machine/Links.lean ====
section
/-! DEFINITION. The reliable link layer and the Invar links: carrying messages between dies, flits, acknowledgement,
replay, the bypass channel's messages, link down, retrain and retirement (R314 to R341), and time sync (R61). -/
namespace Sys2Proof.Machine

/-! ## Objects of a link -/

/-- The channel identifier of a link end (R402): an Invar link, or an Ihlod port. -/
def chLink (l : Nat) : Nat := if l < 32 then channelId 3 l else channelId 8 (l - 32)

/-- The die a link end stands on. -/
def linkDie (l : Nat) : Nat := if l < 32 then l / 4 else 0

/-- Raise a link source. -/
def State.raiseLink (s : State) (l loc : Nat) : State := s.raise (linkDie l * 512 + loc) (chLink l) 0 0xFFFF 0

/-- A link event: its bit of LL_EVENTS and its source. -/
def State.llEvent (s : State) (l loc bit : Nat) : State := (s.setBit (O.LL_EVENTS l) bit true).raiseLink l loc

/-- A count of sub-ticks that no step of FT_NOW disturbs. -/
def State.mono (s : State) (d : Nat) : Nat := s.elapsed d * 64 + (s.time d).sub

/-- Nanoseconds in sub-ticks: 0.625 ns each. -/
def nsToSub (ns : Nat) : Nat := (ns * 8 + 4) / 5

/-- Raise the package to SAFE for want of a path (R21, R417). -/
def safeNoPath : Nat := 4

/-! ## Carrying messages (R20, R219) -/

/-- Attach a cell to what a message brings about: one that waits in an egress queue keeps the cell. -/
def Act.withCell (a : Act) (cell : Nat) : Act :=
  match a with
  | .enqueue p m => .enqueue p { m with cell := cell }
  | .bypass p m => .bypass p { m with cell := cell }
  | .home r => .home { r with cell := cell }
  | .deliver d o k v p y _ g st n t => .deliver d o k v p y cell g st n t
  | .answer t y v p _ g => .answer t y v p cell g
  | .atomicAt p m o t => .atomicAt p { m with cell := cell } o t
  | a => a

/-- A message's part keeps a cell on the die it is for. -/
def Act.holdsCell (a : Act) : Bool :=
  match a with
  | .enqueue _ _ => true
  | .bypass _ _ => true
  | .home _ => true
  | .deliver .. => true
  | .answer .. => true
  | .atomicAt .. => true
  | _ => false

/-- The local egress port that a part of a message goes to. -/
def Act.port (a : Act) : Option Nat :=
  match a with
  | .enqueue p _ => some p
  | .bypass p _ => some p
  | .atomicAt p _ _ _ => some p
  | _ => none

/-- A copy of a cell's message leaves the die (R219). A cell of ABSORB stays until its memory write is acknowledged (R215). -/
def State.leaveCell (s : State) (d cell : Nat) : State :=
  if !s.holdsCell d cell || (s.cellAt d (cellNo cell)).pool == poolAbsorb then s
  else
    let n := (s.cellAt d (cellNo cell)).copies
    if n ≤ 1 then s.freeCell d cell else s.setCell d (cellNo cell) (fun c => { c with copies := n - 1 })

/-- The link a part of a message takes from a die; a link that is handing over keeps its destinations till it has
resent what it held (R337). -/
def State.partLink (s : State) (d dst key : Nat) : Option Nat :=
  match (List.range 4).find? (fun k =>
      let r := s.link (linkNo d k)
      r.handing && (r.queue ++ (r.replay.map (fun f => f.msgs)).flatten).any (fun m => m.parts.any (fun p => p.1 == dst))) with
  | some k => some k
  | none => s.nextLink d dst key

/-- Put a message on its way from a die: the parts for the die itself come about, the others are grouped by the link
they take, one copy for each; the lowest-numbered port comes before the links (R219). -/
def State.spread (s : State) (d : Nat) (m : NetMsg) : State :=
  let here := m.parts.filter (fun p => p.1 == d)
  let away := m.parts.filter (fun p => p.1 != d)
  let routed := away.map (fun p => (s.partLink d p.1 p.2.1, p))
  let lost := routed.any (fun r => r.1.isNone)
  let ks := [0, 1, 2, 3].filter (fun k => routed.any (fun r => r.1 == some k))
  let copies := ks.length + (here.filter (fun p => p.2.2.holdsCell)).length
  let s := if !s.holdsCell d m.cell then s
           else if copies = 0 then s.leaveCell d m.cell
           else s.setCell d (cellNo m.cell) (fun c => { c with copies := copies })
  let s := match (here.filterMap (fun p => p.2.2.port)).min? with
    | some p => s.enqueueCell d m.cell (p + 1)
    | none => s
  let s := forEach here (fun p s => s.owe (p.2.2.withCell m.cell)) s
  let s := forEach ks (fun k s =>
    let mine := (routed.filter (fun r => r.1 == some k)).map (fun r => r.2)
    let l := linkNo d k
    (s.enqueueCell d m.cell (0x1000 + l)).setLink l (fun r => { r with queue := r.queue ++ [{ m with parts := mine }] })) s
  if lost then s.owe (.safe d safeNoPath 0xFFFF) else s

/-- The stream of the messages from a home die to a host, which arrive in the order in which the home sent them (R155). -/
def homeStream (d h : Nat) : Nat := 256 * d + h

/-- Carry one effect from a die to another (R20). -/
def State.carry (s : State) (src dst key vc dsz : Nat) (long : Bool) (origin cell : Nat) (a : Act) (order : List Nat := []) : State :=
  s.spread src { parts := [(dst, key, a)], vc := vc, long := long, dsz := dsz, origin := origin, cell := cell, order := order }

def vcWb : Nat := 0
def vcRsp : Nat := 1
def vcSnp : Nat := 2
def vcReq : Nat := 3
def vcMnt : Nat := 4

/-! ## Sending (R218, R320, R324) -/

/-- Slots a message takes in a flit (R320). -/
def State.slotsNeeded (s : State) (d : Nat) (m : NetMsg) : Nat :=
  let head := if m.long || decide (m.origin + 512 * 64 ≤ s.stamp d) then 2 else 1
  if m.marker.isSome then 2 else head + [0, 4, 16].getD m.dsz 0

/-- An earlier message of a queue is in a stream of this one, which must not pass it on whatever channel it goes (R155). -/
def NetMsg.follows (m : NetMsg) (q : List NetMsg) : Bool :=
  !m.order.isEmpty && (q.takeWhile (· != m)).any (fun x => x.order.any (fun k => m.order.contains k))

/-- A channel is ready: it holds a message and, but for a marker, a credit. A message that must not pass one of another channel stands
aside, and the channel goes on with the next (DESIGN CHOICE, log 114). -/
def State.vcHead (s : State) (l vc : Nat) : Option NetMsg :=
  match (s.link l).queue.find? (fun m => m.vc == vc && !m.follows (s.link l).queue) with
  | some m => if m.marker.isSome || decide (0 < (s.linkLoop l vc).available) then some m else none
  | none => none

/-- The channel that R218 chooses among some. -/
def State.chooseOf (s : State) (l : Nat) (allow : Nat → Bool) : Option Nat :=
  let r := s.link l
  let ready := fun vc => allow vc && (s.vcHead l vc).isSome
  if ready vcMnt && decide (16 ≤ r.mntWait) then some vcMnt
  else if ready vcRsp then some vcRsp
  else if ready vcWb then some vcWb
  else if ready vcSnp && ready vcReq then some (if r.alt then vcReq else vcSnp)
  else if ready vcSnp then some vcSnp
  else if ready vcReq then some vcReq
  else if ready vcMnt then some vcMnt
  else none

/-- The channel that sends next (R218): first the one whose message did not fit in the flit before (R320). -/
def State.chooseVc (s : State) (l : Nat) : Option Nat :=
  let r := s.link l
  if 0 < r.vcTurn ∧ (s.vcHead l (r.vcTurn - 1)).isSome = true then some (r.vcTurn - 1) else s.chooseOf l (fun _ => true)

/-- What a message brings about once its data are poisoned. -/
def Act.poisoned (a : Act) : Act :=
  match a with
  | .enqueue p m => .enqueue p { m with poison := true }
  | .bypass p m => .bypass p { m with poison := true }
  | .home q => .home { q with poison := true }
  | .deliver d o k v _ y c g st n t => .deliver d o k v true y c g st n t
  | .answer t y v _ c g => .answer t y v true c g
  | .atomicAt p m o t => .atomicAt p { m with poison := true } o t
  | a => a

/-- The 64-byte beats of a payload in its cell (R213). -/
def beatsOf (n : Nat) : Nat := min 4 ((n + 63) / 64)

/-- A beat of a cell is read: `err` is the error the read finds, 1 corrected, 2 uncorrectable. -/
def State.readBeat (s : State) (d cell err : Nat) : Bool × State :=
  if err = 1 then (false, s.count32 (O.CELL_CE_COUNT d))
  else if err = 2 then
    (true, ((s.count32 (O.CELL_UE_COUNT d)).setBit O.BUF_EVENTS 4 true).raise (d * 512 + F.CELL_UE) 0 (cellNo cell) 0xFFFF 0)
  else (false, s)

/-- The data of a line are read out of a cell for the one who waits for them (R213). The error that this read finds is no operand of the
command: it is a free value (DESIGN CHOICE, log 97). -/
def State.readIn (s : State) (d cell : Nat) : Bool × State :=
  if cell = 0 then (false, s) else s.fresh.2.readBeat d cell (s.fresh.1 % 4)

/-- A cell's data are read as its message leaves a die (R213), beat by beat: `err` holds each beat's error as a digit of base 4. True
where a beat is uncorrectable. -/
def State.readOut (s : State) (d cell beats err : Nat) : Bool × State :=
  if cell = 0 then (false, s)
  else (List.range beats).foldl (fun (a : Bool × State) i =>
    let x := a.2.readBeat d cell (err / 4 ^ i % 4)
    (a.1 || x.1, x.2)) (false, s)

/-- A message's cell is read for the flit that takes it. -/
def State.readMsg (s : State) (d : Nat) (m : NetMsg) (err : Nat) : NetMsg × State :=
  let r := s.readOut d m.cell ([0, 1, 4].getD m.dsz 0) err
  (if r.1 then { m with parts := m.parts.map (fun p => (p.1, p.2.1, p.2.2.poisoned)) } else m, r.2)

/-- Take a channel's head into the flit. -/
def State.takeVc (s : State) (l vc : Nat) (m : NetMsg) : State :=
  let s := s.setLink l (fun r =>
    { r with queue := r.queue.erase m, vcTurn := 0, alt := if vc = vcSnp then true else if vc = vcReq then false else r.alt,
             mntWait := if vc = vcMnt then 0 else if r.queue.any (fun x => x.vc == vcMnt) then r.mntWait + 1 else 0 })
  let s := if m.marker.isSome then s
           else s.setLinkLoop l vc (fun k => { k with available := k.available - 1, consumed := (k.consumed + 1) % 2 ^ 32 })
  s.leaveCell (l / 4) m.cell

/-- Fill what is left of a flit with the oldest ready messages of other channels that fit, the channels in the order of R218 (R320);
`shut` are the channels whose next message does not fit. `errs` are the errors that reading the messages' cells finds, in order. `fuel`
covers nine messages and the five channels. -/
def State.fillFlit (s : State) (l fuel room : Nat) (shut : List Nat) (errs : List Nat) (msgs : List NetMsg) : List NetMsg × State :=
  match fuel with
  | 0 => (msgs, s)
  | fuel + 1 =>
    match s.chooseOf l (fun vc => !shut.contains vc) with
    | none => (msgs, s)
    | some vc =>
      match s.vcHead l vc with
      | none => (msgs, s)
      | some m =>
        let n := s.slotsNeeded (l / 4) m
        if n ≤ room ∧ msgs.length < 9 then
          let x := s.readMsg (l / 4) m (errs.headD 0)
          (x.2.takeVc l vc m).fillFlit l fuel (room - n) shut errs.tail (msgs ++ [x.1])
        else s.fillFlit l fuel room (vc :: shut) errs msgs

/-- Pack a DATA flit: at most nine messages in 18 slots (R318, R320). -/
def State.packFlit (s : State) (l fuel room : Nat) (errs : List Nat) (msgs : List NetMsg) : List NetMsg × State :=
  match fuel with
  | 0 => (msgs, s)
  | fuel + 1 =>
    match s.chooseVc l with
    | none => (msgs, s)
    | some vc =>
      match s.vcHead l vc with
      | none => (msgs, s)
      | some m =>
        let n := s.slotsNeeded (l / 4) m
        if n ≤ room then
          let x := s.readMsg (l / 4) m (errs.headD 0)
          (x.2.takeVc l vc m).packFlit l fuel (room - n) errs.tail (msgs ++ [x.1])
        else
          let out := s.fillFlit l 14 room [vc] errs msgs
          (out.1, out.2.setLink l (fun r => { r with vcTurn := vc + 1 }))

/-- Start a replay from a number (R326 to R328). -/
def State.replayFrom (s : State) (l n : Nat) : State :=
  let i := (n + 1024 - s.get (O.UNACKED l)) % 1024
  let s := s.setLink l (fun r => { r with rpos := some i, restart := s.mono (linkDie l) })
  let s := (s.count32 (O.REPLAYS l)).addSat (O.WIN_REPLAYS l) 1 0xFFFF
  let s := s.perfCount (linkDie l) evD2dReplays (l % 4) noTenant (if l < 32 then 1 else 0)
  s.llEvent l F.REPLAY 0

/-- Number a new unit and keep a copy (R323, R324). -/
def State.sendNew (s : State) (l : Nat) (msgs : List NetMsg) (frame : Option Frame) : Flit × State :=
  let n := s.get (O.NEXT_TX l)
  let r := s.link l
  let f : Flit := { seq := some n, msgs := msgs, frame := frame, serial := r.serial }
  let idle := s.get (O.LL_OUTSTANDING l) = 0
  let s := (s.put (O.NEXT_TX l) ((n + 1) % 1024)).put (O.LL_OUTSTANDING l) (s.get (O.LL_OUTSTANDING l) + 1)
  (f, s.setLink l (fun r => { r with replay := r.replay ++ [f], restart := if idle then s.mono (linkDie l) else r.restart }))

/-- What a flit or frame time sends: an entry of a replay, a new unit, or none (IDLE). -/
def State.nextUnit (s : State) (l : Nat) (errs : List Nat) : Option Flit × State :=
  let r := s.link l
  match r.rpos with
  | some i =>
    match r.replay[i]? with
    | some f =>
      let s := s.setLink l (fun r => { r with rpos := if i + 1 < r.replay.length then some (i + 1) else none })
      (some { f with again := true, serial := r.serial }, s.count32 (O.REPLAYED l))
    | none => (none, s.setLink l (fun r => { r with rpos := none }))
  | none =>
    let full := decide (s.get (O.LL_REPLAY_DEPTH (llSet l)) ≤ s.get (O.LL_OUTSTANDING l))
    if full then
      (none, if r.stalled then s else (s.count32 (O.STALLS l)).setLink l (fun r => { r with stalled := true }))
    else
      let s := if r.stalled then s.setLink l (fun r => { r with stalled := false }) else s
      if l < 32 then
        let out := s.packFlit l 9 18 errs []
        if out.1.isEmpty then (none, out.2)
        else
          let n := out.2.sendNew l out.1 none
          (some n.1, n.2)
      else
        match r.frames with
        | f :: rest =>
          if 0 < (s.linkLoop l 0).available then
            let s := s.setLinkLoop l 0 (fun k => { k with available := k.available - 1, consumed := (k.consumed + 1) % 2 ^ 32 })
            let n := (s.setLink l (fun r => { r with frames := rest })).sendNew l [] (some f)
            (some n.1, n.2)
          else (none, s)
        | [] => (none, s)

/-- Fill the bypass slot of this flit time (R330); a TIME_SYNC takes its stamp now. -/
def State.fillBypass (s : State) (l : Nat) : State :=
  let r := s.link l
  match pickBypass r.bypass r.flits r.creditTurn with
  | none => s
  | some b =>
    let d := linkDie l
    let b' := { b with args := if b.type = bTimeSync then [s.now d, (s.time d).sub, b.args.headD 0] else b.args,
                       serial := r.serial }
    let s := if b.type = bCredit then s.setLink l (fun r => { r with creditTurn := b.args.headD 0 + 1 }) else s
    if l < 32 then s.setLink l (fun r => { r with bypass := r.bypass.erase b, bwire := r.bwire ++ [b'] })
    else (s.setLink l (fun r => { r with bypass := r.bypass.erase b })).send (.ihBypass (l - 32) b'.type b'.args)

/-- The channels whose CREDIT is due in this flit time: all of them every 64 flit times (R330). -/
def State.dueCredits (s : State) (l : Nat) : State :=
  let r := s.link l
  if r.flits % 64 = 0 ∧ l < 32 then
    forEach (List.range 5) (fun vc s => s.sendCredit l vc) s
  else if r.flits % 64 = 0 then s.pushBypass l bCredit 0 [0, (s.linkLoop l 0).returnedTx, 0, 0]
  else s

/-- A cell waits for a credit at a link end (R218). -/
def State.creditWait (s : State) (l : Nat) : Bool :=
  (List.range 5).any (fun vc =>
    (s.link l).queue.any (fun m => m.vc == vc && m.marker.isNone) && (s.linkLoop l vc).available == 0)

/-- One flit or frame time of a sender (R316, R320, R324). `errs` are the errors found in the cells of the messages that it packs. -/
def fxFlitSend (l : Nat) (errs : List Nat) (s : State) : State :=
  if s.linkIsUp l then
    let s := s.setLink l (fun r => { r with flits := r.flits + 1, serial := r.serial + 1,
                                            slots := r.slots + (if l < 32 then 1 else 0) })
    let d := linkDie l
    let s := if l < 32 ∧ s.creditWait l = true then s.perfCount d evD2dCreditWait (l % 4) noTenant 1 else s
    let out := (s.dueCredits l).nextUnit l errs
    let s := out.2
    let s := match out.1 with
      | some f =>
        let s := s.perfCount d evD2dData (l % 4) noTenant (if l < 32 then 1 else 0)
        let s := match f.frame with | some x => s.send (.frame (l - 32) (frameBytes x (f.seq.getD 0) f.again)) | none => s
        if l < 32 then s.setLink l (fun r => { r with wire := r.wire ++ [f] })
        else s.setLink l (fun r => { r with slots := r.slots + 1 })
      | none =>
        if l < 32 then
          (s.perfCount d evD2dIdle (l % 4) noTenant 1).setLink l
            (fun r => { r with wire := r.wire ++ [({ serial := r.serial } : Flit)] })
        else s
    s.fillBypass l
  else s

/-! ## Receiving (R325 to R328) -/

/-- The receiver sends an ACK (R326). -/
def State.ackNow (s : State) (l : Nat) : State :=
  let s := s.pushBypass l bAck 0 [(s.get (O.NEXT_RX l) + 1023) % 1024]
  s.setLink l (fun r => { r with accFirst := none, accCount := 0, ackAt := r.flits })

/-- The receiver sends a NAK, unless one is pending and young (R327). -/
def State.nakNow (s : State) (l : Nat) : State :=
  let r := s.link l
  if !r.nakPending || decide (r.nakAt + s.get (O.LL_NAK_RETRY (llSet l)) ≤ r.flits) then
    let s := (s.pushBypass l bNak 0 [s.get (O.NEXT_RX l)]).count32 (O.NAKS_SENT l)
    s.setLink l (fun r => { r with nakPending := true, nakAt := r.flits })
  else s

/-- A link recovers by timeout (R315). -/
def State.timeoutMode (s : State) (l : Nat) : Bool := s.get (O.LL_MODE l) == 1

/-- A unit fails its CRC. -/
def State.crcBad (s : State) (l : Nat) : State :=
  let s := s.count32 (O.CRC_ERRORS l)
  if s.timeoutMode l then s else s.nakNow l

/-- A unit is accepted: NEXT_RX advances and an ACK may fall due. -/
def State.acceptUnit (s : State) (l : Nat) : State :=
  let s := s.put (O.NEXT_RX l) ((s.get (O.NEXT_RX l) + 1) % 1024)
  let s := s.setLink l (fun r => { r with nakPending := false, accCount := r.accCount + 1,
                                          accFirst := r.accFirst.orElse (fun _ => some r.flits) })
  if s.get (O.LL_ACK_EVERY (llSet l)) ≤ (s.link l).accCount then s.ackNow l else s

/-- The messages of an accepted flit reach the die (R218, R219): each takes a LINK cell, a marker is noted. -/
def State.takeMsgs (s : State) (l : Nat) (msgs : List NetMsg) : State :=
  forEach msgs (fun m s =>
    let d := l / 4
    match m.marker with
    | some n =>
      let k := s.linkLoop l m.vc
      let s := s.setLink l (fun r => { r with markers := r.markers.filter (fun x => x.1 != m.vc) ++
        [(m.vc, n, k.received, s.chargedTo (linkLoopKey l m.vc))] })
      s.setLinkLoop l m.vc (fun k => { k with marker := k.returnedTx })
    | none =>
      let s := s.setLinkLoop l m.vc (fun k => { k with received := (k.received + 1) % 2 ^ 32 })
      let a := s.allocCell d poolLink (linkLoopKey l m.vc)
      a.2.spread d { m with cell := a.1 }) s

/-- A receiver classifies a unit whose CRC passes by SEQ − NEXT_RX (R325): 0 accepted, 1 ahead, 2 behind. -/
def State.classify (s : State) (l seq : Nat) : Nat :=
  let d := (seq + 1024 - s.get (O.NEXT_RX l)) % 1024
  if d = 0 then 0 else if d < 512 then 1 else 2

/-- A unit that is not the expected one (R327, R328). -/
def State.offUnit (s : State) (l cls : Nat) : State :=
  if cls = 2 then (s.count32 (O.DUPLICATES l)).ackNow l
  else if s.timeoutMode l then s else s.nakNow l

/-- The receiver of an Invar link takes the next flit its peer has sent; `ok` is the outcome of the CRC. A flit that
fails loses its bypass message too (R317). -/
def fxInvarFlit (l : Nat) (ok : Bool) (s : State) : State :=
  let far := s.peerLink l
  match (s.link far).wire with
  | [] => s
  | f :: rest =>
    let s := s.setLink far (fun r => { r with wire := rest })
    if !s.linkIsUp l then s
    else if !ok then
      (s.loseBypass far (fun b => b.serial == f.serial)).crcBad l
    else
      match f.seq with
      | none => s
      | some n =>
        let c := s.classify l n
        if c = 0 then (s.acceptUnit l).takeMsgs l f.msgs else s.offUnit l c

/-- Free acknowledged entries (R326). -/
def State.freeAcked (s : State) (l d : Nat) : State :=
  let s := (s.put (O.UNACKED l) ((s.get (O.UNACKED l) + d) % 1024)).put (O.LL_OUTSTANDING l) (s.get (O.LL_OUTSTANDING l) - d)
  s.setLink l (fun r => { r with replay := r.replay.drop d, restart := s.mono (linkDie l),
                                 rpos := r.rpos.bind (fun i => if d + (i - d) < r.replay.length then some (i - d) else none) })

/-- An ACK with a number reaches the sender (R326). -/
def State.onAck (s : State) (l seq : Nat) : State :=
  let d := (seq + 1 + 1024 - s.get (O.UNACKED l)) % 1024
  if 1 ≤ d ∧ d ≤ s.get (O.LL_OUTSTANDING l) then s.freeAcked l d else s

/-- Take a bypass message of a type that has reached a link end: of an Invar link what the peer sent, of an Ihlod port
what the operands carry. -/
def State.arrived (s : State) (l type : Nat) (args : List Nat) : Option (List Nat × State) :=
  if l < 32 then (s.takeBypass (s.peerLink l) type).map (fun x => (x.1.args, x.2))
  else if s.linkIsUp l then some (args, s) else none

/-- An ACK reaches a link end. -/
def fxAck (l seq : Nat) (s : State) : State :=
  match s.arrived l bAck [seq] with
  | some (a, s) => s.onAck l (a.headD 0)
  | none => s

/-- A receiver's ACK falls due by time (R326). -/
def fxAckDue (l : Nat) (s : State) : State :=
  let r := s.link l
  let first := match r.accFirst with | some f => decide (f + 32 ≤ r.flits) | none => false
  if s.linkIsUp l && (first || decide (r.ackAt + 256 ≤ r.flits)) then s.ackNow l else s

/-- A NAK reaches a link end (R327). -/
def fxNak (l seq : Nat) (s : State) : State :=
  match s.arrived l bNak [seq] with
  | some (a, s) =>
    let n := a.headD 0
    let d := (n + 1024 - s.get (O.UNACKED l)) % 1024
    if s.timeoutMode l = false ∧ d ≤ s.get (O.LL_OUTSTANDING l) then
      let s := if d = 0 then s else s.freeAcked l d
      if n = s.get (O.NEXT_TX l) then s else s.replayFrom l n
    else s
  | none => s

/-- The replay timer expires (R327, R328). -/
def fxReplayTimer (l : Nat) (s : State) : State :=
  if s.linkIsUp l && decide (0 < s.get (O.LL_OUTSTANDING l)) &&
      decide ((s.link l).restart + nsToSub (s.get (O.LL_TIMEOUT (llSet l))) ≤ s.mono (linkDie l)) then
    s.replayFrom l (s.get (O.UNACKED l))
  else s

/-- A CREDIT reaches a link end (R224, R330): the channel and its cumulative count; the first with a new MARK_SERIAL is the return
marker. -/
def fxCredit (l vc returned : Nat) (s : State) : State :=
  match s.arrived l bCredit [vc, returned, 0, 0] with
  | some (a, s) =>
    let vc := a.getD 0 0
    let n := a.getD 1 0
    let old := (s.linkLoop l vc).returnedRx
    let s := s.setLinkLoop l vc (fun k =>
      { k with returnedRx := n, available := k.limit - (k.consumed + 2 ^ 32 - n) % 2 ^ 32 })
    if a.getD 2 0 = (s.link l).markSeen.at vc then s
    else s.setLink l (fun r => { r with markSeen := r.markSeen.set vc (a.getD 2 0),
                                        returns := r.returns.filter (fun x => x.1 != vc) ++ [(vc, old, a.getD 3 0, n)] })
  | none => s

/-- A HEARTBEAT reaches a link end (R330). -/
def fxHeartbeat (l : Nat) (s : State) : State :=
  match s.arrived l bHeartbeat [] with
  | some (_, s) => s.setLink l (fun r => { r with hbSeenAt := s.elapsed (linkDie l) })
  | none => s

/-- LL_HB_PERIOD has passed: a HEARTBEAT is queued (R330). -/
def fxHeartbeatSend (l : Nat) (s : State) : State :=
  let d := linkDie l
  if s.linkIsUp l && decide ((s.link l).hbSentAt + s.get (O.LL_HB_PERIOD (llSet l)) ≤ s.elapsed d) then
    let s := s.setLink l (fun r => { r with hbSentAt := s.elapsed d, hbCount := (r.hbCount + 1) % 65536 })
    s.pushBypass l bHeartbeat 0 [d, s.mode, (s.link l).hbCount]
  else s

/-! ## Link down and retrain (R331 to R336) -/

/-- Retrains of DOWN_CAUSE ERROR_RATE, HEARTBEAT or FRAMING count (R334); those of the longest LL_RETRAIN_SPAN are kept (R339). -/
def State.countRetrain (s : State) (l cause : Nat) : State :=
  if cause ≤ 3 then
    let now := s.elapsed (l / 4)
    let span := s.get (O.LL_RETRAIN_SPAN 0)
    let old := (s.link l).counted
    let before := old.drop (old.length - (s.get (O.LL_RETRAIN_LIMIT 0) - 1))
    let perm := decide (s.get (O.LL_RETRAIN_LIMIT 0) - 1 ≤ old.length) &&
      (match before.head? with | some t => decide (now < t + span) | none => false)
    s.setLink l (fun r => { r with counted := old.filter (fun t => decide (now < t + 250000000)) ++ [now], permanent := perm })
  else s.setLink l (fun r => { r with permanent := false })

/-- SPAN_RETRAINS: the counted retrains of the current LL_RETRAIN_SPAN (R341). -/
def State.spanRetrains (s : State) (l : Nat) : Nat :=
  ((s.link l).counted.filter (fun t => decide (s.elapsed (l / 4) < t + s.get (O.LL_RETRAIN_SPAN 0)))).length

/-- An Invar link end goes down and starts to retrain (R332, R333). -/
def State.d2dDown (s : State) (l cause : Nat) : State :=
  if s.get (O.D2D_STATE l) = d2dUp then
    let d := l / 4
    let s := (s.put (O.D2D_STATE l) d2dRetraining).put (O.DOWN_CAUSE l) cause
    let s := ((s.count32 (O.RETRAINS l)).put (O.LAST_RETRAIN_AT l) (s.now d)).countRetrain l cause
    let s := s.setLink l (fun r => { r with downAt := s.elapsed d, attemptAt := s.elapsed d, fails := 0, tested := false,
                                            rpos := none })
    ((s.relayBypass l).auditSkip l).llEvent l F.LL_LINK_DOWN 2
  else s

/-- An Ihlod segment goes down: the ring's bypass closes (R345, R346). Port A's frames move to port B. -/
def State.ringState (s : State) : State :=
  let a := s.linkIsUp ihlodA
  let b := s.linkIsUp ihlodB
  s.put O.IH_RING_STATE (if a && b then 1 else if b then 2 else if a then 3 else 0)

def State.segDown (s : State) (x : Nat) : State :=
  if s.get (O.SEG_STATE x) = 1 then
    let l := 32 + x
    let s := (s.put (O.SEG_STATE x) 2).put (O.SEG_DOWN_AT x) (s.now 0)
    let s := (s.count32 (O.IH_SEG_DOWN_COUNT x)).ringState
    let s := s.llEvent l F.LL_LINK_DOWN 2
    let s := (s.setBit O.IH_EVENTS 0 true).raiseLink l F.IH_SEGMENT_DOWN
    let s := (s.setBit O.IH_EVENTS 1 true).raiseLink l F.IH_BYPASS
    let r := s.link l
    let kept := r.replay.filterMap (fun f => f.frame.map (fun g => { g with resent := true }))
    let s := s.setLink l (fun r => { r with replay := [], rpos := none })
    let s := { s with ihl := { s.ihl with segTry := s.ihl.segTry.set x (s.elapsed 0), segWait := s.ihl.segWait.set x 0 } }
    let s := s.send (.trainingSet x (trainingSet (s.get O.NODE_ADDR) x))
    if x = 0 then
      (s.setLink ihlodA (fun r => { r with frames := [] })).setLink ihlodB
        (fun b => { b with frames := b.frames ++ kept ++ r.frames })
    else s.setLink l (fun r => { r with frames := kept ++ r.frames })
  else s

/-- A link goes down for a cause. -/
def State.linkGoesDown (s : State) (l cause : Nat) : State :=
  if l < 32 then s.d2dDown l cause else s.segDown (l - 32)

/-- The settings of the running error window, length, limit and bad windows: those that stood as it began (R339). -/
def State.windowSet (s : State) (l : Nat) : Nat × Nat × Nat :=
  (s.link l).window.getD (s.get (O.LL_WINDOW (llSet l)), s.get (O.LL_REPLAY_LIMIT (llSet l)), s.get (O.LL_BAD_WINDOWS (llSet l)))

/-- A window begins with the settings that stand now (R339). -/
def State.openWindow (s : State) (l : Nat) : State :=
  let set := (s.get (O.LL_WINDOW (llSet l)), s.get (O.LL_REPLAY_LIMIT (llSet l)), s.get (O.LL_BAD_WINDOWS (llSet l)))
  (s.put (O.WIN_REPLAYS l) 0).setLink l (fun r => { r with slots := 0, windowFrom := s.elapsed (linkDie l), window := some set })

/-- The end of an error window (R331). An Ihlod window also ends after 25,000,000 ft. -/
def fxWindowEnd (l : Nat) (s : State) : State :=
  let r := s.link l
  let d := linkDie l
  let set := s.windowSet l
  if s.linkIsUp l && (decide (set.1 ≤ r.slots) ||
      (decide (32 ≤ l) && decide (r.windowFrom + 25000000 ≤ s.elapsed d))) then
    let w := s.get (O.WIN_REPLAYS l)
    let bad := decide (set.2.1 < w)
    let s := s.mark (O.WORST_WINDOW l) w
    let s := s.put (O.BAD_RUN l) (if bad then s.get (O.BAD_RUN l) + 1 else 0)
    let s := if bad then s.llEvent l F.BAD_WINDOW 1 else s
    let s := if set.2.2 ≤ s.get (O.BAD_RUN l) then s.linkGoesDown l 1 else s
    s.openWindow l
  else s

/-- No HEARTBEAT for LL_HB_MISS periods (R332). -/
def fxHeartbeatMiss (l : Nat) (s : State) : State :=
  let set := llSet l
  if s.linkIsUp l && decide ((s.link l).hbSeenAt + s.get (O.LL_HB_MISS set) * s.get (O.LL_HB_PERIOD set) ≤
      s.elapsed (linkDie l)) then
    (s.llEvent l F.HEARTBEAT_MISS 3).linkGoesDown l 2
  else s

/-- 64 flit times without framing or deskew (R332). -/
def fxFramingLost (l : Nat) (s : State) : State :=
  if s.linkIsUp l then (s.llEvent l F.FRAMING_LOST 4).linkGoesDown l 3 else s

/-- D2D_CTRL RETRAIN (R336): its status. -/
def State.retrainStatus (s : State) (l : Nat) : Nat :=
  let st := s.get (O.D2D_STATE l)
  if st = d2dRetired then stRetired else if st = d2dUp then stOk else stBusy

/-- D2D_CTRL RETRAIN. -/
def fxD2dRetrain (l : Nat) (s : State) : State := s.d2dDown l 4

/-- The lanes retired of a link end, as one set. -/
def State.laneSet (s : State) (o : Nat → Nat → Obj) (l : Nat) : Nat :=
  s.get (o l 0) + s.get (o l 1) * 2 ^ 64 + s.get (o l 2) * 2 ^ 128

/-- Hold a lane set. -/
def State.putLanes (s : State) (o : Nat → Nat → Obj) (l set : Nat) : State :=
  ((s.put (o l 0) (set % 2 ^ 64)).put (o l 1) (set / 2 ^ 64 % 2 ^ 64)).put (o l 2) (set / 2 ^ 128 % 256)

/-- Lanes of a set. -/
def lanesIn (set : Nat) : List Nat := (List.range 136).filter (fun i => set.testBit i)

/-- Raise a source of one physical lane. -/
def State.raiseD2dLane (s : State) (l lane loc bit : Nat) : State :=
  (s.setBit (O.D2D_EVENTS l) bit true).raise (l / 4 * 512 + loc) (channelId 2 (l * 256 + lane)) 0 0xFFFF 0

/-- Retire a physical lane of a link end (R334, R336, R412). -/
def State.retireD2dLane (s : State) (l lane : Nat) : State :=
  let set := s.laneSet O.LANE_RETIRED l
  if set.testBit lane then s
  else ((s.putLanes O.LANE_RETIRED l (set + 2 ^ lane)).owe (.retire (channelId 2 (l * 256 + lane)))).raiseD2dLane
    l lane F.D2D_LANE_RETIRED 2

/-- Spares carrying a logical lane (R335). -/
def sparesUsed (unusable : Nat) : Nat :=
  let usable := (List.range 136).filter (fun i => !unusable.testBit i)
  ((usable.take 128).filter (fun i => decide (128 ≤ i))).length

/-- An attempt to train fails (R333): it starts again, and the third failure of a retrain retires the link. -/
def State.failAttempt (s : State) (l : Nat) : State :=
  let s := (s.setBit (O.D2D_EVENTS l) 4 true).raiseLink l F.D2D_TRAIN_FAIL
  let n := (s.link l).fails + 1
  let s := s.setLink l (fun r => { r with fails := n, tested := false, attemptAt := s.elapsed (l / 4) })
  if 3 ≤ n then s.owe (.retire (channelId 3 l)) else s

/-- The Invar PLL of a link end is stable (R424, R425). -/
def State.linkClocked (s : State) (l : Nat) : Bool := (s.rst.pll.at (16 * (l / 4) + 8 + l % 4)).stable

/-- The lane test of a training ends with a set of failed lanes and the measured delay (R333 to R335). -/
def fxLaneTestEnd (l : Nat) (failed delay : Nat) (s : State) : State :=
  let st := s.get (O.D2D_STATE l)
  if (st = d2dTraining ∨ st = d2dRetraining) ∧ (s.link l).tested = false ∧ s.domainOn (l / 4) dDatapath = true ∧ s.linkClocked l = true then
    let r := s.link l
    let now := s.elapsed (l / 4)
    let span := s.get (O.LL_RETRAIN_SPAN 0)
    let retired := s.laneSet O.LANE_RETIRED l
    let bad := (lanesIn failed).filter (fun i => !retired.testBit i)
    let s := s.putLanes O.LANE_FAILED l (bad.foldl (fun a i => a + 2 ^ i) 0)
    let perm := r.permanent && st == d2dRetraining
    let s := forEach bad (fun i s =>
      let again := r.laneFails.any (fun f => f.1 == i && decide (now < f.2 + span))
      let s := s.setLink l (fun r => { r with laneFails := r.laneFails.filter (fun f => f.1 != i) ++ [(i, now)] })
      if perm || again then s.retireD2dLane l i else s.raiseD2dLane l i F.D2D_LANE_SPARED 1) s
    let s := s.setLink l (fun r => { r with permanent := false })
    let gone := s.laneSet O.LANE_RETIRED l
    let out := bad.foldl (fun a i => if a.testBit i then a else a + 2 ^ i) gone
    if perm && bad.isEmpty || decide (136 - (lanesIn gone).length < 128) then s.owe (.retire (channelId 3 l))
    else if 136 - (lanesIn out).length < 128 then s.failAttempt l
    else
      let s := (s.put (O.SPARES_USED l) (sparesUsed out)).put (O.LINK_DELAY l) (delay % 65536)
      s.setLink l (fun r => { r with tested := true })
  else s

/-- A training attempt has not reached step 4 by 2,500 ft (R333). -/
def fxRetrainAttemptTimeout (l : Nat) (s : State) : State :=
  let st := s.get (O.D2D_STATE l)
  let r := s.link l
  if (st = d2dTraining ∨ st = d2dRetraining) ∧ r.tested = false ∧ s.domainOn (l / 4) dDatapath = true ∧
      r.attemptAt + 2500 ≤ s.elapsed (l / 4) then s.failAttempt l
  else s

/-- A link end comes UP: fresh loops; after a retrain it replays from the peer's NEXT_RX, at first training every number
is 0 (R333). -/
def State.endUp (s : State) (l : Nat) : State :=
  let first := s.get (O.D2D_STATE l) = d2dTraining
  let s := (s.loseBypass l (fun _ => true)).freshLinkLoops l
  let now := s.elapsed (l / 4)
  let s := s.setLink l (fun r =>
    { r with wire := [], bwire := [], hbSeenAt := now, hbSentAt := now, restart := s.mono (l / 4),
             nakPending := false, accFirst := none, accCount := 0, ackAt := r.flits, stalled := false, rpos := none,
             replay := if first then [] else r.replay, fails := 0, markers := [], returns := [], markOut := [], markSeen := [] })
  let s := ((s.openWindow l).put (O.BAD_RUN l) 0).put (O.D2D_STATE l) d2dUp
  if first then
    (((s.put (O.NEXT_TX l) 0).put (O.UNACKED l) 0).put (O.NEXT_RX l) 0).put (O.LL_OUTSTANDING l) 0
  else
    let n := s.get (O.NEXT_RX (s.peerLink l))
    let d := (n + 1024 - s.get (O.UNACKED l)) % 1024
    let s := if 1 ≤ d ∧ d ≤ s.get (O.LL_OUTSTANDING l) then s.freeAcked l d else s
    let charged := (s.link l).replay.foldl (fun a f => a ++ f.msgs) []
    let s := forEach (charged.filter (fun m => m.marker.isNone)) (fun m s => s.setLinkLoop l m.vc
      (fun k => { k with available := k.available - 1, consumed := (k.consumed + 1) % 2 ^ 32 })) s
    let s := if s.get (O.LL_OUTSTANDING l) = 0 then s else s.replayFrom l (s.get (O.UNACKED l))
    (s.setBit (O.D2D_EVENTS l) 0 true).raiseLink l F.D2D_RETRAINED

/-- The LINK charge of a link end (R333). -/
def State.linkCharge (s : State) (l : Nat) : Nat :=
  (s.core.cell.filter (fun c => decide (0x10000 + 8 * l ≤ c.2.loop ∧ c.2.loop < 0x10008 + 8 * l))).length

/-- Step 5 of R333: both ends have tested and hold no LINK charge, and the link comes UP. -/
def fxD2dRetrained (l : Nat) (s : State) : State :=
  let far := s.peerLink l
  let ready := fun l => let st := s.get (O.D2D_STATE l)
    (st == d2dTraining || st == d2dRetraining) && (s.link l).tested && s.linkClocked l && s.linkCharge l == 0
  if ready l && ready far then (s.endUp l).endUp far else s

/-- A write of LANE_RETIRE is refused (R336); the maintenance exclusion is judged by the caller. -/
def State.laneRetireStatus (s : State) (l lane : Nat) (excluded : Bool) : Nat :=
  let gone := s.laneSet O.LANE_RETIRED l
  if 135 < lane then stBadValue
  else if s.mode ≠ mMaint ∨ excluded = true then stBusy
  else if gone.testBit lane ∨ s.get (O.D2D_STATE l) = d2dRetired then stRetired
  else if 136 - (lanesIn (gone ||| s.laneSet O.LANE_FAILED l ||| 2 ^ lane)).length < 128 then stLimit
  else stOk

/-- A served write of LANE_RETIRE (R336). -/
def fxLaneRetire (l lane : Nat) (s : State) : State := (s.retireD2dLane l lane).d2dDown l 5

/-- A link is retired at both its ends (R21, R337): each end hands its NEXT_RX over to its peer. Every die that is left without a
path to some other die decides for SAFE. -/
def State.linkRetired (s : State) (l : Nat) : State :=
  let s := forEach [l, s.peerLink l] (fun e s =>
    if s.get (O.D2D_STATE e) = d2dRetired then s
    else
      let s := s.auditSkip e
      let s := ((s.put (O.D2D_STATE e) d2dRetired).relayBypass e).loseBypass e (fun _ => true)
      let s := s.setLink e (fun r =>
        { r with wire := [], handing := !(r.replay.isEmpty && r.queue.isEmpty), rpos := none })
      let s := (s.setBit (O.D2D_EVENTS e) 3 true).raiseLink e F.D2D_LINK_RETIRED
      let far := s.peerLink e
      s.sendBypass (e / 4) (far / 4) bHandover [e / 4, e % 4, s.get (O.NEXT_RX e)]) s
  forEach ((List.range s.dies).filter s.severed) (fun d s => s.owe (.safe d safeNoPath 0xFFFF)) s

/-- A HANDOVER reaches a link end (R337): at another die it is relayed; at its peer the replay buffer from the number
goes over the new route in order, then the cells that waited. -/
def fxHandover (l : Nat) (s : State) : State :=
  match s.takeBypass (s.peerLink l) bHandover with
  | none => s
  | some (b, s) =>
    let d := l / 4
    if b.dst ≠ d then s.sendBypass d b.dst bHandover b.args
    else
      let e := s.peerLink (linkNo (b.args.getD 0 0) (b.args.getD 1 0))
      let r := s.link e
      let from_ := (b.args.getD 2 0 + 1024 - s.get (O.UNACKED e)) % 1024
      let msgs := ((r.replay.drop from_).map (fun f => f.msgs)).flatten ++ r.queue
      let s := s.setLink e (fun r => { r with replay := [], queue := [], handing := false })
      let s := (s.put (O.UNACKED e) (s.get (O.NEXT_TX e))).put (O.LL_OUTSTANDING e) 0
      forEach (msgs.filter (fun m => m.marker.isNone)) (fun m s =>
        s.spread d (if r.queue.contains m then m else { m with cell := 0 })) s

/-! ## Time sync (R61, R330) -/

/-- A die that die 0 reaches by one link, and the dies it relays a sync message to: those that R20 sends through it. -/
def State.syncNeighbours (s : State) : List Nat :=
  (List.range s.dies).filter (fun d => d != 0 && !(s.linksTo s.linkIsUp 0 d).isEmpty)

/-- The neighbour through which die 0 reaches a die that is not one. -/
def State.syncVia (s : State) (d : Nat) : Option Nat :=
  (s.route s.linkIsUp 0 d 0).map (fun k => peerDie s.variant 0 k)

/-- Die 0 sends its sync message, at a tick that is a multiple of 25. -/
def fxTimeSyncSend (s : State) : State :=
  if s.now 0 % 25 = 0 then forEach s.syncNeighbours (fun d s => s.sendBypass 0 d bTimeSync [0]) s else s

/-- A sync message reaches a die (R61): one for a die beyond is passed on with one hop more (R330); otherwise the skew is measured, the copy set to the stamp plus LINK_DELAY, and the
message relayed. -/
def fxTimeSync (l : Nat) (s : State) : State :=
  match s.takeBypass (s.peerLink l) bTimeSync with
  | none => s
  | some (b, s) =>
    let d := l / 4
    if d = 0 then s
    else if b.dst ≠ d then s.sendBypass d b.dst bTimeSync [(b.args.getD 2 0 + 1) % 4]
    else
      let t := s.time d
      let stamp := b.args.getD 0 0 * 64 + b.args.getD 1 0 + s.get (O.LINK_DELAY l)
      let skew : Int := Int.ofNat (t.now * 64 + t.sub) - Int.ofNat stamp
      let s :=
        if t.loaded then
          let s := s.put (O.DIE_SKEW d) (ofS32 skew)
          let s := s.mark (O.DIE_SKEW_MAX d) (min skew.natAbs 255)
          if 4 < skew.natAbs then s.flagDie d
          else if skew.natAbs ≤ 2 then s.setTime d (fun t => { t with flagged := false })
          else s
        else s
      let s := s.setTime d (fun t => { t with now := stamp / 64 % 2 ^ 64, sub := stamp % 64, loaded := true,
                                              lastSync := s.elapsed d })
      forEach ((List.range s.dies).filter (fun e => e != 0 && !(s.syncNeighbours.contains e) && s.syncVia e == some d))
        (fun e s => s.sendBypass d e bTimeSync [(b.args.getD 2 0 + 1) % 4]) s

end Sys2Proof.Machine
end

