-- ==== Sys2Proof/Machine/Maps.lean ====
section
/-! DEFINITION. Decoders, the Extent and Granule Maps, shared regions and homes: how an address is translated
(R111, R117 to R127, R134, R146, R152, R162). -/
namespace Sys2Proof.Machine

/-! ## Bindings (R111) -/

def bindKind (w : Nat) : Nat := bitsOf w 31 30
def bindTenant (w : Nat) : Nat := bitsOf w 25 16
def bindLd (w : Nat) : Nat := bitsOf w 11 8
def bindPort (w : Nat) : Nat := bitsOf w 6 0
def bindDevice : Nat := 1
def bindPool : Nat := 2

/-- The vPPB words listed: host, vPPB and word. -/
def State.bindings (s : State) : List (Nat × Nat × Nat) :=
  (s.regs.filter (fun e => decide (e.1 / 0x100 % 0x100 = 0x20 ∧ 0x10 ≤ e.1 % 0x100 ∧ e.1 % 0x100 < 0x20))).map
    (fun e => (e.1 / 0x10000, e.1 % 0x100 - 0x10, e.2.toNat))

/-- The vPPB of a host that holds the POOL binding. -/
def State.poolVppb (s : State) (h : Nat) : Option Nat :=
  (s.bindings.find? (fun b => b.1 == h && bindKind b.2.2 == bindPool)).map (fun b => b.2.1)

/-! ## Decoders (R118, R119) -/

/-- A decoder's settings. -/
structure Dec where
  enable : Bool := false
  ctrl : Nat := 0
  base : Nat := 0
  size : Nat := 0
  fbase : Nat := 0
  tenant : Nat := 0xFFFF
  deriving DecidableEq, Repr, Inhabited

/-- Decoder `n`, 16 × host + decoder. -/
def State.decoder (s : State) (n : Nat) : Dec :=
  { enable := s.get (O.DEC_ENABLE n) == 1, ctrl := s.get (O.DEC_CTRL n), base := s.get (O.DEC_HPA_BASE n),
    size := s.get (O.DEC_HPA_SIZE n), fbase := s.get (O.DEC_FABRIC_BASE n), tenant := s.get (O.DEC_TENANT n) }

/-- The enabled decoders, all hosts. -/
def State.enabledDecs (s : State) : List Nat :=
  (s.regs.filter (fun e => decide (e.1 % 0x10000 = 0x2100) && e.2.toNat == 1)).map (fun e => e.1 / 0x10000)

def Dec.aliased (d : Dec) : Bool := d.ctrl.testBit 31
def Dec.isVppb (d : Dec) : Bool := d.ctrl.testBit 28
def Dec.vppb (d : Dec) : Nat := bitsOf d.ctrl 27 24
def Dec.hiw (d : Dec) : Nat := bitsOf d.ctrl 23 20
def Dec.hig (d : Dec) : Nat := bitsOf d.ctrl 19 16
def Dec.hpos (d : Dec) : Nat := bitsOf d.ctrl 11 8
def Dec.fw (d : Dec) : Nat := 2 ^ bitsOf d.ctrl 5 4
def Dec.fg (d : Dec) : Nat := 256 * 2 ^ bitsOf d.ctrl 3 0
def Dec.hg (d : Dec) : Nat := 256 * 2 ^ d.hig

/-- Host interleave ways (R118). -/
def hostWays (code : Nat) : Nat :=
  match code with
  | 0 => 1 | 1 => 2 | 2 => 4 | 3 => 8 | 4 => 16 | 8 => 3 | 9 => 6 | 10 => 12 | _ => 0

def Dec.hw (d : Dec) : Nat := hostWays d.hiw

/-- q of R120: the fabric bytes a decoder covers. -/
def Dec.q (d : Dec) : Nat := (if d.aliased then d.size / 8 else d.size) / max d.hw 1

/-- A request hits a decoder (R119). -/
def Dec.hit (d : Dec) (hpa : Nat) : Bool := d.enable && decide (d.base ≤ hpa ∧ hpa < d.base + d.size)

/-- The position check of R119. -/
def Dec.position (d : Dec) (off : Nat) : Bool := decide (d.hw ≤ 1) || off / d.hg % d.hw == d.hpos

/-- The fabric address and the alias of an HPA that hits a FABRIC-kind decoder; none when misdirected (R119). -/
def Dec.translate (d : Dec) (hpa : Nat) : Option (Nat × Nat) :=
  let off := hpa - d.base
  let size := if d.aliased then d.size / 8 else d.size
  let al := if d.aliased then off / size else 0
  let off := if d.aliased then off % size else off
  if !d.position off then none
  else
    let off := if 1 < d.hw then off / (d.hg * d.hw) * d.hg + off % d.hg else off
    let size := if 1 < d.hw then size / d.hw else size
    let off := if 1 < d.fw then off / d.fg % d.fw * (size / d.fw) + off / (d.fg * d.fw) * d.fg + off % d.fg else off
    some (d.fbase + off, al)

/-- The HPA at which a decoder's alias 0 window presents a fabric address (R162). -/
def Dec.invert (d : Dec) (fa : Nat) : Nat :=
  let off := fa - d.fbase
  let off :=
    if 1 < d.fw then
      let way := off / (d.q / d.fw)
      let w := off % (d.q / d.fw)
      (w / d.fg * d.fw + way) * d.fg + w % d.fg
    else off
  let off := if 1 < d.hw then (off / d.hg * d.hw + d.hpos) * d.hg + off % d.hg else off
  d.base + off

/-- A FABRIC-kind decoder covers a fabric address. -/
def Dec.covers (d : Dec) (fa : Nat) : Bool := d.enable && !d.isVppb && decide (d.fbase ≤ fa ∧ fa < d.fbase + d.q)

/-- The enabled FABRIC-kind decoder of a host that covers a fabric address (R162). -/
def State.decCovering (s : State) (h fa : Nat) : Option Nat :=
  s.enabledDecs.find? (fun n => n / 16 == h && (s.decoder n).covers fa)

/-- The decoder of a host that an HPA hits. -/
def State.decHit (s : State) (h hpa : Nat) : Option Nat :=
  s.enabledDecs.find? (fun n => n / 16 == h && (s.decoder n).hit hpa)

/-- Trackers through a decoder, and through a vPPB, that are not freed (R114, R122). -/
def State.decOutstanding (s : State) (n : Nat) : Nat :=
  (s.rq.tracker.filter (fun t => t.2.busy && t.2.dec == some n)).length
def State.vppbOutstanding (s : State) (h v : Nat) : Nat :=
  (s.rq.tracker.filter (fun t => t.2.busy && t.2.host == h && t.2.vppb == some v)).length

/-! ## Tenants as requests meet them (R266, R272) -/

/-- A tenant is enabled. -/
def State.tenantOn (s : State) (t : Nat) : Bool := decide (t < 1024) && (s.get (O.T_CFG t)).testBit 63

/-- Requests of a tenant are refused: T_ADMIT reads 0 (R272). -/
def State.tenantRefuses (s : State) (t : Nat) : Bool := decide (t < 1024) && s.get (O.T_ADMIT t) == 0

/-- A request is refused under R272: it is counted and TENANT_REFUSED is raised on the ingress die. -/
def State.countTenantRefusal (s : State) (d t : Nat) : State :=
  ((s.count32 (O.T_REFUSED t)).setBit O.T_EVENTS 0 true).raiseDie d F.TENANT_REFUSED

/-! ## The maps (R123 to R125) -/

def extKind (w : Nat) : Nat := bitsOf w 31 30
def extRegion (w : Nat) : Nat := bitsOf w 29 28
def extPort (w : Nat) : Nat := bitsOf w 26 20
def extLd (w : Nat) : Nat := bitsOf w 19 16
def extTarget (w : Nat) : Nat := bitsOf w 15 0
def grnKind (w : Nat) : Nat := bitsOf w 47 46
def grnPort (w : Nat) : Nat := bitsOf w 45 39
def grnLd (w : Nat) : Nat := bitsOf w 38 35
def grnDpa (w : Nat) : Nat := bitsOf w 34 10
def grnSlot (w : Nat) : Nat := bitsOf w 5 0
def regionPrivate : Nat := 0
def regionSharedTx : Nat := 2

/-- The granule index a fabric address reads in a SPLIT extent. -/
def granuleOf (ext fa : Nat) : Nat := extTarget ext % 512 * 512 + bitsOf fa 29 21

/-- Migration slot states (R145). -/
def migIdle : Nat := 0
def migMirror : Nat := 1
def migCopying : Nat := 2
def migCopied : Nat := 3
def migAborted : Nat := 4
def migDraining : Nat := 5

/-- A slot mirrors writes: it is MIRROR, COPYING or COPIED (R140). -/
def State.migMirrors (s : State) (m : Nat) : Bool :=
  let st := s.get (O.MIG_STATE m)
  decide (migMirror ≤ st ∧ st ≤ migCopied)

/-- Translate a fabric address (R123). -/
def State.lookup (s : State) (fa : Nat) : Option Target :=
  if 2 ^ 47 ≤ fa then none
  else
    let e := s.get (O.EXT_ENTRY (fa / 2 ^ 30))
    match extKind e with
    | 1 => some { port := extPort e, ld := extLd e, dpa := extTarget e * 2 ^ 30 + fa % 2 ^ 30, region := extRegion e }
    | 2 =>
      let g := s.get (O.GRN_ENTRY (granuleOf e fa))
      if grnKind g = 0 then none
      else some { port := grnPort g, ld := grnLd g, dpa := grnDpa g * 2 ^ 21 + fa % 2 ^ 21, region := extRegion e,
                  mig := if grnKind g = 2 then some (grnSlot g) else none, mirror := grnKind g == 2 && s.migMirrors (grnSlot g) }
    | _ => none

/-- The destination that a slot's MIG_DEST names: port, LD and DPA of the granule's first byte (R139). -/
def State.migDest (s : State) (m : Nat) : Nat × Nat × Nat :=
  let w := s.get (O.MIG_DEST m)
  (grnPort w, grnLd w, grnDpa w * 2 ^ 21)

/-- A write translated to a target goes to its slot's destination too (R140): the slot mirrored then and has not aborted since, which
MIG_STATUS shows through the flip and the drain. -/
def State.mirrors (s : State) (t : Target) : Bool :=
  t.mirror && (match t.mig with | some m => s.get (O.MIG_STATUS m) == stOk | none => false)

/-- A migration slot's record, and its change. -/
def State.migSlot (s : State) (m : Nat) : MigSlot := s.map.mig.at m
def State.setMig (s : State) (m : Nat) (f : MigSlot → MigSlot) : State :=
  { s with map := { s.map with mig := s.map.mig.upd m f } }

/-- A slot in MIRROR, COPYING or COPIED aborts (R143): MIG_ABORTED is raised on the destination die. -/
def State.migAbort (s : State) (m status : Nat) : State :=
  if s.migMirrors m then
    let d := dieOfPort (s.migDest m).1
    ((s.put (O.MIG_STATE m) migAborted).put (O.MIG_STATUS m) status).raiseDie d F.MIG_ABORTED
  else s

/-- Abort the slots that satisfy a test. -/
def State.migAbortWhere (s : State) (p : State → Nat → Bool) (status : Nat) : State :=
  forEach (List.range 32) (fun m s => if p s m then s.migAbort m status else s) s

/-- A slot's source or destination is a port. -/
def State.migTouches (s : State) (port m : Nat) : Bool :=
  (s.migDest m).1 == port || grnPort (s.migSlot m).source == port

/-! ## Shared regions and homes (R146, R152) -/

/-- The enabled regions. -/
def State.regions (s : State) : List Nat :=
  (s.regs.filter (fun e => decide (e.1 % 0x10000 = 0x2A00) && e.2.toNat == 1)).map (fun e => e.1 / 0x10000)

/-- A region covers a fabric address. -/
def State.inRegion (s : State) (r fa : Nat) : Bool :=
  decide (s.get (O.SR_BASE r) ≤ fa ∧ fa < s.get (O.SR_BASE r) + s.get (O.SR_SIZE r))

/-- The region a fabric address lies in (R146). -/
def State.regionOf (s : State) (fa : Nat) : Option Nat := s.regions.find? (fun r => s.inRegion r fa)

/-- The home die of a fabric address (R152). -/
def State.homeDie (s : State) (fa : Nat) : Nat :=
  let w := if s.dies = 2 then 1 else if s.dies = 4 then 2 else 3
  let sec := fa / 256
  ((List.range 39).filter (fun i => i % w == 0)).foldl (fun a i => Nat.xor a (sec / 2 ^ i % s.dies)) 0

/-- The tag of a sector, its set, and the set's bank (R152). -/
def tagOf (fa : Nat) : Nat := fa / 256 / 2 ^ 18 % 2 ^ 21
def setOf (fa : Nat) : Nat :=
  let sec := fa / 256
  let tag := tagOf fa
  Nat.xor (Nat.xor sec tag) (tag / 2 ^ 18 * 2 ^ 15) % 2 ^ 18
def bankOf (fa : Nat) : Nat := setOf fa % 16

/-- The fabric address of a sector from its set and tag: the inverse of R152. -/
def sectorAddr (set tag : Nat) : Nat :=
  (tag * 2 ^ 18 + Nat.xor (Nat.xor set tag) (tag / 2 ^ 18 * 2 ^ 15) % 2 ^ 18) * 256

/-- The line address of a fabric address. -/
def lineOf (fa : Nat) : Nat := fa / 64 * 64

/-- The route key of a request with a fabric address (R20). -/
def faKey (fa : Nat) : Nat := bitsOf fa 46 8

/-- The route key of a request toward a device that carries no fabric address (R20). -/
def devKey (port ld addr : Nat) : Nat := (port * 16 + ld) * 2 ^ 56 + addr / 256

/-- The route key of a message toward a host (R20). -/
def hostKey (h : Nat) : Nat := h

/-- The bank that serves a bank's sets on a die (R180). -/
def State.foldOf (s : State) (d bank : Nat) : Nat := s.get (O.FOLD_MAP d) / 16 ^ bank % 16

/-! ## Epochs (R136) -/

/-- The epoch of the request that an effect carries, where its translation has run. -/
def Act.epoch : Act → Option Nat
  | .enqueue _ m => m.epoch
  | .bypass _ m => m.epoch
  | .home q => q.epoch
  | .toHome _ q _ _ => q.epoch
  | .memory _ _ _ _ m => m.epoch
  | .atomicOn _ m _ _ => m.epoch
  | .atomicAt _ m _ _ => m.epoch
  | _ => none

/-- The epochs of the requests outstanding on every die: those of trackers, of messages that wait, travel or are at a device, of the
homes' requests and transactions, of private atomics and of the mover's accesses. -/
def State.epochs (s : State) : List Nat :=
  let msgs := s.qos.leaf.flatMap (fun l => l.2.queue) ++ s.qos.egress.flatMap (fun e => e.2.bypass) ++
    (s.prt.tag.filter (fun t => t.2.state == 1)).map (fun t => t.2.msg) ++ s.dir.atomics.map (fun a => a.msg) ++ s.dir.held.map (fun h => h.2)
  let nets := s.lnk.link.flatMap (fun l => l.2.queue ++ l.2.replay.flatMap (fun f => f.msgs) ++ l.2.wire.flatMap (fun f => f.msgs))
  let acts := s.acts ++ s.map.hold.map (fun h => h.act) ++ s.rq.held.map (fun h => h.2) ++ nets.flatMap (fun m => m.parts.map (fun p => p.2.2))
  let reqs := s.dir.queue ++ s.dir.stalled.map (fun q => q.req) ++ s.dir.txn.map (fun t => t.req) ++
    (s.dir.wb.filter (fun w => w.acked == 3)).map (fun w => w.req)
  (s.rq.tracker.filter (fun t => t.2.busy)).map (fun t => t.2.epoch) ++ (msgs.filter (fun m => m.type == .req)).filterMap (fun m => m.epoch) ++
    acts.filterMap Act.epoch ++ reqs.filterMap (fun q => q.epoch) ++ s.mv.req.filterMap (fun r => r.epoch)

/-- The oldest epoch any request carries, comparing modulo 2^32; BIND_EPOCH when none is outstanding. -/
def State.drainedEpoch (s : State) : Nat :=
  let now := s.get O.BIND_EPOCH
  (now + 2 ^ 32 - (s.epochs.map (fun e => (now + 2 ^ 32 - e) % 2 ^ 32)).foldl max 0) % 2 ^ 32

end Sys2Proof.Machine
end

