-- ==== Sys2Proof/Machine/Requests.lean ====
section
/-! DEFINITION. The path of a host's request: trackers, metering, translation, refusals, memory messages, atomics on
their way, and the egress of a port (R22 to R27, R101 to R104, R119, R123, R127, R135 to R137, R140, R149, R171, R173,
R245, R248). -/
namespace Sys2Proof.Machine

/-! ## Trackers (R26, R27) -/

/-- A tracker by its key, 8,192 × die + number, and its change. -/
def State.tracker (s : State) (k : Nat) : Tracker := s.rq.tracker.at k
def State.setTracker (s : State) (k : Nat) (f : Tracker → Tracker) : State :=
  { s with rq := { s.rq with tracker := s.rq.tracker.upd k f } }

def HostReq.isRead (r : HostReq) : Bool := r.op == .memRd || r.op == .memRdData
def HostReq.isWrite (r : HostReq) : Bool := r.op == .memWr || r.op == .memWrPtl

/-- The kind of a request as its completion depends on it. -/
def HostReq.kind (r : HostReq) : ReqKind :=
  if r.isRead then .read else if r.isWrite then .write else if r.op = .memSpecRd then .specRd else .other

/-- The CXL.mem opcode of a request. -/
def memCode : MemOp → Nat
  | .memInv => 0 | .memRd => 1 | .memRdData => 2 | .memSpecRd => 8 | .memInvNt => 9 | .memClnEvct => 0xA
  | .memWr => 1 | .memWrPtl => 2 | .unknown c => c

/-- MetaValues (R160). -/
def metaI : Nat := 0
def metaA : Nat := 1
def metaS : Nat := 2

/-- The port has delivered to its host a BISnp for a line that the host has not answered. -/
def State.snoopOut (s : State) (p hpa : Nat) : Bool :=
  s.rq.delivered.any (fun b => b.port == p && lineOf b.hpa == lineOf hpa)

/-- The class of R27: an eviction or writeback, judged by the message alone. -/
def State.evictClass (s : State) (r : HostReq) : Bool :=
  match r.op with
  | .memClnEvct => true
  | .memInv => r.meta_ == metaI
  | .memWr => r.meta_ == metaS || r.meta_ == metaA || (r.meta_ == metaI && s.snoopOut r.port r.hpa)
  | _ => false

/-- The message of a host's request. -/
def HostReq.toMsg (r : HostReq) (h : Nat) : Msg :=
  { type := .req, kind := r.kind, opcode := (memCode r.op), channel := if r.isWrite then 1 else 0, host := h, hpa := r.hpa,
    tag := r.tag, data := r.data, mask := r.mask, poison := r.poison, origin := r.origin, cell := r.cell,
    len := if r.isWrite then 64 else 0 }

/-- Free a tracker (R26): a read that MEM_RD counted adds its latency, and what waited for the tracker goes on. -/
def State.releaseTracker (s : State) (k : Nat) (sent : Bool) : State :=
  let t := s.tracker k
  if !t.busy then s
  else
    let p := t.req.port
    let s := if sent && t.req.isRead then s.perfCount (dieOfPort p) evRdLatency p t.tenant (s.stamp (dieOfPort p) - t.req.origin) else s
    let s := s.setTracker k (fun _ => {})
    let s := if s.dir.dropWait.contains t.host then s.owe (.hostGone t.host) else s
    s.owe .admitOne

/-- The opcode of a response of CXL.mem (R229): Cmp, Cmp-S and Cmp-E, BI-ConflictAck, and MemData. PRESUMED (log 91). -/
def MsgType.code : MsgType → Nat
  | .cmp g => g
  | .conflictAck => 4
  | .bisnp k => k
  | .birsp a => a
  | _ => 0

/-- A completion for a tracked request joins its host port's bypass; a discarded one frees the tracker (R104). -/
def State.sendAnswer (s : State) (k : Nat) (type : MsgType) (data : Nat) (poison : Bool) (cell : Nat) (origin : Option Nat := none) : State :=
  let t := s.tracker k
  let p := t.req.port
  if !t.busy || t.answered then s.leaveCell (k / 8192) cell
  else if t.discard || !s.linkAlive p then (s.leaveCell (k / 8192) cell).releaseTracker k false
  else
    let isData := match type with | .data _ => true | _ => false
    let s := s.setTracker k (fun t => { t with answered := true })
    s.enqueueBypass p { type := type, kind := t.req.kind, channel := if isData then 4 else 3, owner := .tracker (k / 8192) (k % 8192),
                        host := t.host, tenant := t.tenant, fa := t.fa, hpa := t.req.hpa, tag := t.req.tag, data := data, poison := poison,
                        origin := origin.getD (s.stamp (k / 8192)), opcode := type.code, cell := cell, len := if isData then 64 else 0,
                        home := if t.shared then s.homeDie t.fa + 1 else 0 }

/-- The completion of R135 and R149 for a request's kind: data with poison for a read, Cmp otherwise. -/
def State.refuseTracked (s : State) (k : Nat) : State :=
  let r := (s.tracker k).req
  if r.isRead then s.sendAnswer k (.data 0) 0 true 0 else s.sendAnswer k (.cmp 0) 0 false 0

/-- The answer to a request of no state: data for a read, Cmp otherwise. -/
def ReqKind.answerType (k : ReqKind) (grant : Nat) : MsgType := match k with | .read => .data grant | _ => .cmp grant

/-! ## Unmapped accesses and refusals (R135, R149) -/

/-- An unmapped access of a host on an ingress port is counted and raised. -/
def State.countUnmapped (s : State) (p h hpa t typ : Nat) : State :=
  let s := (s.count32 (O.UNMAPPED_COUNT h)).perfCount (dieOfPort p) evUnmapped p t 1
  s.raise (dieOfPort p * 512 + F.DECODE_MISS) 0 hpa h typ

/-- A shared access is refused: counted and raised on the ingress die, with the address and the master (R149). -/
def State.countSharedOn (s : State) (d addr master r typ : Nat) : State :=
  let s := (s.count32 (O.SR_REFUSED r)).count32 O.SHARED_REFUSED
  (s.setBit O.DIR_EVENTS 8 true).raise (d * 512 + F.SHARED_REFUSED) 0 addr master typ
def State.countShared (s : State) (p h hpa r typ : Nat) : State := s.countSharedOn (dieOfPort p) hpa h r typ

/-- A request to a region is refused as a shared access (R149). -/
def State.refusesShared (s : State) (p h r aliasNo : Nat) : Bool :=
  s.mode == mRunNc || s.get O.DIR_STATE != 2 || !s.bit (O.PROTOCOLS p) 3 || !s.bit (O.SR_HOSTS r) h ||
    (s.mode == mMaint && decide (0 < aliasNo))

/-- The die that keeps a host's groups and trackers. -/
def State.hostDie (s : State) (h : Nat) : Nat := match s.hostPort h with | some p => dieOfPort p | none => 0

/-- Raise a group source of the die that holds the host's port. -/
def State.grpEvent (s : State) (h loc bit addr typ : Nat) : State :=
  (s.setBit (O.GRP_EVENTS h) bit true).raise (s.hostDie h * 512 + loc) 0 addr h typ

/-- The decoder stage for an HPA of a host (R119, R121, R272). -/
def State.decode (s : State) (h hpa : Nat) : Route :=
  match s.decHit h hpa with
  | none => { unmapped := true }
  | some n =>
    let dec := s.decoder n
    let closed := s.get (O.DEC_ADMIT n) == 0
    let w := s.get (O.VPPB_BIND h dec.vppb)
    let tenant := if dec.isVppb then bindTenant w else dec.tenant
    let shut := s.tenantRefuses tenant
    if dec.isVppb then
      let bad := !dec.position (hpa - dec.base) || bindKind w != bindDevice || s.get (O.VPPB_ADMIT h dec.vppb) == 0
      { dec := some n, tenant := tenant, closed := closed, shut := shut, unmapped := bad || closed || shut, vppb := some dec.vppb, bind := w }
    else
      match dec.translate hpa with
      | none => { dec := some n, tenant := tenant, closed := closed, shut := shut, unmapped := true }
      | some x => { dec := some n, tenant := tenant, closed := closed, shut := shut, unmapped := closed || shut, fa := some x }

/-- A request is an unmapped access after the map stage too (R134, R135). -/
def State.unmapped (s : State) (r : Route) : Bool :=
  r.unmapped || (match r.fa with
    | none => false
    | some (fa, al) => (match s.lookup fa with
      | none => true
      | some t => decide (0 < al) && t.region != regionSharedTx))

/-- Count an unmapped access by every counter that one of its reasons names (R121, R135, R272). -/
def State.countRefused (s : State) (p h hpa typ : Nat) (r : Route) : State :=
  let s := match r.dec with
    | some n => if r.closed then s.count32 (O.DEC_REFUSED n) else s
    | none => s
  let s := if r.shut then s.countTenantRefusal (dieOfPort p) r.tenant else s
  s.countUnmapped p h hpa r.tenant typ

/-! ## Messages to memory (R20, R123, R140) -/

/-- The data part of a message between dies (R319): none, 64 bytes or 256 bytes. -/
def dataSize (len : Nat) : Nat := if len = 0 then 0 else if len ≤ 64 then 1 else 2

/-- A request message travels from a die to a port, under a route key. -/
def State.toPort (s : State) (d p key vc : Nat) (bypass : Bool) (m : Msg) : State :=
  let long := m.payload ≠ 0 && m.mask ≠ 2 ^ 64 - 1 || decide (6 ≤ m.channel)
  let dsz := dataSize m.payload
  s.carry d (dieOfPort p) key vc dsz long m.origin m.cell (if bypass then .bypass p m else .enqueue p m)

/-- A mirrored write goes to the source and to the destination of a migrating granule as one multicast (R140); the copy toward the
destination is not metered (R243). -/
def State.mirrorWrite (s : State) (d fa g : Nat) (t : Target) (vc : Nat) (bypass : Bool) (m : Msg) : State :=
  let n := s.rq.mirrorSerial
  let s := { s with rq := { s.rq with mirrorSerial := n + 1, mirror := s.rq.mirror.place (2 ^ 20 * d + n) { owner := m.owner, slot := g } } }
  let dst := s.migDest g
  let m1 := { m with owner := .mirror d (2 * n), ld := t.ld, dpa := t.dpa, mcast := true }
  let m2 := { m with owner := .mirror d (2 * n + 1), ld := dst.2.1, dpa := dst.2.2 + fa % 2 ^ 21, mcast := true, mig := some g,
                     line := fa % 2 ^ 21 / 64, metered := false }
  let act := fun p (x : Msg) => if bypass then Act.bypass p x else Act.enqueue p x
  s.spread d { parts := [(dieOfPort t.port, faKey fa, act t.port m1), (dieOfPort dst.1, faKey fa, act dst.1 m2)], vc := vc, long := true,
               dsz := 1, origin := m.origin, cell := m.cell }

/-- A request to memory at a fabric address goes to the target of its translation, a write to the destination of a migration too. -/
def State.toTarget (s : State) (d fa vc : Nat) (bypass : Bool) (t : Target) (m : Msg) : State :=
  match t.mig with
  | some g =>
    if m.kind = .write ∧ s.mirrors t = true then s.mirrorWrite d fa g t vc bypass m
    else s.toPort d t.port (faKey fa) vc bypass { m with ld := t.ld, dpa := t.dpa }
  | none => s.toPort d t.port (faKey fa) vc bypass { m with ld := t.ld, dpa := t.dpa }

/-- The copy of a map entry on a die is bad (R127). -/
def State.mapBad (s : State) (d : Nat) (granule : Bool) (i : Nat) : Bool :=
  s.map.bad.any (fun b => b.die == d && b.granule == granule && b.index == i)

/-- The map entries a fabric address reads: its extent, and its granule in a SPLIT extent. -/
def State.mapEntries (s : State) (fa : Nat) : List (Bool × Nat) :=
  let e := s.get (O.EXT_ENTRY (fa / 2 ^ 30))
  if 2 ^ 47 ≤ fa then [] else (false, fa / 2 ^ 30) :: (if extKind e = 2 then [(true, granuleOf e fa)] else [])

/-- A fabric address below 2^47 is looked up in a die's copy of the Extent Map (R476). -/
def State.countLookup (s : State) (d fa : Nat) : State := s.perfCount d evMapLookup 0xFF noTenant (if fa < 2 ^ 47 then 1 else 0)

/-- The bad entry of a die that a fabric address needs. -/
def State.mapWait (s : State) (d fa : Nat) : Option (Bool × Nat) := (s.mapEntries fa).find? (fun e => s.mapBad d e.1 e.2)

/-- What needs a bad entry is held until its restore ends (R127). -/
def State.holdFor (s : State) (d : Nat) (e : Bool × Nat) (a : Act) : State :=
  { s with map := { s.map with hold := s.map.hold ++ [({ die := d, granule := e.1, index := e.2, act := a } : MapHold)] } }

/-- A request to memory is translated on a die and sent to its target (R123, R136); where the maps do not give one it completes at
once as unmapped. -/
def State.toMemory (s : State) (d fa vc : Nat) (bypass : Bool) (m : Msg) : State :=
  let m := { m with fa := fa, hasFa := true }
  match s.mapWait d fa with
  | some e => s.holdFor d e (.memory d fa vc bypass m)
  | none =>
    match s.lookup fa with
    | none => s.owe (.deliver d m.owner m.kind 2 true true m.cell)
    | some t => s.toTarget d fa vc bypass t { m with epoch := some (s.get O.BIND_EPOCH) }

/-! ## Admission and routing of host requests -/

/-- The class of R160 of a request at its home. -/
def HostReq.homeClass (r : HostReq) : HomeClass :=
  match r.op with
  | .memRd => if r.meta_ = metaS then .rdS else if r.meta_ = metaA then .rdOwn else .rdCur
  | .memRdData => if r.meta_ = metaS then .rdS else .bad
  | .memInv => if r.meta_ = metaA then .upgrade else if r.meta_ = metaI then .cleanEvict else .bad
  | .memClnEvct => .cleanEvict
  | .memWr => .memWrite
  | .memWrPtl => .memWrite
  | .memSpecRd => .specRd
  | _ => .bad

/-- The home's view of a tracked request, at its fabric address. -/
def State.homeReq (s : State) (k : Nat) : HomeReq :=
  let t := s.tracker k
  { cls := t.req.homeClass, die := s.homeDie t.fa, line := lineOf t.fa, host := t.host, port := t.req.port, tenant := t.tenant,
    tcls := t.cls, colour := if t.colour = 2 then 1 else t.colour, owner := .tracker (k / 8192) (k % 8192),
    meta_ := t.req.meta_, data := t.req.data, mask := t.req.mask, poison := t.req.poison, full := t.req.op == .memWr,
    stamp := t.req.origin, asksData := t.req.isRead }

/-- A class of request whose home accesses memory at the request's own translation. -/
def HomeClass.translated : HomeClass → Bool
  | .mark | .claim | .pin | .unpin | .cancel | .sweep => false
  | _ => true

/-- Send a translated request to its home (R22). Every full MemWr goes on WB: the ingress die cannot tell a writeback from another full write,
which the home's directory decides (R159, R218; DESIGN CHOICE, log 136). -/
def State.sendHome (s : State) (d : Nat) (q : HomeReq) (origin cell : Nat) : State :=
  let vc := match q.cls with
    | .cleanEvict => vcWb
    | .memWrite => if q.full then vcWb else vcReq
    | .rdS | .rdOwn | .rdCur | .upgrade | .atomic | .bad | .specRd => vcReq
    | _ => vcMnt
  let data := match q.cls with | .memWrite | .applyWrite | .moverWrite | .atomic => true | _ => false
  s.carry d q.die (faKey q.line) vc (if data then 1 else 0) (data && q.mask ≠ 2 ^ 64 - 1 || vc == vcMnt || q.cls == .atomic) origin cell (.home q)

/-- A request is translated on the die it enters and sent to its home (R22, R136). -/
def State.toHome (s : State) (d : Nat) (q : HomeReq) (origin cell : Nat) : State :=
  if !q.cls.translated then s.sendHome d q origin cell
  else
    match s.mapWait d q.line with
    | some e => s.holdFor d e (.toHome d q origin cell)
    | none => s.sendHome d { q with target := s.lookup q.line, epoch := some (s.get O.BIND_EPOCH) } origin cell

/-- An ECC event of the maps on a read (R127): 1 and 3 single-bit errors, 2 and 4 uncorrectable ones, of the extent and
of the granule. -/
def State.mapEcc (s : State) (d fa ecc : Nat) : State :=
  match (s.mapEntries fa).getD ((ecc - 1) / 2) (false, 2 ^ 20) with
  | (g, i) =>
    if ecc = 0 ∨ i = 2 ^ 20 then s
    else if ecc % 2 = 1 then s.count32 O.MAP_CE_COUNT
    else
      let s := { s with map := { s.map with bad := s.map.bad ++ [({ die := d, granule := g, index := i, since := s.elapsed d } : BadEntry)] } }
      (s.count32 O.MAP_UE_COUNT).raise (d * 512 + F.MAP_UE) 0 fa 0xFFFF 0

/-- A tracked request goes on from its maps (step 5 of R25), with what the decoder and meter stages gave it: held for a bad entry,
refused, or on its way to its home, its group or its device. -/
def State.routeTracked (s : State) (k : Nat) : State :=
  let t := s.tracker k
  let r := t.req
  let d := k / 8192
  let route := t.route
  let m := { r.toMsg t.host with owner := .tracker d (k % 8192), tenant := t.tenant, colour := t.colour, metered := t.metered, cls := t.cls,
                                 epoch := some (s.get O.BIND_EPOCH) }
  if route.unmapped then ((s.countRefused r.port t.host r.hpa r.kind.accessType route).observe r.port 0 m |>.freeCell d r.cell).refuseTracked k
  else
    match route.fa with
    | none =>
      let p := bindPort route.bind
      let s := (s.setTracker k (fun t => { t with vppb := route.vppb, epoch := s.get O.BIND_EPOCH })).observe r.port 0 m
      s.toPort d p (devKey p (bindLd route.bind) r.hpa) vcReq false { m with ld := bindLd route.bind, dpa := r.hpa }
    | some (fa, al) =>
      match s.mapWait d fa with
      | some e => s.holdFor d e (.route k)
      | none =>
        let m := { m with aliasNo := al, fa := fa, hasFa := true }
        let s := (s.countLookup d fa).observe r.port 0 m
        if s.unmapped route then ((s.countRefused r.port t.host r.hpa r.kind.accessType route).freeCell d r.cell).refuseTracked k
        else
          match s.regionOf fa with
          | none => (s.setTracker k (fun t => { t with fa := fa, epoch := s.get O.BIND_EPOCH })).toMemory d fa vcReq false m
          | some g =>
            if s.refusesShared r.port t.host g al then
              ((s.countShared r.port t.host r.hpa g r.kind.accessType).freeCell d r.cell).refuseTracked k
            else
              let s := s.setTracker k (fun t => { t with fa := fa, aliasNo := al, shared := true, epoch := s.get O.BIND_EPOCH })
              if al = 0 then (if t.metered then s.countColour t.tenant 0 (min t.colour 1) else s).toHome d (s.homeReq k) r.origin r.cell
              else s.owe (.stage k)

/-- A MemSpecRd goes on from its maps: counted where a rule counts it, dropped where a Cmp would be sent, and otherwise sent on to
the device (R503). -/
def State.specOn (s : State) (p h : Nat) (m : Msg) (route : Route) : State :=
  let d := dieOfPort p
  if route.unmapped then ((s.countRefused p h m.hpa 1 route).observe p 0 m).freeCell d m.cell
  else
    match route.fa with
    | none =>
      let q := bindPort route.bind
      (s.observe p 0 m).toPort d q (devKey q (bindLd route.bind) m.hpa) vcReq false
        { m with ld := bindLd route.bind, dpa := m.hpa, epoch := some (s.get O.BIND_EPOCH) }
    | some (fa, al) =>
      match s.mapWait d fa with
      | some e => s.holdFor d e (.spec h m p route)
      | none =>
        let m := { m with aliasNo := al, fa := fa, hasFa := true }
        let s := (s.countLookup d fa).observe p 0 m
        if s.unmapped route then (s.countRefused p h m.hpa 1 route).freeCell d m.cell
        else
          match s.regionOf fa with
          | none => s.toMemory d fa vcReq false m
          | some g =>
            (if s.refusesShared p h g al then s.countShared p h m.hpa g 1
             else if al = 0 then s
             else (s.count32 (O.GRP_PROTOCOL h)).grpEvent h F.GROUP_PROTOCOL 0 m.hpa 1).freeCell d m.cell

/-- The maps show an ECC event where a request that the decoder stage lets through reads them (R127). -/
def State.routeEcc (s : State) (d ecc : Nat) (r : Route) : State :=
  match r.fa with
  | some (fa, _) => if r.unmapped then s else s.mapEcc d fa ecc
  | none => s

/-- A MemSpecRd takes no tracker and gets no completion (R503). -/
def State.specRead (s : State) (r : HostReq) (h ecc : Nat) : State :=
  let d := dieOfPort r.port
  let route := s.decode h r.hpa
  let (colour, metered, s) := s.colour d route.tenant 0 64 none
  (s.routeEcc d ecc route).specOn r.port h
    { r.toMsg h with tenant := route.tenant, colour := colour, metered := metered, cls := s.meterClass route.tenant 0 } route

/-- Give a request its tracker and send it on (steps 2 to 6 of R25). -/
def State.admitReq (s : State) (r : HostReq) (k ecc : Nat) : State :=
  let d := dieOfPort r.port
  let h := s.get (O.HOST_ID r.port)
  let route := s.decode h r.hpa
  let (colour, metered, s) := s.colour d route.tenant 0 64 none
  let t : Tracker := { busy := true, evict := r.evict, req := r, host := h, tenant := route.tenant, dec := route.dec,
                       vppb := if route.unmapped then none else route.vppb, epoch := s.get O.BIND_EPOCH,
                       colour := colour, metered := metered, coloured := true, route := route, cls := s.meterClass route.tenant 0 }
  let s := s.setTracker k (fun _ => t)
  let s := if r.isRead then s.perfCount d evMemRd r.port route.tenant 1 else s
  let s := if r.isWrite then (s.perfCount d evMemWr r.port route.tenant 1).perfCount d evWrBytes r.port route.tenant 64 else s
  (s.routeEcc d ecc route).routeTracked k

/-- A request can be admitted now: not held by the mode, nor by a drop sweep of its host (R169; that a host's CXL.io other than
AtomicOps does not wait is DEDUCED, log 96), and with a tracker of its class free. -/
def State.admissible (s : State) (r : HostReq) : Option Nat :=
  if (s.holdsGeneral && !r.evict) || s.dir.dropWait.contains (s.get (O.HOST_ID r.port)) then none
  else s.freeTracker (dieOfPort r.port) r.evict

/-- Complete a request that SAFE turns away (R418): it takes no tracker. -/
def State.safeAnswer (s : State) (r : HostReq) : State :=
  let h := s.get (O.HOST_ID r.port)
  let d := dieOfPort r.port
  let s := (s.observe r.port 0 (r.toMsg h)).freeCell d r.cell
  if r.op = .memSpecRd then s
  else
    let s := s.perfCount d evSynthCpl r.port (s.decode h r.hpa).tenant 1
    s.enqueueBypass r.port { type := r.kind.answerType 0, kind := r.kind, channel := if r.isRead then 4 else 3, host := h, hpa := r.hpa,
                             tag := r.tag, poison := r.isRead, origin := r.origin, len := if r.isRead then 64 else 0 }

/-- A host port accepts a CXL.mem request (R25). It waits in its cell where no tracker can be had (R27, R438). -/
def State.hostRequest (s : State) (r : HostReq) (ecc : Nat) : State :=
  let p := r.port
  if s.carries p = true ∧ s.role p = roleUpstream ∧ s.speaks p 1 = true then
    let d := dieOfPort p
    let r := { r with origin := s.stamp d, evict := s.evictClass r }
    let got := s.receiveCell p (r.toMsg (s.get (O.HOST_ID p))) r.evict
    let r := { r with cell := got.1 }
    let s := got.2
    if s.dieSafe d then s.safeAnswer r
    else if r.op = .memSpecRd then
      if s.holdsGeneral then { s with rq := { s.rq with waiting := s.rq.waiting ++ [r] } } else s.specRead r (s.get (O.HOST_ID p)) ecc
    else
      match s.admissible r with
      | some k =>
        if s.rq.waiting.any (fun w => w.port == p && w.evict == r.evict) then
          { s with rq := { s.rq with waiting := s.rq.waiting ++ [r] } }
        else s.admitReq r k ecc
      | none => { s with rq := { s.rq with waiting := s.rq.waiting ++ [r] } }
  else s

/-- The request that a message of a host is; `err` is the error that a staging line shows when it is read for it. -/
def hostReqOf (p : Nat) (op : MemOp) (md hpa tag data mask : Nat) (poison : Bool) (err : Nat) : HostReq :=
  { port := p, op := op, meta_ := md % 4, hpa := hpa, tag := tag % 65536, data := data % 2 ^ 512,
    mask := if op = .memWr then 2 ^ 64 - 1 else mask % 2 ^ 64, poison := poison, err := err }

/-- A host's CXL.mem request. -/
def fxHostRequest (p : Nat) (op : MemOp) (md hpa tag data mask : Nat) (poison : Bool) (ecc : Nat) (s : State) : State :=
  s.hostRequest (hostReqOf p op md hpa tag data mask poison 0) ecc

/-- The AtomicOps that waited for a drop sweep of their host which is over (R169). -/
def State.admitHeld (s : State) : State :=
  let shut := fun (x : Nat × Act) => s.dir.dropWait.contains x.1
  let go := s.rq.held.filter (fun x => !shut x)
  forEach go (fun x s => s.owe x.2) { s with rq := { s.rq with held := s.rq.held.filter shut } }

/-- Admit the waiting requests that can be, in arrival order (R27, R169, R438); a MemSpecRd, which takes no tracker, goes on once the mode
no longer holds it (R503). Those of a port in Recovery go on waiting (R104). -/
def State.admitWaiting (s : State) : State :=
  let s := s.admitHeld
  let waiting := s.rq.waiting
  let s := { s with rq := { s.rq with waiting := [] } }
  forEach waiting (fun r s =>
    if !s.linkAlive r.port then s.freeCell (dieOfPort r.port) r.cell
    else if r.op = .memSpecRd ∧ s.holdsGeneral = false then s.specRead r (s.get (O.HOST_ID r.port)) 0
    else if r.op = .memSpecRd then { s with rq := { s.rq with waiting := s.rq.waiting ++ [r] } }
    else
      match s.admissible r with
      | some k => s.admitReq r k 0
      | none => { s with rq := { s.rq with waiting := s.rq.waiting ++ [r] } }) s

/-- The restore of a bad map entry completes, or fails and leaves the entry INVALID on every die (R127). -/
def fxMapRestore (d : Nat) (granule : Bool) (index : Nat) (ok : Bool) (s : State) : State :=
  if s.mapBad d granule index then
    let mine := fun (h : MapHold) => h.die == d && h.granule == granule && h.index == index
    let held := s.map.hold.filter mine
    let s := { s with map := { s.map with
      bad := s.map.bad.filter (fun b => !(b.die == d && b.granule == granule && b.index == index)),
      hold := s.map.hold.filter (fun h => !mine h) } }
    let s := if ok then s else s.put (if granule then O.GRN_ENTRY index else O.EXT_ENTRY index) 0
    forEach held (fun h s => s.owe h.act) s
  else s

/-! ## Arrival at an egress port -/

/-- A request toward a port that is not UP or in RECOVERY completes at once, as R102 prescribes for its kind, counted by
that port (R137). Viral is the drop's own, once (R502). -/
def State.refusePort (s : State) (p : Nat) (m : Msg) : State :=
  let d := dieOfPort p
  let s := s.leaveCell d m.cell
  match m.kind with
  | .specRd => s
  | .ioPosted => s
  | .read => ((s.count32 (O.SYNTH_READ_COUNT p)).perfCount d evSynthCpl p m.tenant 1).owe (.deliver d m.owner .read 0 true true 0)
  | .write =>
    let s := (s.count32 (O.LOST_WRITE_COUNT p)).perfCount d evSynthCpl p m.tenant 1
    let s := if s.get (O.DROP_POLICY p) = 0 then (s.setBit (O.PORT_EVENTS p) 6 true).raisePort p F.WRITE_LOST m.hpa (m.master (dieOfPort p)) 2
             else s
    s.owe (.deliver d m.owner .write 0 false true 0)
  | k => (s.perfCount d evSynthCpl p m.tenant 1).owe (.deliver d m.owner k 0 false true 0)

/-- A line of a device's memory that a private atomic holds (R173). -/
def State.atomicHolds (s : State) (p : Nat) (m : Msg) : Bool :=
  let own := match m.owner with
    | .atomicRead _ _ => true
    | .atomicWrite _ _ => true
    | .mirror d n => (match s.rq.mirror.find (2 ^ 20 * d + n / 2) with
      | some w => (match w.owner with | .atomicWrite _ _ => true | _ => false)
      | none => false)
    | _ => false
  !own && m.hasFa && s.dir.atomics.any (fun a => a.port == p && a.phase != 3 && a.msg.ld == m.ld && lineOf a.msg.dpa == lineOf m.dpa)

/-- A mirror-write sets its line's bit, and a copy-write that finds it set is discarded (R141). -/
def State.mirrorMark (s : State) (m : Msg) : Bool × State :=
  match m.mig with
  | none => (false, s)
  | some g =>
    let copy := match m.owner with | .mover _ _ _ => true | _ => false
    if copy then
      if (s.migSlot g).lines.contains m.line then (true, s.count32 (O.MIG_SUPPRESSED g)) else (false, s)
    else
      let s := s.perfCount (dieOfPort (s.migDest g).1) evMirrorWrites 0xFF noTenant 1
      if (s.migSlot g).lines.contains m.line then (false, s)
      else (false, (s.setMig g (fun x => { x with lines := m.line :: x.lines })).count32 (O.MIG_MIRRORED g))

/-- A device's link has negotiated the protocol of a request (R94): CXL.mem on channels 0 to 2, CXL.cache on channel 6. DESIGN CHOICE
(log 94): a request of a protocol that it has not negotiated completes as one toward a port that cannot send. -/
def State.takesRequest (s : State) (p : Nat) (m : Msg) : Bool :=
  s.role p != roleDownstream || (decide (2 < m.channel) || s.speaks p 1) && (m.channel != 6 || s.speaks p 2)

/-- A host's answer to a snoop that a device sent before the latest drop of its link (R102). -/
def State.answerLate (s : State) (p : Nat) (m : Msg) : Bool :=
  s.role p == roleDownstream && m.drops != (s.port p).drops && (match m.type with | .birsp _ => true | .biConflict => true | _ => false)

/-- A posted write toward a host, or a request of a device that is lost, is no longer among those not completed (R273). -/
def State.endUpReq (s : State) (m : Msg) (kinds : List Nat) : State :=
  if m.up = 0 then s
  else { s with io := { s.io with up := s.io.up.filter (fun (u : UpReq) => !(u.tag + 1 == m.up && kinds.contains u.kind)) } }

/-- A message arrives at its egress port: a request that the port cannot send is completed, one that a private atomic
holds waits, and the rest join the hierarchy or the bypass (R137, R141, R173, R238). -/
def State.arrive (s : State) (p : Nat) (m : Msg) (bypass : Bool) : State :=
  let d := dieOfPort p
  let isReq := m.type == .req
  if !s.linkAlive p then
    if isReq && s.role p == roleDownstream then s.refusePort p m
    else
      let s := (s.leaveCell d m.cell).endUpReq m [0, 1, 2]
      match m.owner with
      | .tracker e n => s.releaseTracker (8192 * e + n) false
      | _ => s
  else if s.answerLate p m then s.leaveCell d m.cell
  else if isReq && !s.takesRequest p m then s.refusePort p m
  else if isReq && s.atomicHolds p m then { s with dir := { s.dir with held := s.dir.held ++ [(p, m)] } }
  else
    let (drop, s) := if isReq then s.mirrorMark m else (false, s)
    if drop then (s.leaveCell d m.cell).owe (.deliver d m.owner m.kind 0 false false 0)
    else if bypass || m.tenant == noTenant || s.role p == roleFm then s.enqueueBypass p m
    else s.enqueue p m

/-- Requests that a private atomic held go on once it is gone (R173). -/
def State.releaseHeld (s : State) : State :=
  let held := s.dir.held
  let s := { s with dir := { s.dir with held := [] } }
  forEach held (fun x s => s.arrive x.1 x.2 false) s

/-! ## Egress (R101, R213, R248) -/

/-- An uncorrectable error in a queue descriptor removes the message; a tracked one completes as R102 gives. -/
def State.descLost (s : State) (p : Nat) (m : Msg) : State :=
  let d := dieOfPort p
  let s := (s.raise (d * 512 + F.DESC_UE) 0 0 0xFFFF 0).endUpReq m [0, 1, 2]
  match m.type with
  | .req => s.owe (.deliver d m.owner m.kind 0 (m.kind == .read) true 0)
  | _ => match m.owner with | .tracker e n => s.releaseTracker (8192 * e + n) false | _ => s

/-- The CXL Tag with which a message leaves a port (R101): toward a device LINK_EPOCH, with its slot where it takes one. -/
def State.outTag (s : State) (p : Nat) (m : Msg) : Nat :=
  if s.role p = roleDownstream then s.get (O.LINK_EPOCH p) * 4096 + (if m.needsTag then (s.freeTag p).getD 0 else 0) else m.tag

/-- A message as the capture unit sees it leave a port, with its Tag (R226, R229). -/
def State.tagged (s : State) (p : Nat) (m : Msg) : Msg := { m with tag := s.outTag p m }

/-- What leaving the port means for a message: a tag slot for a request, the end of a tracker for its answer, and a
BISnp recorded for its host (R26, R27, R101). -/
def State.sendOut (s : State) (p : Nat) (m : Msg) : State :=
  let d := dieOfPort p
  let s := s.perfCount d evTxFlits p noTenant 1
  if s.role p = roleDownstream then
    if m.needsTag then
      match s.freeTag p with
      | some n =>
        let tag := s.get (O.LINK_EPOCH p) * 4096 + n
        let s := (s.setTag p n (fun _ => { state := 1, epoch := s.get (O.LINK_EPOCH p), msg := { m with cell := 0 }, sentAt := s.portClock p })).countSlots p
        s.send (.toDevice p tag m)
      | none => s
    else s.send (.toDevice p (s.get (O.LINK_EPOCH p) * 4096) m)
  else
    let s : State := match m.type with
      | .bisnp _ =>
        let s := { s with rq := { s.rq with delivered := s.rq.delivered ++
                                            [({ port := p, hpa := m.hpa, fromDevice := m.kind == ReqKind.ioNp, device := m.tag, drops := m.drops } : Delivered)] } }
        s
      | .data _ => s.perfCount d evRdBytes p m.tenant (if m.kind = ReqKind.read then 64 else 0)
      | .ioCpl _ => s.perfCount d evRdBytes p m.tenant (if s.role p = roleUpstream then m.len else 0)
      | _ => s
    let s := (s.send (.toHost p m)).endUpReq m [2]
    match m.owner with
    | .tracker e n => s.releaseTracker (8192 * e + n) true
    | _ => s

/-- An egress port that can send takes its next message (R248). `cellEcc` is the error its cell shows when read, 1
corrected and 2 uncorrectable (R213); `descUe` an uncorrectable error of its descriptor (R420). -/
def fxEgressSelect (p cellEcc : Nat) (descUe : Bool) (s : State) : State :=
  let ide := s.get (O.IDE_STATE p)
  if s.linkState p = lsUp ∧ (ide = 0 ∨ ide = 2) then
    match s.selectMsg p with
    | none => s
    | some (m, t) =>
      let d := dieOfPort p
      if m.needsTag && s.role p == roleDownstream && (s.freeTag p).isNone then s
      else if descUe then t.descLost p m
      else
        let t := match m.type with | .req => if m.metered then t.countColour m.tenant (if s.role p = roleDownstream then 0 else 1) m.colour else t | _ => t
        let x := t.readOut d m.cell (beatsOf m.payload) cellEcc
        let m := if x.1 then { m with poison := true } else m
        ((((x.2.spendCredit p m).observe p 1 (x.2.tagged p m)).leaveCell d m.cell).sendOut p m)
  else s

/-! ## Responses and mirrors -/

/-- The bytes that an AtomicOp returns: a CAS, of which both operands travel, returns one. -/
def Msg.resultLen (m : Msg) : Nat := if m.opcode = 0x4E then m.len / 2 else m.len

/-- The message that a device's response to a request is: data or a completion of CXL.mem, or a completion of CXL.io with its status
and, of a read or an AtomicOp, its data (R101, R229). -/
def Msg.response (r : Msg) (tag status data : Nat) (poison : Bool) (stamp : Nat) : Msg :=
  let io := r.channel == 7
  let type : MsgType := if io then .ioCpl status else r.kind.answerType 0
  let len := if status ≠ 0 then 0 else if r.kind = .read then (if io then r.len else 64) else if r.kind = .atomic then r.resultLen else 0
  { r with type := type, opcode := if io then (if len = 0 then 0x0A else 0x4A) else type.code, channel := if io then 7 else if r.kind = .read then 4 else 3,
           data := data % 256 ^ max 64 len, len := len, mask := 0, poison := poison, tag := tag, metered := false,
           origin := stamp, cell := 0 }

/-- A response from a device takes a cell of its port (R101, R215). -/
def fxDeviceResponse (p tag status data : Nat) (poison : Bool) (s : State) : State :=
  if s.role p = roleDownstream ∧ s.carries p = true then
    let t := s.tagSlot p (tag % 4096)
    let m := t.msg.response tag status data poison (s.stamp (dieOfPort p))
    let got := s.receiveCell p m
    let s := got.2.observe p 0 m
    if tag / 4096 % 16 = s.get (O.LINK_EPOCH p) ∧ t.state = 1 then s.takeResponse p tag status m.data poison got.1 m.len
    else (s.takeResponse p tag status data poison got.1 m.len).freeCell (dieOfPort p) got.1
  else s

/-- One of the two writes of a mirrored write is done (R140). -/
def State.mirrorDone (s : State) (d n data : Nat) (poison synthetic : Bool) : State :=
  let k := 2 ^ 20 * d + n / 2
  match s.rq.mirror.find k with
  | none => s
  | some w =>
    let s := if n % 2 = 1 && poison then s.migAbort w.slot stPoison else s
    let w := if n % 2 = 0 then { w with srcDone := true, synthetic := synthetic, why := if synthetic then data else 0, poison := poison && !synthetic }
             else { w with dstDone := true }
    if w.srcDone && (w.dstDone || s.get (O.MIG_STATE w.slot) == migAborted) then
      { s with rq := { s.rq with mirror := s.rq.mirror.drop k } }.owe (.deliver d w.owner .write w.why w.poison w.synthetic 0)
    else { s with rq := { s.rq with mirror := s.rq.mirror.place k w } }

/-- Mirrored writes of a slot that has aborted wait for their source only (R140, R143). -/
def State.mirrorAbandon (s : State) : State :=
  forEach s.rq.mirror (fun e s =>
    if s.get (O.MIG_STATE e.2.slot) = migAborted then
      (if e.2.srcDone then
        { s with rq := { s.rq with mirror := s.rq.mirror.drop e.1 } }.owe
          (.deliver (e.1 / 2 ^ 20) e.2.owner .write e.2.why e.2.poison e.2.synthetic 0)
       else { s with rq := { s.rq with mirror := s.rq.mirror.place e.1 { e.2 with dstDone := true } } })
    else s) s

/-! ## CXL.io completions -/

/-- The charge of R240: the payload, or the data asked for, in units of 64 bytes. -/
def ioCharge (len : Nat) : Nat := max 64 ((len + 63) / 64 * 64)

/-- Status of a CXL.io completion: Successful, Unsupported Request, Completer Abort. -/
def cplOk : Nat := 0
def cplUr : Nat := 1
def cplCa : Nat := 4

/-- A CXL.io completion goes from a die to a host's upstream port (R20, R155): a device's in its cell, with the stamp of its arrival
(R226); one that the switch makes with that of its creation, and with no cell, for which R214 names no pool (DESIGN CHOICE, log 115). -/
def State.ioToHost (s : State) (d h tag status data len : Nat) (poison : Bool := false) (home : Nat := 0) (cell : Nat := 0)
    (origin : Option Nat := none) (tenant : Nat := noTenant) : State :=
  match s.hostPort h with
  | none => s.leaveCell d cell
  | some p =>
    let g := origin.getD (s.stamp d)
    s.carry d (dieOfPort p) (hostKey h) vcRsp (dataSize len) true g cell
      (.bypass p { type := .ioCpl status, kind := .ioNp, channel := 7, opcode := if len = 0 then 0x0A else 0x4A, host := h, tag := tag, data := data,
                   len := len, poison := poison, charge := ioCharge len, origin := g, home := home, tenant := tenant })
      (if home = 0 then [] else [homeStream (home - 1) h])

/-! ## Atomics (R171 to R174) -/

/-- The byte offset of an atomic in its line, and the value of its operand there. -/
def atomicAt (fa : Nat) : Nat := fa % 64
def lineGet (line off size : Nat) : Nat := line / 256 ^ off % 256 ^ size
def linePut (line off size v : Nat) : Nat :=
  line - lineGet line off size * 256 ^ off + v % 256 ^ size * 256 ^ off

/-- The result of an AtomicOp on a line: the original value and the line written (R171). -/
def AtomicOp.apply (a : AtomicOp) (off line : Nat) : Nat × Nat :=
  let old := lineGet line off a.size
  let new := match a.op with
    | 0 => old + a.operand
    | 1 => a.operand
    | _ => if old = a.compare % 256 ^ a.size then a.operand else old
  (old, linePut line off a.size new)

/-- An AtomicOp that the endpoint supports: FetchAdd and Swap of 4 or 8 bytes, CAS of 4, 8 or 16, naturally aligned. -/
def AtomicOp.valid (a : AtomicOp) (hpa : Nat) : Bool :=
  (a.size == 4 || a.size == 8 || (a.size == 16 && a.op == 2)) && decide (a.op < 3) && hpa % a.size == 0

/-- ATOMIC_POISON on a die (R174). -/
def State.atomicPoison (s : State) (d fa h : Nat) : State :=
  (s.setBit O.DIR_EVENTS 7 true).raise (d * 512 + F.ATOMIC_POISON) 0 fa h 3

/-- An AtomicOp of a host ends on its ingress die with a completion status. -/
def State.refuseAtomic (s : State) (p : Nat) (m : Msg) (status : Nat) : State :=
  (s.freeCell (dieOfPort p) m.cell).ioToHost (dieOfPort p) m.host m.tag status 0 0

/-- An AtomicOp goes on from its maps (R171 to R173): refused, completed as unmapped, or sent to its home, its device or its egress
die, with what the earlier stages gave it, VPPB_ADMIT of the pool endpoint's vPPB among them, and the settings of R187 that it met
(R70). -/
def State.atomicOn (s : State) (p : Nat) (m : Msg) (a : AtomicOp) (route : Route) : State :=
  let h := m.host
  let d := dieOfPort p
  if route.unmapped then ((s.countRefused p h m.hpa 3 route).observe p 0 m).refuseAtomic p m cplUr
  else
    match route.fa with
    | none => (s.observe p 0 m).refuseAtomic p m cplUr
    | some (fa, al) =>
      match s.mapWait d fa with
      | some e => s.holdFor d e (.atomicOn p m a route)
      | none =>
        let m := { m with aliasNo := al, fa := fa, hasFa := true, epoch := some (s.get O.BIND_EPOCH) }
        let s := (s.countLookup d fa).observe p 0 m
        if s.unmapped route then (s.countRefused p h m.hpa 3 route).refuseAtomic p m cplUr
        else if 0 < al then s.refuseAtomic p m cplUr
        else
          let s := s.perfCount d evIoReq p route.tenant 1
          match s.regionOf fa with
          | some g =>
            if s.refusesShared p h g 0 then (s.countShared p h m.hpa g 3).refuseAtomic p m cplUr
            else
              let colour := min m.colour 1
              let q : HomeReq := { cls := .atomic, die := s.homeDie fa, line := lineOf fa, host := h, port := 128, tenant := route.tenant,
                                   tcls := m.cls, colour := colour, owner := .host h m.tag, atomic := a, slot := fa % 64, stamp := m.origin }
              (if m.metered then s.countColour m.tenant 0 colour else s).toHome d q m.origin m.cell
          | none =>
            match s.lookup fa with
            | none => s.refuseAtomic p m cplUr
            | some t =>
              let m := { m with ld := t.ld, dpa := t.dpa,
                                device := if s.bit (O.ATOM_DEVICE t.port) t.ld then some (s.get (O.ATOM_BASE t.port t.ld) + t.dpa) else none }
              s.carry d (dieOfPort t.port) (faKey fa) vcReq 1 true m.origin m.cell (.atomicAt t.port m a t)

/-- An AtomicOp of a host is admitted, unless a drop sweep of the host runs (R169), and passes the decoder and meter stages; `tc` is
its traffic class (R245) and `ecc` the ECC event that its map entries show. -/
def State.startAtomic (s : State) (p tc ecc : Nat) (m : Msg) (a : AtomicOp) : State :=
  let d := dieOfPort p
  if s.dir.dropWait.contains m.host then { s with rq := { s.rq with held := s.rq.held ++ [(m.host, .atomic p tc ecc m a)] } }
  else if !a.valid m.hpa then (s.observe p 0 m).refuseAtomic p m cplUr
  else
    let route := s.decode m.host m.hpa
    let shut := match s.poolVppb m.host with | some v => s.get (O.VPPB_ADMIT m.host v) == 0 | none => true
    let route := { route with unmapped := route.unmapped || shut }
    let (colour, metered, s) := s.colour d route.tenant 0 64 (some tc)
    ((s.perfCount d evWrBytes p route.tenant m.len).routeEcc d ecc route).atomicOn p
      { m with tenant := route.tenant, colour := colour, metered := metered, cls := s.meterClass route.tenant 0 } a route

/-- A host's AtomicOp to the pool endpoint (R171) reaches its port. -/
def fxAtomicOp (p : Nat) (x : AtomicReq) (size hpa tag operand compare : Nat) (s : State) : State :=
  if s.carries p = true ∧ s.role p = roleUpstream then
    let d := dieOfPort p
    let a : AtomicOp := { op := x.op % 4, size := size, operand := operand % 256 ^ size, compare := compare % 256 ^ size }
    let m : Msg := { type := .req, kind := .atomic, channel := 7, host := s.get (O.HOST_ID p), hpa := hpa, tag := tag,
                     data := if a.op = 2 then a.compare + a.operand * 256 ^ size else a.operand, len := if a.op = 2 then 2 * size else size,
                     opcode := 0x4C + x.op % 4, owner := .host (s.get (O.HOST_ID p)) tag, origin := s.stamp d }
    let got := s.receiveCell p m
    let m := { m with cell := got.1 }
    if got.2.dieSafe d then ((got.2.observe p 0 m).refuseAtomic p m cplCa).perfCount d evSynthCpl p (s.decode m.host hpa).tenant 1
    else got.2.startAtomic p x.tc x.ecc m a
  else s

/-- An atomic of a private region reaches its egress die (R173): it joins the die's atomic table. -/
def State.takePrivateAtomic (s : State) (p : Nat) (m : Msg) (a : AtomicOp) (t : Target) : State :=
  let n := s.dir.serial
  { s with dir := { s.dir with serial := n + 1, atomics := s.dir.atomics ++
                               [{ die := dieOfPort p, id := n, phase := 0, port := p, msg := m, atomic := a, original := 0, owner := m.owner, target := t }] } }

/-- End a private atomic: its completion goes to the host, and what it held goes on. -/
def State.endAtomic (s : State) (d n status data : Nat) (poison : Bool := false) (cell : Nat := 0) (origin : Option Nat := none) : State :=
  match s.dir.atomics.find? (fun a => a.die == d && a.id == n) with
  | none => s.leaveCell d cell
  | some a =>
    let s := { s with dir := { s.dir with atomics := s.dir.atomics.filter (fun b => !(b.die == d && b.id == n)) } }
    ((s.leaveCell d a.msg.cell).ioToHost d a.msg.host a.msg.tag status data (if status = cplOk then a.atomic.size else 0) poison
      (cell := cell) (origin := origin) (tenant := a.msg.tenant)).releaseHeld

/-- Change a private atomic's record. -/
def State.setAtomic (s : State) (d n : Nat) (f : PrivAtomic → PrivAtomic) : State :=
  { s with dir := { s.dir with atomics := s.dir.atomics.map (fun a => if a.die = d ∧ a.id = n then f a else a) } }

/-- The messages that wait at a port. -/
def State.portMsgs (s : State) (p : Nat) : List Msg :=
  (s.qos.leaf.filter (fun l => leafPort l.1 == p)).flatMap (fun l => l.2.queue) ++ (s.egress p).bypass

/-- A request to the line of a private atomic waits at its port ahead of it, or another atomic holds the line. -/
def State.atomicBlocked (s : State) (a : PrivAtomic) : Bool :=
  s.dir.atomics.any (fun b => b.die == a.die && b.id != a.id && b.phase != 0 && b.phase != 3 && b.port == a.port &&
      b.msg.ld == a.msg.ld && lineOf b.msg.dpa == lineOf a.msg.dpa) ||
    (s.portMsgs a.port).any (fun m => m.type == .req && m.hasFa && m.ld == a.msg.ld && lineOf m.dpa == lineOf a.msg.dpa)

/-- The egress die takes up a waiting atomic (R173): it goes to a device that performs atomics, or the die reads the line
once nothing else holds it; the atomic's cell serves its read and its write. One that a device performs is not mirrored (log 96). -/
def fxPrivateAtomic (d n : Nat) (s : State) : State :=
  match s.dir.atomics.find? (fun a => a.die == d && a.id == n) with
  | none => s
  | some a =>
    if a.phase ≠ 0 ∨ s.atomicBlocked a = true then s
    else if !s.linkAlive a.port then s.endAtomic d n cplCa 0
    else
      match a.msg.device with
      | some at_ =>
        let s := s.setAtomic d n (fun a => { a with phase := 3, msg := { a.msg with cell := 0 } })
        s.arrive a.port { a.msg with dpa := at_, hasFa := false, owner := .atomicWrite d n } false
      | none =>
        let s := if s.holdsCell d a.msg.cell then s.setCell d (cellNo a.msg.cell) (fun c => { c with copies := 2 }) else s
        (s.setAtomic d n (fun a => { a with phase := 1 })).arrive a.port
          { a.msg with kind := .read, channel := 0, opcode := 1, owner := .atomicRead d n, dpa := lineOf a.msg.dpa, fa := lineOf a.msg.fa,
                       data := 0, mask := 0, len := 0 } false

/-- A private atomic's read is answered (R173, R174): the write follows, to a migration's destination too (R140). -/
def State.atomicRead (s : State) (d n data : Nat) (poison synthetic : Bool) : State :=
  match s.dir.atomics.find? (fun a => a.die == d && a.id == n) with
  | none => s
  | some a =>
    if synthetic then s.endAtomic d n cplCa 0
    else if poison then (s.atomicPoison d a.msg.fa a.msg.host).endAtomic d n cplCa 0
    else
      let (old, line) := a.atomic.apply (atomicAt a.msg.fa) data
      let s := s.setAtomic d n (fun a => { a with phase := 2, original := old, msg := { a.msg with cell := 0 } })
      s.toTarget d (lineOf a.msg.fa) vcReq false { a.target with dpa := lineOf a.msg.dpa }
        { a.msg with kind := .write, channel := 1, opcode := 1, owner := .atomicWrite d n, fa := lineOf a.msg.fa, data := line,
                     mask := 2 ^ 64 - 1, len := 64, metered := false }

/-- A private atomic's write, or the device's own completion with its status, is answered (R173, R174). -/
def State.atomicWritten (s : State) (d n data : Nat) (poison synthetic : Bool) (status cell : Nat) (origin : Option Nat) : State :=
  match s.dir.atomics.find? (fun a => a.die == d && a.id == n) with
  | none => s.leaveCell d cell
  | some a =>
    if !synthetic && a.phase == 3 then s.endAtomic d n status (if status = cplOk then data % 256 ^ a.atomic.size else 0) poison cell origin
    else if synthetic || poison then (s.leaveCell d cell).endAtomic d n cplCa 0
    else (s.leaveCell d cell).endAtomic d n cplOk a.original

end Sys2Proof.Machine
end

