-- ==== Sys2Proof/Machine/Directory.lean ====
section
/-! DEFINITION. The Cobalt directory: entries and victims, the order at the home, the request classes, back-invalidates,
sweeps, errors and bank retirement (R152 to R187). -/
namespace Sys2Proof.Machine

/-! ## Entries (R153, R154) -/

def lineI : Nat := 0
def lineS : Nat := 1
def lineE : Nat := 2

/-- The line of a sector an address lies in. -/
def lineNo (fa : Nat) : Nat := fa / 64 % 4
def sectorOf (fa : Nat) : Nat := fa / 256 * 256

/-- The state of line `i` of an entry, and its change. -/
def DirEntry.line (e : DirEntry) (i : Nat) : Nat := e.state / 4 ^ i % 4
def DirEntry.setLine (e : DirEntry) (i v : Nat) : DirEntry := { e with state := e.state - e.line i * 4 ^ i + v * 4 ^ i }

/-- Some line of the entry is in a state. -/
def DirEntry.has (e : DirEntry) (v : Nat) : Bool := (List.range 4).any (fun i => e.line i == v)

/-- The fields obey R154: SHARERS is zero without a line in S, OWNER without one in E. -/
def DirEntry.tidy (e : DirEntry) : DirEntry :=
  { e with sharers := if e.has lineS then e.sharers else 0, owner := if e.has lineE then e.owner else 0 }

/-- The holders of line `i`, as a mask of hosts (R161). -/
def DirEntry.holders (e : DirEntry) (i : Nat) : Nat :=
  if e.line i = lineE then 2 ^ e.owner else if e.line i = lineS then e.sharers else 0

/-- The hosts of a mask. -/
def hostsIn (m : Nat) : List Nat := (List.range 64).filter (fun h => m.testBit h)
def maskOf (hs : List Nat) : Nat := hs.foldl (fun a h => if a.testBit h then a else a + 2 ^ h) 0
def maskAnd (a b : Nat) : Nat := Nat.land a b
def maskWithout (a b : Nat) : Nat := a - Nat.land a b

/-- An entry's key, and the parts of a key. -/
def entryKey (d set way : Nat) : Nat := 2 ^ 22 * d + 16 * set + way
def entryDie (k : Nat) : Nat := k / 2 ^ 22
def entrySet (k : Nat) : Nat := k % 2 ^ 22 / 16

/-- The sector an entry describes: the set it was allocated from has FOLD for its bits 3:2. -/
def entrySector (k : Nat) (e : DirEntry) : Nat :=
  let set := entrySet k
  sectorAddr (set - bitsOf set 3 2 * 4 + e.fold * 4) e.tag

/-- Store an entry: one with no line held, no pin and no transaction is freed. -/
def State.putEntry (s : State) (k : Nat) (e : DirEntry) : State :=
  let e := e.tidy
  let e := if e.state = 0 ∧ e.pin = 0 ∧ e.held = false then default else e
  { s with dir := { s.dir with entry := s.dir.entry.set k e } }

/-- The set that serves a fabric address on a die, after bank retirements (R180). -/
def State.servedSet (s : State) (d fa : Nat) : Nat :=
  let set := setOf fa
  set - set % 16 + s.foldOf d (set % 16)

/-- The bank that serves a fabric address. -/
def State.servedBank (s : State) (d fa : Nat) : Nat := s.foldOf d (bankOf fa)

/-- The entry of a fabric address's sector (R153). -/
def State.findEntry (s : State) (d fa : Nat) : Option Nat :=
  let set := s.servedSet d fa
  ((List.range 16).map (fun w => entryKey d set w)).find? (fun k =>
    match s.dir.entry.find k with
    | some e => e.tag == tagOf fa && e.fold == bitsOf (setOf fa) 3 2
    | none => false)

/-- The entry's contents, all I where there is none. -/
def State.entryAt (s : State) (d fa : Nat) : DirEntry :=
  match s.findEntry d fa with
  | some k => s.dir.entry.at k
  | none => {}

/-- Change the entry of a sector, where it has one. -/
def State.updEntry (s : State) (d fa : Nat) (f : DirEntry → DirEntry) : State :=
  match s.findEntry d fa with
  | some k => s.putEntry k (f (s.dir.entry.at k))
  | none => s

/-- The state of a line. -/
def State.lineState (s : State) (d fa : Nat) : Nat := (s.entryAt d fa).line (lineNo fa)

/-- A line is pinned. -/
def State.linePinned (s : State) (d fa : Nat) : Bool := (s.entryAt d fa).pin.testBit (lineNo fa)

/-! ## Transactions -/

/-- A home transaction, and its change. -/
def State.homeTxn (s : State) (d id : Nat) : Option HomeTxn := s.dir.txn.find? (fun t => t.req.die == d && t.id == id)
def State.setTxn (s : State) (d id : Nat) (f : HomeTxn → HomeTxn) : State :=
  { s with dir := { s.dir with txn := s.dir.txn.map (fun t => if t.req.die = d ∧ t.id = id then f t else t) } }

/-- A switch-originated recall of a victim (R175): a sweep's request with this mark in place of its kind. -/
def victimMark : Nat := 3
def HomeReq.isVictim (q : HomeReq) : Bool := q.cls == .sweep && q.meta_ == victimMark

/-- A request is for a line: a victim's is for every line of its sector. -/
def HomeReq.isFor (q : HomeReq) (d line : Nat) : Bool :=
  q.die == d && (if q.isVictim then sectorOf q.line == sectorOf line else q.line == line)

/-- A transaction covers a line: a victim its whole sector; a clean eviction covers none. -/
def HomeTxn.covers (t : HomeTxn) (d line : Nat) : Bool := t.req.cls != .cleanEvict && t.req.isFor d line

/-- A line is busy (R156). -/
def State.lineBusy (s : State) (d line : Nat) : Bool :=
  s.dir.txn.any (fun t => t.covers d line) || s.dir.stalled.any (fun t => t.req.die == d && t.req.line == line)

/-- A sector waits to be recalled as a victim (R175). -/
def State.victimQueued (s : State) (d fa : Nat) : Bool := s.dir.queue.any (fun q => q.isVictim && q.isFor d fa)

/-- Some line of a sector is busy. -/
def State.sectorBusy (s : State) (d fa : Nat) : Bool :=
  s.dir.txn.any (fun t => t.req.die == d && t.req.cls != .cleanEvict && sectorOf t.req.line == sectorOf fa) ||
    s.dir.stalled.any (fun t => t.req.die == d && sectorOf t.req.line == sectorOf fa)

/-- The writeback of a line in flight: its latest data (R157). -/
def State.buffered (s : State) (d line : Nat) : Option (Nat × Bool) :=
  ((s.dir.wb.filter (fun w => w.die == d && w.line == line && (w.acked == 0 || w.acked == 3))).getLast?).map (fun w => (w.data, w.poison))

/-- The ABSORB cell that holds the latest writeback of a line, while that has not been acknowledged (R157). -/
def State.absorbCell (s : State) (d line : Nat) : Nat :=
  (((s.dir.wb.filter (fun w => w.die == d && w.line == line && w.owner != .none)).getLast?).map (fun w => w.cell)).getD 0

/-- The home of a die serves: DIR_STATE is ACTIVE, or reads FROZEN on a die that the decision for SAFE has not reached (R182, R417). -/
def State.homeServes (s : State) (d : Nat) : Bool :=
  s.get O.DIR_STATE == 2 || (s.get O.DIR_STATE == 3 && !s.dieSafe d)

/-- A BISnp that has been sent to a host for a line has no answer (R158). -/
def State.snoopOpen (s : State) (d h line : Nat) : Bool :=
  s.dir.snoop.any (fun b => b.die == d && b.host == h && b.line == line && b.sent)

/-- Raise a directory source of a die with the bank as its channel, and set its event bit. -/
def State.dirEvent (s : State) (d loc bit bank addr master typ : Nat) : State :=
  (s.setBit O.DIR_EVENTS bit true).raise (d * 512 + loc) (if bank < 16 then channelId 5 (d * 16 + bank) else 0) addr master typ

/-- A breach of the home's rules (R159, R160). -/
def State.dirBreach (s : State) (d fa h : Nat) : State :=
  (s.count32 (O.PROTOCOL_COUNT d)).dirEvent d F.DIR_PROTOCOL 3 16 fa h 0

/-- A host's message that breaches the rules of the home is discarded and completed with Cmp (R159), which bears no tag of a request
(DESIGN CHOICE, log 96). -/
def State.breachCmp (s : State) (d fa h hpa : Nat) : State :=
  let s := s.dirBreach d fa h
  match s.hostPort h with
  | some p => s.carry d (dieOfPort p) (hostKey h) vcRsp 0 false (s.stamp d) 0
      (.bypass p { type := .cmp 0, kind := .other, channel := 3, host := h, hpa := hpa, origin := s.stamp d, home := d + 1 }) [homeStream d h]
  | none => s

/-- Viral is signalled on a host's upstream port (R168, R178). -/
def State.viralHost (s : State) (h : Nat) : State :=
  match s.hostPort h with
  | some p => s.send (.viral p)
  | none => s

/-! ## Pseudo-LRU (R175) -/

/-- Turn the nodes on the path to a way toward their other subtrees. -/
def touchLru (bits way : Nat) : Nat :=
  [3, 2, 1, 0].foldl (fun b l =>
    let node := (16 + way) / 2 ^ (l + 1)
    let right := (16 + way) / 2 ^ l % 2
    let b := if b.testBit (node - 1) then b - 2 ^ (node - 1) else b
    if right = 0 then b + 2 ^ (node - 1) else b) bits

/-- Some way below a node is eligible. -/
def underNode (elig : Nat → Bool) (node : Nat) : Bool :=
  (List.range 16).any (fun w => elig w && ([1, 2, 4, 8, 16].any (fun k => (16 + w) / k == node)))

/-- Descend to the victim. -/
def lruVictim (elig : Nat → Bool) (bits node fuel : Nat) : Nat :=
  match fuel with
  | 0 => node - 16
  | fuel + 1 =>
    let want := 2 * node + (if bits.testBit (node - 1) then 1 else 0)
    let other := 2 * node + (if bits.testBit (node - 1) then 0 else 1)
    lruVictim elig bits (if underNode elig want then want else other) fuel

/-- A way of a set is used. -/
def State.touchWay (s : State) (k : Nat) : State :=
  { s with dir := { s.dir with lru := s.dir.lru.upd (2 ^ 18 * entryDie k + entrySet k) (fun b => touchLru b (k % 16)) } }

/-- What an allocation finds: a way to take, a victim to recall, or neither (R175, R176). -/
inductive Way where
  | free (key : Nat)
  | victim (key : Nat)
  | none
  deriving DecidableEq, Repr

/-- Look for a way for a sector. -/
def State.findWay (s : State) (d fa : Nat) : Way :=
  let set := s.servedSet d fa
  let key := fun w => entryKey d set w
  let entry := fun w => s.dir.entry.find (key w)
  match (List.range 16).find? (fun w => (entry w).isNone) with
  | some w => .free (key w)
  | none =>
    let elig := fun w => match entry w with
      | some e => e.pin == 0 && !e.held && !s.sectorBusy d (entrySector (key w) e) && !s.victimQueued d (entrySector (key w) e)
      | none => true
    if (List.range 16).any elig then .victim (key (lruVictim elig (s.dir.lru.at (2 ^ 18 * d + set)) 1 4)) else .none

/-! ## Memory accesses of a home (R157, R161) -/

/-- The message of a home for a request. -/
def HomeReq.memMsg (q : HomeReq) (d id : Nat) (write : Bool) (data mask : Nat) (poison : Bool) : Msg :=
  { type := .req, kind := if write then .write else .read, channel := if write then 1 else 0,
    opcode := if write then (if mask = 2 ^ 64 - 1 then 1 else 2) else 1,
    owner := if write then .homeWrite d id else .homeRead d id, host := q.host, tenant := q.tenant, colour := q.colour, cls := q.tcls,
    hpa := 0, data := data, mask := mask, poison := poison, len := if write then 64 else 0 }

/-- The channel a home's memory message takes: migration, mover and group traffic on MNT (R218). -/
def HomeReq.memVc (q : HomeReq) : Nat :=
  match q.cls with | .applyWrite | .moverRead | .moverWrite | .sweep => vcMnt | _ => vcReq

/-- A memory message of a home goes to the target that its request's translation gave (R136); one that the home originates is
translated now (R123). -/
def State.homeMemory (s : State) (d : Nat) (q : HomeReq) (vc : Nat) (bypass : Bool) (m : Msg) : State :=
  match q.target with
  | some t => s.toTarget d q.line vc bypass t { m with fa := q.line, hasFa := true, epoch := q.epoch }
  | none => s.toMemory d q.line vc bypass m

/-- The cell of a home's memory message: that of the request it serves, or for an atomic one of INTERNAL (R214); none where INTERNAL
has none free, and the access waits (R216). -/
def State.homeCell (s : State) (d : Nat) (q : HomeReq) (cell : Nat) : Option (Nat × State) :=
  if q.cls = .atomic then
    let got := s.allocCell d poolInternal 0
    if got.1 = 0 then none else some got
  else some (cell, s)

/-- Issue the memory read of a transaction. -/
def State.homeRead (s : State) (d id : Nat) (q : HomeReq) : State :=
  match s.homeCell d q q.cell with
  | none => s.setTxn d id (fun t => { t with stuck := true })
  | some (cell, s) =>
    (s.setTxn d id (fun t => { t with reading := true, stuck := false, req := { t.req with cell := 0 } })).homeMemory d q q.memVc false
      { q.memMsg d id false 0 0 false with origin := s.stamp d, cell := cell }

/-- A buffered line has still to be sent, for want of a cell. -/
def State.writeWaits (s : State) (d line : Nat) : Bool := s.dir.wb.any (fun w => w.die == d && w.line == line && w.acked == 3)

/-- Issue the memory write of a transaction, after that of any buffered line (R161, R168). -/
def State.homeWrite (s : State) (d id : Nat) (q : HomeReq) (data mask : Nat) (poison : Bool) (cell : Nat) : State :=
  match if s.writeWaits d q.line then none else s.homeCell d q cell with
  | none => s.setTxn d id (fun t => { t with stuck := true, store := some (data, mask, poison) })
  | some (cell, s) =>
    (s.setTxn d id (fun t => { t with writing := true, stuck := false, store := none, cell := 0, req := { t.req with cell := 0 } })).homeMemory d q
      q.memVc false { q.memMsg d id true data mask poison with origin := s.stamp d, cell := cell }

/-- A cell's charge moves to ABSORB (R215). -/
def State.toAbsorb (s : State) (d cell : Nat) : State :=
  if cell = 0 then s
  else
    let c := s.cellAt d (cellNo cell)
    if c.pool = poolIngress ∨ c.pool = poolLink then
      let s := s.put (poolObj d c.pool) (s.get (poolObj d c.pool) - 1)
      let s := s.put (poolObj d poolAbsorb) (s.get (poolObj d poolAbsorb) + 1)
      let s := s.setCell d (cellNo cell) (fun c => { c with pool := poolAbsorb, loop := 0, want := 0 })
      (s.refound d (cellNo cell) c.pool poolAbsorb).returnCredit c
    else s

/-- Put the memory write of a buffered line on its way: a host's writeback from its ABSORB cell, a lost line from one of INTERNAL, for
which it waits where none is free (R157, R214, R216). -/
def State.sendBuffered (s : State) (w : WriteBack) : State :=
  let d := w.die
  let m := { w.req.memMsg d w.id true w.data (2 ^ 64 - 1) w.poison with origin := s.stamp d }
  let set := fun (s : State) (n : Nat) =>
    { s with dir := { s.dir with wb := s.dir.wb.map (fun (x : WriteBack) => if x.die = d ∧ x.id = w.id then { x with acked := n } else x) } }
  if w.owner = .none then
    let got := s.allocCell d poolInternal 0
    if got.1 = 0 then set s 3 else (set got.2 0).homeMemory d w.req w.req.memVc true { m with cell := got.1 }
  else (set s 0).homeMemory d w.req w.req.memVc true { m with cell := w.cell }

/-- A writeback is absorbed, or a lost line written with poison: the data are buffered and the memory write issued
(R157, R168). -/
def State.bufferWrite (s : State) (d line data : Nat) (poison : Bool) (h : Nat) (owner : Owner) (q : HomeReq) (cell : Nat) : State :=
  let id := s.dir.serial
  let s := s.toAbsorb d cell
  let w : WriteBack := { die := d, id := id, line := line, data := data, poison := poison, host := h, owner := owner, cell := cell, acked := 0, req := q }
  { s with dir := { s.dir with serial := id + 1, wb := s.dir.wb ++ [w] } }.sendBuffered w

/-- Write a line to memory with poison and count it (R168, R169). -/
def State.poisonLine (s : State) (d line : Nat) : State :=
  (s.count32 O.OWNER_LOST_COUNT).bufferWrite d line 0 true 0xFF .none { die := d, line := line, cls := .memWrite } 0

/-! ## Replies (R155) -/

/-- A home answers the one who asked; `synth` marks an access that completed under R102, or under R103 where `data` is 1. -/
def State.replyWith (s : State) (d : Nat) (q : HomeReq) (type : MsgType) (data : Nat) (poison synth : Bool) (cell : Nat) : State :=
  let hasData := match type with | .data _ => true | _ => false
  match q.owner with
  | .tracker e n =>
    s.carry d e (hostKey q.host) vcRsp (b2n hasData) false (s.stamp d) cell (.answer (8192 * e + n) type (if synth then 0 else data) poison 0 (some (s.stamp d)))
      [homeStream d q.host]
  | .host h tag =>
    let st := match type with | .ioCpl c => c | _ => 0
    (s.leaveCell d cell).ioToHost d h tag st data (if st = 0 then q.atomic.size else 0) (home := d + 1) (tenant := q.tenant)
  | .apply h k line =>
    (s.leaveCell d cell).carry d (s.hostDie h) (hostKey h) vcMnt 0 true (s.stamp d) 0
      (.group { kind := 3, host := h, slot := k, line := line, status := if poison || synth then stPoison else stOk, gen := q.gen })
  | .mover e g n =>
    s.carry d e (2 ^ 20 * g + n) vcMnt (b2n hasData) true (s.stamp d) cell
      (.deliver e (.mover e g n) (if hasData then .read else .write) data poison synth 0)
  | .debug =>
    s.carry d 0 0 vcMnt (b2n hasData) true (s.stamp d) cell (.deliver 0 .debug (if hasData then .read else .write) data poison synth 0)
  | _ => s.leaveCell d cell

/-- A home answers the one who asked. -/
def State.reply (s : State) (d : Nat) (q : HomeReq) (type : MsgType) (data : Nat) (poison : Bool) (cell : Nat) : State :=
  s.replyWith d q type data poison false cell

/-- An answer from a home to a group (R193, R200, R201). -/
def State.tellGroup (s : State) (d kind h k line status gen : Nat) : State :=
  s.carry d (s.hostDie h) (hostKey h) vcMnt 0 true (s.stamp d) 0
    (.group { kind := kind, host := h, slot := k, line := line, status := status, gen := gen })

/-- Every group of another host that holds a mark on a line is told of the conflict (R199). -/
def State.markConflict (s : State) (d line h : Nat) : State :=
  forEach (s.grp.mark.filter (fun m => m.die == d && m.line == line && m.host != h)) (fun m s =>
    s.tellGroup d 4 m.host m.slot line stConflict m.gen) s

/-! ## Back-invalidates (R158, R162, R167) -/

/-- A transaction of a host for a line is in service, so that a BISnp for it must follow its completion (R158). -/
def State.servingFor (s : State) (d h line id : Nat) : Bool :=
  s.dir.txn.any (fun t => t.req.die == d && t.id != id && t.req.line == line && t.req.host == h && t.req.owner != .none &&
    (match t.req.owner with | .tracker _ _ => true | _ => false))

/-- A BISnp can be sent: its host has a window for the line and its port is UP (R162). -/
def State.canSnoop (s : State) (h line : Nat) : Bool :=
  (s.decCovering h line).isSome && (match s.hostPort h with | some p => s.linkState p == lsUp | none => false)

/-- The HPA that a BISnp carries (R162). -/
def State.snoopHpa (s : State) (b : Snoop) : Nat :=
  match s.decCovering b.host b.line with | some n => (s.decoder n).invert b.line | none => b.hpa

/-- Put a set of BISnp on their way as one multicast cell (R167); they wait where INTERNAL has none free (R216). -/
def State.sendSnoops (s : State) (d : Nat) (bs : List Snoop) : State :=
  if bs.isEmpty then s
  else
    let got := s.allocCell d poolInternal 0
    if got.1 = 0 then s
    else
      let s := { got.2 with dir := { got.2.dir with snoop := got.2.dir.snoop.map (fun b =>
        if bs.contains b then { b with sent := true, since := s.elapsed d, hpa := s.snoopHpa b } else b) } }
      let many := decide (1 < bs.length)
      let parts := bs.filterMap (fun b => (s.hostPort b.host).map (fun p =>
        (dieOfPort p, hostKey b.host, Act.bypass p { type := .bisnp b.kind, kind := .other, channel := 5, opcode := b.kind, host := b.host,
                                                     fa := b.line, hasFa := true, hpa := s.snoopHpa b, origin := s.stamp d, mcast := many,
                                                     home := d + 1 })))
      let s := forEach bs (fun b s =>
        let s := (s.count32 (O.BI_SENT d)).perfCount d evBisnpSent (s.servedBank d b.line) noTenant 1
        match s.regionOf b.line with | some r => s.count32 (O.SR_BI_SENT r) | none => s) s
      s.spread d { parts := parts, vc := vcSnp, long := many, origin := s.stamp d, cell := got.1, order := bs.map (fun b => homeStream d b.host) }

/-- The BISnp of a transaction that have not gone and need not wait for the completion of their host's own transaction go (R158). -/
def State.sendDue (s : State) (d id : Nat) : State :=
  s.sendSnoops d (s.dir.snoop.filter (fun b => b.die == d && b.txn == id && !b.sent && !s.servingFor d b.host b.line id &&
    s.canSnoop b.host b.line))

/-- Ask hosts for lines on behalf of a transaction: those whose port is UP and who have a window for the line are sent a
BISnp, or will be once their own request for it is completed; the others count as having answered BIRspI (R158, R162). -/
def State.askHosts (s : State) (d id : Nat) (targets : List (Nat × Nat × Nat)) : State :=
  let mk : Nat × Nat × Nat → Option Snoop := fun t =>
    if s.canSnoop t.1 t.2.1 then
      some ({ die := d, txn := id, host := t.1, line := t.2.1, hpa := 0, kind := t.2.2, since := s.elapsed d, sent := false } : Snoop)
    else none
  let s := { s with dir := { s.dir with snoop := s.dir.snoop ++ targets.filterMap mk } }.sendDue d id
  forEach (targets.filter (fun t => (mk t).isNone)) (fun t s =>
    if t.2.2 = 0 then
      s.updEntry d t.2.1 (fun e => if e.line (lineNo t.2.1) = lineE ∧ e.owner = t.1 then e.setLine (lineNo t.2.1) lineI else e)
    else s) s

/-- Every BISnp that may go now goes: those that waited for a host's completion or for a cell. -/
def State.sendWaitingSnoops (s : State) : State :=
  forEach ((s.dir.snoop.filter (fun b => !b.sent)).map (fun b => (b.die, b.txn))).eraseDups (fun x s => s.sendDue x.1 x.2) s

/-! ## Ends of transactions -/

/-- A grant of a line in S or E: SR_HELD, and the recalls that run (R150). -/
def State.noteGrant (s : State) (line h : Nat) : State :=
  match s.regionOf line with
  | none => s
  | some r =>
    let s := s.setBit (O.SR_HELD r) h true
    { s with dir := { s.dir with sweep := s.dir.sweep.map (fun w =>
                                 if w.kind = 0 ∧ w.arg = r then { w with granted := maskOf (h :: hostsIn w.granted) } else w) } }

/-- A transaction is over: the line is free, the BISnp that waited go out, and the line's queue goes on. -/
def State.endTxn (s : State) (t : HomeTxn) : State :=
  let d := t.req.die
  let s := { s with dir := { s.dir with txn := s.dir.txn.filter (fun u => !(u.req.die == d && u.id == t.id)) } }
  let s := if s.sectorBusy d t.req.line then s else s.updEntry d t.req.line (fun e => { e with held := false })
  ((s.freeCell d t.req.cell).sendWaitingSnoops).owe (.kick d t.req.line)

/-- The data a transaction has: the owner's, else the buffered, else the memory's (R157, R161, R164). -/
def State.txnData (s : State) (t : HomeTxn) : Option (Nat × Bool) :=
  t.owned.orElse (fun _ => (s.buffered t.req.die t.req.line).orElse (fun _ => t.memory))

/-- The absorbed data that a transaction takes are read out of their ABSORB cell, if it holds them still (R157, R213). -/
def State.readAbsorbed (s : State) (t : HomeTxn) : Bool × State :=
  if t.owned.isSome || (s.buffered t.req.die t.req.line).isSome then s.readIn t.req.die (s.absorbCell t.req.die t.req.line) else (false, s)

/-- A transaction's completion is sent and it ends. -/
def State.completeTxn (s : State) (t : HomeTxn) (data : Nat) (poison : Bool) : State :=
  let d := t.req.die
  let s := if t.grant = 0 then s else s.noteGrant t.req.line t.req.host
  let fwd := t.need && (t.owned.isSome || (s.buffered d t.req.line).isSome)
  let s := if fwd then s.perfCount d evDirForward (s.servedBank d t.req.line) noTenant 1 else s
  let synth := t.synth && t.owned.isNone && (s.buffered d t.req.line).isNone
  let (ue, s) := if fwd then s.readAbsorbed t else (false, s)
  let s := s.replyWith d t.req (if t.need then .data t.grant else .cmp t.grant) (if synth then t.why else data) (poison || ue) synth t.cell
  s.endTxn t

/-- E lines of a sector that another host owns (R154). -/
def State.otherOwned (s : State) (d line r : Nat) : List (Nat × Nat × Nat) :=
  let e := s.entryAt d line
  if e.has lineE ∧ e.owner ≠ r then
    ((List.range 4).filter (fun i => e.line i == lineE)).map (fun i => (e.owner, sectorOf line + 64 * i, 0))
  else []

/-- Carry out what a transaction ends with, once its answers and data are there (R161, R172, R177). -/
def State.finishTxn (s : State) (t : HomeTxn) (data : Nat) (poison : Bool) : State :=
  let d := t.req.die
  let q := t.req
  let i := lineNo q.line
  match t.plan with
  | 2 =>
    let s := s.updEntry d q.line (fun e =>
      let old := if t.keeps then (match t.source with | some o => hostsIn e.sharers ++ [o] | none => hostsIn e.sharers) else hostsIn e.sharers
      { (e.setLine i lineS) with sharers := maskOf (q.host :: old) })
    s.completeTxn t data poison
  | 3 =>
    match s.otherOwned d q.line q.host with
    | [] => (s.updEntry d q.line (fun e => { (e.setLine i lineE) with owner := q.host })).completeTxn t data poison
    | ts =>
      let s := s.askHosts d t.id ts
      if s.dir.snoop.any (fun b => b.die == d && b.txn == t.id) then s
      else (s.updEntry d q.line (fun e => { (e.setLine i lineE) with owner := q.host })).completeTxn t data poison
  | 4 =>
    let s := s.updEntry d q.line (fun e => e.setLine i lineI)
    s.homeWrite d t.id q q.data q.mask q.poison t.cell
  | 5 =>
    let (ue, s) := (s.updEntry d q.line (fun e => e.setLine i lineI)).readAbsorbed t
    if poison || ue then
      let s := s.atomicPoison d q.line q.host
      (s.reply d q (.ioCpl cplCa) 0 false t.cell).endTxn t
    else
      let (old, new) := q.atomic.apply q.slot data
      (s.setTxn d t.id (fun t => { t with original := old })).homeWrite d t.id q new (2 ^ 64 - 1) false t.cell
  | 6 =>
    let s := s.updEntry d q.line (fun e => e.setLine i lineI)
    let mine := s.grp.mark.any (fun m => m.die == d && m.line == q.line && m.host == q.host && m.slot == q.slot)
    let s := if mine then s.tellGroup d 2 q.host q.slot q.line stOk q.gen
             else s.updEntry d q.line (fun e => if e.pin.testBit i then { e with pin := e.pin - 2 ^ i } else e)
    s.endTxn t
  | 7 =>
    let w := s.dir.sweep.find? (fun w => w.die == d && w.serial == q.slot)
    let last := !((s.dir.queue ++ (s.dir.txn.filter (fun u => u.id != t.id)).map (fun u => u.req)).any (fun r =>
      r.cls == .sweep && r.die == d && r.slot == q.slot && !r.isVictim && sectorOf r.line == sectorOf q.line))
    let gone := maskWithout q.hosts (match w with | some w => w.granted | none => 0)
    let s := s.updEntry d q.line (fun e =>
      let e := if (e.line i = lineE ∧ q.hosts.testBit e.owner = true) ∨ (e.line i = lineS ∧ maskWithout e.sharers q.hosts = 0) then e.setLine i lineI
               else e
      if last then { e with sharers := maskWithout e.sharers gone } else e)
    s.endTxn t
  | 8 =>
    let s := s.updEntry d q.line (fun e => { e with state := 0, sharers := 0, held := false })
    let s := (s.count32 (O.VICTIMS d)).perfCount d evDirVictims (s.servedBank d q.line) noTenant 1
    let s := match s.dir.stalled.find? (fun x => x.req.die == d && x.victim == some q.line) with
      | some x => s.owe (.serve x.req)
      | none => s
    s.endTxn t
  | 9 =>
    let line := (List.range 64).foldl (fun a k => if q.mask.testBit k then linePut a k 1 (lineGet q.data k 1) else a) data
    let (ue, s) := s.readAbsorbed t
    s.homeWrite d t.id q line (2 ^ 64 - 1) (poison || q.poison || ue) t.cell
  | _ => s.completeTxn t data poison

/-- A transaction goes on when every answer is in, no BISnp to its host for its line is open (R158), and its data are there
or are now fetched (R157). -/
def State.advance (s : State) (d id : Nat) : State :=
  match s.homeTxn d id with
  | none => s
  | some t =>
    if t.writing || t.store.isSome || s.dir.snoop.any (fun b => b.die == d && b.txn == id) || s.snoopOpen d t.req.host t.req.line then s
    else
      let need := t.need || t.plan = 5 || t.plan = 9
      if !need then s.finishTxn t 0 false
      else match s.txnData t with
        | some (v, p) => s.finishTxn t v (p || t.lost)
        | none => if t.reading then s else s.homeRead d id t.req

/-- The homes' accesses and lost lines that waited for an INTERNAL cell go on (R216). -/
def State.unstick (s : State) : State :=
  let s := forEach (s.dir.wb.filter (fun w => w.acked == 3)) (fun w s => s.sendBuffered w) s
  (forEach (s.dir.txn.filter (fun t => t.stuck)) (fun t s =>
    match t.store with
    | some (v, mask, poison) => s.homeWrite t.req.die t.id t.req v mask poison t.cell
    | none => s.homeRead t.req.die t.id t.req) s).sendWaitingSnoops

/-- Start a transaction: it takes its place, asks its hosts, reads memory where its flow does so at once, and goes on. -/
def State.beginTxn (s : State) (t : HomeTxn) (targets : List (Nat × Nat × Nat)) : State :=
  let d := t.req.die
  let id := s.dir.serial
  let t := { t with id := id }
  let s := { s with dir := { s.dir with serial := id + 1, txn := s.dir.txn ++ [t] } }
  let s := s.askHosts d id targets
  let s := if t.need && (s.buffered d t.req.line).isNone then s.homeRead d id t.req else s
  s.advance d id

/-- A bank's key. -/
def bankKey (d bank : Nat) : Nat := 16 * d + bank

/-- The present core cycle of a home die, as one number above 0. -/
def State.homeCycle (s : State) (d : Nat) : Nat := s.elapsed d * 64 + (s.time d).sub + 1

/-- A MemWr is a writeback (R159): of the owner, or of a host that has a BISnp unanswered. -/
def State.isWriteback (s : State) (q : HomeReq) : Bool :=
  let e := s.entryAt q.die q.line
  q.cls == .memWrite && q.full && ((e.line (lineNo q.line) == lineE && e.owner == q.host) || s.snoopOpen q.die q.host q.line)

/-- A request joins its bank's queue in arrival order; those of one core cycle in rotation from the bank's pointer (R156).
A writeback or a clean eviction, which the bank absorbs at once, takes no part in the rotation (R157). -/
def State.queueHome (s : State) (q : HomeReq) : State :=
  let now := s.homeCycle q.die
  let bank := fun (x : HomeReq) => bankKey x.die (s.servedBank x.die x.line)
  let b := bank q
  let r := s.dir.rot.at b
  let r := if r.cycle = now then r else { start := r.next, cycle := now, next := r.next }
  let rank := fun p => (p + 129 - r.start % 129) % 129
  let q := { q with arrived := now }
  let absorbed := fun (x : HomeReq) => x.cls == .cleanEvict || s.isWriteback x
  let later := fun (x : HomeReq) => bank x == b && x.arrived == now && !absorbed x && decide (rank q.port < rank x.port)
  if absorbed q then { s with dir := { s.dir with queue := s.dir.queue ++ [q] } }
  else
    let before := s.dir.queue.takeWhile (fun x => !later x)
    let after := s.dir.queue.dropWhile (fun x => !later x)
    let r := { r with next := if after.any later then r.next else (q.port + 1) % 129 }
    { s with dir := { s.dir with queue := before ++ [q] ++ after, rot := s.dir.rot.set b r } }

/-! ## Serving a request (R161) -/

/-- Take a way for a sector, or begin to recall a victim, or wait (R175, R176). True when the sector has its entry. -/
def State.takeWay (s : State) (q : HomeReq) : Bool × State :=
  let d := q.die
  match s.findEntry d q.line with
  | some k => (true, (s.putEntry k { (s.dir.entry.at k) with held := true }).touchWay k)
  | none =>
    match s.findWay d q.line with
    | .free k =>
      (true, (s.putEntry k { fold := bitsOf (setOf q.line) 3 2, tag := tagOf q.line, held := true }).touchWay k)
    | .victim k =>
      let base := entrySector k (s.dir.entry.at k)
      let s := { s with dir := { s.dir with stalled := s.dir.stalled ++ [({ req := q, since := 0, victim := some base } : Stalled)] } }
      (false, s.queueHome { cls := .sweep, meta_ := victimMark, die := d, line := base })
    | .none => (false, { s with dir := { s.dir with stalled := s.dir.stalled ++ [({ req := q, since := s.elapsed d + 1 } : Stalled)] } })

/-- The hosts of a mask but one, asked for a line with a kind of BISnp. -/
def askMask (mask without line kind : Nat) : List (Nat × Nat × Nat) :=
  ((hostsIn mask).filter (· != without)).map (fun h => (h, line, kind))

/-- A read shared. -/
def State.serveRdS (s : State) (q : HomeReq) : State :=
  let e := s.entryAt q.die q.line
  let i := lineNo q.line
  if e.line i = lineE then
    if e.owner = q.host then s.beginTxn { req := q, plan := 1, grant := 2, need := true } []
    else (s.takeWay q).2.beginTxn { req := q, plan := 2, grant := 1, need := true, source := some e.owner } [(e.owner, q.line, 1)]
  else
    let (ok, s) := s.takeWay q
    if ok then
      let s := s.updEntry q.die q.line (fun e => { (e.setLine i lineS) with sharers := maskOf (q.host :: hostsIn e.sharers) })
      s.beginTxn { req := q, plan := 1, grant := 1, need := true } []
    else s

/-- A read for ownership. -/
def State.serveRdOwn (s : State) (q : HomeReq) : State :=
  let e := s.entryAt q.die q.line
  let i := lineNo q.line
  if e.line i = lineE ∧ e.owner = q.host then s.beginTxn { req := q, plan := 1, grant := 2, need := true } []
  else
    let (ok, s) := s.takeWay q
    if ok then
      let e := s.entryAt q.die q.line
      let sharers := if e.line i = lineS then askMask e.sharers q.host q.line 0 else []
      s.beginTxn { req := q, plan := 3, grant := 2, need := true,
                   source := if e.line i = lineE then some e.owner else none } (sharers ++ s.otherOwned q.die q.line q.host)
    else s

/-- An upgrade. -/
def State.serveUpgrade (s : State) (q : HomeReq) : State :=
  let e := s.entryAt q.die q.line
  let s := s.freeCell q.die q.cell
  if e.line (lineNo q.line) = lineS ∧ e.sharers.testBit q.host = true then
    (s.takeWay { q with cell := 0 }).2.beginTxn { req := { q with cell := 0 }, plan := 3, grant := 2 } (askMask e.sharers q.host q.line 0 ++ s.otherOwned q.die q.line q.host)
  else s.beginTxn { req := { q with cell := 0 }, plan := 1 } []

/-- A current read. -/
def State.serveRdCur (s : State) (q : HomeReq) : State :=
  let e := s.entryAt q.die q.line
  if e.line (lineNo q.line) = lineE ∧ e.owner ≠ q.host then
    s.beginTxn { req := q, plan := 1, need := true, source := some e.owner } [(e.owner, q.line, 2)]
  else s.beginTxn { req := q, plan := 1, need := true } []

/-- A write, a mover's among them: every holder is recalled, then the data go to memory. -/
def State.serveWrite (s : State) (q : HomeReq) : State :=
  let e := s.entryAt q.die q.line
  s.beginTxn { req := q, plan := 4, cell := q.cell } (askMask (e.holders (lineNo q.line)) 64 q.line 0)

/-- An atomic (R172). -/
def State.serveAtomic (s : State) (q : HomeReq) : State :=
  let e := s.entryAt q.die q.line
  let s := s.freeCell q.die q.cell
  let q := { q with cell := 0 }
  let src := if e.line (lineNo q.line) = lineE then some e.owner else none
  s.beginTxn { req := q, plan := 5, source := src } (askMask (e.holders (lineNo q.line)) 64 q.line 0)

/-- Group A is older than group B: stamp, then host, then slot (R200). -/
def olderGroup (st h k st' h' k' : Nat) : Bool :=
  decide (st < st') || (st == st' && (decide (h < h') || (h == h' && decide (k < k'))))

/-- The claimed marks of other, older groups on a line (R200). -/
def State.olderClaims (s : State) (q : HomeReq) : List Mark :=
  s.grp.mark.filter (fun m => m.die == q.die && m.line == q.line && m.claimed &&
    !(m.host == q.host && m.slot == q.slot) && olderGroup m.stamp m.host m.slot q.stamp q.host q.slot)

/-- Change the marks of a group on a line. -/
def State.setMarks (s : State) (d line h k : Nat) (f : Mark → Mark) : State :=
  { s with grp := { s.grp with mark := s.grp.mark.map (fun m =>
                               if m.die = d ∧ m.line = line ∧ m.host = h ∧ m.slot = k then f m else m) } }

/-- A pin (R177, R201). -/
def State.servePin (s : State) (q : HomeReq) : State :=
  let d := q.die
  let i := lineNo q.line
  let e := s.entryAt d q.line
  let set := s.servedSet d q.line
  let pinnedWays := ((List.range 16).filter (fun w => (s.dir.entry.at (entryKey d set w)).pin != 0)).length
  let served := fun (s : State) holds => s.setMarks d q.line q.host q.slot (fun m => { m with pinned := true, holds := holds })
  if e.pin.testBit i then (served s false).tellGroup d 2 q.host q.slot q.line stConflict q.gen
  else if e.pin = 0 ∧ 4 ≤ pinnedWays then (served s false).tellGroup d 2 q.host q.slot q.line stLimit q.gen
  else
    let (ok, s) := s.takeWay q
    if ok then
      let s := served s true
      let e := s.entryAt d q.line
      let s := s.updEntry d q.line (fun e => { e with pin := e.pin + 2 ^ i })
      let s := forEach (s.grp.mark.filter (fun m => m.die == d && m.line == q.line && !(m.host == q.host && m.slot == q.slot)))
        (fun m s => s.tellGroup d 4 m.host m.slot q.line stConflict m.gen) s
      s.beginTxn { req := q, plan := 6 } (askMask (e.holders i) 64 q.line 0)
    else s

/-- A claim (R200). -/
def State.serveClaim (s : State) (q : HomeReq) : State :=
  if s.linePinned q.die q.line || !(s.olderClaims q).isEmpty then s.tellGroup q.die 1 q.host q.slot q.line stConflict q.gen
  else
    let s := s.setMarks q.die q.line q.host q.slot (fun m => { m with claimed := true, stamp := q.stamp })
    s.tellGroup q.die 1 q.host q.slot q.line stOk q.gen

/-- The marks of a die that are in use. -/
def State.marksOf (s : State) (d : Nat) : Nat := (s.grp.mark.filter (fun m => m.die == d)).length

/-- SLT_PEAK takes in the marks of a die that are in use, before some of them go and after some have come (R211). -/
def State.notePeak (s : State) (d : Nat) : State :=
  if s.get O.SLT_PEAK < s.marksOf d then s.put O.SLT_PEAK (s.marksOf d) else s

/-- A mark (R193). -/
def State.serveMark (s : State) (q : HomeReq) : State :=
  let m : Mark := { die := q.die, line := q.line, host := q.host, slot := q.slot, gen := q.gen, claimed := false, stamp := 0, pinned := false }
  let s := { s with grp := { s.grp with mark := s.grp.mark ++ [m] } }
  (s.notePeak q.die).tellGroup q.die 0 q.host q.slot q.line stOk q.gen

/-- An unpin: the PIN bit and the group's marks on the line go, and the waiting requests are served (R177, R202). -/
def State.serveUnpin (s : State) (q : HomeReq) : State :=
  let i := lineNo q.line
  let s := (s.updEntry q.die q.line (fun e => if e.pin.testBit i then { e with pin := e.pin - 2 ^ i } else e)).notePeak q.die
  let s := { s with grp := { s.grp with mark := s.grp.mark.filter (fun m =>
                                        !(m.die == q.die && m.line == q.line && m.host == q.host && m.slot == q.slot)) } }
  s.owe (.kick q.die q.line)

/-- An apply write passes the pin (R202). -/
def State.serveApply (s : State) (q : HomeReq) : State :=
  if q.mask = 2 ^ 64 - 1 then s.beginTxn { req := q, plan := 4, cell := q.cell } []
  else s.beginTxn { req := q, plan := 9, cell := q.cell } []

/-- A sweep takes up a held line (R150, R169, R170, R181), or a victim's sector is recalled (R175). A recall and a bank's retirement ask
the hosts concerned; a drop takes the lost host out, and writes poison for a line that it owned. -/
def State.serveSweep (s : State) (q : HomeReq) : State :=
  let d := q.die
  let i := lineNo q.line
  let e := s.entryAt d q.line
  if q.meta_ = victimMark then
    let asks := ((List.range 4).map (fun i => (hostsIn (e.holders i)).map (fun h => (h, q.line + 64 * i, 0)))).flatten
    s.beginTxn { req := q, plan := 8 } asks
  else if q.meta_ = 1 then
    let lost := e.line i = lineE ∧ q.hosts.testBit e.owner = true
    let s := s.updEntry d q.line (fun e =>
      let e := if lost then e.setLine i lineI else e
      let sh := maskWithout e.sharers q.hosts
      if sh = 0 then (List.range 4).foldl (fun (x : DirEntry) j => if x.line j = lineS then x.setLine j lineI else x) { e with sharers := 0 }
      else { e with sharers := sh })
    let s := if lost then (s.poisonLine d q.line).dirEvent d F.OWNER_LOST 6 16 q.line e.owner 0 else s
    s.beginTxn { req := q, plan := 0 } []
  else s.beginTxn { req := q, plan := 7 } ((hostsIn (maskAnd (e.holders i) q.hosts)).map (fun h => (h, q.line, 0)))

/-- A clean eviction is absorbed (R157, R161, R166). -/
def State.serveCleanEvict (s : State) (q : HomeReq) : State :=
  let d := q.die
  let i := lineNo q.line
  let e := s.entryAt d q.line
  let s := s.freeCell d q.cell
  let others := (List.range 4).filter (fun j => j != i && e.line j == lineS)
  if e.line i = lineE ∧ e.owner = q.host then
    (s.updEntry d q.line (fun e => e.setLine i lineI)).beginTxn { req := q, plan := 1 } []
  else if e.line i = lineS ∧ e.sharers.testBit q.host = true then
    let s := s.updEntry d q.line (fun e =>
      let sh := maskWithout e.sharers (2 ^ q.host)
      if sh = 0 then (List.range 4).foldl (fun (e : DirEntry) j => if e.line j = lineS then e.setLine j lineI else e) { e with sharers := 0 }
      else { e with sharers := sh })
    let s := s.askHosts d 0 (others.map (fun j => (q.host, sectorOf q.line + 64 * j, 0)))
    s.beginTxn { req := q, plan := 1 } []
  else s.beginTxn { req := q, plan := 1 } []

/-- A writeback is absorbed (R157, R159): its MetaValue gives the host's remaining state. -/
def State.absorb (s : State) (q : HomeReq) : State :=
  let d := q.die
  let i := lineNo q.line
  let s := s.updEntry d q.line (fun e =>
    if e.line i = lineE ∧ e.owner = q.host then
      if q.meta_ = metaA then e
      else if q.meta_ = metaS then { (e.setLine i lineS) with sharers := maskOf (q.host :: hostsIn e.sharers) }
      else e.setLine i lineI
    else e)
  let s := { s with dir := { s.dir with txn := s.dir.txn.map (fun (t : HomeTxn) =>
                                        if t.req.die = d ∧ t.req.line = q.line ∧ t.source = some q.host then { t with owned := some (q.data, q.poison) } else t) } }
  s.bufferWrite d q.line q.data q.poison q.host q.owner q q.cell

/-- The ECC of the entry that a lookup reads (R178). An uncorrectable entry frees its way. -/
def State.entryError (s : State) (k ecc : Nat) : State :=
  let d := entryDie k
  let bank := entrySet k % 16
  if ecc = 1 then (s.count32 (O.DIR_CE_COUNT d)).dirEvent d F.DIR_CE 0 bank 0 (0x700 + d) 0
  else if ecc = 2 then
    let s := { s with dir := { s.dir with entry := s.dir.entry.drop k } }
    let hosts := (s.regions.map (fun r => hostsIn (s.get (O.SR_HOSTS r)))).flatten
    let s := forEach (s.portsWith roleUpstream) (fun p s =>
      if hosts.contains (s.get (O.HOST_ID p)) then s.send (.viral p) else s) s
    (s.count32 (O.DIR_UE_COUNT d)).dirEvent d F.DIR_UE 1 bank 0 (0x700 + d) 0
  else s

/-- A lookup (R184): the ECC event of the set it reads, of way `ecc / 4` (R178), the pseudo-LRU of a match, and the counters. -/
def State.lookupEntry (s : State) (q : HomeReq) (ecc : Nat) : State :=
  let d := q.die
  let bank := s.servedBank d q.line
  let s := (s.perfCount d evDirLookup bank noTenant 1).entryError (entryKey d (s.servedSet d q.line) (ecc / 4 % 16)) (ecc % 4)
  match s.findEntry d q.line with
  | none => s
  | some k =>
    let e := s.dir.entry.at k
    if e.state = 0 ∧ e.pin = 0 then s else (s.touchWay k).perfCount d evDirHit bank noTenant 1

/-- What each class does at the home (R160, R161). -/
def State.serveClass (s : State) (q : HomeReq) : State :=
  match q.cls with
  | .rdS => s.serveRdS q
  | .rdOwn => s.serveRdOwn q
  | .upgrade => s.serveUpgrade q
  | .rdCur => s.serveRdCur q
  | .moverRead => s.serveRdCur q
  | .memWrite => s.serveWrite q
  | .moverWrite => s.serveWrite q
  | .atomic => s.serveAtomic q
  | .cleanEvict => s.serveCleanEvict q
  | .pin => s.servePin q
  | .claim => s.serveClaim q
  | .mark => s.serveMark q
  | .unpin => s.serveUnpin q
  | .applyWrite => s.serveApply q
  | .sweep => s.serveSweep q
  | .cancel => s
  | .bad => ((s.freeCell q.die q.cell).dirBreach q.die q.line q.host).reply q.die q (if q.asksData then .data 0 else .cmp 0) 0 q.asksData 0
  | .specRd => s.freeCell q.die q.cell

/-- Serve a request whose turn has come: the lookup, the conflict with marks of other groups (R199), and its flow. -/
def State.serve (s : State) (q : HomeReq) (ecc : Nat) : State :=
  let s := match q.cls with
    | .claim | .mark | .unpin | .cancel | .bad | .specRd => s
    | _ => s.lookupEntry q ecc
  let s := match q.cls with
    | .rdOwn | .upgrade | .memWrite | .atomic => s.markConflict q.die q.line q.host
    | .moverWrite => if q.slot = 0 then s.markConflict q.die q.line 64 else s
    | _ => s
  s.serveClass q

/-! ## The queues of a home (R156) -/

/-- The sweeping bit of a bank. -/
def State.bankSweeping (s : State) (d bank : Nat) : Bool := s.bit (O.BANK_STATE d) (16 + bank)

/-- A request may pass the pin of its line, or has none to pass (R177, R201). -/
def State.passesPin (s : State) (q : HomeReq) : Bool :=
  match q.cls with
  | .claim | .unpin | .applyWrite | .cancel | .cleanEvict => true
  | .pin => (s.olderClaims q).all (fun m => m.pinned)
  | .sweep => if q.isVictim then (s.entryAt q.die q.line).pin == 0 else !s.linePinned q.die q.line
  | _ => !s.linePinned q.die q.line

/-- The lines of a sector. -/
def linesOf (line : Nat) : List Nat := (List.range 4).map (fun i => sectorOf line + 64 * i)

/-- The next request of a line that no pin holds. -/
def State.nextOf (s : State) (d line : Nat) : Option HomeReq :=
  s.dir.queue.find? (fun q => q.isFor d line && q.cls != .cancel && q.cls != .bad && s.passesPin q)

/-- A victim's recall comes when it is the next request of each of its lines (R156, R175). -/
def State.victimNext (s : State) (q : HomeReq) : Bool := !q.isVictim || (linesOf q.line).all (fun l => s.nextOf q.die l == some q)

/-- What an unpowered directory leaves at a home: an apply write runs to its end, and an unpin goes with its marks (R202, R206). -/
def HomeReq.needsNoSram (q : HomeReq) : Bool := q.cls == .applyWrite || q.cls == .unpin || q.cls == .cancel

/-- The bank of a line has fewer than 256 lines in service (R156). -/
def State.bankRoom (s : State) (d line : Nat) : Bool :=
  decide ((s.dir.txn.filter (fun t => t.req.die == d && s.servedBank d t.req.line == s.servedBank d line)).length < 256)

/-- The bank can take up the request of a line now, in a core cycle after that of its arrival, in which the requests that arrive together
are put in order (R156); while the bank is swept for its retirement only sweeps, apply writes and unpins are
taken up (R181). -/
def State.canServe (s : State) (q : HomeReq) : Bool :=
  let d := q.die
  let b := s.servedBank d q.line
  (s.homeServes d || (s.get O.DIR_STATE == 3 && q.cls == .applyWrite) || (s.get O.DIR_STATE == 0 && q.needsNoSram)) &&
    (q.cls == .sweep || q.cls == .applyWrite || q.cls == .unpin || !s.bankSweeping d b) && s.bankRoom d q.line && s.victimNext q &&
    decide (q.arrived < s.homeCycle d) &&
    (if q.isVictim then !s.sectorBusy d q.line else !s.lineBusy d q.line)

/-- Take a request out of the queue. -/
def State.unqueue (s : State) (q : HomeReq) : State := { s with dir := { s.dir with queue := s.dir.queue.erase q } }

/-- A writeback, or a clean eviction, that waits at its bank is absorbed (R157). -/
def State.absorbOne (s : State) (q : HomeReq) (ecc : Nat) : State :=
  if q.cls = .cleanEvict then (s.unqueue q).serve q ecc
  else (((s.unqueue q).lookupEntry q ecc).absorb q).owe (.kick q.die q.line)

/-- A bank absorbs the writebacks and clean evictions that have reached it before it does anything else (R157). What ECC event their
lookups find is a free value (DESIGN CHOICE, log 97). -/
def State.absorbFirst (s : State) (d line : Nat) : State :=
  if !s.homeServes d then s
  else forEach (s.dir.queue.filter (fun q => q.die == d && s.servedBank d q.line == s.servedBank d line &&
      (q.cls == .cleanEvict || q.cls == .memWrite)))
    (fun q s => if q.cls == .cleanEvict || s.isWriteback q then s.fresh.2.absorbOne q s.fresh.1 else s) s

/-- A command of the home serves the next request of a line when it is of the command's class. -/
def State.serveLine (s : State) (d line : Nat) (cls : HomeClass) (ecc : Nat) : State :=
  let s := s.absorbFirst d (lineOf line)
  match s.nextOf d (lineOf line) with
  | some q => if q.cls = cls ∧ s.canServe q = true then (s.unqueue q).serve q ecc else s
  | none => s

/-- Requests that no command of their own serves are taken up as their line becomes free. -/
def HomeClass.auto : HomeClass → Bool
  | .applyWrite | .moverRead | .moverWrite | .sweep => true
  | _ => false

/-- Serve what waits by itself on a sector (R156). What ECC event its lookup finds is a free value (DESIGN CHOICE, log 97). -/
def State.kickSector (s : State) (d line : Nat) : State :=
  forEach (linesOf line) (fun l s =>
    match s.nextOf d l with
    | some q =>
      if q.cls.auto && s.canServe q then
        let s := s.absorbFirst d l
        if s.canServe q then (s.fresh.2.unqueue q).serve q s.fresh.1 else s
      else s
    | none => s) s

/-- A refused request whose host owed an answer for its line is completed once that has come (R158). -/
def State.serveBad (s : State) : State :=
  forEach (s.dir.queue.filter (fun q => q.cls == .bad && !s.snoopOpen q.die q.host q.line)) (fun q s => (s.unqueue q).serve q 0) s

/-- Every request that no command of its own serves is taken up when its turn has come. -/
def State.serveAuto (s : State) : State :=
  let s := s.serveBad
  forEach (s.dir.queue.filter (fun q => q.cls.auto)) (fun q s => s.kickSector q.die q.line) s

/-- A stalled allocation whose set has a way again goes on, where its bank has room for one more line in service (R156, R176). -/
def State.retryStalled (s : State) (d line : Nat) : State :=
  let s := s.absorbFirst d line
  match s.dir.stalled.find? (fun t => t.req.die == d && t.since != 0 && s.servedBank d t.req.line == s.servedBank d line && s.bankRoom d line &&
      (match s.findWay d t.req.line with | .none => false | _ => true)) with
  | some t => ({ s with dir := { s.dir with stalled := s.dir.stalled.erase t } }).serveClass t.req
  | none => s

/-- A line has become free (R156, R176). -/
def State.kick (s : State) (d line : Nat) : State := (s.kickSector d line).retryStalled d line

/-- A request that allocated through a victim is served again (R175); where its bank is full it waits first in its queue (R156). -/
def State.serveAgain (s : State) (q : HomeReq) : State :=
  let s := s.absorbFirst q.die q.line
  let s := { s with dir := { s.dir with stalled := s.dir.stalled.filter (fun t => !(t.req == q)) } }
  if s.bankRoom q.die q.line then s.serveClass q else { s with dir := { s.dir with queue := q :: s.dir.queue } }

/-- A request reaches its home (R155, R157, R160). One that the home refuses waits while its host owes an answer for the line (R158). -/
def State.atHome (s : State) (q : HomeReq) : State :=
  match q.cls with
  | .bad => if s.snoopOpen q.die q.host q.line then { s with dir := { s.dir with queue := s.dir.queue ++ [q] } } else s.serve q 0
  | .specRd => s.freeCell q.die q.cell
  | c =>
    let s := match c with
      | .rdS | .rdOwn | .rdCur | .upgrade | .memWrite | .cleanEvict | .atomic =>
        s.perfCount q.die evSharedReq (s.servedBank q.die q.line) q.tenant 1
      | _ => s
    s.queueHome q

/-! ## The commands of a home -/

/-- A read shared, a read for ownership, a current read, an upgrade, an atomic of a line is served (R161, R172). -/
def fxRdS (d line ecc : Nat) (s : State) : State := s.serveLine d line .rdS ecc
def fxRdOwn (d line ecc : Nat) (s : State) : State := s.serveLine d line .rdOwn ecc
def fxRdCur (d line ecc : Nat) (s : State) : State := s.serveLine d line .rdCur ecc
def fxUpgrade (d line ecc : Nat) (s : State) : State := s.serveLine d line .upgrade ecc
def fxAtomic (d line ecc : Nat) (s : State) : State := s.serveLine d line .atomic ecc

/-- A clean eviction of a host is never queued behind a busy line (R157). -/
def fxCleanEvict (d line ecc h : Nat) (s : State) : State :=
  if !s.homeServes d then s
  else match s.dir.queue.find? (fun q => q.die == d && q.line == lineOf line && q.host == h && q.cls == .cleanEvict) with
    | some q => s.absorbOne q ecc
    | none => s

/-- A MemWr of a host: a writeback is absorbed at once, another write is served in its line's order (R157, R159). -/
def fxWriteback (d line ecc h : Nat) (s : State) : State :=
  if !s.homeServes d then s
  else match s.dir.queue.find? (fun q => q.die == d && q.line == lineOf line && q.host == h && s.isWriteback q) with
    | some q => s.absorbOne q ecc
    | none =>
      let s := s.absorbFirst d (lineOf line)
      match s.nextOf d (lineOf line) with
      | some q => if q.cls = .memWrite ∧ q.host = h ∧ s.canServe q = true then (s.unqueue q).serve q ecc else s
      | none => s

/-- A group's mark, claim, pin and unpin on a line (R177, R193, R200, R201). -/
def fxMark (d line : Nat) (s : State) : State := s.serveLine d line .mark 0
def fxClaim (d line : Nat) (s : State) : State := s.serveLine d line .claim 0
def fxPin (d line ecc : Nat) (s : State) : State := s.serveLine d line .pin ecc
def fxUnpin (d line : Nat) (s : State) : State := s.serveLine d line .unpin 0

/-- A home receives the cancels of an aborted group, one for each line (R205): marks, claims and pins of it go. -/
def fxGroupCancel (d h k : Nat) (s : State) : State :=
  forEach (s.dir.queue.filter (fun q => q.die == d && q.cls == .cancel && q.host == h && q.slot == k)) (fun c s =>
    let own := fun (q : HomeReq) => q.die == d && q.line == c.line && q.host == h && q.slot == k && q.gen == c.gen &&
      (q.cls == .mark || q.cls == .claim || q.cls == .pin)
    let mine := fun (m : Mark) => m.die == d && m.line == c.line && m.host == h && m.slot == k && m.gen == c.gen
    let held := s.grp.mark.any (fun m => mine m && m.holds)
    let pinning := s.dir.txn.any (fun t => t.req.die == d && t.plan == 6 && t.req.line == c.line)
    let s := (s.unqueue c).notePeak d
    let s : State := { s with dir := { s.dir with queue := s.dir.queue.filter (fun q => !own q), stalled := s.dir.stalled.filter (fun t => !own t.req) },
                              grp := { s.grp with mark := s.grp.mark.filter (fun m => !mine m) } }
    let i := lineNo c.line
    let s := if held && !pinning then s.updEntry d c.line (fun e => if e.pin.testBit i then { e with pin := e.pin - 2 ^ i } else e) else s
    s.owe (.kick d c.line)) s

/-- Acknowledged writebacks whose host owes no answer for the line end: Cmp to the host, and the ABSORB cell freed
(R157, R158). -/
def State.endWritebacks (s : State) : State :=
  forEach (s.dir.wb.filter (fun w => w.acked == 2 && !s.snoopOpen w.die w.host w.line)) (fun w s =>
    let s := { s with dir := { s.dir with wb := s.dir.wb.erase w } }
    let s := s.freeCell w.die w.cell
    s.reply w.die { die := w.die, line := w.line, host := w.host, owner := w.owner } (.cmp 0) 0 false 0) s

/-- The memory write of a transaction is acknowledged. -/
def State.txnWritten (s : State) (t : HomeTxn) (synthetic : Bool) : State :=
  let d := t.req.die
  match t.plan with
  | 5 =>
    if synthetic then (s.reply d t.req (.ioCpl cplCa) 0 false 0).endTxn t
    else (s.reply d t.req (.ioCpl cplOk) t.original false 0).endTxn t
  | _ => (s.replyWith d t.req (.cmp 0) t.why (t.req.cls == .moverWrite && t.ackErr) synthetic 0).endTxn t

/-- The device's acknowledgement of a memory write of a home has come: a writeback's data are no longer in flight (R157). -/
def State.noteAck (s : State) (d id data : Nat) (poison synthetic : Bool) : State :=
  let s := { s with dir := { s.dir with wb := s.dir.wb.map (fun (w : WriteBack) => if w.die = d ∧ w.id = id then { w with acked := 1 } else w) } }
  s.setTxn d id (fun t => { t with acked := some synthetic, ackErr := poison && !synthetic, why := if synthetic then data else 0 })

/-- The home takes up the acknowledgement of its memory write `n`: a writeback's Cmp, or the end of the transaction (R157). -/
def fxMemoryWriteAck (d n : Nat) (s : State) : State :=
  let s := { s with dir := { s.dir with wb := s.dir.wb.map (fun (w : WriteBack) =>
                                        if w.die = d ∧ w.id = n ∧ w.acked = 1 then { w with acked := 2 } else w) } }
  let s := s.endWritebacks
  match s.homeTxn d n with
  | some t => (match t.acked with | some x => s.txnWritten t x | none => s)
  | none => s

/-- Data come back to a home from memory (R163 to R165). -/
def State.homeData (s : State) (d id data : Nat) (poison synthetic : Bool) (cell : Nat) : State :=
  let s := match s.homeTxn d id with | some t => s.absorbFirst d t.req.line | none => s
  match s.homeTxn d id with
  | none => s.leaveCell d cell
  | some t =>
    if t.plan = 5 ∧ synthetic = true then
      let s := s.updEntry d t.req.line (fun e => e.setLine (lineNo t.req.line) lineI)
      ((s.leaveCell d cell).reply d t.req (.ioCpl cplCa) 0 false 0).endTxn t
    else
      let keep := t.cell = 0 ∧ t.need = true
      let (ue, s) := if keep then (false, s) else s.readIn d cell
      let poison := poison || ue
      let s := if keep then s else s.leaveCell d cell
      (s.setTxn d id (fun t => { t with memory := some (data, poison), synth := synthetic, why := if synthetic then data else 0, cell := if keep then cell else t.cell })).advance d id

/-- A BISnp of a home has its answer (R158, R162, R164): 0 BIRspI, 1 BIRspS, 2 BIRspE. -/
def State.answerSnoop (s : State) (b : Snoop) (answer : Nat) : State :=
  let d := b.die
  let h := b.host
  let line := b.line
  let s := { s with dir := { s.dir with snoop := s.dir.snoop.erase b } }
  let s := if b.kind = 0 then
      s.updEntry d line (fun e => if e.line (lineNo line) = lineE ∧ e.owner = h ∧ b.txn ≠ 0 then e.setLine (lineNo line) lineI else e)
    else s
  let s := s.setTxn d b.txn (fun t => if t.source = some h ∧ t.req.line = line ∧ 0 < answer then { t with keeps := true } else t)
  let s := (s.endWritebacks).advance d b.txn
  forEach (s.dir.txn.filter (fun t => t.req.die == d && t.req.line == line && t.req.host == h && t.id != b.txn))
    (fun t s => s.advance d t.id) s

/-- A BISnp whose host has lost its port or its window before it could go counts as answered with BIRspI (R162). -/
def State.answerUnsent (s : State) : State :=
  forEach (s.dir.snoop.filter (fun b => !b.sent && !s.servingFor b.die b.host b.line b.txn && !s.canSnoop b.host b.line))
    (fun b s => if s.dir.snoop.contains b then s.answerSnoop b 0 else s) s

/-- An answer of a host for a line reaches the home; a writeback that has reached its bank comes before it (R157, R159). -/
def State.snoopAnswer (s : State) (d h line answer : Nat) : State :=
  let s := s.absorbFirst d line
  match s.dir.snoop.find? (fun b => b.die == d && b.host == h && b.line == line && b.sent) with
  | none =>
    if s.dir.late.contains (h, line) then { s with dir := { s.dir with late := s.dir.late.erase (h, line) } }
    else s.breachCmp d line h (match s.decCovering h line with | some n => (s.decoder n).invert line | none => 0)
  | some b => s.answerSnoop b answer

/-- A host has not answered a BISnp within BI_TIMEOUT (R168). -/
def fxBiTimeout (d h line : Nat) (s : State) : State :=
  let line := lineOf line
  let due := fun (s : State) => s.dir.snoop.find? (fun b => b.die == d && b.host == h && b.line == line && b.sent &&
      decide (b.since + s.get O.BI_TIMEOUT ≤ s.elapsed d))
  let s := if (due s).isSome then s.absorbFirst d line else s
  match due s with
  | none => s
  | some b =>
    let e := s.entryAt d line
    let owner := e.line (lineNo line) == lineE && e.owner == h
    let s := if owner then
        (s.poisonLine d line).setTxn d b.txn (fun t => if t.source = some h ∧ t.req.line = line then { t with lost := true } else t)
      else s
    let s := s.viralHost h
    let s := (s.count32 (O.BI_TIMEOUT_COUNT d)).dirEvent d F.BI_TIMEOUT 2 16 line h 4
    let s := { s with dir := { s.dir with late := s.dir.late ++ [(h, line)] } }
    s.snoopAnswer d h line 0

/-- The fabric address at which a host's alias 0 window presents an HPA. -/
def State.faOf (s : State) (h hpa : Nat) : Option Nat :=
  match s.decHit h hpa with
  | none => none
  | some n =>
    let dec := s.decoder n
    if dec.isVppb then none
    else match dec.translate hpa with
      | some (fa, al) => if al = 0 then some fa else none
      | none => none

/-- A host's BIRsp enters its port (R27, R155): it answers the delivered BISnp of its line, a device's or a home's. -/
def fxBirsp (p hpa answer : Nat) (s : State) : State :=
  if s.carries p = true ∧ s.role p = roleUpstream ∧ s.speaks p 3 = true then
    let h := s.get (O.HOST_ID p)
    let d := dieOfPort p
    let m : Msg := { type := .birsp answer, kind := .other, channel := 2, opcode := answer, host := h, hpa := hpa, origin := s.stamp d }
    let got := s.receiveCell p m
    let fa := s.faOf h hpa
    let s := got.2.observe p 0 { m with fa := fa.getD 0, hasFa := fa.isSome }
    let b := s.rq.delivered.find? (fun b => b.port == p && lineOf b.hpa == lineOf hpa)
    let s := match b with
      | some b => { s with rq := { s.rq with delivered := s.rq.delivered.erase b } }
      | none => s
    match b with
    | some ⟨_, _, true, dev, n⟩ =>
      s.carry d (dieOfPort dev) (devKey dev 0 hpa) vcRsp 0 false m.origin got.1 (.bypass dev { m with cell := got.1, drops := n })
    | _ =>
      match fa with
      | some fa => s.carry d (s.homeDie fa) (faKey fa) vcRsp 0 false m.origin got.1 (.birsp (s.homeDie fa) h (lineOf fa) answer)
      | none => (s.freeCell d got.1).breachCmp d hpa h hpa
  else s

/-- A host's BIConflict enters its port (R155, R158): it goes to the device whose BISnp for the line the port has delivered, or to the
line's home. It is a message of the requests with data, with its opcode PRESUMED (log 91). -/
def fxBiConflict (p hpa : Nat) (s : State) : State :=
  if s.carries p = true ∧ s.role p = roleUpstream ∧ s.speaks p 3 = true then
    let h := s.get (O.HOST_ID p)
    let d := dieOfPort p
    let m : Msg := { type := .biConflict, kind := .other, channel := 1, opcode := 4, host := h, hpa := hpa, origin := s.stamp d }
    let got := s.receiveCell p m
    let fa := s.faOf h hpa
    let s := got.2.observe p 0 { m with fa := fa.getD 0, hasFa := fa.isSome }
    match s.rq.delivered.find? (fun b => b.port == p && lineOf b.hpa == lineOf hpa) with
    | some ⟨_, _, true, dev, n⟩ =>
      s.carry d (dieOfPort dev) (devKey dev 0 hpa) vcRsp 0 false m.origin got.1 (.bypass dev { m with cell := got.1, drops := n })
    | _ =>
      match fa with
      | some fa => s.carry d (s.homeDie fa) (faKey fa) vcRsp 0 false m.origin got.1 (.biconflict (s.homeDie fa) h (lineOf fa) p hpa m.origin)
      | none => (s.freeCell d got.1).breachCmp d hpa h hpa
  else s

/-- A BIConflict reaches the home: while a BISnp to its host for the line is unanswered it is answered at once with BIConflictAck, and
otherwise it breaches the rules of the home (R158, R159). -/
def State.conflictAtHome (s : State) (d h line p hpa : Nat) : State :=
  if s.snoopOpen d h line then
    s.carry d (dieOfPort p) (hostKey h) vcRsp 0 false (s.stamp d) 0
      (.bypass p { type := .conflictAck, kind := .other, channel := 3, opcode := 4, host := h, fa := line, hasFa := true, hpa := hpa, origin := s.stamp d, home := d + 1 })
      [homeStream d h]
  else s.breachCmp d line h hpa

/-- An allocation that waited ALLOC_WAIT returns to its bank's queue (R176). -/
def fxAllocWaitExpiry (d line : Nat) (s : State) : State :=
  match s.dir.stalled.find? (fun t => t.req.die == d && t.req.line == lineOf line && t.since != 0 &&
      decide (t.since - 1 + s.get O.ALLOC_WAIT ≤ s.elapsed d)) with
  | none => s
  | some t =>
    let s := { s with dir := { s.dir with stalled := s.dir.stalled.erase t } }
    let s := s.count32 (O.ALLOC_RETRIES d)
    let n := t.req.returns + 1
    let s := if n = 16 then s.dirEvent d F.ALLOC_STALL 4 16 t.req.line t.req.host 0 else s
    s.queueHome { t.req with returns := n }

/-! ## Sweeps (R150, R169, R170, R181) -/

/-- Start a sweep on every die. -/
def State.addSweeps (s : State) (kind arg mask : Nat) (dies : List Nat) : State :=
  let n := s.dir.serial
  let s := { s with dir := { s.dir with serial := n + 1 } }
  { s with dir := { s.dir with sweep := s.dir.sweep ++ dies.map (fun d =>
                               ({ kind := kind, die := d, arg := arg, mask := mask, started := false, since := 0, done := false, granted := 0, lost := 0, serial := n } : Sweep)) } }

/-- A served write of SR_RECALL (R150); groups of the masked hosts with marks in the region abort (R205). -/
def fxSrRecall (r mask : Nat) (s : State) : State :=
  let s := (s.put (O.SR_STATE r) 2).addSweeps 0 r mask (List.range s.dies)
  forEach (s.grp.mark.filter (fun m => mask.testBit m.host && s.inRegion r m.line)) (fun m s =>
    s.owe (.group { kind := 4, host := m.host, slot := m.slot, line := m.line, status := stConflict, gen := m.gen })) s

/-- The status of a write of SR_RECALL. -/
def State.recallStatus (s : State) (r : Nat) : Nat :=
  if s.get (O.SR_STATE r) ≠ 1 ∨ s.get O.DIR_STATE ≠ 2 then stBusy else stOk

/-- The entries of a die with their keys. -/
def State.entriesOf (s : State) (d : Nat) : List (Nat × DirEntry) := s.dir.entry.filter (fun e => entryDie e.1 == d)

/-- The requests of a walk over a die, one for each held line (R170): a recall's for the lines that masked hosts hold in the region, a
drop's for those that its host holds, and a bank's for all of the bank, the pinned lines among them (R181). -/
def State.recallReqs (s : State) (w : Sweep) : List HomeReq :=
  (s.entriesOf w.die).flatMap (fun e => (List.range 4).filterMap (fun i =>
    let line := entrySector e.1 e.2 + 64 * i
    let held := e.2.holders i
    let q : HomeReq := { cls := .sweep, die := w.die, line := line, slot := w.serial, meta_ := w.kind,
                         hosts := if w.kind = 2 then 2 ^ 64 - 1 else if w.kind = 1 then 2 ^ w.arg else w.mask }
    let wanted := match w.kind with
      | 0 => s.inRegion w.arg line && maskAnd held w.mask != 0
      | 1 => held.testBit w.arg
      | _ => entrySet e.1 % 16 == w.arg && (held != 0 || e.2.pin.testBit i)
    if wanted then some q else none))

/-- The walk of a sweep finds ECC events in the entries it reads (R178). -/
def State.walkErrs (s : State) (d : Nat) (errs : List Nat) : State :=
  forEach ((s.entriesOf d).zip errs) (fun x s => s.entryError x.1.1 (x.2 % 4)) s

/-- The next sweep of a die begins its walk (R170). -/
def fxSweepStart (d : Nat) (errs : List Nat) (s : State) : State :=
  let mine := s.dir.sweep.filter (fun w => w.die == d && !w.done)
  match mine with
  | [] => s
  | w :: _ =>
    if w.started || !s.homeServes d then s
    else
      let s := { s with dir := { s.dir with sweep := s.dir.sweep.map (fun (x : Sweep) =>
                                            if x.die = d ∧ x.serial = w.serial then { x with started := true, since := s.elapsed d } else x) } }
      let s := s.walkErrs d errs
      forEach (s.recallReqs w) (fun q s => s.queueHome q) s

/-- The sweep of a serial is over on every die. -/
def State.sweepDone (s : State) (n : Nat) : Bool := s.dir.sweep.all (fun w => w.serial != n || w.done)

/-- A host's drop sweep is over: it holds nothing of any region, and its new requests are admitted again (R169). -/
def State.endDrop (s : State) (h : Nat) : State :=
  let s := forEach (List.range 64) (fun r s => s.setBit (O.SR_HELD r) h false) s
  { s with dir := { s.dir with dropWait := s.dir.dropWait.erase h } }.owe .admitOne

/-- What the end of a sweep on its last die brings (R150, R169); a bank's retirement ends with BANK_RETIRED. A region that has been
disabled meanwhile stays so, and one with another recall goes on RECALLING. -/
def State.finishSweep (s : State) (w : Sweep) : State :=
  if !s.sweepDone w.serial || w.kind = 2 then s
  else
    let granted := (s.dir.sweep.filter (fun x => x.serial == w.serial)).foldl (fun a x => Nat.lor a x.granted) 0
    let s := { s with dir := { s.dir with sweep := s.dir.sweep.filter (fun x => x.serial != w.serial) } }
    if w.kind = 0 then
      let more := s.dir.sweep.any (fun x => x.kind == 0 && x.arg == w.arg)
      let s := if s.get (O.SR_STATE w.arg) = 2 ∧ !more then s.put (O.SR_STATE w.arg) 1 else s
      s.put (O.SR_HELD w.arg) (maskWithout (s.get (O.SR_HELD w.arg)) (maskWithout w.mask granted))
    else s.endDrop w.arg

/-- A sweep's walk and every answer are done (R170). A bank's retirement waits for the transactions in service in the bank, and recalls
what they have granted since its walk (R181). -/
def fxSweepEnd (d : Nat) (s : State) : State :=
  match s.dir.sweep.find? (fun w => w.die == d && w.started && !w.done && s.homeServes d) with
  | none => s
  | some w =>
    let mine := fun (q : HomeReq) => q.cls == .sweep && !q.isVictim && q.die == d && q.slot == w.serial
    let open_ := s.dir.queue.any mine || s.dir.txn.any (fun t => mine t.req)
    let bank := fun (q : HomeReq) => q.die == d && s.servedBank d q.line == w.arg
    let busy := w.kind == 2 && (s.dir.txn.any (fun t => bank t.req) || s.dir.stalled.any (fun t => bank t.req))
    let again := if w.kind = 2 then s.recallReqs w else []
    if open_ || busy || decide (s.elapsed d < w.since + 256) then s
    else if !again.isEmpty then forEach again (fun q s => s.queueHome q) s
    else
      let s := { s with dir := { s.dir with sweep := s.dir.sweep.map (fun (x : Sweep) =>
                                            if x.die = d ∧ x.serial = w.serial then { x with done := true } else x) } }
      s.finishSweep w

/-- The drop sweep of a host starts once no tracker holds a shared-region request of it (R169); with the SRAM unpowered there is nothing
to walk. -/
def State.dropSweep (s : State) (h : Nat) : State :=
  if s.dir.dropWait.contains h && !(s.rq.tracker.any (fun t => t.2.busy && t.2.host == h && t.2.shared)) &&
      !(s.dir.sweep.any (fun w => w.kind == 1 && w.arg == h)) then
    if s.get O.DIR_STATE = 0 then s.endDrop h else s.addSweeps 1 h 0 (List.range s.dies)
  else s

/-! ## Banks (R179 to R182) -/

/-- The bank onto which a bank folds: the first healthy of b XOR 8, b XOR 4, b XOR 12. -/
def State.foldTarget (s : State) (d b : Nat) : Option Nat :=
  ([8, 4, 12].map (fun x => Nat.xor b x)).find? (fun t => !s.bit (O.BANK_STATE d) t)

/-- A migration runs in a region of which a bank holds entries (R179). -/
def State.bankMigrates (s : State) (d b : Nat) : Bool :=
  (s.entriesOf d).any (fun e => entrySet e.1 % 16 == b && (match s.lookup (entrySector e.1 e.2) with
    | some t => t.mig.isSome
    | none => false))

/-- The status of a write of BANK_RETIRE (R179). -/
def State.bankStatus (s : State) (d b : Nat) : Nat :=
  if s.mode ≠ mMaint then stBusy
  else if s.bankMigrates d b || s.bankSweeping d b then stBusy
  else if s.bit (O.BANK_STATE d) b then stRetired
  else if (s.foldTarget d b).isNone then stLimit
  else stOk

/-- A bank's retirement begins (R181). -/
def State.startBankRetire (s : State) (d b : Nat) : State :=
  (s.setBit (O.BANK_STATE d) (16 + b) true).addSweeps 2 b 0 [d]

/-- A served write of BANK_RETIRE. -/
def fxBankRetire (d b : Nat) (s : State) : State := s.startBankRetire d b

/-- After its sweep a bank reads retired, and its fold target serves its sets (R181). -/
def fxBankRetired (d b : Nat) (s : State) : State :=
  if s.get O.DIR_STATE = 3 ∧ s.dieSafe d = true then s
  else match s.dir.sweep.find? (fun w => w.die == d && w.kind == 2 && w.arg == b && w.done), s.foldTarget d b with
  | some w, some t =>
    let s := { s with dir := { s.dir with sweep := s.dir.sweep.erase w } }
    let map := s.get (O.FOLD_MAP d)
    let map := (List.range 16).foldl (fun m k => if m / 16 ^ k % 16 = b then m - b * 16 ^ k + t * 16 ^ k else m) map
    let s := ((s.put (O.FOLD_MAP d) map).setBit (O.BANK_STATE d) (16 + b) false).setBit (O.BANK_STATE d) b true
    let s := s.owe (.retire (channelId 5 (16 * d + b)))
    (forEach (s.dir.queue.filter (fun q => q.die == d)) (fun q s => s.owe (.kick d q.line)) s).dirEvent d F.BANK_RETIRED 5 b 0 (0x700 + d) 0
  | some w, none => ({ s with dir := { s.dir with sweep := s.dir.sweep.erase w } }).owe (.safe d 5 0xFFFF)
  | _, _ => s

/-- A die's SRAM has lost its contents: its sweeps have nothing left to walk or to wait for, and end there; a recall or a drop sweep that
has now ended on every die ends (R150, R169, R182). A bank's sweeping bit keeps its value until BANK_RETIRED (R181). -/
def State.endLostSweeps (s : State) (d : Nat) : State :=
  let s := { s with dir := { s.dir with sweep := s.dir.sweep.map (fun (w : Sweep) => if w.die = d then { w with started := true, done := true } else w) } }
  forEach (s.dir.sweep.map (fun w => w.serial)).eraseDups (fun n s =>
    match s.dir.sweep.find? (fun w => w.serial == n) with
    | some w => s.finishSweep w
    | none => s) s

/-- A home lets go of a request that it can no longer serve, as R149 completes a shared access that is refused; the mover's line ends with
DENIED, as one that it would issue now (DESIGN CHOICE, log 123). -/
def State.refuseHome (s : State) (q : HomeReq) : State :=
  let s := s.leaveCell q.die q.cell
  match q.owner with
  | .apply _ _ _ => s
  | .mover _ _ _ => s.replyWith q.die q (.cmp 0) 3 false true 0
  | .host _ _ => s.reply q.die q (.ioCpl cplUr) 0 false 0
  | _ => s.reply q.die q (if q.asksData then .data 0 else .cmp 0) 0 q.asksData 0

/-- The home of a die loses its SRAM while its datapath runs: what waits or is in service there is let go, and no request is dropped
(R156, R182). The memory writes of absorbed writebacks go on. -/
def State.refuseHomes (s : State) (d : Nat) : State :=
  let gone := (s.dir.queue ++ s.dir.txn.map (fun t => t.req) ++ s.dir.stalled.map (fun t => t.req)).filter (fun q => q.die == d && !q.needsNoSram)
  let s := { s with dir := { s.dir with queue := s.dir.queue.filter (fun q => q.die != d || q.needsNoSram),
                                        txn := s.dir.txn.filter (fun t => t.req.die != d || t.req.needsNoSram),
                                        stalled := s.dir.stalled.filter (fun t => t.req.die != d),
                                        snoop := s.dir.snoop.filter (fun b => b.die != d) } }
  (forEach gone (fun q s => s.refuseHome q) s).endWritebacks

/-- The directory's SRAM is cleared (R156, R175, R182). -/
def State.clearDirectory (s : State) : State :=
  { s with dir := { s.dir with entry := [], lru := [], rot := [], clearing := List.range s.dies, clearAt := s.elapsed 0 } }.put O.DIR_STATE 1

/-- Clearing ends (R182). -/
def fxDirCleared (s : State) : State :=
  if s.get O.DIR_STATE = 1 then { s with dir := { s.dir with clearing := [] } }.put O.DIR_STATE 2 else s

/-- The walker reads an entry in a cycle that no sweep needs (R178); `last` ends a pass. -/
def fxScrub (d set way err : Nat) (last : Bool) (s : State) : State :=
  if s.homeServes d ∧ !(s.dir.sweep.any (fun w => w.die == d && w.started && !w.done)) then
    let k := entryKey d (set % 2 ^ 18) (way % 16)
    let s := s.entryError k err
    let due := match s.dir.lastScrub.find d with | some t => decide (t + s.get O.SCRUB_PERIOD ≤ s.elapsed d) | none => true
    if last && due then { s with dir := { s.dir with lastScrub := s.dir.lastScrub.place d (s.elapsed d) } }.wrap32 (O.SCRUB_PASSES d) else s
  else s

end Sys2Proof.Machine
end

