-- ==== Sys2Proof/Machine/Groups.lean ====
section
/-! DEFINITION. Atomic write groups at the ingress die: staging, the group page's commands, commit, apply and aborts
(R188 to R211). -/
namespace Sys2Proof.Machine

def grpIdle : Nat := 0
def grpOpen : Nat := 1
def grpCommitting : Nat := 2
def grpApplying : Nat := 3
def grpCommitted : Nat := 4
def grpAborted : Nat := 5

/-- A slot's record, and its change. -/
def State.group (s : State) (h k : Nat) : Group := s.grp.slot.at (8 * h + k)
def State.setGroup (s : State) (h k : Nat) (f : Group → Group) : State :=
  { s with grp := { s.grp with slot := s.grp.slot.upd (8 * h + k) f } }

/-- The state of a slot. -/
def State.grpState (s : State) (h k : Nat) : Nat := s.get (O.GRP_STATE h k)

/-- A core cycle of a die, as one number above 0. -/
def State.cycleOf (s : State) (d : Nat) : Nat := s.elapsed d * 64 + (s.time d).sub + 1

/-- A slot enters a state: the state at the start of the core cycle is kept for the commands that this cycle serves (R198). -/
def State.setGrpState (s : State) (h k v : Nat) : State :=
  let c := s.cycleOf (s.hostDie h)
  let old := s.grpState h k
  (s.setGroup h k (fun g => if g.cycleAt = c then g else { g with cycleAt := c, startState := old })).put (O.GRP_STATE h k) v

/-- The state against which a command is judged: that at the start of the core cycle (R198). -/
def State.judgedState (s : State) (h k : Nat) : Nat :=
  let g := s.group h k
  if g.cycleAt = s.cycleOf (s.hostDie h) then g.startState else s.grpState h k

/-- The tenant of a group, for the performance counters. -/
def State.grpTenant (s : State) (h k : Nat) : Nat := s.get (O.GRP_TENANT h k)

/-! ## Ends (R192, R205) -/

/-- Free the cells of a slot's staging lines (R207). -/
def State.freeStaging (s : State) (h k : Nat) : State :=
  let s := forEach (s.group h k).cells (fun c s => s.freeCell (s.hostDie h) c) s
  s.setGroup h k (fun g => { g with cells := [], lines := [] })

/-- A message of a group to the home of a line. -/
def State.groupToHome (s : State) (h k line : Nat) (cls : HomeClass) (f : HomeReq → HomeReq) : State :=
  let d := s.hostDie h
  let q : HomeReq := { cls := cls, die := s.homeDie line, line := line, host := h, tenant := s.grpTenant h k,
                       tcls := s.meterClass (s.grpTenant h k) 0, slot := k, gen := s.get (O.GRP_GEN h k),
                       stamp := s.get (O.GRP_COMMIT_STAMP h k) }
  s.toHome d (f q) (s.stamp d) 0

/-- The causes of R205, in its order. -/
def causeCommand : Nat := 1
def causeConflict : Nat := 2
def causeLimit : Nat := 5
def causeDenied : Nat := 7
def causeLink : Nat := 8
def causeFrozen : Nat := 9
def causeMode : Nat := 10
def causeSafe : Nat := 11
def causeTimeout : Nat := 12
def causePoison : Nat := 13

/-- A cause of R205 reaches a slot. It aborts a group in OPEN or COMMITTING; one that reaches a group in the core cycle of
its abort and stands earlier in the table gives the status instead. Each staged line's home gets one cancel (log 96). -/
def State.groupAbort (s : State) (h k status rank : Nat) : State :=
  let st := s.grpState h k
  let d := s.hostDie h
  if st = grpOpen ∨ st = grpCommitting then
    let g := s.group h k
    let counted := decide (s.get (O.GRP_CONFLICTS h) < 2 ^ 32 - 1)
    let s := forEach (g.lines.map (fun l => l.waiting)).flatten (fun o s =>
      match o with | .tracker e n => s.owe (.answer (8192 * e + n) (.cmp 0) 0 false 0) | _ => s) s
    let s := forEach g.lines (fun l s => s.groupToHome h k l.line .cancel id) s
    let s := (s.freeStaging h k).setGroup h k (fun g => { g with abortAt := s.cycleOf d, rank := rank, counted := counted })
    let s := ((s.setGrpState h k grpAborted).put (O.GRP_STATUS h k) status).put (O.GRP_DONE_AT h k) (s.now d)
    let s := (s.count32 (O.GRP_ABORTS h)).perfCount d evGrpAbort 0xFF (s.grpTenant h k) 1
    if status = stConflict then (s.count32 (O.GRP_CONFLICTS h)).perfCount d evGrpConflict 0xFF (s.grpTenant h k) 1 else s
  else if st = grpAborted ∧ (s.group h k).abortAt = s.cycleOf d ∧ rank < (s.group h k).rank then
    let was := s.get (O.GRP_STATUS h k)
    let s := (s.setGroup h k (fun g => { g with rank := rank })).put (O.GRP_STATUS h k) status
    if status = stConflict ∧ was ≠ stConflict then
      let counted := decide (s.get (O.GRP_CONFLICTS h) < 2 ^ 32 - 1)
      ((s.setGroup h k (fun g => { g with counted := counted })).count32 (O.GRP_CONFLICTS h)).perfCount d evGrpConflict 0xFF (s.grpTenant h k) 1
    else if was = stConflict ∧ status ≠ stConflict then
      (if (s.group h k).counted then s.put (O.GRP_CONFLICTS h) (s.get (O.GRP_CONFLICTS h) - 1) else s).perfUncount d evGrpConflict 0xFF (s.grpTenant h k)
    else s
  else s

/-- Abort the groups that satisfy a test. -/
def State.abortGroups (s : State) (p : State → Nat → Nat → Bool) (status rank : Nat) : State :=
  forEach s.grp.slot.keys (fun x s => if p s (x / 8) (x % 8) then s.groupAbort (x / 8) (x % 8) status rank else s) s

/-- RELEASE of a slot. -/
def State.groupRelease (s : State) (h k : Nat) : State :=
  if s.grpState h k = grpCommitted ∨ s.grpState h k = grpAborted then
    let s := (s.setGrpState h k grpIdle).setGroup h k (fun g => { lastCmd := g.lastCmd, cycleAt := g.cycleAt, startState := g.startState })
    (s.put (O.GRP_LINES h k) 0).put (O.GRP_TENANT h k) 0xFFFF
  else s

/-! ## Staging (R191 to R196) -/

/-- Bytes of a write laid over a line. -/
def overlay (old data mask : Nat) : Nat :=
  (List.range 64).foldl (fun a i => if mask.testBit i then linePut a i 1 (lineGet data i 1) else a) old

/-- Change a staging line. -/
def State.setStaging (s : State) (h k line : Nat) (f : StagingLine → StagingLine) : State :=
  s.setGroup h k (fun g => { g with lines := g.lines.map (fun l => if l.line = line then f l else l) })

/-- A staged write is discarded with Cmp (R194, R196). -/
def State.discardStaged (s : State) (tk h : Nat) : State :=
  (s.count32 (O.GRP_DISCARDED h)).owe (.answer tk (.cmp 0) 0 false 0)

/-- A staged write opens its slot (R192). GRP_STATUS, which R192 sets at the end of a group alone, is OK from here to that end, and an IDLE slot
keeps that of its latest group (DESIGN CHOICE, log 134). -/
def State.openGroup (s : State) (h k tenant : Nat) : State :=
  if s.grpState h k = grpIdle then
    let s := (s.setGrpState h k grpOpen).put (O.GRP_GEN h k) ((s.get (O.GRP_GEN h k) + 1) % 2 ^ 32)
    let s := (s.put (O.GRP_TENANT h k) tenant).put (O.GRP_OPENED_AT h k) (s.now (s.hostDie h))
    s.put (O.GRP_STATUS h k) stOk
  else s

/-- A staged write reaches its slot (R193, R194, R196). One whose line needs a GROUP cell where none is free waits in its own (R216). -/
def State.stageWrite (s : State) (tk : Nat) : State :=
  let t := s.tracker tk
  let h := t.host
  let k := t.aliasNo
  let r := t.req
  let line := lineOf t.fa
  let d := tk / 8192
  let was := s
  if grpOpen < s.grpState h k then (s.freeCell d r.cell).discardStaged tk h
  else
    let s := s.openGroup h k t.tenant
    let g := s.group h k
    match g.lines.find? (fun l => l.line == line) with
    | none =>
      if 64 ≤ g.lines.length then ((s.freeCell d r.cell).discardStaged tk h).groupAbort h k stLimit causeLimit
      else if t.tenant ≠ s.grpTenant h k then ((s.freeCell d r.cell).discardStaged tk h).groupAbort h k stDenied causeDenied
      else
        let got := if g.lines.length % 4 = 0 then s.allocCell d poolGroup 0 else (0, s)
        if g.lines.length % 4 = 0 ∧ got.1 = 0 then { was with grp := { was.grp with waiting := was.grp.waiting ++ [tk] } }
        else
        let (ue, s) := got.2.readIn d r.cell
        let s := s.freeCell d r.cell
        let l : StagingLine := { line := line, data := overlay 0 r.data r.mask, mask := r.mask, marked := false, claimed := false, pinned := false,
                                 written := false, bad := r.poison || ue, region := (s.regionOf line).getD 0,
                                 waiting := [.tracker (tk / 8192) (tk % 8192)] }
        let s := s.setGroup h k (fun g => { g with lines := g.lines ++ [l], cells := if got.1 = 0 then g.cells else g.cells ++ [got.1] })
        let s := s.put (O.GRP_LINES h k) (g.lines.length + 1)
        s.groupToHome h k line .mark (fun q => { q with port := r.port })
    | some _ =>
      if t.tenant ≠ s.grpTenant h k then ((s.freeCell d r.cell).discardStaged tk h).groupAbort h k stDenied causeDenied
      else
        let (ue, s) := s.readIn d r.cell
        let s := s.freeCell d r.cell
        let s := s.setStaging h k line (fun l =>
          { l with data := overlay l.data r.data r.mask, mask := Nat.lor l.mask r.mask, bad := l.bad || r.poison || ue })
        s.owe (.answer tk (.cmp 0) 0 false 0)

/-- A slot keeps staged bytes. -/
def State.stagedLine (s : State) (h k line : Nat) : Option StagingLine :=
  let st := s.grpState h k
  if grpOpen ≤ st ∧ st ≤ grpApplying then (s.group h k).lines.find? (fun l => l.line == line) else none

/-- A staging line is read from its GROUP cell (R213): whether an uncorrectable error is found, which poisons it. -/
def State.readStaging (s : State) (h k line err : Nat) : Bool × State :=
  let g := s.group h k
  s.readOut (s.hostDie h) (g.cells.getD ((g.lines.takeWhile (fun l => l.line != line)).length / 4) 0) 1 err

/-- A staged read: from the staging line, or from the home as RD_CUR (R195). -/
def State.stageRead (s : State) (tk : Nat) : State :=
  let t := s.tracker tk
  let d := tk / 8192
  let toHome := fun (s : State) =>
    (if t.metered then s.countColour t.tenant 0 (min t.colour 1) else s).toHome d { s.homeReq tk with cls := .rdCur } t.req.origin t.req.cell
  match s.stagedLine t.host t.aliasNo (lineOf t.fa) with
  | some l =>
    if l.mask = 2 ^ 64 - 1 then (s.freeCell d t.req.cell).owe (.answer tk (.data 0) l.data l.bad 0) else toHome s
  | none => toHome s

/-- A staged write of the same slot waits for a GROUP cell, and this one behind it (R216). -/
def State.stagingWaits (s : State) (tk : Nat) : Bool :=
  s.grp.waiting.any (fun w => (s.tracker w).host == (s.tracker tk).host && (s.tracker w).aliasNo == (s.tracker tk).aliasNo)

/-- A request at an alias of 1–7 reaches its slot (R189, R191). -/
def State.stage (s : State) (tk : Nat) : State :=
  let t := s.tracker tk
  if t.req.meta_ = metaI ∧ t.req.isWrite = true ∧ s.stagingWaits tk = true then { s with grp := { s.grp with waiting := s.grp.waiting ++ [tk] } }
  else if t.req.meta_ = metaI ∧ t.req.isWrite = true then s.stageWrite tk
  else if t.req.meta_ = metaI ∧ t.req.op = .memRd then s.stageRead tk
  else
    let s := (s.count32 (O.GRP_PROTOCOL t.host)).grpEvent t.host F.GROUP_PROTOCOL 0 t.req.hpa t.req.kind.accessType
    (s.freeCell (tk / 8192) t.req.cell).refuseTracked tk

/-- The staged writes that waited for a GROUP cell try again, in order (R216). -/
def State.retryStaging (s : State) : State :=
  let ks := s.grp.waiting.filter (fun k => (s.tracker k).busy && !(s.tracker k).answered)
  if ks.isEmpty then { s with grp := { s.grp with waiting := [] } }
  else forEach ks (fun k s =>
    if (s.tracker k).discard then (s.freeCell (k / 8192) (s.tracker k).req.cell).releaseTracker k false else s.stage k) { s with grp := { s.grp with waiting := [] } }

/-- An answer for a tracked request: a staged read has its group's bytes laid over the data (R195); an uncorrectable error in their
cell poisons the data and aborts the group (R205, R213). The bytes are those that the slot holds as the answer returns; an error found while the
group is APPLYING poisons the read and leaves the apply and GRP_STATUS as they are (DESIGN CHOICES, log 135). -/
def State.takeAnswer (s : State) (tk : Nat) (type : MsgType) (data : Nat) (poison : Bool) (cell : Nat) (origin : Option Nat := none) : State :=
  let t := s.tracker tk
  if t.aliasNo = 0 ∨ t.req.isRead = false ∨ t.answered = true then s.sendAnswer tk type data poison cell origin
  else match s.stagedLine t.host t.aliasNo (lineOf t.fa) with
    | some l =>
      let x := s.readStaging t.host t.aliasNo (lineOf t.fa) t.req.err
      let s := x.2.sendAnswer tk type (overlay data l.data l.mask) (poison || l.bad || x.1) cell origin
      if x.1 then s.groupAbort t.host t.aliasNo stPoison causePoison else s
    | none => s.sendAnswer tk type data poison cell origin

/-- A host's write or read at an alias of 1–7 (R189): it takes the path of every CXL.mem request. -/
def aliasOf (s : State) (p hpa : Nat) : Nat :=
  match (s.decode (s.get (O.HOST_ID p)) hpa).fa with | some (_, al) => al | none => 0
def fxStagedWrite (p : Nat) (full : Bool) (hpa tag data mask : Nat) (poison : Bool) (s : State) : State :=
  if 0 < aliasOf s p hpa then fxHostRequest p (if full then .memWr else .memWrPtl) metaI hpa tag data mask poison 0 s else s
def fxStagedRead (p hpa tag err : Nat) (s : State) : State :=
  if 0 < aliasOf s p hpa then s.hostRequest (hostReqOf p .memRd metaI hpa tag 0 0 false err) 0 else s

/-! ## Answers from the homes (R193, R200 to R202) -/

/-- Take the answer of a kind for a line, of the group's generation. -/
def State.takeGroupAnswer (s : State) (kind h k line : Nat) : Option (GroupAnswer × State) :=
  match s.grp.answer.find? (fun a => a.kind == kind && a.host == h && a.slot == k && a.line == line) with
  | none => none
  | some a => some (a, { s with grp := { s.grp with answer := s.grp.answer.erase a } })

/-- The mark's acknowledgement: Cmp for the write that waited (R193). -/
def fxMarkAck (h k line : Nat) (s : State) : State :=
  match s.takeGroupAnswer 0 h k (lineOf line) with
  | none => s
  | some (a, s) =>
    if a.gen ≠ s.get (O.GRP_GEN h k) then s
    else
      let waiting := ((s.group h k).lines.filter (fun l => l.line == lineOf line)).map (fun l => l.waiting)
      let s := s.setStaging h k (lineOf line) (fun l => { l with marked := true, waiting := [] })
      forEach waiting.flatten (fun o s => match o with | .tracker e n => s.owe (.answer (8192 * e + n) (.cmp 0) 0 false 0) | _ => s) s

/-- Every staging line satisfies a test. -/
def State.allLines (s : State) (h k : Nat) (f : StagingLine → Bool) : Bool := (s.group h k).lines.all f

/-- A claim's result: a CONFLICT aborts the group, the last OK sends pins (R200, R201). -/
def fxClaimResult (h k line : Nat) (s : State) : State :=
  match s.takeGroupAnswer 1 h k (lineOf line) with
  | none => s
  | some (a, s) =>
    if a.gen ≠ s.get (O.GRP_GEN h k) ∨ s.grpState h k ≠ grpCommitting then s
    else if a.status ≠ stOk then s.groupAbort h k stConflict (causeConflict + 1)
    else
      let s := s.setStaging h k (lineOf line) (fun l => { l with claimed := true })
      if s.allLines h k (fun l => l.claimed) then
        forEach ((s.group h k).lines) (fun l s => s.groupToHome h k l.line .pin id) s
      else s

/-- The apply write of a staging line goes to its home; a line that shows an uncorrectable error is written with poison (R202, R206). -/
def State.applyLine (s : State) (h k : Nat) (l : StagingLine) (err : Nat) : State :=
  let x := s.readStaging h k l.line err
  let s := if x.1 then x.2.setGroup h k (fun g => { g with bad := true }) else x.2
  s.groupToHome h k l.line .applyWrite (fun q =>
    { q with owner := .apply h k l.line, data := l.data, mask := l.mask, poison := l.bad || x.1 })

/-- A pin's result: a failure aborts the group, the last OK makes it APPLYING (R202). -/
def fxPinResult (h k line : Nat) (errs : List Nat) (s : State) : State :=
  match s.takeGroupAnswer 2 h k (lineOf line) with
  | none => s
  | some (a, s) =>
    if a.gen ≠ s.get (O.GRP_GEN h k) ∨ s.grpState h k ≠ grpCommitting then s
    else if a.status = stLimit then s.groupAbort h k stLimit (causeLimit + 1)
    else if a.status ≠ stOk then s.groupAbort h k stConflict (causeConflict + 1)
    else
      let s := s.setStaging h k (lineOf line) (fun l => { l with pinned := true })
      if s.allLines h k (fun l => l.pinned) then
        let s := s.setGrpState h k grpApplying
        let ls := (s.group h k).lines
        forEach (ls.zip (errs ++ List.replicate ls.length 0)) (fun x s => s.applyLine h k x.1 x.2) s
      else s

/-- An apply write's acknowledgement: at the last one the group is COMMITTED, and unpins go to every line (R202, R206). -/
def fxApplyWriteAck (h k line : Nat) (s : State) : State :=
  match s.takeGroupAnswer 3 h k (lineOf line) with
  | none => s
  | some (a, s) =>
    if s.grpState h k ≠ grpApplying then s
    else
      let s := s.setStaging h k (lineOf line) (fun l => { l with written := true })
      let s := s.setGroup h k (fun g => { g with lost := g.lost || a.status != stOk })
      if s.allLines h k (fun l => l.written) then
        let d := s.hostDie h
        let g := s.group h k
        let s := forEach g.lines (fun l s => s.groupToHome h k l.line .unpin id) s
        let s := s.freeStaging h k
        let s := ((s.setGrpState h k grpCommitted).put (O.GRP_STATUS h k) (if g.lost || g.bad then stPoison else stOk)).put
          (O.GRP_DONE_AT h k) (s.now d)
        let s := (s.count32 (O.GRP_COMMITS h)).perfCount d evGrpCommit 0xFF (s.grpTenant h k) 1
        if g.lost then s.grpEvent h F.GROUP_APPLY_LOST 1 0 2 else s
      else s

/-- A group has not reached APPLYING within GRP_COMMIT_WAIT (R204). -/
def fxGrpCommitWaitExpiry (h k : Nat) (s : State) : State :=
  if s.grpState h k = grpCommitting ∧ (s.group h k).commitAt + s.get O.GRP_COMMIT_WAIT ≤ s.elapsed (s.hostDie h) then
    s.groupAbort h k stTimeout causeTimeout
  else s

/-! ## The group page (R197, R198) -/

/-- COMMIT (R200): a group that another cause has aborted in the same core cycle stays ABORTED. -/
def State.groupCommit (s : State) (h k : Nat) : State :=
  if s.grpState h k = grpOpen then
    let d := s.hostDie h
    let s := (s.setGrpState h k grpCommitting).put (O.GRP_COMMIT_STAMP h k) (s.stamp d)
    let s := s.setGroup h k (fun g => { g with commitAt := s.elapsed d })
    forEach ((s.group h k).lines) (fun l s => s.groupToHome h k l.line .claim id) s
  else s

/-- The state serves a command: 1 COMMIT, 2 ABORT, 3 RELEASE (R198). -/
def State.groupServes (s : State) (h k cmd : Nat) : Bool :=
  let st := s.judgedState h k
  match cmd with
  | 1 => st == grpOpen
  | 2 => st == grpOpen || st == grpCommitting
  | _ => st == grpCommitted || st == grpAborted

/-- A command of a slot takes effect. -/
def State.groupCommand (s : State) (h k cmd : Nat) : State :=
  match cmd with
  | 1 => s.groupCommit h k
  | 2 => s.groupAbort h k stAborted causeCommand
  | _ => s.groupRelease h k

/-- A write to offset 0 of a slot's block, with its length in bytes and its value: LAST_CMD, and the command where it is
served (R198). -/
def State.groupPageWrite (s : State) (h k len value : Nat) : State :=
  let cmd := value % 256
  let st :=
    if len ≠ 8 then stBadValue
    else if cmd = 0 ∨ 3 < cmd ∨ bitsOf value 31 8 ≠ 0 then stBadValue
    else if value / 2 ^ 32 ≠ s.get (O.GRP_GEN h k) then stConflict
    else if s.groupServes h k cmd then stOk else stBusy
  let s := s.setGroup h k (fun g => { g with lastCmd := st })
  if st = stOk then s.groupCommand h k cmd else s

/-- The word at an offset of the group page (R197). -/
def State.groupPageRead (s : State) (h off : Nat) : Nat :=
  let k := off / 64
  if k = 0 ∨ 8 ≤ k then 0
  else match off % 64 / 8 with
    | 1 => s.get (O.GRP_GEN h k) * 2 ^ 32 + (s.group h k).lastCmd * 2 ^ 24 + s.get (O.GRP_LINES h k) * 2 ^ 16 +
        s.get (O.GRP_STATUS h k) * 2 ^ 8 + s.grpState h k
    | 2 => s.get (O.GRP_COMMIT_STAMP h k)
    | _ => 0

/-- The host of a port reaches the pool endpoint (R112, R114). -/
def State.poolOpen (s : State) (h : Nat) : Bool :=
  match s.poolVppb h with
  | some v => s.get (O.VPPB_ADMIT h v) == 1
  | none => false

/-- The posted write of a GDB_CMD command is received on its port, observed there, and leaves its cell. -/
def State.gdbReceive (s : State) (p k gen cmd : Nat) : State :=
  let m : Msg := { type := .req, kind := .ioPosted, opcode := 0x60, channel := 7, host := s.get (O.HOST_ID p), hpa := k * 0x40,
                   dpa := k * 0x40, data := gen % 2 ^ 32 * 2 ^ 32 + cmd, len := 8, mask := 255, origin := s.stamp (dieOfPort p) }
  let got := s.receiveCell p m
  (got.2.observe p 0 m).freeCell (dieOfPort p) got.1

/-- A GDB_CMD command of a host (R198): a posted write to a slot's block of the group page, which is an unmapped access while the pool
endpoint's vPPB is not admitted (R114), and is discarded in SAFE (R418). -/
def State.gdbCommand (s : State) (p k gen cmd : Nat) : State :=
  let h := s.get (O.HOST_ID p)
  if s.role p = roleUpstream ∧ s.carries p = true ∧ (s.poolVppb h).isSome = true ∧ 1 ≤ k ∧ k ≤ 7 then
    let s := s.gdbReceive p k gen cmd
    if s.dieSafe (dieOfPort p) then s
    else if s.poolOpen h then s.groupPageWrite h k 8 (gen % 2 ^ 32 * 2 ^ 32 + cmd)
    else s.countUnmapped p h (k * 0x40) noTenant 2
  else s
def fxGdbCommit (p k gen : Nat) (s : State) : State := s.gdbCommand p k gen 1
def fxGdbAbort (p k gen : Nat) (s : State) : State := s.gdbCommand p k gen 2
def fxGdbRelease (p k gen : Nat) (s : State) : State := s.gdbCommand p k gen 3

/-- A write of GRP_CTRL: its status, and its effect (R210). -/
def State.grpCtrlStatus (s : State) (h k v : Nat) : Nat :=
  if v ≠ 2 ∧ v ≠ 3 then stBadValue else if s.groupServes h k v then stOk else stBusy
def fxGrpCtrl (h k v : Nat) (s : State) : State := s.groupCommand h k v

/-- An answer from a home reaches the die of a group: an abort acts at once, the others wait for their commands. -/
def State.takeGroup (s : State) (a : GroupAnswer) : State :=
  if a.kind = 4 then
    if a.gen = s.get (O.GRP_GEN a.host a.slot) then s.groupAbort a.host a.slot a.status causeConflict else s
  else { s with grp := { s.grp with answer := s.grp.answer ++ [a] } }

end Sys2Proof.Machine
end

