-- ==== Sys2Proof/Machine/Mpu.lean ====
section
/-! DEFINITION. Master protection units: regions, the check of an access and its refusal (R455 to R461, R472). -/
namespace Sys2Proof.Machine

/-- An MPU region: its bounds and attributes (R457). -/
structure MpuRegion where
  lo : Nat
  hi : Nat
  attr : Nat
  deriving DecidableEq, Repr

/-- Region `r` of an instance of class 06. -/
def State.mpuRegion (s : State) (inst r : Nat) : MpuRegion :=
  ⟨s.get (O.MPU_LO inst r), s.get (O.MPU_HI inst r), s.get (O.MPU_ATTR inst r)⟩

/-- Access kinds: read, write, instruction fetch. -/
def mpuR : Nat := 0
def mpuW : Nat := 1
def mpuX : Nat := 2

/-- A region grants a kind at an address. -/
def MpuRegion.grants (g : MpuRegion) (kind a : Nat) : Bool :=
  g.attr.testBit 31 && g.attr.testBit kind && decide (g.lo ≤ a ∧ a ≤ g.hi)

/-- The lowest address of a range at which a piece is refused: each step leaps over what one granting region covers. -/
def firstRefused (gs : List MpuRegion) (kind a stop fuel : Nat) : Option Nat :=
  match fuel with
  | 0 => if a < stop then some a else none
  | fuel + 1 =>
    if stop ≤ a then none
    else match gs.find? (fun g => g.grants kind a) with
      | some g => firstRefused gs kind (g.hi + 1) stop fuel
      | none => some a

/-- The check of an access of `n` bytes at `a` against regions `rs` of an instance (R457, R458). -/
def State.mpuCheck (s : State) (inst : Nat) (rs : List Nat) (kind a n : Nat) : Option Nat :=
  firstRefused (rs.map (s.mpuRegion inst)) kind a (a + n) 33

/-- The regions of a tenant as an engine's MPU shows them in regions 28–31 (R269). -/
def State.tenantRegions (s : State) (t : Nat) : List MpuRegion :=
  (List.range 4).map (fun k =>
    let perm := s.get (O.T_RGN_PERM t)
    ⟨s.get (O.T_RGN_LO t k), s.get (O.T_RGN_HI t k), bitsOf perm (4 * k + 1) (4 * k) +
      (if perm.testBit (4 * k + 3) then 2 ^ 31 else 0)⟩)

/-- An MPU refusal (R459): raised on a die, counted, and its address recorded. -/
def State.mpuRefuse (s : State) (d inst master typ addr : Nat) : State :=
  let s := (s.count32 (O.MPU_REFUSED_COUNT inst)).put (O.MPU_LAST_ADDR inst) addr
  (s.setBit O.SEC_EVENTS 0 true).raise (d * 512 + F.MPU_REFUSED) 0 addr master typ

/-- Instances of R456. -/
def mpuCicada (d : Nat) : Nat := d
def mpuEngine (d e : Nat) : Nat := 0x10 + 4 * d + e
def mpuClick (n : Nat) : Nat := 0x40 + n
def mpuDebug : Nat := 0xC0
def mpuPort (x : Nat) : Nat := 0xD0 + x

/-- The instances of a variant. -/
def State.mpuInstances (s : State) : List Nat :=
  (List.range s.dies).map mpuCicada ++ (List.range (4 * s.dies)).map (0x10 + ·) ++ (List.range (8 * s.dies)).map (0x40 + ·) ++
    [0x80, 0x81, 0x82, 0x83, mpuDebug] ++ (List.range 3).map (0xD0 + ·)

/-- The lock of a region in force: 1 L1, 2 L2 (R461). -/
def MpuRegion.lock (g : MpuRegion) : Nat := if g.attr.testBit 31 then bitsOf g.attr 30 29 else 0

end Sys2Proof.Machine
end

