-- ==== Sys2Proof/Machine/Mover.lean ====
section
/-! DEFINITION. The Scarab mover: queues, doorbells and fetch, descriptors and their lines, completion records,
notifications and interrupts, and the queue commands (R287 to R312). -/
namespace Sys2Proof.Machine

/-! ## Queues and their tenants (R287, R308) -/

def qDisabled : Nat := 0
def qEnabled : Nat := 1
def qDraining : Nat := 2
def qHalted : Nat := 3

/-- The die that serves a queue. -/
def State.queueDie (s : State) (q : Nat) : Nat := q % s.dies

/-- The enabled tenants. -/
def State.tenants (s : State) : List Nat :=
  (s.regs.filter (fun c => decide (c.1 / 0x100 % 0x100 = 0x30 ∧ c.1 % 0x100 = 0 ∧ c.1 / 0x10000 < 1024) && c.2.toNat.testBit 63)).map
    (fun c => c.1 / 0x10000)

/-- The queues a T_QUEUES value names. -/
def queuesIn (w : Nat) : List Nat :=
  (List.range 4).filterMap (fun i => if w.testBit (16 * i + 15) then some (bitsOf w (16 * i + 9) (16 * i)) else none)

/-- The tenant of a queue. -/
def State.queueTenant (s : State) (q : Nat) : Option Nat :=
  s.tenants.find? (fun t => (queuesIn (s.get (O.T_QUEUES t))).contains q)

/-- The host of a tenant. -/
def State.tenantHost (s : State) (t : Nat) : Nat := bitsOf (s.get (O.T_CFG t)) 53 48

def State.queue (s : State) (q : Nat) : MvQueue := s.mv.queue.at q
def State.setQueue (s : State) (q : Nat) (f : MvQueue → MvQueue) : State := { s with mv := { s.mv with queue := s.mv.queue.upd q f } }
def State.engine (s : State) (d e : Nat) : MvEngine := s.mv.engine.at (4 * d + e)
def State.setEngine (s : State) (d e : Nat) (f : MvEngine → MvEngine) : State :=
  { s with mv := { s.mv with engine := s.mv.engine.upd (4 * d + e) f } }
def State.desc (s : State) (q i : Nat) : Option MvDesc := s.mv.desc.find? (fun x => x.queue == q && x.index == i)
def State.setDesc (s : State) (q i : Nat) (f : MvDesc → MvDesc) : State :=
  { s with mv := { s.mv with desc := s.mv.desc.map (fun (x : MvDesc) => if x.queue = q ∧ x.index = i then f x else x) } }

/-- A queue fetches (R308). -/
def State.mayFetch (s : State) (q : Nat) : Bool :=
  s.get (O.Q_STATE q) == qEnabled && decide (s.mode ∈ [mRun, mRunNc, mDegraded, mMaint]) &&
    (match s.queueTenant q with
     | some t => s.get (O.T_ADMIT t) == 1 && !s.ten.frozen.contains t
     | none => true)

/-- Q_IDLE (R305). -/
def State.queueIdle (s : State) (q : Nat) : Bool :=
  s.mv.desc.all (fun x => x.queue != q || x.phase == 5) && s.mv.req.all (fun r => r.queue != q || r.kind == 0)

/-- How far an index lies from Q_CI (R290). -/
def State.indexAge (s : State) (q i : Nat) : Nat := (i + 2 ^ 32 - s.get (O.Q_CI q)) % 2 ^ 32

/-! ## Accesses of engines and queues (R288, R296, R298) -/

/-- Take a fresh number for a request of the mover. -/
def State.mvFresh (s : State) : Nat × State := (s.mv.serial, { s with mv := { s.mv with serial := s.mv.serial + 1 } })

def State.addReq (s : State) (r : MvReq) : State := { s with mv := { s.mv with req := s.mv.req ++ [r] } }
def State.dropReq (s : State) (id : Nat) : State := { s with mv := { s.mv with req := s.mv.req.filter (fun r => r.id != id) } }

/-- The tenant and class a queue's requests carry (R298). -/
def State.mvTenant (s : State) (q : Nat) : Nat := (s.queueTenant q).getD noTenant
def State.mvClass (s : State) (q : Nat) : Nat := s.get (O.Q_CLASS q)

/-- A CXL.mem message of an engine. -/
def State.mvMsg (s : State) (d e q id : Nat) (write : Bool) (data mask : Nat) (poison : Bool) (cell : Nat) : Msg :=
  { type := .req, kind := if write then .write else .read, opcode := if write then (if mask = 2 ^ 64 - 1 then 1 else 2) else 1,
    channel := if write then 1 else 0, owner := .mover d e id, tenant := s.mvTenant q, cls := s.mvClass q, data := data, mask := mask,
    poison := poison, origin := s.stamp d, cell := cell, len := if write then 64 else 0 }

/-- What the maps and the regions make of a line before it is sent: the status that stops it, or OK (R135, R149, R297). -/
def State.mvCheck (s : State) (fa : Nat) : Nat :=
  if (s.lookup fa).isNone then stBadValue
  else if (s.regionOf fa).isSome && (s.mode == mRunNc || s.get O.DIR_STATE != 2) then stDenied
  else stOk

/-- The engine's die holds its lines for a bad map entry (R127). -/
def State.mvHeld (s : State) (d fa : Nat) : Bool := (s.mapWait d fa).isSome

/-- A line that the maps or the regions stop: a refused shared access is counted and raised (R149, R297). -/
def State.mvRefuse (s : State) (d fa master typ : Nat) : State :=
  match s.regionOf fa with
  | some r => if s.mvCheck fa = stDenied then s.countSharedOn d fa master r typ else s
  | none => s

/-- The MOVER cells that an engine holds: of those it has taken, the ones not yet freed (R296). -/
def State.engineCells (s : State) (d e : Nat) : List Nat := (s.engine d e).cells.filter (fun c => s.holdsCell d c)

/-- MOVER has cells for `n` accesses of an engine: of the die's pool, and of the 256 that the engine may hold (R216, R296). -/
def State.moverRoom (s : State) (d e n : Nat) : Bool :=
  decide (s.get (poolObj d poolMover) + n ≤ s.poolSize d poolMover ∧ n ≤ s.get (O.CELLS_FREE d) ∧ (s.engineCells d e).length + n ≤ 256)

/-- An engine takes a MOVER cell (R214, R296). -/
def State.moverCell (s : State) (d e : Nat) : Nat × State :=
  let (cell, s) := s.allocCell d poolMover 0
  (cell, s.setEngine d e (fun r => { r with cells := cell :: s.engineCells d e }))

/-- The epoch of an access that is translated now (R136). -/
def State.nowEpoch (s : State) : Option Nat := some (s.get O.BIND_EPOCH)

/-- Send a line at a fabric address: to its home in a shared region, else to its device (R296), as mover traffic (R218). -/
def State.mvSend (s : State) (d e q id fa : Nat) (write : Bool) (data mask : Nat) (poison : Bool) (cell : Nat) : State :=
  let s := s.countLookup d fa
  match s.regionOf fa with
  | some _ =>
    let r : HomeReq := { cls := if write then .moverWrite else .moverRead, die := s.homeDie fa, line := lineOf fa, host := 64,
                         tenant := s.mvTenant q, tcls := s.mvClass q, owner := .mover d e id, data := data, mask := mask, poison := poison,
                         full := mask == 2 ^ 64 - 1, stamp := s.stamp d }
    s.toHome d r r.stamp cell
  | none => s.toMemory d (lineOf fa) vcMnt (s.mvTenant q == noTenant) { s.mvMsg d e q id write data mask poison cell with fa := lineOf fa, hasFa := true }

/-- A word of a host's configuration space, by function and 32-bit word: function 0 the upstream port, 1 + v vPPB v, 17 the
pool endpoint, 18 the FM endpoint. -/
def cfgKey (fn word : Nat) : Nat := 0x10000 * fn + word
def fnPool : Nat := 17
def fnFm : Nat := 18

/-- A register of the pool endpoint of a host's port. -/
def State.poolCfg (s : State) (p word : Nat) : Nat := (s.port p).cfg.at (cfgKey fnPool word)

/-- The word of the pool endpoint's MSI capability (R304). -/
def msiCap : Nat := 0x14

/-- A vector of the pool endpoint's MSI is enabled, granted and unmasked. -/
def State.msiReady (s : State) (p v : Nat) : Bool :=
  let c := s.poolCfg p msiCap
  c.testBit 16 && decide (v < 2 ^ bitsOf c 22 20) && !(s.poolCfg p (msiCap + 4)).testBit v

/-- The upstream port a HOST-space access of a queue goes to, or the status that stops it (R288, R307). -/
def State.hostAccess (s : State) (q : Nat) : Nat ⊕ Nat :=
  match s.queueTenant q with
  | none => .inr stDenied
  | some t =>
    match s.hostPort (s.tenantHost t) with
    | none => .inr stLinkDown
    | some p =>
      if s.linkState p ≠ lsUp then .inr stLinkDown
      else if (s.poolVppb (s.tenantHost t)).isNone ∨ (s.poolCfg p 1).testBit 2 = false then .inr stDenied
      else .inl p

/-- A CXL.io memory request of the pool endpoint toward its host (R288), in a MOVER cell of its engine and as mover traffic (R214,
R218). A posted write counts among the tenant's work until it has left the host's port (R273). -/
def State.ioUpstream (s : State) (q e p a len : Nat) (write : Bool) (data : Nat) : State :=
  let d := s.queueDie q
  let n := s.io.tag
  let s : State := if write then
      { s with io := { s.io with tag := n + 1, up := s.io.up ++ [{ port := p, tag := n, device := 0xFFFF, ld := 0, devTag := 0, tenant := s.mvTenant q, kind := 2 }] } }
    else s
  let (cell, s) := s.moverCell d e
  let m : Msg := { type := .req, kind := if write then .ioPosted else .ioNp, opcode := if write then 0x60 else 0x20, channel := 7,
                   host := s.get (O.HOST_ID p), hpa := a, tenant := s.mvTenant q, cls := s.mvClass q, data := data, len := len,
                   mask := if write then 2 ^ len - 1 else 0, origin := s.stamp d, cell := cell, up := if write then n + 1 else 0 }
  s.toPort d p (hostKey (s.get (O.HOST_ID p))) vcMnt false m

/-- Check a queue's access in FABRIC space against regions 0–27 of an engine's MPU (R288, R458). -/
def State.mvGuard (s : State) (d e kind a n : Nat) : Option Nat :=
  s.mpuCheck (mpuEngine d e) (List.range 28) kind a n

/-- Free a queue that has become idle while DRAINING (R305). -/
def State.queueRest (s : State) (q : Nat) : State :=
  if s.get (O.Q_STATE q) = qDraining ∧ s.queueIdle q then s.put (O.Q_STATE q) qDisabled else s

/-- Every queue that drains and has become idle is DISABLED. -/
def State.queuesRest (s : State) : State :=
  forEach ((s.regs.filter (fun c => decide (c.1 / 0x100 % 0x100 = 0x38 ∧ c.1 % 0x100 = 1 ∧ c.2.toNat = qDraining))).map (fun c => c.1 / 0x10000))
    (fun q s => s.queueRest q) s

/-! ## How descriptors end without running (R306, R307) -/

/-- Fetched descriptors that have not started complete with ABORTED, those whose fetch is in flight among them. An engine and
a start that such a record names are values the spec does not state. -/
def State.abortUnstarted (s : State) (q : Nat) : State :=
  let (a, s) := s.fresh
  let (b, s) := s.fresh
  { s with mv := { s.mv with
    desc := s.mv.desc.map (fun (x : MvDesc) =>
      if x.queue = q ∧ x.phase = 0 then { x with phase := 2, stop := true, status := stAborted, engine := a % 4, startedAt := b } else x),
    req := s.mv.req.map (fun (r : MvReq) => if r.queue = q ∧ r.kind = 2 then { r with drop := true } else r) } }

/-- An ENABLED queue halts with a status and a kind of error (R307). -/
def State.haltQueue (s : State) (q status kind : Nat) : State :=
  if s.get (O.Q_STATE q) = qEnabled then
    let s := (s.put (O.Q_STATE q) qHalted).put (O.Q_ERROR q) (status + 256 * kind)
    let s := (s.abortUnstarted q).setBit O.MV_EVENTS 0 true
    s.raise (s.queueDie q * 512 + F.QUEUE_HALTED) (channelId 10 q) 0 0xFFFF 0
  else s

/-! ## PI and fetch (R290) -/

/-- An engine can make a queue's access now: there are `n` MOVER cells for it and, of a FABRIC queue, a good map entry (R127, R216).
The engine of PI reads and of fetches is engine 0 (log 47). -/
def State.queueRoom (s : State) (q a n : Nat) (e : Nat := 0) : Bool :=
  s.moverRoom (s.queueDie q) e n && (s.get (O.Q_SPACE q) == 1 || !s.mvHeld (s.queueDie q) a)

/-- Issue a read of `n` bytes for a queue: PI (kind 1) or a descriptor (kind 2), whose failures Q_ERROR numbers 2 and 3 (R311).
`index` is the descriptor's. -/
def State.queueRead (s : State) (q kind index a n : Nat) : State :=
  let d := s.queueDie q
  if s.get (O.Q_SPACE q) = 1 then
    match s.hostAccess q with
    | .inr st => s.haltQueue q st (kind + 1)
    | .inl p =>
      let (id, s) := s.mvFresh
      let s := s.addReq { id := id, kind := kind, die := d, engine := 0, queue := q, index := index, line := a, write := false, cell := 0,
                          drop := false, result := none }
      s.ioUpstream q 0 p a n false 0
  else
    match s.mvGuard d 0 mpuR a n with
    | some bad => (s.mpuRefuse d (mpuEngine d 0) (0x200 + 4 * d) 1 bad).haltQueue q stProtection (kind + 1)
    | none =>
      if s.mvCheck a ≠ stOk then (s.mvRefuse d a (0x200 + 4 * d) 1).haltQueue q (s.mvCheck a) (kind + 1)
      else
        let (id, s) := s.mvFresh
        let (cell, s) := s.moverCell d 0
        let s := s.addReq { id := id, kind := kind, die := d, engine := 0, queue := q, index := index, line := a, write := false, cell := cell,
                            drop := false, result := none, epoch := s.nowEpoch }
        s.mvSend d 0 q id a false 0 0 false 0

/-- Descriptors of a queue that are fetched, or being fetched, and have not started. -/
def State.unstarted (s : State) (q : Nat) : Nat :=
  (s.mv.desc.filter (fun x => x.queue == q && x.phase == 0)).length + (s.mv.req.filter (fun r => r.queue == q && r.kind == 2)).length

/-- Fetch descriptors in index order, at most 16 that have not started (R290). -/
def State.fetchMore (s : State) (q fuel : Nat) : State :=
  match fuel with
  | 0 => s
  | fuel + 1 =>
    let i := s.get (O.Q_FETCH q)
    let a := s.get (O.Q_RING_BASE q) + 64 * (i % max (s.get (O.Q_RING_SIZE q)) 1)
    if s.mayFetch q && (s.queue q).live && i != s.get (O.Q_PI_SEEN q) && decide (s.unstarted q < 16) && s.queueRoom q a 1 then
      let s := s.put (O.Q_FETCH q) ((i + 1) % 2 ^ 32)
      State.fetchMore (s.queueRead q 2 i a 64) q fuel
    else s

/-- Q_DOORBELL is written. -/
def fxDoorbell (q : Nat) (s : State) : State := s.setQueue q (fun r => { r with bell := true })

/-- The die clears the doorbell flag and reads PI (R290). -/
def fxPiRead (q : Nat) (s : State) : State :=
  if (s.queue q).bell && s.mayFetch q && s.queueRoom q (s.get (O.Q_PI_ADDR q)) 1 && s.mv.req.all (fun r => r.queue != q || r.kind != 1) then
    (s.setQueue q (fun r => { r with bell := false })).queueRead q 1 0 (s.get (O.Q_PI_ADDR q)) 8
  else s

/-- The status of a CXL.io completion as a queue records it (R307): 0 Successful, 1 Unsupported Request, 4 Completer Abort,
and anything else data with poison. -/
def ioStatus (st : Nat) : Nat := if st = cplOk then stOk else if st = cplUr ∨ st = cplCa then stDenied else stPoison

/-- The outcome of the oldest read of a kind: of a FABRIC queue what came back, of a HOST queue what the host answers. -/
def State.readBack (s : State) (q kind value st : Nat) : Option (MvReq × Nat × Nat) :=
  match s.mv.req.find? (fun r => r.queue == q && r.kind == kind) with
  | none => none
  | some r =>
    if s.get (O.Q_SPACE q) = 1 then some (r, value, ioStatus st)
    else match r.result with
      | some (v, p, e) => some (r, v, if e ≠ stOk then e else if p then stPoison else stOk)
      | none => none

/-- A host's completion of a HOST queue's read is received on its port: it takes an INGRESS cell on the loop of completions, is observed,
and its cell is free once the mover has its data (R215, R217, R226). -/
def State.hostAnswers (s : State) (q value st len : Nat) : State :=
  match (if s.get (O.Q_SPACE q) = 1 then s.queueTenant q else none) with
  | none => s
  | some t =>
    match s.hostPort (s.tenantHost t) with
    | none => s
    | some p =>
      let n := if st = cplOk then len else 0
      let m : Msg := { type := .ioCpl st, kind := .ioNp, channel := 7, opcode := if n = 0 then 0x0A else 0x4A, host := s.tenantHost t, tenant := t,
                       data := if n = 0 then 0 else value % 256 ^ n, len := n, charge := ioCharge n, origin := s.stamp (dieOfPort p) }
      let (cell, s) := s.receiveCell p m
      (s.observe p 0 { m with cell := cell }).freeCell (dieOfPort p) cell

/-- The PI value returns (R290). -/
def fxPiReadReturn (q value st : Nat) (s : State) : State :=
  match s.readBack q 1 value st with
  | none => s
  | some (r, v, e) =>
    let (ue, s) := (s.hostAnswers q value st 8).readIn r.die r.cell
    let s := (s.freeCell r.die r.cell).dropReq r.id
    let e := if e = stOk ∧ ue = true then stPoison else e
    if e ≠ stOk then s.haltQueue q e 2
    else
      let pi := (if s.get (O.Q_SPACE q) = 1 then v else lineGet v (s.get (O.Q_PI_ADDR q) % 64) 8) % 2 ^ 32
      let s := (s.put (O.Q_PI_SEEN q) pi).setQueue q (fun r => { r with live := true })
      let n := s.indexAge q pi
      if s.get (O.Q_RING_SIZE q) < n ∨ n < s.indexAge q (s.get (O.Q_FETCH q)) then s.haltQueue q stBadValue 2
      else s.fetchMore q 16

/-- A fetched descriptor returns (R290). -/
def fxDescriptorFetch (q : Nat) (words : List Nat) (st : Nat) (s : State) : State :=
  let value := (List.range 8).foldl (fun a k => a + words.getD k 0 % 2 ^ 64 * 2 ^ (64 * k)) 0
  match s.readBack q 2 value st with
  | none => s
  | some (r, v, e) =>
    let (ue, s) := (s.hostAnswers q value st 64).readIn r.die r.cell
    let s := (s.freeCell r.die r.cell).dropReq r.id
    let e := if e = stOk ∧ ue = true then stPoison else e
    if e ≠ stOk then s.haltQueue q e 3
    else
      let x : MvDesc := { queue := q, index := r.index, words := (List.range 8).map (fun k => v / 2 ^ (64 * k) % 2 ^ 64), phase := 0, engine := 0,
                          next := 0, total := 0, fail := none, poisonSeen := false, stop := false, status := stOk, crc := crcStart, crcNext := 0,
                          crcPend := [], startedAt := 0, doneAt := 0 }
      let s := { s with mv := { s.mv with desc := s.mv.desc ++ [x] } }
      if r.drop then s.abortUnstarted q else s

/-! ## Descriptors (R292 to R294) -/

def MvDesc.word (x : MvDesc) (k : Nat) : Nat := x.words.getD k 0
def MvDesc.opcode (x : MvDesc) : Nat := x.word 0 % 256
def MvDesc.src (x : MvDesc) : Nat := x.word 1
def MvDesc.dst (x : MvDesc) : Nat := x.word 2
def MvDesc.len (x : MvDesc) : Nat := x.word 3
def MvDesc.mslot (x : MvDesc) : Nat := x.word 6
def opCopy : Nat := 1
def opFill : Nat := 2
def opZero : Nat := 3
def opCheck : Nat := 4
def opMigrate : Nat := 5
def opFence : Nat := 6
def MvDesc.reads (x : MvDesc) : Bool := x.opcode == opCopy || x.opcode == opCheck
def MvDesc.writes (x : MvDesc) : Bool := x.opcode == opCopy || x.opcode == opFill || x.opcode == opZero
def MvDesc.sized (x : MvDesc) : Bool := x.reads || x.writes

/-- Check 1 of R293: a defined opcode, and zero in DONE and in every reserved or unused field. -/
def MvDesc.shapeOk (x : MvDesc) : Bool :=
  decide (opCopy ≤ x.opcode ∧ x.opcode ≤ opFence) && bitsOf (x.word 0) 63 48 == 0 && bitsOf (x.word 0) 31 18 == 0 && bitsOf (x.word 0) 15 8 == 0 &&
    (if x.reads then decide (x.word 1 < 2 ^ 47) else x.word 1 == 0) && (if x.writes then decide (x.word 2 < 2 ^ 47) else x.word 2 == 0) &&
    (if x.sized then decide (x.word 3 < 2 ^ 32) else x.word 3 == 0) && (x.opcode == opFill || x.word 4 == 0) &&
    (if x.opcode = opCheck then decide (x.word 5 < 2 ^ 33) else x.word 5 == 0) && (if x.opcode = opMigrate then decide (x.word 6 < 32) else x.word 6 == 0) &&
    x.word 7 == 0

/-- Check 2 of R293. -/
def MvDesc.rangesOk (x : MvDesc) : Bool :=
  !x.sized ||
    (x.len % 64 == 0 && decide (0 < x.len ∧ x.len ≤ 0x40000000) && x.src % 64 == 0 && x.dst % 64 == 0 &&
      (!x.reads || decide (x.src + x.len ≤ 2 ^ 47)) && (!x.writes || decide (x.dst + x.len ≤ 2 ^ 47)) &&
      (x.opcode != opCopy || decide (x.src + x.len ≤ x.dst ∨ x.dst + x.len ≤ x.src)))

/-- The regions of check 4 (R293). -/
def State.descRegions (s : State) (d e q : Nat) : List MpuRegion :=
  match s.queueTenant q with
  | some t => s.tenantRegions t
  | none => (List.range 28).map (s.mpuRegion (mpuEngine d e))

/-- The lowest address that check 4 of R293 refuses, with the access type. -/
def State.descRefused (s : State) (d e : Nat) (x : MvDesc) : Option (Nat × Nat) :=
  let gs := s.descRegions d e x.queue
  let r := if x.reads then (firstRefused gs mpuR x.src (x.src + x.len) 33).map (fun a => (a, 1)) else none
  let w := if x.writes then (firstRefused gs mpuW x.dst (x.dst + x.len) 33).map (fun a => (a, 2)) else none
  match r, w with
  | some a, some b => some (if b.1 < a.1 then b else a)
  | some a, none => some a
  | none, b => b

/-- The status of the checks of R293, OK when all pass. -/
def State.descStatus (s : State) (d e : Nat) (x : MvDesc) : Nat :=
  if !x.shapeOk || !x.rangesOk then stBadValue
  else if x.opcode = opMigrate ∧ (s.queueTenant x.queue).isSome then stDenied
  else if x.opcode = opMigrate ∧ s.get (O.MIG_STATE x.mslot) ≠ migMirror then stBusy
  else if (s.descRefused d e x).isSome then stProtection
  else stOk

/-- A descriptor may start (R295): the lowest index that has not started, every fetch before it back, no FENCE before it
unfinished, and for a FENCE nothing before it unfinished. -/
def State.startable (s : State) (q : Nat) : Option MvDesc :=
  let cands := s.mv.desc.filter (fun x => x.queue == q && x.phase == 0)
  match cands.find? (fun x => cands.all (fun y => decide (s.indexAge q x.index ≤ s.indexAge q y.index))) with
  | none => none
  | some x =>
    let before := s.mv.desc.filter (fun y => y.queue == q && y.phase != 5 && decide (s.indexAge q y.index < s.indexAge q x.index))
    let late := s.mv.req.any (fun r => r.queue == q && r.kind == 2 && decide (s.indexAge q r.index < s.indexAge q x.index))
    if late || before.any (fun y => y.opcode == opFence) || (x.opcode == opFence && !before.isEmpty) then none else some x

/-- A queue's budget lets a line out (R298). -/
def State.budgetOk (s : State) (q : Nat) : Bool := s.get (O.Q_RATE q) == 0 || decide (0 < (s.queue q).budget)

/-- Charge a line to a queue's budget (R298). -/
def State.chargeLine (s : State) (q : Nat) : State :=
  if s.get (O.Q_RATE q) = 0 then s else s.setQueue q (fun r => { r with budget := r.budget - 64 })

/-- Budgets at a refill tick (R298). -/
def State.refillBudgets (s : State) (d : Nat) : State :=
  forEach ((s.regs.filter (fun c => decide (c.1 / 0x100 % 0x100 = 0x38 ∧ c.1 % 0x100 = 9))).map (fun c => c.1 / 0x10000)) (fun q s =>
    let r : Int := s.get (O.Q_RATE q)
    if s.queueDie q = d ∧ r ≠ 0 then s.setQueue q (fun m => { m with budget := min (m.budget + r) (4 * r) }) else s) s

/-! ## Lines (R296, R297, R310) -/

/-- The fabric address of a granule: where an extent that is SPLIT presents it. -/
def State.granuleAddr (s : State) (g : Nat) : Nat :=
  match (s.regs.filter (fun c => decide (c.1 / 0x100 % 0x100 = 0x22 ∧ 0x100 ≤ c.1 / 0x10000 ∧ c.1 / 0x10000 < 0x300))).find?
      (fun c => extKind c.2.toNat == 2 && extTarget c.2.toNat % 512 == g / 512) with
  | some c => ((c.1 / 0x10000 - 0x100) * 256 + c.1 % 0x100) * 2 ^ 30 + g % 512 * 2 ^ 21
  | none => g * 2 ^ 21

/-- The fabric address of a line of a descriptor's range. -/
def State.lineAddr (s : State) (x : MvDesc) (n : Nat) : Nat :=
  if x.opcode = opMigrate then s.granuleAddr (s.get (O.MIG_GRANULE x.mslot)) + 64 * n
  else if x.reads then x.src + 64 * n
  else x.dst + 64 * n

/-- The lines of a descriptor in flight, and of an engine. -/
def State.descLines (s : State) (q i : Nat) : Nat := (s.mv.req.filter (fun r => r.kind == 0 && r.queue == q && r.index == i)).length
def State.engineLines (s : State) (d e : Nat) : Nat := (s.mv.req.filter (fun r => r.kind == 0 && r.die == d && r.engine == e)).length

/-- The fabric address that a line of a descriptor is written to, for a MIGRATE that of its granule. -/
def State.writeAddr (s : State) (x : MvDesc) (n : Nat) : Nat := if x.opcode = opCopy then x.dst + 64 * n else s.lineAddr x n

/-- A line fails at a fabric address: the lowest one gives the status, and all but a poisoned read stop the descriptor (R297). -/
def State.failLine (s : State) (q i n a st : Nat) (stop : Bool) : State :=
  s.setDesc q i (fun x =>
    let lower := match x.fail with | some (m, _) => decide (n < m) | none => true
    { x with stop := x.stop || stop, fail := if lower then some (n, st) else x.fail, failAddr := if lower then a else x.failAddr })

/-- The write of a line: a COPY, FILL or ZERO line goes to its fabric address, a MIGRATE line to the slot's destination. -/
def State.writeLine (s : State) (d e id : Nat) (x : MvDesc) (n data : Nat) (poison : Bool) (cell : Nat) : State :=
  let s := s.chargeLine x.queue
  if x.opcode = opMigrate then
    let t := s.migDest x.mslot
    let a := t.2.2 + 64 * n
    s.toPort d t.1 (devKey t.1 t.2.1 a) vcMnt true
      { s.mvMsg d e x.queue id true data (2 ^ 64 - 1) poison cell with epoch := s.nowEpoch, ld := t.2.1, dpa := a, mig := some x.mslot, line := n }
  else s.mvSend d e x.queue id (x.dst + 64 * n) true data (2 ^ 64 - 1) poison cell

/-- The data of a FILL or ZERO line (R292). -/
def MvDesc.pattern (x : MvDesc) : Nat :=
  if x.opcode = opFill then (List.range 8).foldl (fun a k => a + x.word 4 * 2 ^ (64 * k)) 0 else 0

/-- Issue the next line of a descriptor (R296). -/
def State.issueLine (s : State) (d e : Nat) (x : MvDesc) : State :=
  let n := x.next
  let s := s.setDesc x.queue x.index (fun x => { x with next := n + 1 })
  let rd := x.reads || x.opcode == opMigrate
  let second := x.opcode = opCopy ∧ s.mvCheck (x.src + 64 * n) = stOk
  let at_ := if second then x.dst + 64 * n else s.lineAddr x n
  let st := if x.opcode = opMigrate then stOk else s.mvCheck at_
  if st ≠ stOk then (s.mvRefuse d at_ (0x200 + 4 * d + e) (if second ∨ rd = false then 2 else 1)).failLine x.queue x.index n at_ st true
  else
    let (id, s) := s.mvFresh
    let (cell, s) := s.moverCell d e
    let s := s.addReq { id := id, kind := 0, die := d, engine := e, queue := x.queue, index := x.index, line := n, write := !rd,
                        cell := if rd then cell else 0, drop := false, result := none, epoch := s.nowEpoch }
    if !rd then s.writeLine d e id x n x.pattern false cell
    else if x.opcode = opMigrate then
      let w := s.get (O.GRN_ENTRY (s.get (O.MIG_GRANULE x.mslot)))
      let a := grnDpa w * 2 ^ 21 + 64 * n
      s.toPort d (grnPort w) (devKey (grnPort w) (grnLd w) a) vcMnt true
        { s.mvMsg d e x.queue id false 0 0 false 0 with epoch := s.nowEpoch, ld := grnLd w, dpa := a }
    else
      let s := if x.opcode = opCheck then s.chargeLine x.queue else s
      s.mvSend d e x.queue id (x.src + 64 * n) false 0 0 false 0

/-- A descriptor that has no line left to issue and none in flight has finished (R296). The status is its own, the abort's,
the lowest failing line's, or a migration slot's (R297, R310). -/
def State.finishDesc (s : State) (q i : Nat) : State :=
  match s.desc q i with
  | none => s
  | some x =>
    if x.phase = 1 ∧ (x.stop = true ∨ x.total ≤ x.next) ∧ s.descLines q i = 0 then
      let gone := x.opcode = opMigrate ∧ s.get (O.MIG_STATE x.mslot) ≠ migCopying
      let st := if x.status ≠ stOk then x.status
                else if gone then s.get (O.MIG_STATUS x.mslot)
                else match x.fail with | some (_, c) => c | none => stOk
      let s : State := if x.opcode = opMigrate ∧ s.get (O.MIG_STATE x.mslot) = migCopying then
          (if x.stop then s.put (O.MIG_STATE x.mslot) migMirror
           else (s.put (O.MIG_STATE x.mslot) migCopied).put (O.MIG_COPIED_AT x.mslot) (s.now (s.queueDie q)))
        else s
      s.setDesc q i (fun x => { x with phase := 2, status := st })
    else s

/-- A descriptor whose migration slot has left COPYING stops (R310). -/
def State.migStopped (s : State) (x : MvDesc) : Bool := x.opcode == opMigrate && s.get (O.MIG_STATE x.mslot) != migCopying

/-- The lines of a descriptor that are to be written once they have been read, and have not been yet. -/
def State.unwritten (s : State) (x : MvDesc) : List MvReq :=
  if x.opcode = opCopy ∨ x.opcode = opMigrate then
    s.mv.req.filter (fun r => r.kind == 0 && r.queue == x.queue && r.index == x.index && !r.write)
  else []

/-- The next write of a descriptor, where its line has been read: writes are issued in ascending address order (R295, R310). -/
def State.nextWrite (s : State) (x : MvDesc) : Option (MvReq × Nat × Bool) :=
  let rs := s.unwritten x
  match rs.find? (fun r => rs.all (fun t => decide (r.line ≤ t.line))) with
  | none => none
  | some r => r.ready.map (fun v => (r, v))

/-- The write of a line that has been read goes out, in the line's MOVER cell. -/
def State.sendWrite (s : State) (d e : Nat) (x : MvDesc) (r : MvReq) (data : Nat) (poison : Bool) : State :=
  let s := { s with mv := { s.mv with req := s.mv.req.map (fun (y : MvReq) =>
                                      if y.id = r.id then { y with write := true, cell := 0, ready := none, epoch := s.nowEpoch } else y) } }
  s.writeLine d e r.id x r.line data poison r.cell

/-- A descriptor that has stopped issues no further line: those it has read and not written are let go, and did not complete (R297). -/
def State.dropUnwritten (s : State) (x : MvDesc) : State :=
  forEach ((s.unwritten x).filter (fun r => r.ready.isSome)) (fun r s =>
    ((s.freeCell r.die r.cell).dropReq r.id).setDesc x.queue x.index (fun y =>
      { y with undone := some (match y.undone with | some m => min m r.line | none => r.line) })) s

/-- The next line of a descriptor can be issued: a MOVER cell is free and no map entry it needs is bad (R127, R216). -/
def State.lineRoom (s : State) (d e : Nat) (x : MvDesc) : Bool :=
  s.moverRoom d e 1 && (x.opcode == opMigrate ||
    (!s.mvHeld d (s.lineAddr x x.next) && !(x.opcode == opCopy && s.mvHeld d (x.dst + 64 * x.next))))

/-- The engine issues lines of its current descriptor while it may, a write that is ready before a new line; its last line is the last
write of a COPY or a MIGRATE (R295 to R299). -/
def State.pump (s : State) (d e fuel : Nat) : State :=
  match fuel with
  | 0 => s
  | fuel + 1 =>
    match (s.engine d e).current with
    | none => s
    | some (q, i) =>
      match s.desc q i with
      | none => s.setEngine d e (fun r => { r with current := none })
      | some x =>
        let s := if s.migStopped x then s.setDesc q i (fun x => { x with stop := true }) else s
        if x.phase ≠ 1 ∨ x.stop = true ∨ s.migStopped x = true then
          ((s.setEngine d e (fun r => { r with current := none })).dropUnwritten x).finishDesc q i
        else
          match s.nextWrite x with
          | some (r, data, poison) => if s.budgetOk q then State.pump (s.sendWrite d e x r data poison) d e fuel else s
          | none =>
            if x.total ≤ x.next then
              if (s.unwritten x).isEmpty then (s.setEngine d e (fun r => { r with current := none })).finishDesc q i else s
            else if s.budgetOk q && decide (s.engineLines d e < 256) && s.lineRoom d e x then State.pump (s.issueLine d e x) d e fuel
            else s

/-- Fetch as much as the queue may after one of its descriptors has started, and go on with the engine's lines. -/
def State.engineRuns (s : State) (d e : Nat) : State := s.pump d e 514

/-! ## Start (R293, R299) -/

/-- A queue is ready for an engine (R299). -/
def State.queueReady (s : State) (d q : Nat) : Bool :=
  (s.startable q).isSome && s.budgetOk q && (List.range 4).all (fun e => (s.engine d e).queue != some q)

/-- The queues of a die that hold fetched descriptors, from the rotation pointer on. -/
def State.queueRotation (s : State) (d : Nat) : List Nat :=
  let qs := (s.mv.desc.map (fun x => x.queue)).eraseDups.filter (fun q => s.queueDie q == d)
  let sorted := (List.range 1024).filter (fun q => qs.contains q)
  sorted.filter (fun q => decide (s.mv.ptr.at d ≤ q)) ++ sorted.filter (fun q => decide (q < s.mv.ptr.at d))

/-- An engine that has started Q_BURST descriptors of its queue, or whose queue has none that may start, releases it (R299). -/
def State.releaseQueue (s : State) (d e : Nat) : State :=
  match (s.engine d e).queue with
  | some q =>
    if s.get (O.Q_BURST q) ≤ (s.engine d e).burst ∨ (s.startable q).isNone then s.setEngine d e (fun r => { r with queue := none, burst := 0 }) else s
  | none => s

/-- An engine that holds no queue takes the first ready one (R299). -/
def State.takeQueue (s : State) (d e : Nat) : State :=
  let s := s.releaseQueue d e
  match (s.engine d e).queue with
  | some _ => s
  | none =>
    match (s.queueRotation d).find? (fun q => s.queueReady d q) with
    | none => s
    | some q =>
      let s := s.setEngine d e (fun r => { r with queue := some q, burst := 0 })
      { s with mv := { s.mv with ptr := s.mv.ptr.set d ((q + s.dies) % 1024) } }

/-- Start a descriptor on an engine that holds its queue: the checks of R293, then its lines. -/
def State.startDesc (s : State) (d e : Nat) (x : MvDesc) : State :=
  let st := s.descStatus d e x
  let s := s.setEngine d e (fun r => { r with burst := r.burst + 1 })
  let s := match st, s.descRefused d e x with
    | 0x0F, some (a, typ) => s.mpuRefuse d (mpuEngine d e) (0x200 + 4 * d + e) typ a
    | _, _ => s
  let run := st = stOk ∧ x.opcode ≠ opFence
  let total := if x.opcode = opMigrate then 32768 else if x.opcode = opFence then 0 else x.len / 64
  let s := s.setDesc x.queue x.index (fun y => { y with engine := e, startedAt := s.stamp d, status := st, total := if st = stOk then total else 0,
                                                        phase := if run then 1 else 2, stop := st != stOk })
  let s := if run ∧ x.opcode = opMigrate then
      (s.put (O.MIG_STATE x.mslot) migCopying).setMig x.mslot (fun r => { r with engine := some (4 * d + e) })
    else s
  let s := if run then s.setEngine d e (fun r => { r with current := some (x.queue, x.index) }) else s
  ((s.engineRuns d e).fetchMore x.queue 16).releaseQueue d e

/-- The queues of a die go on fetching where a mode, an admission or a full pool had held them (R290, R308). -/
def State.fetchDie (s : State) (d : Nat) : State :=
  forEach (s.mv.queue.keys.filter (fun q => s.queueDie q == d)) (fun q s => s.fetchMore q 16) s

/-- An engine takes a ready queue and starts its next descriptor. -/
def fxDescriptorStart (d e : Nat) (s : State) : State :=
  let s := s.fetchDie d
  if (s.engine d e).current.isSome then s.engineRuns d e
  else
    let s := s.takeQueue d e
    match (s.engine d e).queue with
    | none => s
    | some q => match s.startable q with | some x => s.startDesc d e x | none => s

/-! ## Interrupts (R304) -/

/-- The message of an MSI vector: a posted write of the vector's data at the address that the pool endpoint's capability holds. It
takes the queue's way to the host's port, behind the entry written before it (R304). -/
def State.msiUpstream (s : State) (q p v : Nat) : State :=
  let granted := 2 ^ bitsOf (s.poolCfg p msiCap) 22 20
  s.ioUpstream q 0 p (s.poolCfg p (msiCap + 1) + s.poolCfg p (msiCap + 2) * 2 ^ 32) 4 true
    (s.poolCfg p (msiCap + 3) % 2 ^ 16 / granted * granted + v)

/-- Send the queue's interrupt where MSI lets it go (R304); for want of a MOVER cell it waits (R216). -/
def State.queueMsi (s : State) (q : Nat) : State :=
  let v := s.get (O.Q_MSI_VEC q)
  match s.queueTenant q with
  | none => s
  | some t =>
    match s.hostPort (s.tenantHost t) with
    | none => s
    | some p =>
      if v ≠ 0xFF ∧ s.carries p = true ∧ (s.poolVppb (s.tenantHost t)).isSome ∧ s.msiReady p v then
        if s.moverRoom (s.queueDie q) 0 1 then (s.setQueue q (fun r => { r with notes := 0, owed := false })).msiUpstream q p v
        else s.setQueue q (fun r => { r with owed := true })
      else s

/-- What the mover does by itself: engines go on where a cell, an entry or a write had held them and release queues with nothing to start
(R299), and interrupts that waited for a cell go out. -/
def State.moverGoes (s : State) : State :=
  let s := forEach (s.mv.engine.filter (fun x => x.2.current.isSome)) (fun x s => s.engineRuns (x.1 / 4) (x.1 % 4)) s
  let s := forEach (s.mv.engine.filter (fun x => x.2.queue.isSome)) (fun x s => s.releaseQueue (x.1 / 4) (x.1 % 4)) s
  forEach (s.mv.queue.filter (fun x => x.2.owed)) (fun x s => s.queueMsi x.1) s

/-- A notification is counted toward the next interrupt (R304). -/
def State.countNote (s : State) (q : Nat) : State :=
  let s := s.setQueue q (fun r => { r with notes := r.notes + 1, noteAt := if r.notes = 0 then s.elapsed (s.queueDie q) else r.noteAt })
  if s.get (O.Q_NTF_COUNT q) ≤ (s.queue q).notes then s.queueMsi q else s

/-! ## Lines come back (R297) -/

/-- The CRC takes every line that has come back in ascending order (R294). -/
def takeCrc (x : MvDesc) (fuel : Nat) : MvDesc :=
  match fuel with
  | 0 => x
  | fuel + 1 =>
    match x.crcPend.find? (fun p => p.1 == x.crcNext) with
    | none => x
    | some p => takeCrc { x with crc := crcBytes x.crc (bytesOf p.2 64), crcNext := x.crcNext + 1, crcPend := x.crcPend.erase p } fuel

/-- A read of the mover, or a write, is answered: the answer waits for the command that takes it up. The second record write
and an entry write end here, halting the queue where they fail (R301, R307). -/
def State.mvDelivered (s : State) (d id data : Nat) (poison synthetic : Bool) (cell : Nat) : State :=
  let (ue, s) := if (s.mv.req.find? (fun r => r.id == id && !r.write)).isSome && !synthetic then s.readIn d cell else (false, s)
  let s := s.leaveCell d cell
  let poison := poison || ue
  match s.mv.req.find? (fun r => r.id == id) with
  | none => s
  | some r =>
    let st := if synthetic then (if data = 1 then stTimeout else if data = 2 then stBadValue else if data = 3 then stDenied else stLinkDown)
              else if r.write && poison then stPoison else stOk
    let s := match s.desc r.queue r.index with
      | some x => if r.kind = 0 ∧ r.write = true ∧ x.opcode = opMigrate ∧ synthetic = false ∧ poison = true then s.migAbort x.mslot stPoison else s
      | none => s
    if r.kind = 4 ∨ r.kind = 5 then
      let s := s.dropReq id
      if st ≠ stOk then s.haltQueue r.queue st r.kind
      else if r.kind = 5 then s.countNote r.queue else s
    else
      { s with mv := { s.mv with req := s.mv.req.map (fun (x : MvReq) =>
                                        if x.id = id then { x with result := some (if synthetic then 0 else data, poison && !synthetic, st) } else x) } }

/-- A line of an engine completes and its descriptor goes on or stops (R297). -/
def fxMoverLineDone (d e id : Nat) (s : State) : State :=
  match s.mv.req.find? (fun r => r.id == id && r.kind == 0 && r.die == d && r.engine == e) with
  | none => s
  | some r =>
    match r.result, s.desc r.queue r.index with
    | some (data, poison, st), some x =>
      let q := r.queue
      let i := r.index
      let s := if r.write then
          let s := s.dropReq id
          if st = stOk then
            (((s.addSat (O.Q_BYTES q) 64 (2 ^ 64 - 1)).addSat (O.E_BYTES d e) 64 (2 ^ 64 - 1)).perfCount d evMvBytes e (s.mvTenant q) 64)
          else s.failLine q i r.line (s.writeAddr x r.line) st true
        else if st ≠ stOk then ((s.freeCell d r.cell).dropReq id).failLine q i r.line (s.lineAddr x r.line) st true
        else
          let (ue, s) := if x.opcode = opCheck then s.readIn d r.cell else (false, s)
          let poison := poison || ue
          let s := if poison then s.setDesc q i (fun x => { x with poisonSeen := true }) else s
          let s := if poison ∧ x.opcode ≠ opMigrate then s.failLine q i r.line (s.lineAddr x r.line) stPoison false else s
          if x.opcode = opCheck then
            let s := ((s.freeCell d r.cell).dropReq id).setDesc q i (fun x => takeCrc { x with crcPend := (r.line, data) :: x.crcPend } (x.crcPend.length + 2))
            ((s.addSat (O.Q_BYTES q) 64 (2 ^ 64 - 1)).addSat (O.E_BYTES d e) 64 (2 ^ 64 - 1)).perfCount d evMvBytes e (s.mvTenant q) 64
          else
            { s with mv := { s.mv with req := s.mv.req.map (fun (y : MvReq) =>
                                       if y.id = id then { y with result := none, ready := some (data, poison) } else y) } }
      match s.desc q i with
      | some y => (((if y.stop then s.dropUnwritten y else s).engineRuns d e).finishDesc q i)
      | none => s.engineRuns d e
    | _, _ => s

/-! ## Completion records and notifications (R300 to R304) -/

/-- Bytes from the start of a range up to the first line that did not complete (R297, R300). -/
def MvDesc.bytesDone (x : MvDesc) : Nat :=
  if x.total = 0 then 0
  else if !x.stop then 64 * x.total
  else match x.fail, x.undone with
    | some (n, _), some m => 64 * min n m
    | some (n, _), none => 64 * n
    | none, some m => 64 * m
    | none, none => 64 * min x.next x.total

/-- The fabric address of the first line of a descriptor that did not complete successfully, where a line failed (R297). -/
def State.errorAddr (s : State) (x : MvDesc) : Nat :=
  match x.fail, x.undone with
  | some (n, _), some m => if m < n then s.writeAddr x m else x.failAddr
  | some _, none => x.failAddr
  | none, _ => 0

/-- Words 0 to 7 of a descriptor's completion record (R300). -/
def State.recordWords (s : State) (x : MvDesc) : List Nat :=
  let d := s.queueDie x.queue
  let crc := if x.opcode = opCheck ∧ 0 < x.total then crcEnd x.crc else 0
  let hit := x.opcode = opCheck ∧ (x.word 5).testBit 32 ∧ crc = x.word 5 % 2 ^ 32 ∧ 0 < x.total
  [2 ^ 63 + bitsOf (x.word 0) 47 32 * 2 ^ 32 + x.status * 2 ^ 16 + x.opcode, x.bytesDone, s.errorAddr x,
   b2n x.poisonSeen * 2 ^ 33 + (if hit then 2 ^ 32 else 0) + crc, x.startedAt, x.doneAt,
   x.engine * 2 ^ 13 + d * 2 ^ 10 + x.queue, 0]

/-- Write bytes of a queue's ring or notification ring, as `kind` 3, 4 or 5. The answer is the status that stops it, if any. -/
def State.queueWrite (s : State) (q e kind index a n data : Nat) : Nat × State :=
  let d := s.queueDie q
  if s.get (O.Q_SPACE q) = 1 then
    match s.hostAccess q with
    | .inr st => (st, s)
    | .inl p => (stOk, s.ioUpstream q e p a n true data)
  else
    match s.mvGuard d e mpuW a n with
    | some bad => (stProtection, s.mpuRefuse d (mpuEngine d e) (0x200 + 4 * d + e) 2 bad)
    | none =>
      if s.mvCheck a ≠ stOk then (s.mvCheck a, s.mvRefuse d a (0x200 + 4 * d + e) 2)
      else
        let off := a % 64
        let (id, s) := s.mvFresh
        let (cell, s) := s.moverCell d e
        let s := s.addReq { id := id, kind := kind, die := d, engine := e, queue := q, index := index, line := a, write := true, cell := 0, drop := false,
                            result := none, epoch := s.nowEpoch }
        (stOk, s.mvSend d e q id a true (data * 256 ^ off) ((2 ^ n - 1) * 2 ^ off) false cell)

/-- The ring address of a descriptor index (R289). -/
def State.slotAddr (s : State) (q i : Nat) : Nat := s.get (O.Q_RING_BASE q) + 64 * (i % max (s.get (O.Q_RING_SIZE q)) 1)

/-- Post the notification of a completion, or merge it where the ring is full (R302, R303). An entry in HOST space counts when it is
posted, one in FABRIC space when its write is acknowledged, so that its interrupt comes after it (R304). -/
def State.notify (s : State) (x : MvDesc) : State :=
  let q := x.queue
  let size := s.get (O.Q_NTF_SIZE q)
  if size ≠ 0 ∧ ((x.word 0).testBit 16 ∨ x.status ≠ stOk) then
    let pi := s.get (O.Q_NTF_PI q)
    if (pi + 2 ^ 32 - s.get (O.Q_NTF_ACK q)) % 2 ^ 32 = size then
      let s := ((s.setBit (O.Q_NTF_STATUS q) 0 true).count32 (O.Q_NTF_LOST q)).setQueue q (fun r => { r with merged := r.merged + 1 })
      let s := (s.setBit O.MV_EVENTS 1 true).raise (s.queueDie q * 512 + F.NTF_OVERFLOW) (channelId 10 q) 0 0xFFFF 0
      s.countNote q
    else
      let m := min (s.queue q).merged 0xFFFF
      let w0 := (1 - pi / size % 2) * 2 ^ 63 + x.status * 2 ^ 48 + bitsOf (x.word 0) 47 32 * 2 ^ 32 + x.index
      let w1 := m * 2 ^ 48 + (if m = 0 then 0 else 2 ^ 47)
      let (st, s) := s.queueWrite q x.engine 5 x.index (s.get (O.Q_NTF_BASE q) + 16 * (pi % size)) 16 (w0 + w1 * 2 ^ 64)
      let s := (s.put (O.Q_NTF_PI q) ((pi + 1) % 2 ^ 32)).setQueue q (fun r => { r with merged := 0 })
      if st ≠ stOk then s.haltQueue q st 5 else if s.get (O.Q_SPACE q) = 1 then s.countNote q else s
  else s

/-- Q_CI advances over consecutive completed indices (R291). -/
def State.advanceCi (s : State) (q fuel : Nat) : State :=
  match fuel with
  | 0 => s
  | fuel + 1 =>
    let i := s.get (O.Q_CI q)
    match s.desc q i with
    | some x =>
      if x.phase = 5 then
        let s := { s with mv := { s.mv with desc := s.mv.desc.filter (fun y => !(y.queue == q && y.index == i)) } }
        State.advanceCi (s.put (O.Q_CI q) ((i + 1) % 2 ^ 32)) q fuel
      else s
    | none => s

/-- A descriptor completes: the counts, Q_CI, the halt of HALT_ON_ERROR and the notification (R291, R301, R307). -/
def State.completeDesc (s : State) (x : MvDesc) (recordStatus : Nat) : State :=
  let q := x.queue
  let d := s.queueDie q
  let s := s.setDesc q x.index (fun y => { y with phase := 5 })
  let s := (s.count32 (O.Q_COMPLETED q)).count32 (O.E_DESCRIPTORS d x.engine)
  let s := s.perfCount d evMvDesc x.engine (s.mvTenant q) 1
  let s := if x.status = stOk then s else s.perfCount d evMvErrors x.engine (s.mvTenant q) 1
  let s := s.advanceCi q 65537
  let s := if recordStatus ≠ stOk then s.haltQueue q recordStatus 4
           else if (x.word 0).testBit 17 ∧ x.status ≠ stOk then s.haltQueue q x.status 1 else s
  s.notify x

/-- Words 1–7 of a finished descriptor's record are written (R301). -/
def fxDescriptorComplete (q i : Nat) (s : State) : State :=
  match s.desc q i with
  | none => s
  | some x =>
    if x.phase ≠ 2 ∨ s.queueRoom q (s.slotAddr q i) 2 x.engine = false then s
    else
      let s := s.setDesc q i (fun x => { x with doneAt := s.stamp (s.queueDie q) })
      let ws := s.recordWords { x with doneAt := s.stamp (s.queueDie q) }
      let data := (List.range 7).foldl (fun a k => a + ws.getD (k + 1) 0 * 2 ^ (64 * k)) 0
      let (st, s) := s.queueWrite q x.engine 3 i (s.slotAddr q i + 8) 56 data
      if st ≠ stOk then s.completeDesc { x with phase := 3 } st
      else s.setDesc q i (fun x => { x with phase := 3 })

/-- Word 0 is written once the first write is acknowledged, or at once after a posted one (R301). -/
def fxRecordWord0 (q i : Nat) (s : State) : State :=
  match s.desc q i with
  | none => s
  | some x =>
    if x.phase ≠ 3 then s
    else
      let first := s.mv.req.find? (fun r => r.kind == 3 && r.queue == q && r.index == i)
      let waits := match first with | some r => r.result.isNone | none => false
      if waits || !s.queueRoom q (s.slotAddr q i) 2 x.engine then s
      else
        let st := match first with | some r => (match r.result with | some (_, _, e) => e | none => stOk) | none => stOk
        let s := match first with | some r => s.dropReq r.id | none => s
        if st ≠ stOk then s.completeDesc x st
        else
          let (st, s) := s.queueWrite q x.engine 4 i (s.slotAddr q i) 8 ((s.recordWords x).getD 0 0)
          s.completeDesc x st

/-- Q_NTF_DELAY after the first unsignalled notification an MSI is sent (R304). -/
def fxNtfDelayExpiry (q : Nat) (s : State) : State :=
  if 0 < (s.queue q).notes ∧ (s.queue q).noteAt + s.get (O.Q_NTF_DELAY q) ≤ s.elapsed (s.queueDie q) then s.queueMsi q else s

/-! ## Queue registers and commands (R303, R305, R306, R309) -/

/-- A write of Q_NTF_ACK is refused (R303). -/
def State.ntfAckStatus (s : State) (q v : Nat) : Nat :=
  if (s.get (O.Q_NTF_PI q) + 2 ^ 32 - v % 2 ^ 32) % 2 ^ 32 ≤ s.get (O.Q_NTF_SIZE q) then stOk else stBadValue
def fxNtfAck (q v : Nat) (s : State) : State := s.put (O.Q_NTF_ACK q) v

/-- The status of a Q_CTRL command (R306). -/
def State.queueCtrlStatus (s : State) (q v : Nat) : Nat :=
  let st := s.get (O.Q_STATE q)
  match v with
  | 1 =>
    if st = qDraining then stBusy
    else if st = qHalted ∧ s.queueIdle q = false then stNotIdle
    else if s.get (O.Q_RING_SIZE q) = 0 then stBadValue
    else stOk
  | 2 => stOk
  | 3 => stOk
  | 4 => if st = qEnabled ∨ st = qDraining then stBusy else if s.queueIdle q = false then stNotIdle else stOk
  | _ => stBadValue

/-- Q_CTRL ENABLE: fetch resumes at Q_FETCH after the next doorbell. -/
def fxQueueEnable (q : Nat) (s : State) : State :=
  if s.get (O.Q_STATE q) = qEnabled then s
  else ((s.put (O.Q_STATE q) qEnabled).put (O.Q_ERROR q) 0).setQueue q (fun r => { r with live := false })

/-- Q_CTRL DISABLE. -/
def fxQueueDisable (q : Nat) (s : State) : State :=
  if s.get (O.Q_STATE q) = qEnabled ∨ s.get (O.Q_STATE q) = qHalted then (s.put (O.Q_STATE q) qDraining).queueRest q else s

/-- Started descriptors of a queue, or of an engine, stop with ABORTED (R306, R312). -/
def State.abortStarted (s : State) (p : MvDesc → Bool) : State :=
  let mine := s.mv.desc.filter (fun x => x.phase == 1 && p x)
  forEach mine (fun x s =>
    let s := s.setDesc x.queue x.index (fun y => { y with stop := true, status := stAborted })
    let d := s.queueDie x.queue
    let s := if (s.engine d x.engine).current = some (x.queue, x.index) then s.setEngine d x.engine (fun r => { r with current := none }) else s
    (s.dropUnwritten x).finishDesc x.queue x.index) s

/-- Take up the acknowledged last writes of a queue's descriptors that have issued every line: one that an ABORT meets in the same
core cycle completes with its own status (R306). -/
def State.takeAcked (s : State) (q : Nat) : State :=
  let done := fun (r : MvReq) => r.kind == 0 && r.queue == q && r.write && r.result.isSome &&
    (match s.desc q r.index with | some x => decide (x.total ≤ x.next) && (s.unwritten x).isEmpty | none => false)
  forEach (s.mv.req.filter done) (fun r s => fxMoverLineDone r.die r.engine r.id s) s

/-- Q_CTRL ABORT. -/
def fxQueueAbort (q : Nat) (s : State) : State :=
  let s := ((s.takeAcked q).abortUnstarted q).abortStarted (fun x => x.queue == q)
  if s.get (O.Q_STATE q) = qDisabled then s else (s.put (O.Q_STATE q) qDraining).queueRest q

/-- A queue reset (R309). -/
def State.resetQueue (s : State) (q : Nat) : State :=
  let s := (((((s.put (O.Q_FETCH q) 0).put (O.Q_CI q) 0).put (O.Q_PI_SEEN q) 0).put (O.Q_NTF_PI q) 0).put (O.Q_NTF_ACK q) 0)
  let s := ((s.put (O.Q_NTF_STATUS q) 0).put (O.Q_ERROR q) 0).put (O.Q_STATE q) qDisabled
  { s with mv := { s.mv with queue := s.mv.queue.drop q, desc := s.mv.desc.filter (fun x => x.queue != q) } }
def fxQueueReset (q : Nat) (s : State) : State := s.resetQueue q

/-- The effect of a Q_CTRL command. -/
def fxQueueCtrl (q v : Nat) (s : State) : State :=
  match v with
  | 1 => fxQueueEnable q s
  | 2 => fxQueueDisable q s
  | 3 => fxQueueAbort q s
  | _ => fxQueueReset q s

/-- An engine's microcode detects an internal error (R312). It goes on counting the MOVER cells that its lines in flight still hold (R296). -/
def fxEngineFault (d e : Nat) (s : State) : State :=
  let s := s.abortStarted (fun x => s.queueDie x.queue == d && x.engine == e)
  let s := s.setEngine d e (fun r => { cells := r.cells })
  ((s.count32 (O.E_FAULTS d e)).setBit O.MV_EVENTS 2 true).raise (d * 512 + F.ENGINE_FAULT) (channelId 9 (4 * d + e)) 0 (0x200 + 4 * d + e) 0

/-- The mover of a die on its entry into SAFE (R308, R417). -/
def State.moverSafe (s : State) (d : Nat) : State :=
  let s := s.abortStarted (fun x => s.queueDie x.queue == d)
  let mine := (s.regs.filter (fun c => decide (c.1 / 0x100 % 0x100 = 0x38 ∧ c.1 % 0x100 = 1))).map (fun c => c.1 / 0x10000)
  forEach (mine.filter (fun q => s.queueDie q == d)) (fun q s =>
    let s := s.abortUnstarted q
    if s.get (O.Q_STATE q) = qEnabled then s.haltQueue q stAborted 1 else s) s

/-- The upstream port of a host has dropped: its queues' reads of host memory fail (R307). -/
def State.hostReadsLost (s : State) (p : Nat) : State :=
  let lost := s.mv.req.filter (fun r => (r.kind == 1 || r.kind == 2) && s.get (O.Q_SPACE r.queue) == 1 &&
    (match s.queueTenant r.queue with | some t => s.tenantHost t == s.get (O.HOST_ID p) | none => false))
  forEach lost (fun r s => (s.dropReq r.id).haltQueue r.queue stLinkDown (r.kind + 1)) s

/-- A reset whose reach covers a die's mover: its descriptors are discarded and its objects return to their defaults (R309). A
migration that one of its engines copied returns to MIRROR (R141). -/
def State.resetMover (s : State) (d : Nat) : State :=
  let mine := fun q => s.queueDie q == d
  let s := forEach (s.mv.desc.filter (fun x => mine x.queue && x.phase == 1 && x.opcode == opMigrate && s.get (O.MIG_STATE x.mslot) == migCopying))
    (fun x s => s.put (O.MIG_STATE x.mslot) migMirror) s
  let s := forEach (s.mv.req.filter (fun r => mine r.queue)) (fun r s => s.freeCell r.die r.cell) s
  let s := s.clearWhere (fun o => (o.cls == 0x38 && mine o.inst) || (o.cls == 0x39 && o.inst / 4 == d && decide (o.inst < 0x100)))
  { s with mv := { s.mv with req := s.mv.req.filter (fun r => !mine r.queue), desc := s.mv.desc.filter (fun x => !mine x.queue),
                             queue := s.mv.queue.filter (fun x => !mine x.1), engine := s.mv.engine.filter (fun x => x.1 / 4 != d),
                             ptr := s.mv.ptr.drop d } }

/-! ## What the mover's registers show (R305, R312, R313) -/

def State.queuesWith (s : State) (st : Nat) : Nat :=
  (s.regs.filter (fun c => decide (c.1 / 0x100 % 0x100 = 0x38 ∧ c.1 % 0x100 = 1 ∧ c.2.toNat = st))).length
def State.engineState (s : State) (d e : Nat) : Nat :=
  if (s.engine d e).current.isSome ∨ 0 < s.engineLines d e ∨ s.mv.desc.any (fun x => x.phase == 1 && x.engine == e && s.queueDie x.queue == d) then 1 else 0
def State.engineQueue (s : State) (d e : Nat) : Nat := (s.engine d e).queue.getD 0xFFFF

end Sys2Proof.Machine
end

