-- ==== Sys2Proof/Machine/Tenants.lean ====
section
/-! DEFINITION. Tenant instances: what a tenant holds, its states and commands, the image a freeze forms, and the writes
that a removal or a restore brings (R265 to R285, R504). -/
namespace Sys2Proof.Machine

/-! ## States (R266, R273) -/

def tFree : Nat := 0
def tActive : Nat := 1
def tStopped : Nat := 2
def tFrozen : Nat := 3

/-- T_STATE. -/
def State.tenantState (s : State) (t : Nat) : Nat :=
  if !(s.get (O.T_CFG t)).testBit 63 then tFree
  else if s.ten.frozen.contains t then tFrozen
  else if s.get (O.T_ADMIT t) = 1 then tActive
  else tStopped

/-- The queues of a tenant. -/
def State.tenantQueues (s : State) (t : Nat) : List Nat := queuesIn (s.get (O.T_QUEUES t))

/-- The requests of a tenant's devices, and the posted writes of its queues toward its host, that are not completed (R273). -/
def State.deviceWork (s : State) (t : Nat) : Nat := (s.io.up.filter (fun u => u.tenant == t)).length

/-- T_OUTSTANDING (R273). -/
def State.tenantWork (s : State) (t : Nat) : Nat :=
  (s.rq.tracker.filter (fun e => e.2.busy && e.2.tenant == t)).length + s.deviceWork t +
    ((s.grp.slot.filter (fun e => s.get (O.GRP_TENANT (e.1 / 8) (e.1 % 8)) == t &&
        s.get (O.GRP_STATE (e.1 / 8) (e.1 % 8)) == grpApplying)).map
      (fun e => (e.2.lines.filter (fun l => !l.written)).length)).sum +
    (s.mv.req.filter (fun r => (s.tenantQueues t).contains r.queue)).length

/-- Group slots of a host that name a tenant and are at work (R273). -/
def State.tenantGroups (s : State) (t : Nat) : Bool :=
  (List.range 8).any (fun k =>
    let h := s.tenantHost t
    s.get (O.GRP_TENANT h k) == t && decide (s.grpState h k ∈ [grpOpen, grpCommitting, grpApplying]))

/-- T_IDLE (R273); of a FREE tenant it reads its default (R266). -/
def State.tenantIdle (s : State) (t : Nat) : Bool :=
  (s.get (O.T_CFG t)).testBit 63 && s.get (O.T_ADMIT t) == 0 && s.tenantWork t == 0 && (s.tenantQueues t).all s.queueIdle && !s.tenantGroups t

/-- A tenant is quiesced: FROZEN, or STOPPED with T_IDLE 1 (R273, R276). -/
def State.quiesced (s : State) (t : Nat) : Bool :=
  s.tenantState t == tFrozen || (s.tenantState t == tStopped && s.tenantIdle t)

/-! ## What transactions hold (R74, R272, R274, R279) -/

/-- A transaction that is READY, SCHEDULED or LOCKED. -/
def State.txHolding (s : State) (x : Nat) : Bool :=
  decide (txReady ≤ s.get (O.TX_STATE x) ∧ s.get (O.TX_STATE x) ≤ txLocked)

/-- The objects a transaction writes, the implicit ones among them (R75). -/
def State.txWrites (s : State) (x : Nat) : List Nat := ((s.tx.at x).staged.map (fun w => w.obj)) ++ (s.tx.at x).implicit

/-- A transaction that is READY, SCHEDULED or LOCKED writes an object. -/
def State.txHolds (s : State) (o : Obj) : Bool := txInstances.any (fun x => s.txHolding x && (s.txWrites x).contains o.number)

/-- A transaction that is READY, SCHEDULED or LOCKED changes an object: it writes another value than the one that stands
(R114, R121, R272). -/
def State.txChanges (s : State) (o : Obj) : Bool :=
  txInstances.any (fun x => s.txHolding x &&
    (match (s.tx.at x).staged.find? (fun w => w.obj == o.number) with
     | some w => w.values.headD 0 != s.get o
     | none => (s.tx.at x).implicit.contains o.number))

/-! ## What a tenant holds (R265, R504) -/

/-- The bound vPPBs of a host that name a tenant. -/
def State.tenantVppbs (s : State) (t : Nat) : List Nat :=
  let h := s.tenantHost t
  (List.range 16).filter (fun v => let w := s.get (O.VPPB_BIND h v); bindKind w != 0 && bindKind w != bindPool && bindTenant w == t)

/-- The decoders of a host that a tenant holds. -/
def State.tenantDecs (s : State) (t : Nat) : List Nat :=
  let h := s.tenantHost t
  ((List.range 16).map (fun n => 16 * h + n)).filter (fun n =>
    let d := s.decoder n
    d.tenant == t || (d.isVppb && (s.tenantVppbs t).contains d.vppb))

/-- An object that a tenant holds (R504). -/
def State.tenantHolds (s : State) (t : Nat) (o : Obj) : Bool :=
  match o.cls with
  | 0x30 => o.inst == t
  | 0x20 => o.inst == s.tenantHost t && ((decide (0x10 ≤ o.mem ∧ o.mem < 0x20) && (s.tenantVppbs t).contains (o.mem - 0x10)) ||
      (decide (0x30 ≤ o.mem ∧ o.mem < 0x40) && (s.tenantVppbs t).contains (o.mem - 0x30)))
  | 0x21 => o.inst / 16 == s.tenantHost t && (s.tenantDecs t).contains o.inst
  | 0x31 => decide (o.inst < 0x400) && decide (o.mem % 4 < 2) && (s.tenantLeaves t).contains (65 * o.inst + o.mem / 4)
  | 0x32 => decide (o.inst < 2048) && o.inst / 2 == t
  | 0x38 => (s.tenantQueues t).contains o.inst
  | 0x48 => o.inst == 0x400 + t
  | _ => false

/-- The FROZEN tenant that holds an object, if any (R278). -/
def State.frozenHolder (s : State) (o : Obj) : Option Nat := s.ten.frozen.find? (fun t => s.tenantHolds t o)

/-! ## Images (R279 to R281) -/

/-- A record of an image: kind 1 SETTING, 2 STATE. -/
structure ImageRecord where
  obj : Nat
  kind : Nat
  value : Nat
  deriving DecidableEq, Repr, Inhabited

def kSetting : Nat := 1
def kState : Nat := 2

/-- The member's record, as SETTING or STATE. -/
def State.recordOf (s : State) (kind : Nat) (o : Obj) : ImageRecord := ⟨o.number, kind, s.get o⟩

/-- The members of class 38 carried, with their kinds (R311). -/
def queueCarried : List (Nat × Nat) :=
  (0x01, kState) :: ((List.range 12).map (fun k => (4 + k, kSetting))) ++
    [(0x10, kState), (0x11, kState), (0x12, kState), (0x13, kState), (0x14, kSetting), (0x15, kState)]

/-- The records of a formed image, in ascending object number (R281). -/
def State.imageRecords (s : State) (t : Nat) : List ImageRecord :=
  let h := s.tenantHost t
  let set := s.recordOf kSetting
  let qs := (List.range 1024).filter (fun q => (s.tenantQueues t).contains q)
  (s.tenantVppbs t).map (fun v => set (O.VPPB_BIND h v)) ++
    ((s.tenantDecs t).map (fun n => (List.range 6).map (fun m => set ⟨0x21, n, m⟩))).flatten ++
    ([0x00, 0x05, 0x06, 0x07] ++ (List.range 9).map (8 + ·)).map (fun m => set ⟨0x30, t, m⟩) ++
    ((s.tenantLeaves t).map (fun k => [set ⟨0x31, k / 65, 4 * (k % 65)⟩, set ⟨0x31, k / 65, 4 * (k % 65) + 1⟩])).flatten ++
    ((List.range 10).map (fun i => set ⟨0x32, 2 * t + i / 5, i % 5⟩)) ++
    (qs.map (fun q => queueCarried.map (fun c => s.recordOf c.2 ⟨0x38, q, c.1⟩))).flatten ++
    ((List.range 8).map (fun k => [set (O.TC_SELECT t k), ⟨(O.TC_VALUE t k).number, kState, s.tcValue t k⟩])).flatten ++
    [set (O.USER_READ t)]

/-- The bytes of a record (R280). -/
def ImageRecord.bytes (r : ImageRecord) : List Byte := bytesOf r.obj 4 ++ bytesOf r.kind 4 ++ bytesOf r.value 8

/-- The bytes of an image's header but for its CRC, with BIND_EPOCH at the freeze (R280). -/
def State.imageHead (s : State) (t n epoch : Nat) : List Byte :=
  bytesOf 0x54494D47 4 ++ bytesOf 1 2 ++ bytesOf t 2 ++ bytesOf (s.tenantHost t) 1 ++
    bytesOf (match s.hostPort (s.tenantHost t) with | some p => p | none => 0xFF) 1 ++ bytesOf n 2 ++ bytesOf epoch 4 ++
    bytesOf (s.get (O.T_FROZEN_AT t)) 8 ++ bytesOf (s.get (O.PACKAGE_SERIAL 0)) 8 ++ bytesOf (s.get (O.PACKAGE_SERIAL 1)) 8 ++ bytesOf 0 20

/-- An image of a tenant's records, without the zero bytes at its end (R280). -/
def State.imageOf (s : State) (t epoch : Nat) (rs : List ImageRecord) : List Byte :=
  let head := s.imageHead t rs.length epoch
  let body := (rs.map ImageRecord.bytes).flatten
  head ++ bytesOf (crcEnd (crcBytes crcStart (head ++ bytesOf 0 4 ++ body))) 4 ++ body

/-- The image a freeze forms (R280). -/
def State.formImage (s : State) (t : Nat) : List Byte := s.imageOf t (s.get O.BIND_EPOCH) (s.imageRecords t)

/-- T_IMAGE codes; HELD is shown while a transaction restores the tenant. -/
def imgNone : Nat := 0
def imgLoading : Nat := 1
def imgLoaded : Nat := 2
def imgInvalid : Nat := 3
def imgHeld : Nat := 4

/-- A transaction that is READY, SCHEDULED or LOCKED restores a tenant: it stages T_RESTORE with GO set (R282). -/
def State.txRestores (s : State) (t : Nat) : Bool :=
  txInstances.any (fun x => s.txHolding x &&
    (s.tx.at x).staged.any (fun w => w.obj == (O.T_RESTORE t).number && (w.values.headD 0).testBit 63))

def State.imageState (s : State) (t : Nat) : Nat := if s.txRestores t then imgHeld else s.get (O.T_IMAGE t)

/-- The address of a tenant's image in the data port's space (R279). -/
def imageAddr (t : Nat) : Nat := dportAddr 0x18 (t * 0x10000)

/-- A byte of what a DUMP of a tenant's image returns: the loaded image, else the formed one (R279). -/
def State.imageByte (s : State) (t off : Nat) : Byte :=
  if s.get (O.T_IMAGE t) = imgLoaded then s.readByte (imageAddr t + off) else (s.ten.formed.at t).getD off 0

/-- A DUMP of a tenant's image may start. -/
def State.imageDumpable (s : State) (t : Nat) : Bool := s.get (O.T_IMAGE t) == imgLoaded || s.tenantState t == tFrozen

/-- The status of the start of a LOAD of a tenant's image (R279). -/
def State.imageLoadStatus (s : State) (t : Nat) : Nat :=
  if s.tenantState t = tActive ∨ s.tenantState t = tStopped ∨ s.txRestores t then stBusy
  else if !s.ten.store.contains t && decide (4 ≤ s.ten.store.length) then stLimit
  else stOk

/-- A LOAD of a tenant's image starts: it takes a store slot. -/
def State.imageLoading (s : State) (t : Nat) : State :=
  let s := { s with ten := { s.ten with store := if s.ten.store.contains t then s.ten.store else s.ten.store ++ [t] } }
  s.put (O.T_IMAGE t) imgLoading

/-- The loaded image of a tenant and its store slot are gone. -/
def State.dropImage (s : State) (t : Nat) : State :=
  ({ s with ten := { s.ten with store := s.ten.store.erase t } }.eraseRange (imageAddr t) 0x10000).put (O.T_IMAGE t) imgNone

/-- Data port instances whose ACTIVE operation `op` (1 LOAD, 2 DUMP) reaches a tenant's image. -/
def State.imageOps (s : State) (op t : Nat) : List Nat :=
  (List.range 3).filter (fun x =>
    let a := (s.dict.port.at x).start
    s.get (O.DP_STATE x) == 1 && s.get (O.DP_OP x) == op && bitsOf (s.get (O.DP_ADDR x)) 63 56 == 0x18 &&
      decide (a < (t + 1) * 0x10000 ∧ t * 0x10000 < a + s.get (O.DP_LENGTH x)))

/-- Data port instances whose ACTIVE DUMP reads a tenant's image (R274, R279). -/
def State.dumpsOf (s : State) (t : Nat) : List Nat := s.imageOps 2 t

/-- End the DUMPs of a tenant's image that is discarded FAILED with ABORTED (R279). DESIGN CHOICE (log 120): a LOAD of it that is still
ACTIVE ends in the same way, with its store slot gone. -/
def State.endImageOps (s : State) (t : Nat) : State :=
  forEach (s.imageOps 1 t ++ s.imageOps 2 t) (fun x s => (s.put (O.DP_STATE x) 3).put (O.DP_STATUS x) stAborted) s

/-- The records of an image and its HOST, HOST_PORT, where it is as R280 and R281 have it; `get` reads its bytes. -/
def parseImage (t : Nat) (get : Nat → Byte) : Option (Nat × Nat × List ImageRecord) :=
  let num := fun off n => ofBytes ((List.range n).map (fun i => get (off + i)))
  let rc := num 0x0A 2
  let rs := (List.range rc).map (fun i => (⟨num (64 + 16 * i) 4, num (68 + 16 * i) 4, num (72 + 16 * i) 8⟩ : ImageRecord))
  let crc := crcEnd (crcBytes crcStart ((List.range (64 + 16 * rc)).map (fun i => if 0x3C ≤ i ∧ i < 0x40 then 0 else get i)))
  let h := num 8 1
  let okRec := fun (r : ImageRecord) =>
    let o := Obj.ofNumber r.obj
    decide (r.obj < 2 ^ 28) &&
      match o.cls with
      | 0x20 => r.kind == kSetting && o.inst == h && decide (0x10 ≤ o.mem ∧ o.mem < 0x20)
      | 0x21 => r.kind == kSetting && o.inst / 16 == h && decide (o.mem < 6)
      | 0x30 => r.kind == kSetting && o.inst == t && (decide (o.mem ∈ [0, 5, 6, 7]) || decide (8 ≤ o.mem ∧ o.mem ≤ 0x10))
      | 0x31 => r.kind == kSetting && decide (o.inst < 0x400) && decide (o.mem % 4 < 2)
      | 0x32 => r.kind == kSetting && o.inst / 2 == t && decide (o.mem < 5)
      | 0x38 => queueCarried.contains (o.mem, r.kind) && decide (o.inst < 1024)
      | 0x48 => o.inst == 0x400 + t && ((r.kind == kState && decide (o.mem < 0x20) && o.mem % 4 == 1) ||
          (r.kind == kSetting && ((decide (o.mem < 0x20) && o.mem % 4 == 0) || o == O.USER_READ t)))
      | _ => false
  if num 0 4 = 0x54494D47 ∧ num 4 2 = 1 ∧ num 6 2 = t ∧ rc ≤ 4092 ∧ num 0x28 20 = 0 ∧ num 0x3C 4 = crc ∧ rs.all okRec = true then
    some (h, num 9 1, rs)
  else none

/-- A restore of a tenant has an image to use (R282): a loaded one, or while none is loaded the one formed at the freeze. -/
def State.hasImage (s : State) (t : Nat) : Bool :=
  s.get (O.T_IMAGE t) == imgLoaded || (s.get (O.T_IMAGE t) != imgInvalid && s.tenantState t == tFrozen)

/-- The image a restore of a tenant uses (R282). -/
def State.restoreImage (s : State) (t : Nat) : Option (Nat × Nat × List ImageRecord) :=
  if s.hasImage t then parseImage t (s.imageByte t) else none

/-- A record goes to the target host `h'` with upstream port `u'` (R282). -/
def remapRecord (h hp h' u' : Nat) (r : ImageRecord) : ImageRecord :=
  let o := Obj.ofNumber r.obj
  match o.cls with
  | 0x20 => if o.inst = h then { r with obj := Obj.number ⟨0x20, h', o.mem⟩ } else r
  | 0x21 => if o.inst / 16 = h then { r with obj := Obj.number ⟨0x21, h' * 16 + o.inst % 16, o.mem⟩ } else r
  | 0x31 => if o.inst / 8 = hp then { r with obj := Obj.number ⟨0x31, u' * 8 + o.inst % 8, o.mem⟩ } else r
  | 0x30 => if o.mem = 0 then { r with value := r.value - bitsOf r.value 53 48 * 2 ^ 48 + h' * 2 ^ 48 } else r
  | _ => r

/-- The remapped records of a restore to a host (R282). -/
def State.restoreRecords (s : State) (t h' : Nat) : List ImageRecord :=
  match s.restoreImage t, s.hostPort h' with
  | some (h, hp, rs), some u' => rs.map (remapRecord h hp h' u')
  | _, _ => []

/-! ## Implicit writes (R276, R283) -/

/-- The objects that a removal returns to their defaults in the transaction's write set (R276). -/
def State.releaseObjs (s : State) (t : Nat) : List Obj :=
  let h := s.tenantHost t
  (s.tenantVppbs t).map (fun v => O.VPPB_BIND h v) ++
    ((s.tenantDecs t).map (fun n => (List.range 6).map (fun m => (⟨0x21, n, m⟩ : Obj)))).flatten ++
    ((s.tenantLeaves t).map (fun k => [(⟨0x31, k / 65, 4 * (k % 65)⟩ : Obj), ⟨0x31, k / 65, 4 * (k % 65) + 1⟩])).flatten ++
    ((List.range 10).map (fun i => (⟨0x32, 2 * t + i / 5, i % 5⟩ : Obj))) ++
    ((s.tenantQueues t).map (fun q => (List.range 12).map (fun m => (⟨0x38, q, 4 + m⟩ : Obj)))).flatten ++
    ([0x00, 0x05, 0x06, 0x07] ++ (List.range 9).map (8 + ·)).map (fun m => (⟨0x30, t, m⟩ : Obj))

/-- What else a removal brings: the tenant's meters, queues, counters and instance take their defaults, a mailbox request that
waits ends with DENIED, and its images are gone (R270, R276). -/
def State.clearTenant (s : State) (t : Nat) : State :=
  let qs := s.tenantQueues t
  let s := (s.endImageOps t).dropImage t
  let s := forEach qs (fun q s => (s.resetQueue q).clearWhere (fun o => o.cls == 0x38 && o.inst == q)) s
  let s := (s.fillMeters t).clearWhere (fun o => (o.cls == 0x30 && o.inst == t) || (o.cls == 0x32 && decide (o.inst < 2048) && o.inst / 2 == t) ||
    (o.cls == 0x48 && o.inst == 0x400 + t))
  let s := forEach (List.range s.dies) (fun d s => { s with perf := { part := s.perf.part.filter (fun e => !(e.1 / 8192 == d && e.1 % 8192 / 8 == t)),
                                                                      latest := s.perf.latest.filter (fun e => !(e.1 / 8192 == d && e.1 % 8192 / 8 == t)) } }) s
  let m := s.dict.mailbox.at t
  let s := if m.busy then { s with dict := { s.dict with mailbox := s.dict.mailbox.set t { m with busy := false, status := stDenied } } } else s
  { s with ten := { s.ten with frozen := s.ten.frozen.erase t, formed := s.ten.formed.drop t } }

/-- Hand a STATE record to its owning block (R283, R311, R480). -/
def State.takeStateRecord (s : State) (t : Nat) (r : ImageRecord) : State :=
  let o := Obj.ofNumber r.obj
  if o.cls = 0x48 then { s with perf := { s.perf with part := s.perf.part.set (partKey (s.tenantHome t) t (o.mem / 4)) (r.value % 2 ^ 48) } }
  else
    let s := s.put o r.value
    if o.mem = 1 ∧ r.value = qEnabled then s.setQueue o.inst (fun q => { q with bell := true }) else s

/-! ## Admission and commands (R272, R274, R275, R278) -/

/-- The status of a write of T_ADMIT (R272). -/
def State.admitStatus (s : State) (t v : Nat) : Nat :=
  if v = 0 then stOk
  else if s.tenantState t = tFree then stBusy
  else if s.tenantState t = tFrozen then stFrozen
  else if s.txChanges (O.T_CFG t) ∨ s.txChanges (O.T_RESTORE t) then stBusy
  else stOk
def fxTenantAdmit (t v : Nat) (s : State) : State :=
  let s := s.put (O.T_ADMIT t) v
  if v = 1 then forEach (s.tenantQueues t) (fun q s => s.fetchMore q 16) s else s

/-- The status of a T_CMD command (R274). -/
def State.tenantCmdStatus (s : State) (t v : Nat) : Nat :=
  let st := s.tenantState t
  match v with
  | 1 | 3 => if st = tFree then stBusy else if st = tFrozen then stFrozen else if s.tenantIdle t then stOk else stNotIdle
  | 2 => if st = tFrozen ∧ s.txRestores t = false ∧ (s.dumpsOf t).isEmpty then stOk else stBusy
  | 4 =>
    let i := s.imageState t
    if i = imgLoaded ∨ i = imgInvalid then stOk else stBusy
  | _ => stBadValue

/-- A staged write removes or restores a tenant (R276, R282). -/
def freesTenant (t obj v : Nat) : Bool :=
  (obj == (O.T_CFG t).number && !v.testBit 63) || (obj == (O.T_RESTORE t).number && v.testBit 63)

/-- A transaction writes what a tenant that is frozen holds (R278): by its own writes but for that of a removal or a restore, or by
implicit writes that no removal or restore of the tenant brings (R268). -/
def State.txTouches (s : State) (x t : Nat) : Bool :=
  let set := s.tx.at x
  set.staged.any (fun w => s.tenantHolds t (Obj.ofNumber w.obj) && !freesTenant t w.obj (w.values.headD 0)) ||
    (!set.staged.any (fun w => freesTenant t w.obj (w.values.headD 0)) && set.implicit.any (fun o => s.tenantHolds t (Obj.ofNumber o)))

/-- T_CMD FREEZE (R278): transactions that write what the tenant holds fail. -/
def fxFreeze (t : Nat) (s : State) : State :=
  let s := { s with ten := { s.ten with frozen := s.ten.frozen ++ [t] } }.put (O.T_FROZEN_AT t) (s.now 0)
  let s := { s with ten := { s.ten with formed := s.ten.formed.set t (s.formImage t) } }
  s.txFailWhere (fun s x => s.txTouches x t) stFrozen

/-- T_CMD THAW. -/
def fxThaw (t : Nat) (s : State) : State :=
  { s with ten := { s.ten with frozen := s.ten.frozen.erase t, formed := s.ten.formed.drop t } }

/-- T_CMD RESET (R275). -/
def fxTenantReset (t : Nat) (s : State) : State :=
  let s := forEach (s.tenantLeaves t) (fun k s => s.freshLeaf k) (s.fillMeters t)
  let s := forEach (s.tenantQueues t) (fun q s => s.resetQueue q) s
  let s := forEach (List.range 8) (fun k s => s.tcClear t k) s
  s.put (O.T_REFUSED t) 0

/-- T_CMD DISCARD. -/
def fxDiscardImage (t : Nat) (s : State) : State := s.dropImage t

/-- The effect of a T_CMD command. -/
def fxTenantCmd (t v : Nat) (s : State) : State :=
  match v with
  | 1 => fxFreeze t s
  | 2 => fxThaw t s
  | 3 => fxTenantReset t s
  | _ => fxDiscardImage t s

/-- The image of a frozen tenant after an apply that came past its lock point before the freeze, and which the freeze follows (R78):
with the settings that the apply leaves, and BIND_EPOCH and the state of the freeze (log 46). -/
def State.reformImage (s : State) (t : Nat) : State :=
  let get := fun i => (s.ten.formed.at t).getD i 0
  let old := match parseImage t get with | some x => x.2.2 | none => []
  let rs := (s.imageRecords t).map (fun r => if r.kind = kState then (old.find? (fun o => o.obj == r.obj)).getD r else r)
  { s with ten := { s.ten with formed := s.ten.formed.set t (s.imageOf t (ofBytes ((List.range 4).map (fun i => get (0x0C + i)))) rs) } }

/-- The images of the frozen tenants whose settings an apply has changed. -/
def State.reformImages (s before : State) : State :=
  forEach (s.ten.frozen.filter (fun t => (s.imageRecords t).filter (fun r => r.kind == kSetting) !=
    (before.imageRecords t).filter (fun r => r.kind == kSetting))) (fun t s => s.reformImage t) s

/-! ## The pool (R267, R286) -/

/-- T_NEXT_FREE. -/
def State.nextFree (s : State) : Nat :=
  ((List.range 1024).find? (fun t => !(s.get (O.T_CFG t)).testBit 63 && !s.txHolds (O.T_CFG t) && !s.txHolds (O.T_RESTORE t))).getD 0xFFFF
def State.freeTenants (s : State) : Nat := 1024 - s.tenants.length

end Sys2Proof.Machine
end

