-- ==== Sys2Proof/Machine/Slots.lean ====
section
/-! DEFINITION. Slot power channels of the Constantan tile: samples, start, limit, trips, damage, and the commands of a
channel (R357 to R379). -/
namespace Sys2Proof.Machine

/-! ## States and conditions (R359, R378) -/

def chOff : Nat := 0
def chWaiting : Nat := 1
def chRamping : Nat := 2
def chOn : Nat := 3
def chStopping : Nat := 4
def chTripped : Nat := 5
def chDamaged : Nat := 6

/-- Bits of CH_COND. -/
def cVinOk : Nat := 0
def cPresent : Nat := 1
def cInserted : Nat := 2
def cInLimit : Nat := 5
def cPowerGood : Nat := 6
def cTripLatch : Nat := 7
def cDamageLatch : Nat := 8
def cCooldownDone : Nat := 9
def cDiode : Nat := 10

def State.chan (s : State) (n : Nat) : Slot := s.slt.chan.at n
def State.setChan (s : State) (n : Nat) (f : Slot → Slot) : State := { s with slt := { s.slt with chan := s.slt.chan.upd n f } }
def State.chState (s : State) (n : Nat) : Nat := s.get (O.CH_STATE n)
def State.cond (s : State) (n b : Nat) : Bool := s.bit (O.CH_COND n) b
def State.setCond (s : State) (n b : Nat) (on : Bool) : State := s.setBit (O.CH_COND n) b on

/-- The gate of a channel is driven or on (R359). -/
def State.gateOn (s : State) (n : Nat) : Bool := decide (chRamping ≤ s.chState n ∧ s.chState n ≤ chStopping)

def tileRun : Nat := 1
def tileAutonomous : Nat := 2

/-- The tick count of the tile: die 0's, or the one it advances itself while it is AUTONOMOUS (R389). -/
def State.tileNow (s : State) : Nat :=
  if s.get O.TILE_STATE = tileAutonomous then (s.slt.base.1 + (s.elapsed 0 - s.slt.base.2)) % 2 ^ 64 else s.now 0

/-- The tile's raises wait for die 0 while the tile is AUTONOMOUS, in the order in which they occurred (R376). -/
def State.tileRaise (s : State) (source chan addr master : Nat) : State :=
  if s.get O.TILE_STATE = tileAutonomous then
    { s with slt := { s.slt with waiting := s.slt.waiting ++ [(source, chan, addr, master)] } }
  else s.raise source chan addr master 0

/-- An event of a channel: its bit of CH_EVENTS and its raise on die 0, kept back while the tile is AUTONOMOUS (R376). -/
def State.chEvent (s : State) (n source bit : Nat) : State :=
  let s := s.setBit (O.CH_EVENTS n) bit true
  s.tileRaise source (channelId 7 n) 0 0xFFFF

/-- The port associated with a channel loses its slot power (R99, R370, R372). -/
def State.chPortOff (s : State) (n : Nat) : State :=
  let p := s.get (O.CH_PORT n)
  if p < s.ports then s.slotPowerLost p else s

/-- A tick of the tile's sample: only a sample brings a transition that no write brings (R360). -/
def State.atSample (s : State) : Bool := s.slt.sampled == some (s.elapsed 0)

/-- A write has changed the state: where it comes after the sample of its tick, what it makes possible waits for the next one (R360). -/
def State.chWritten (s : State) (n : Nat) : State :=
  s.setChan n (fun c => { c with lateAt := if s.atSample then some (s.elapsed 0) else none })

/-- The latest write of a channel came after the sample of this tick. -/
def State.chLate (s : State) (n : Nat) : Bool := (s.chan n).lateAt == some (s.elapsed 0)

/-- The shunt voltages, in nV, at which the loop of a channel limits the current and the fast comparator trips (R365, R366): the
limit is in units of 50 mA and the shunt in µΩ. -/
def State.shuntLimit (s : State) (n : Nat) : Nat := (s.chan n).ilim * 50 * s.get (O.CH_SHUNT n)
def State.shuntTrip (s : State) (n : Nat) : Nat := 2 * s.shuntLimit n

/-- The analogue loop and the comparator of a channel are set to the limit in force (R365, R366). -/
def State.setLoop (s : State) (n : Nat) : State := s.send (.shuntLimit n (s.shuntLimit n) (s.shuntTrip n))

/-- The gate goes off and the channel takes a state. -/
def State.chGateOff (s : State) (n st : Nat) : State :=
  let s := (s.put (O.CH_STATE n) st).setChan n (fun c => { c with offAt := s.elapsed 0, damageSince := none, checked := false })
  (((s.setCond n cPowerGood false).setCond n cInLimit false).send (.gateOff n)).chPortOff n

/-! ## Temperature (R367, R368) -/

/-- The value that protects a channel: 0 none, 1 the diode, 2 the model. -/
def State.tempUsed (s : State) (n : Nat) : Nat :=
  match s.get (O.CH_TEMP_SRC n), (s.chan n).diode with
  | 0, true => 1
  | 0, false => 2
  | 1, true => 1
  | 1, false => 0
  | _, _ => 2

/-- The protecting temperature in m°C; none where no source protects. -/
def State.protectTemp (s : State) (n : Nat) : Option Int :=
  match s.tempUsed n with
  | 1 => some (s.chan n).diodeTemp
  | 2 => some ((s.chan n).tj.tdiv 1000)
  | _ => none

/-- CH_FET_TEMP. -/
def State.fetTemp (s : State) (n : Nat) : Int := (s.protectTemp n).getD ((s.chan n).tj.tdiv 1000)

/-- One step of the model (R368). -/
def State.modelStep (s : State) (n : Nat) (x : SlSample) : State :=
  let vds := x.isn - x.vout
  let p := if s.gateOn n then vds * x.iout / 1000 else 0
  let target : Int := Int.ofNat (s.get O.MODEL_TREF * 1000000 + p * s.get (O.MODEL_RTH n))
  s.setChan n (fun c => { c with tj := c.tj + (target - c.tj).tdiv (Int.ofNat (s.get (O.MODEL_TAU n))) })

/-! ## Trips (R369, R370) -/

/-- The cause's CH_STATUS, source and event bit: 1 FAST, 2 SOA, 3 PG. -/
def tripStatus (cause : Nat) : Nat := if cause = 3 then stTimeout else stLimit
def tripSource (cause : Nat) : Nat := [F.SL_TRIP_FAST, F.SL_TRIP_SOA, F.SL_TRIP_PG].getD (cause - 1) 0

/-- A channel trips (R369). Of causes that coincide the one listed first is recorded, and each is raised once. -/
def State.chTrip (s : State) (n cause : Nat) : State :=
  if s.gateOn n then
    let s := s.chEvent n (tripSource cause) (cause - 1)
    let s := (s.chGateOff n chTripped).setChan n (fun c =>
      { c with tripAt := s.elapsed 0, coolLimit := s.get O.COOLDOWN, causes := 2 ^ cause })
    let s := ((s.put (O.CH_TRIP_AT n) s.tileNow).put (O.CH_TRIP_CAUSE n) cause).put (O.CH_STATUS n) (tripStatus cause)
    ((s.setCond n cTripLatch true).setCond n cCooldownDone false).count32 (O.CH_TRIPS n)
  else if s.chState n = chTripped ∧ (s.chan n).tripAt = s.elapsed 0 ∧ (s.chan n).causes.testBit cause = false then
    let s := (s.chEvent n (tripSource cause) (cause - 1)).setChan n (fun c => { c with causes := c.causes + 2 ^ cause })
    if cause < s.get (O.CH_TRIP_CAUSE n) then (s.put (O.CH_TRIP_CAUSE n) cause).put (O.CH_STATUS n) (tripStatus cause) else s
  else s

/-! ## Samples (R360, R362, R364, R372, R373) -/

/-- VIN within limits, and outside them by more than the hysteresis. -/
def State.vinGood (s : State) (v : Nat) : Bool := decide (s.get O.VIN_MIN ≤ v ∧ v ≤ s.get O.VIN_MAX)
def State.vinOut (s : State) (v : Nat) : Bool := decide (v + s.get O.VIN_HYST < s.get O.VIN_MIN ∨ s.get O.VIN_MAX + s.get O.VIN_HYST < v)

/-- The condition of step 3 of R364 at one sample. -/
def State.pgMet (s : State) (x : SlSample) : Bool := decide (x.vin ≤ x.vout + s.get O.PG_MARGIN) && !x.limit

/-- What a sample of a channel measures and follows. POWER_GOOD goes only while the channel is ON; it comes back while it is STOPPING too, and
the time of the loss ends there (R364). -/
def State.takeSample (s : State) (n : Nat) (x : SlSample) : State :=
  let t := s.elapsed 0
  let on := s.gateOn n
  let s := if (s.chan n).ilim = s.get (O.CH_ILIM n) then s else (s.setChan n (fun c => { c with ilim := s.get (O.CH_ILIM n) })).setLoop n
  let s := ((s.put (O.CH_VIN n) (x.vin % 65536)).put (O.CH_VOUT n) (x.vout % 65536)).put (O.CH_IOUT n) (x.iout % 65536)
  let s := if s.get (O.CH_PEAK_I n) < x.iout % 65536 then s.put (O.CH_PEAK_I n) (x.iout % 65536) else s
  let s := (s.modelStep n x).setCond n cInLimit (on && x.limit)
  let s := s.setChan n (fun c => { c with
    vinSince := if s.vinGood x.vin then some (c.vinSince.getD t) else none,
    vinBad := if s.vinOut x.vin then c.vinBad + 1 else 0,
    pgRun := if s.pgMet x then c.pgRun + 1 else 0,
    damageSince := if !on && decide (c.offAt + s.get O.DAMAGE_GRACE ≤ t ∧ s.get O.DAMAGE_V ≤ x.vout) then some (c.damageSince.getD t) else none })
  let s := if s.cond n cVinOk && decide (2 ≤ (s.chan n).vinBad) then
      let s := (s.setCond n cVinOk false).setChan n (fun c => { c with vinSince := none })
      if on then s.chEvent n F.SL_INPUT_FAULT 4 else s
    else s
  let isOn := s.chState n = chOn
  if isOn ∨ s.chState n = chStopping then
    if x.vout + s.get O.PG_MARGIN < x.vin then
      if isOn then (s.setCond n cPowerGood false).setChan n (fun c => { c with pgDue := some (c.pgDue.getD (t + s.get O.PG_TIMEOUT)) }) else s
    else if 2 ≤ (s.chan n).pgRun then
      let back := isOn ∧ s.cond n cPowerGood = false
      let s := (s.setCond n cPowerGood true).setChan n (fun c => { c with pgDue := none })
      if back ∧ s.get (O.CH_PORT n) < s.ports then s.tryHotplug (s.get (O.CH_PORT n)) else s
    else s
  else s

/-- The PG timer of a channel, which took its setting when it started (R379), has run out. -/
def State.pgOver (s : State) (n : Nat) : Bool :=
  match (s.chan n).pgDue with
  | some t => decide (t ≤ s.elapsed 0)
  | none => false

/-- A channel whose PG timer has run out without power good trips with cause PG, a loss while it was ON also while it is STOPPING (R364,
R369). -/
def State.pgTrips (s : State) (n : Nat) : Bool :=
  s.pgOver n && (s.chState n == chOn || s.chState n == chStopping || (s.chState n == chRamping && decide ((s.chan n).pgRun < 2)))

/-- The transitions a sample brings by itself: a trip of each cause that holds, the shunt voltage at or above the comparator's threshold
among them (R366, R369), a channel that no temperature source protects any longer as one too hot (R367), and otherwise absence or the loss
of VIN_OK (R360). -/
def State.sampleTransitions (s : State) (n : Nat) (x : SlSample) : State :=
  let fast := s.gateOn n && decide (s.shuntTrip n ≤ x.iout * s.get (O.CH_SHUNT n))
  let hot := match s.protectTemp n with | some t => decide (Int.ofNat (s.get O.FET_TLIM * 1000) ≤ t) | none => true
  let hot := s.gateOn n && hot
  let late := s.pgTrips n
  if fast || hot || late then
    let s := if fast then s.chTrip n 1 else s
    let s := if hot then s.chTrip n 2 else s
    if late then s.chTrip n 3 else s
  else if s.gateOn n && (!s.cond n cPresent || !s.cond n cVinOk) then
    let s := if s.cond n cPresent then s else s.chEvent n F.SL_REMOVED 5
    let stopping := s.chState n = chStopping
    (s.chGateOff n (if stopping then chOff else chWaiting)).put (O.CH_STATUS n) stAborted
  else s

/-- A sample is due: the tile runs, its tick count is a multiple of 25, and this tick's sample has not been taken (R360). While die 0's
count does not run, as before its MGMT is released, the ticks that pass stand for it (DESIGN CHOICE, log 118). -/
def State.sampleDue (s : State) : Bool :=
  (if s.get O.TILE_STATE == tileRun && !s.counting 0 then s.elapsed 0 else s.tileNow) % 25 == 0 && s.get O.TILE_STATE != 0 && !s.atSample

/-- The tile samples its channels (R360). -/
def fxChannelSample (xs : List SlSample) (temp : Int) (s : State) : State :=
  if !s.sampleDue then s
  else
    let s := { s with slt := { s.slt with sampled := some (s.elapsed 0) } }
    let hot := decide (125000 ≤ temp) && !decide (125000 ≤ toS32 (s.get O.TILE_TEMP))
    let s := s.put O.TILE_TEMP (ofS32 temp)
    let s := if hot then (s.setBit O.TILE_EVENTS 1 true).tileRaise F.TILE_OVERTEMP 0 0 0xFFFF else s
    forEach (List.range s.variant.slotChannels) (fun n s => (s.takeSample n (xs.getD n {})).sampleTransitions n (xs.getD n {})) s

/-! ## The contact, the input and the start (R361 to R364) -/

/-- A change of level of SL_PRSNT_N has held for 25 ft: a presence edge 25 ft ago. -/
def fxPresenceEdge (n : Nat) (low : Bool) (s : State) : State :=
  if s.get O.TILE_STATE = 0 ∨ s.cond n cPresent = low then s
  else
    let s := ((s.setCond n cPresent low).setCond n cInserted false).put (O.CH_PRES_EDGE_AT n) (s.tileNow - 25)
    s.setChan n (fun c => { c with edgeAt := s.elapsed 0 - 25 })

/-- PRESENT has been 1 for INSERT_DELAY since the latest edge. -/
def fxInserted (n : Nat) (s : State) : State :=
  if s.atSample && s.cond n cPresent && decide ((s.chan n).edgeAt + s.get O.INSERT_DELAY ≤ s.elapsed 0) then s.setCond n cInserted true else s

/-- VIN has stayed within its limits for VIN_SETTLE. -/
def fxVinOk (n : Nat) (s : State) : State :=
  match (s.chan n).vinSince with
  | some t => if s.atSample && decide (t + s.get O.VIN_SETTLE ≤ s.elapsed 0) then s.setCond n cVinOk true else s
  | none => s

/-- VOUT has been at or above DAMAGE_V for 1 ms with the gate off (R373). -/
def State.damageOver (s : State) (n : Nat) : Bool :=
  match (s.chan n).damageSince with
  | some t => s.chState n != chDamaged && !s.gateOn n && decide (t + 25000 ≤ s.elapsed 0)
  | none => false

/-- Conditions 1 to 4 of R363, for a WAITING channel that was WAITING at the sample and is not found damaged at it (R360), and whose diode has
been checked for this start (R367). -/
def State.startReady (s : State) (n : Nat) : Bool :=
  s.chState n == chWaiting && !s.chLate n && (s.chan n).checked && !s.damageOver n && s.cond n cVinOk && s.cond n cInserted && s.tempUsed n != 0 && s.mode != mSafe

/-- Channels that are RAMPING. -/
def State.ramping (s : State) : Nat := ((List.range s.variant.slotChannels).filter (fun n => s.chState n == chRamping)).length

/-- A WAITING channel enters RAMPING: the lowest-numbered ready channel takes the free place (R363), and its gate is driven so that VOUT
rises at CH_SLEW within the limit in force (R364, R365). -/
def fxRampStart (n : Nat) (s : State) : State :=
  if s.atSample && s.startReady n && decide (s.ramping < s.get O.RAMP_MAX) && (List.range n).all (fun m => !s.startReady m) &&
      s.get O.TILE_STATE == tileRun then
    let s := (s.put (O.CH_STATE n) chRamping).count32 (O.CH_STARTS n)
    let s := s.setChan n (fun c => { c with pgDue := some (s.elapsed 0 + s.get O.PG_TIMEOUT), pgRun := min 1 c.pgRun, damageSince := none,
                                            slew := s.get (O.CH_SLEW n) })
    (s.setLoop n).send (.gate n (s.get (O.CH_SLEW n)))
  else s

/-- Power good (R364): the channel is ON, which is instant P of R99 for its port. -/
def fxSlPowerGood (n : Nat) (s : State) : State :=
  if s.atSample && s.chState n == chRamping && decide (2 ≤ (s.chan n).pgRun) then
    let s := ((s.put (O.CH_STATE n) chOn).setCond n cPowerGood true).put (O.CH_STATUS n) stOk
    let s := (s.setChan n (fun c => { c with pgDue := none })).chEvent n (F.SL_POWER_GOOD n) 7
    let p := s.get (O.CH_PORT n)
    if p < s.ports then s.tryHotplug p else s
  else s

/-- No power good within PG_TIMEOUT of the start, or POWER_GOOD lost for PG_TIMEOUT (R364). A trip of this sample by another cause
is joined by this one. -/
def fxPgTimeout (n : Nat) (s : State) : State :=
  if s.atSample && s.pgOver n && (s.pgTrips n || s.chState n == chTripped) then s.chTrip n 3 else s

/-! ## Trips, cool-down and damage (R366, R367, R370, R372, R373) -/

/-- The fast comparator trips the channel, whatever the sampling: the shunt voltage has crossed the threshold it is set to (R366). -/
def fxSlTripFast (n : Nat) (s : State) : State := s.chTrip n 1

/-- The tile makes the check of a diode that comes at its start and before each start of the channel (R367). -/
def State.diodeCheck (s : State) (n : Nat) : Bool := !s.gateOn n && !(s.chan n).checked

/-- The tile reads a diode now: for a check, or 2,500 ft after the latest reading of one that is present (R367). -/
def State.diodeDue (s : State) (n : Nat) : Bool :=
  s.get O.TILE_STATE != 0 && (s.diodeCheck n || ((s.chan n).diode && decide ((s.chan n).diodeAt + 2500 ≤ s.elapsed 0)))

/-- The tile reads a diode (R367): above 900 mV or below 200 mV there is none. The trip of a channel that it alone protects comes at a sample
(R360): this tick's, or the next one. -/
def fxDiodeReading (n mv : Nat) (temp : Int) (s : State) : State :=
  let c := s.chan n
  let s' := s.setChan n (fun c => { c with checked := c.checked || s.diodeCheck n, diodeAt := s.elapsed 0 })
  if !s.diodeDue n then s
  else if 200 ≤ mv ∧ mv ≤ 900 then s'.setChan n (fun c => { c with diode := true, diodeTemp := temp })
  else if c.diode then
    let used := s.tempUsed n = 1
    let auto := s.get (O.CH_TEMP_SRC n) = 0
    let s := s'.setChan n (fun c => { c with diode := false, tj := if used ∧ auto then c.diodeTemp * 1000 else c.tj })
    if used then
      let s := s.chEvent n F.SL_DIODE_FAULT 6
      if auto || !s.atSample then s else s.chTrip n 2
    else s
  else s'

/-- COOLDOWN after the trip with the temperature at or below FET_TRESUME (R370). -/
def fxCooldownDone (n : Nat) (s : State) : State :=
  let cool := match s.protectTemp n with | some t => decide (t ≤ Int.ofNat (s.get O.FET_TRESUME * 1000)) | none => true
  if s.atSample && s.cond n cTripLatch && cool && decide ((s.chan n).tripAt + (s.chan n).coolLimit ≤ s.elapsed 0) then
    s.setCond n cCooldownDone true
  else s

/-- OFF_DELAY after a disable from ON (R372). -/
def fxOffDelayExpiry (n : Nat) (s : State) : State :=
  if s.atSample && !s.chLate n && s.chState n == chStopping && decide ((s.chan n).stopAt + s.get O.OFF_DELAY ≤ s.elapsed 0) then
    (s.chGateOff n chOff).put (O.CH_STATUS n) stOk
  else s

/-- VOUT has been at or above DAMAGE_V for 1 ms with the gate off (R373). -/
def fxSlFetDamaged (n : Nat) (s : State) : State :=
  if s.atSample && s.damageOver n then
    let s := ((s.put (O.CH_STATE n) chDamaged).setCond n cDamageLatch true).put (O.CH_ENABLE n) 0
    (s.put (O.CH_STATUS n) stProtection).chEvent n F.SL_FET_DAMAGED 3
  else s

/-! ## Commands (R371 to R374, R377, R378) -/

/-- The status of a write of CH_ENABLE. -/
def State.chEnableStatus (s : State) (n v : Nat) : Nat :=
  let st := s.chState n
  if st = chTripped then
    if s.cond n cCooldownDone then (if v = 0 then stOk else stBusy) else stCooldown
  else if st = chStopping ∧ v = 1 then stBusy
  else if st = chDamaged ∧ v = 1 then stProtection
  else stOk

/-- A served write of CH_ENABLE. -/
def fxChEnable (n v : Nat) (s : State) : State :=
  let st := s.chState n
  let s := s.put (O.CH_ENABLE n) v
  if v = 0 then
    if st = chRamping then (s.chGateOff n chOff).put (O.CH_STATUS n) stOk
    else if st = chWaiting then s.put (O.CH_STATE n) chOff
    else if st = chOn then
      (((s.put (O.CH_STATE n) chStopping).setChan n (fun c => { c with stopAt := s.elapsed 0 })).chWritten n).chPortOff n
    else if st = chTripped then ((s.put (O.CH_STATE n) chOff).setCond n cTripLatch false).setCond n cCooldownDone false
    else s
  else if st = chOff then ((s.put (O.CH_STATE n) chWaiting).setChan n (fun c => { c with checked := false })).chWritten n
  else s

/-- The status of a write of CH_DAMAGE_CLEAR; `direct` marks the Ihlod and in-band interfaces. -/
def State.damageClearStatus (s : State) (n : Nat) (direct : Bool) : Nat :=
  if !direct then stDenied
  else if s.get O.DAMAGE_V ≤ s.get (O.CH_VOUT n) then stBusy
  else if s.chState n ≠ chDamaged then stBadValue
  else stOk

/-- A served write of CH_DAMAGE_CLEAR. -/
def fxChDamageClear (n v : Nat) (s : State) : State :=
  if v = 1 ∧ s.chState n = chDamaged then
    (s.setCond n cDamageLatch false).put (O.CH_STATE n) (if s.cond n cTripLatch then chTripped else chOff)
  else s

/-- The status of a write of another member of classes 50 and 51 (R377 to R379). -/
def State.slotWriteStatus (s : State) (o : Obj) (v : Nat) : Nat :=
  if o.cls = 0x50 then
    match o.mem with
    | 0x02 =>
      if v ≠ 0xFF ∧ (s.ports ≤ v ∨ (List.range s.variant.slotChannels).any (fun m => m != o.inst && s.get (O.CH_PORT m) == v)) then stBadValue
      else stOk
    | 0x05 | 0x06 | 0x08 | 0x09 => if s.chState o.inst = chOff then stOk else stBusy
    | _ => stOk
  else if o.cls = 0x51 then
    match o.mem with
    | 0x01 => if v < s.get O.VIN_MAX then stOk else stBadValue
    | 0x0A => if s.get O.FET_TLIM - 10 < v then stBadValue else stOk
    | _ => stOk
  else stOk

/-! ## The tile's interface and reset (R376) -/

/-- Die 0 has not answered for 250 ft. -/
def fxTileLinkLost (s : State) : State :=
  if s.get O.TILE_STATE = tileRun then
    let s := { s with slt := { s.slt with base := (s.now 0, s.elapsed 0) } }
    ((s.setBit O.TILE_EVENTS 0 true).put O.TILE_STATE tileAutonomous).raise F.TILE_LINK_LOST 0 0 0xFFFF 0
  else s

/-- The interface answers again: the events are raised in order. -/
def fxTileLinkRestored (s : State) : State :=
  if s.get O.TILE_STATE = tileAutonomous then
    let w := s.slt.waiting
    let s := { s with slt := { s.slt with waiting := [] } }.put O.TILE_STATE tileRun
    forEach w (fun e s => s.raise e.1 e.2.1 e.2.2.1 e.2.2.2 0) s
  else s

/-- A reset whose reach covers the tile turns off every gate; the tile starts again when the reset ends (R376). -/
def State.resetTile (s : State) : State :=
  let s := forEach ((List.range s.variant.slotChannels).filter (fun n => s.gateOn n)) (fun n s => (s.send (.gateOff n)).chPortOff n) s
  { s.clearWhere (fun o => o.cls == 0x50 || o.cls == 0x51) with slt := {} }

/-- CH_COND as it reads: the temperature source, the ramp place, the diode and the gate are shown as they stand (R378). -/
def State.condRead (s : State) (n : Nat) : Nat :=
  s.get (O.CH_COND n) + (if s.tempUsed n = 0 then 0 else 8) + (if s.ramping < s.get O.RAMP_MAX ∨ s.chState n = chRamping then 16 else 0) +
    (if (s.chan n).diode then 2 ^ cDiode else 0) + (if s.gateOn n then 2 ^ 11 else 0)

/-- The tile starts: the grace of the damage check runs from here (R373). -/
def State.startTile (s : State) : State :=
  forEach (List.range s.variant.slotChannels) (fun n s => s.setChan n (fun c => { c with offAt := s.elapsed 0 })) (s.put O.TILE_STATE tileRun)

/-- CH_ON_MASK and CH_TRIPPED_MASK. -/
def State.chMask (s : State) (p : Nat → Bool) : Nat := maskOf ((List.range s.variant.slotChannels).filter (fun n => p (s.chState n)))

end Sys2Proof.Machine
end

