-- ==== Sys2Proof/Machine/Seqs.lean ====
section
/-! DEFINITION. Click sequencers: their states, starts, stops, faults and events, and the layout of an instruction (R380 to
R393). -/
namespace Sys2Proof.Machine

/-! ## Sequencers (R380 to R382) -/

def sqStopped : Nat := 0
def sqRunning : Nat := 1
def sqWaiting : Nat := 2
def sqFaulted : Nat := 3
def sqRetired : Nat := 4

def fIllegal : Nat := 1
def fStack : Nat := 2
def fPcEnd : Nat := 3
def fStepLimit : Nat := 4
def fProgUe : Nat := 5

/-- A sequencer of the variant: die sequencers first, then the tile's 64 to 67. -/
def State.seqExists (s : State) (n : Nat) : Bool := decide (n < 8 * s.dies ∨ (64 ≤ n ∧ n < 68))

/-- The sequencers of the variant. -/
def State.sequencers (s : State) : List Nat := List.range (8 * s.dies) ++ [64, 65, 66, 67]

/-- The die whose collector a sequencer uses; the tile's use die 0's. -/
def seqDie (n : Nat) : Nat := if n < 64 then n / 8 else 0

/-- FT_NOW as a sequencer has it: its die's copy, or the tile's count (R389). -/
def State.seqNow (s : State) (n : Nat) : Nat := if n < 64 then s.now (n / 8) else s.tileNow

def State.seq (s : State) (n : Nat) : Seq := s.sqs.seq.at n
def State.setSeq (s : State) (n : Nat) (f : Seq → Seq) : State := { s with sqs := { s.sqs with seq := s.sqs.seq.upd n f } }
def State.sqState (s : State) (n : Nat) : Nat := s.get (O.SQ_STATE n)

/-- A register of a sequencer. -/
def State.sqReg (s : State) (n r : Nat) : Nat := s.get (O.SQ_REG n r)
def State.setReg (s : State) (n r v : Nat) : State := s.put (O.SQ_REG n r) (v % 2 ^ 32)

/-- The flags: 0 Z, 1 C, 2 N. -/
def State.setFlag (s : State) (n b : Nat) (on : Bool) : State := s.setBit (O.SQ_FLAGS n) b on

/-- The depth of the return stack in SQ_FLAGS: three bits, in which a full stack's depth of 8 has no stated value. -/
def State.showDepth (s : State) (n : Nat) : State :=
  let k := (s.seq n).stack.length
  let (v, s) := if k = 8 then s.fresh else (k, s)
  s.put (O.SQ_FLAGS n) (s.get (O.SQ_FLAGS n) % 16 + v % 8 * 16)

/-- A raise of a collector that concerns a sequencer (R401, R410). -/
def State.raiseOfSeq (s : State) (n loc addr : Nat) : State := s.raise (seqDie n * 512 + loc) (channelId 6 n) addr (0x300 + n) 0

/-- A raise of a sequencer; the tile's wait while it is AUTONOMOUS (R376). -/
def State.raiseSeq (s : State) (n loc addr : Nat) : State :=
  if n < 64 then s.raiseOfSeq n loc addr
  else s.tileRaise loc (channelId 6 n) addr (0x300 + n)

/-! ## Starting and stopping (R383, R384, R391) -/

/-- A sequencer that holds the Click transaction loses it: the transaction is aborted unless it is LOCKED (R384). -/
def State.dropClickTx (s : State) (n : Nat) : State :=
  if s.get (O.TX_HOLDER 4) = n then
    let s := s.put (O.TX_HOLDER 4) 0xFF
    let st := s.get (O.TX_STATE 4)
    if st = txOpenSt ∨ st = txPreparing ∨ st = txReady ∨ st = txScheduled then s.txAbort 4 else s
  else s

/-- A sequencer stands still in a state. -/
def State.haltSeq (s : State) (n st : Nat) : State :=
  ((s.dropClickTx n).put (O.SQ_STATE n) st).setSeq n (fun q => { q with wait := none })

/-- A sequencer is set for a start at SQ_ENTRY (R383). -/
def State.startSeq (s : State) (n : Nat) : State :=
  let s := (s.put (O.SQ_PC n) (s.get (O.SQ_ENTRY n))).put (O.SQ_FAULT n) 0
  let s := forEach (List.range 8) (fun r s => s.setReg n r 0) (s.put (O.SQ_FLAGS n) 0)
  let s := (s.setSeq n (fun q => { q with stack := [], steps := 0, wait := none })).put (O.SQ_STATE n) sqRunning
  s.count32 (O.SQ_RUNS n)

/-- A start can be served now. -/
def State.startable' (s : State) (n : Nat) : Bool :=
  (s.sqState n == sqStopped || s.sqState n == sqFaulted) && !s.dieSafe (seqDie n) && s.get (O.SQ_VALID n) == 1

/-- The status of SQ_CMD START (R383, R392). -/
def State.sqStartStatus (s : State) (n : Nat) : Nat :=
  if s.sqState n = sqRetired then stRetired
  else if s.get (O.SQ_ROLE n) = 1 ∨ s.dieSafe (seqDie n) = true ∨ (s.sqState n ≠ sqStopped ∧ s.sqState n ≠ sqFaulted) then stBusy
  else if s.get (O.SQ_VALID n) = 0 then stBadValue
  else stOk

/-- The status of an SQ_CMD command. -/
def State.sqCmdStatus (s : State) (n v : Nat) : Nat :=
  match v with
  | 1 => s.sqStartStatus n
  | 2 => if s.sqState n = sqRetired then stRetired else stOk
  | _ => stBadValue

/-- A reaction has ended: OK, or as a failed one, which is raised (R383, R410). -/
def State.endReaction (s : State) (n : Nat) (failed : Bool) : State :=
  if (s.seq n).reaction.isSome then
    let s := s.setSeq n (fun q => { q with reaction := none })
    if failed then s.raiseOfSeq n F.REACTION_FAILED 0 else s
  else s

/-- SQ_CMD START. -/
def fxSqStart (n : Nat) (s : State) : State := s.startSeq n

/-- SQ_CMD STOP (R384). -/
def fxSqStop (n : Nat) (s : State) : State := if s.sqState n = sqRetired then s else (s.haltSeq n sqStopped).endReaction n true

/-- The effect of an SQ_CMD command. -/
def fxSqCmd (n v : Nat) (s : State) : State := if v = 1 then fxSqStart n s else fxSqStop n s

/-- At tick SQ_START_AT an armed start starts the sequencer, or is dropped: in any state but STOPPED and FAULTED with
CLICK_START_MISSED, and as a start that is refused without a valid program or in SAFE (R383, R392). -/
def fxSqStartAt (n : Nat) (s : State) : State :=
  let t := s.get (O.SQ_START_AT n)
  if t ≠ 0 ∧ t ≤ s.seqNow n then
    let s := s.put (O.SQ_START_AT n) 0
    if s.startable' n then s.startSeq n
    else if s.sqState n = sqStopped ∨ s.sqState n = sqFaulted then s
    else s.raiseSeq n F.CLICK_START_MISSED 0
  else s

/-- The status of a write of SQ_ROLE, SQ_ENTRY or SQ_START_AT (R383). -/
def State.sqWriteStatus (s : State) (n mem v : Nat) : Nat :=
  let still := s.sqState n = sqStopped ∨ s.sqState n = sqFaulted
  match mem with
  | 0x02 | 0x03 => if still then stOk else stBusy
  | 0x04 =>
    if v = 0 then stOk
    else if v < s.seqNow n + 25 then stBadValue
    else if s.get (O.SQ_ROLE n) = 1 then stBusy
    else stOk
  | _ => stOk

/-- SQ_ROLE becomes REACTION: an armed start is disarmed. -/
def fxSqRole (n v : Nat) (s : State) : State :=
  let s := s.put (O.SQ_ROLE n) v
  if v = 1 then s.put (O.SQ_START_AT n) 0 else s

/-- A program fault (R391). -/
def State.sqFault (s : State) (n cause : Nat) : State :=
  let s := ((s.haltSeq n sqFaulted).put (O.SQ_FAULT n) cause).count32 (O.SQ_FAULTS n)
  (s.raiseSeq n F.CLICK_FAULT 0).endReaction n true

/-- The sequencers that a die serves, the tile's on die 0, as it enters SAFE (R392). -/
def State.seqsSafe (s : State) (d : Nat) : State := forEach (s.sequencers.filter (fun n => seqDie n == d)) (fun n s => if s.sqState n = sqStopped then s else fxSqStop n s) s

/-- A reset whose reach covers a sequencer (R393); a cold reset clears its store too. -/
def State.resetSeq (s : State) (cold : Bool) (n : Nat) : State :=
  let valid := s.get (O.SQ_VALID n)
  let s := (s.dropClickTx n).setSeq n (fun _ => {})
  let s := s.clearWhere (fun o => o.cls == 0x60 && o.inst == n)
  if cold then s.eraseRange (dportAddr 0x21 (0x1000 * n)) 0x1000 else s.put (O.SQ_VALID n) valid

/-! ## Events (R390) -/

/-- Set a bit of a sequencer's EVT. -/
def State.setEvt (s : State) (n b : Nat) : State := s.setBit (O.SQ_EVT n) b true

/-- A raise of a source reaches the bindings of every sequencer. -/
def State.bindEvents (s : State) (source : Nat) : State :=
  forEach ((s.regs.filter (fun c => decide (c.1 / 0x100 % 0x100 = 0x60 ∧ 0x10 ≤ c.1 % 0x100 ∧ c.1 % 0x100 < 0x18 ∧ c.2.toNat = source))).map
      (fun c => (c.1 / 0x10000, c.1 % 0x100 - 0x10)))
    (fun b s => s.setEvt b.1 (16 + b.2)) s

/-! ## Instructions (R385, R386, R391) -/

/-- An instruction's fields (R385). -/
structure SqIns where
  op : Nat
  rd : Nat
  ra : Nat
  i : Bool
  rb : Nat
  h : Bool
  imm : Nat
  deriving DecidableEq, Repr

def sqFields (w : Nat) : SqIns :=
  ⟨bitsOf w 31 27, bitsOf w 26 24, bitsOf w 23 21, w.testBit 20, bitsOf w 19 17, w.testBit 16, bitsOf w 15 0⟩

def opHalt : Nat := 0x00
def opLdi : Nat := 0x01
def opAdd : Nat := 0x02
def opSub : Nat := 0x03
def opAnd : Nat := 0x04
def opOr : Nat := 0x05
def opCmp : Nat := 0x06
def opBr : Nat := 0x07
def opLdo : Nat := 0x08
def opSto : Nat := 0x09
def opWaitt : Nat := 0x0A
def opWaite : Nat := 0x0B
def opEmit : Nat := 0x0C
def opTxb : Nat := 0x0D
def opTxc : Nat := 0x0E
def opCall : Nat := 0x0F
def opRet : Nat := 0x10

/-- The fields of a second operand that must be zero. -/
def SqIns.op2Ok (x : SqIns) : Bool := if x.i then x.rb == 0 else x.imm == 0

/-- An instruction is legal: its opcode is defined and every field it does not use is zero (R385, R391). -/
def SqIns.legal (x : SqIns) : Bool :=
  match x.op with
  | 0x00 | 0x0D | 0x10 => x.rd == 0 && x.ra == 0 && !x.i && x.rb == 0 && !x.h && x.imm == 0
  | 0x01 => x.ra == 0 && !x.i && x.rb == 0
  | 0x02 | 0x03 | 0x04 | 0x05 | 0x0B => !x.h && x.op2Ok
  | 0x06 => x.rd == 0 && !x.h && x.op2Ok
  | 0x07 => x.rd != 7 && x.ra == 0 && !x.i && x.rb == 0 && !x.h && decide (x.imm < 1024)
  | 0x08 => !x.i && x.rb == 0 && decide (x.imm < 256)
  | 0x09 => !x.h && (!x.i || x.rb == 0) && decide (x.imm < 256)
  | 0x0A => x.rd == 0 && (if x.h then !x.i && x.rb == 0 && x.imm == 0 else x.ra == 0 && x.op2Ok)
  | 0x0C => x.rd == 0 && !x.i && !x.h
  | 0x0E => x.rd == 0 && x.ra == 0 && !x.h && x.op2Ok
  | 0x0F => x.rd == 0 && x.ra == 0 && !x.i && x.rb == 0 && !x.h
  | _ => false

/-- The word at a sequencer's program counter. -/
def State.sqWord (s : State) (n : Nat) : Nat := ofBytes (s.readBytes (dportAddr 0x21 (0x1000 * n + 4 * s.get (O.SQ_PC n))) 4)

/-- The instruction a RUNNING sequencer executes next as opcode `op`: none where it is another one, an illegal one, or the step
limit has come. -/
def State.sqNext (s : State) (n op : Nat) : Option SqIns :=
  let x := sqFields (s.sqWord n)
  if s.sqState n = sqRunning ∧ x.op = op ∧ x.legal = true ∧ (s.seq n).steps < s.get (O.SQ_STEP_LIMIT n) then some x else none

/-- The second operand. -/
def State.sqOp2 (s : State) (n : Nat) (x : SqIns) : Nat := if x.i then x.imm else s.sqReg n x.rb

/-- The instruction counts toward the step limit. -/
def State.sqStep (s : State) (n : Nat) : State := s.setSeq n (fun q => { q with steps := q.steps + 1 })

/-- Go on at the next address; past 1,023 the program faults, SQ_PC at the faulting instruction (R391). -/
def State.sqGoOn (s : State) (n : Nat) : State :=
  let pc := s.get (O.SQ_PC n)
  if pc = 1023 then s.sqFault n fPcEnd else s.put (O.SQ_PC n) (pc + 1)

/-- Execute an instruction that only changes a register. -/
def State.sqAlu (s : State) (n op : Nat) (f : State → SqIns → Nat) : State :=
  match s.sqNext n op with
  | none => s
  | some x => (((s.sqStep n).setReg n x.rd (f s x)).sqGoOn n)

def fxHalt (n : Nat) (s : State) : State :=
  match s.sqNext n opHalt with
  | none => s
  | some _ => (((s.sqStep n).haltSeq n sqStopped).endReaction n false)

def fxLdi (n : Nat) (s : State) : State :=
  s.sqAlu n opLdi (fun s x => if x.h then x.imm * 65536 + s.sqReg n x.rd % 65536 else x.imm)

def fxAdd (n : Nat) (s : State) : State := s.sqAlu n opAdd (fun s x => s.sqReg n x.ra + s.sqOp2 n x)
def fxSub (n : Nat) (s : State) : State := s.sqAlu n opSub (fun s x => s.sqReg n x.ra + 2 ^ 32 - s.sqOp2 n x)
def fxAnd (n : Nat) (s : State) : State := s.sqAlu n opAnd (fun s x => Nat.land (s.sqReg n x.ra) (s.sqOp2 n x))
def fxOr (n : Nat) (s : State) : State := s.sqAlu n opOr (fun s x => Nat.lor (s.sqReg n x.ra) (s.sqOp2 n x))

/-- CMP sets the three flags (R386). -/
def fxCmp (n : Nat) (s : State) : State :=
  match s.sqNext n opCmp with
  | none => s
  | some x =>
    let a := s.sqReg n x.ra
    let b := s.sqOp2 n x
    ((((s.sqStep n).setFlag n 0 (a == b)).setFlag n 1 (decide (a < b))).setFlag n 2 (decide (toS32 a < toS32 b))).sqGoOn n

/-- The condition of BR. -/
def brHolds (flags cond : Nat) : Bool :=
  match cond with
  | 0 => true
  | 1 => flags.testBit 0
  | 2 => !flags.testBit 0
  | 3 => flags.testBit 1
  | 4 => !flags.testBit 1
  | 5 => flags.testBit 2
  | _ => !flags.testBit 2

def fxBr (n : Nat) (s : State) : State :=
  match s.sqNext n opBr with
  | none => s
  | some x =>
    let s := s.sqStep n
    if brHolds (s.get (O.SQ_FLAGS n)) x.rd then s.put (O.SQ_PC n) x.imm else s.sqGoOn n

/-- CALL pushes the address after it (R386). -/
def fxCall (n : Nat) (s : State) : State :=
  match s.sqNext n opCall with
  | none => s
  | some x =>
    let s := s.sqStep n
    if (s.seq n).stack.length = 8 then s.sqFault n fStack
    else
      let pc := s.get (O.SQ_PC n)
      ((s.setSeq n (fun (q : Seq) => { q with stack := (pc + 1) :: q.stack })).showDepth n).put (O.SQ_PC n) (x.imm % 1024)

/-- RET pops an address; one past 1,023 is a PC_END fault. -/
def fxRet (n : Nat) (s : State) : State :=
  match s.sqNext n opRet with
  | none => s
  | some _ =>
    let s := s.sqStep n
    match (s.seq n).stack with
    | [] => s.sqFault n fStack
    | a :: r =>
      let s := (s.setSeq n (fun q => { q with stack := r })).showDepth n
      if a < 1024 then s.put (O.SQ_PC n) a else s.sqFault n fPcEnd

/-- The instruction at the program counter is illegal, or its word has an uncorrectable error (R391). -/
def fxIllegal (n : Nat) (ue : Bool) (s : State) : State :=
  if s.sqState n = sqRunning ∧ (s.seq n).steps < s.get (O.SQ_STEP_LIMIT n) then
    if ue then s.sqFault n fProgUe
    else if (sqFields (s.sqWord n)).legal then s
    else s.sqFault n fIllegal
  else s

/-- SQ_STEP_LIMIT instructions have executed without a wait (R391). -/
def fxStepLimit (n : Nat) (s : State) : State :=
  if s.sqState n = sqRunning ∧ s.get (O.SQ_STEP_LIMIT n) ≤ (s.seq n).steps then s.sqFault n fStepLimit else s

/-! ## Waits (R389, R390) -/

/-- A wait ends: the sequencer runs on, its step count anew. -/
def State.sqResume (s : State) (n : Nat) : State :=
  ((s.put (O.SQ_STATE n) sqRunning).setSeq n (fun q => { q with wait := none, steps := 0 })).sqGoOn n

/-- A wait begins. -/
def State.sqWait (s : State) (n : Nat) (w : SqWait) : State :=
  (s.put (O.SQ_STATE n) sqWaiting).setSeq n (fun q => { q with wait := some w })

/-- The tick of a WAITT has come. -/
def State.sqTickDue (s : State) (n : Nat) (w : SqWait) : Bool :=
  let now := s.seqNow n
  if w.kind = 1 then decide (w.target ≤ now) else decide ((now % 2 ^ 32 + 2 ^ 32 - w.target) % 2 ^ 32 < 2 ^ 31)

def fxWaitt (n : Nat) (s : State) : State :=
  match s.sqNext n opWaitt with
  | none => s
  | some x =>
    let s := s.sqStep n
    let w : SqWait := if x.h then ⟨2, s.sqReg n x.ra, 0, 0⟩ else ⟨1, s.seqNow n + s.sqOp2 n x, 0, 0⟩
    if s.sqTickDue n w then s.sqResume n else s.sqWait n w

def fxWaittEnd (n : Nat) (s : State) : State :=
  match (s.seq n).wait with
  | some w => if (w.kind = 1 ∨ w.kind = 2) ∧ s.sqTickDue n w = true then s.sqResume n else s
  | none => s

/-- EVT AND a mask is taken: RD receives it and the bits clear (R390). -/
def State.takeEvt (s : State) (n rd mask : Nat) : State :=
  let v := Nat.land (s.get (O.SQ_EVT n)) mask
  (s.setReg n rd v).put (O.SQ_EVT n) (s.get (O.SQ_EVT n) - v)

def fxWaite (n : Nat) (s : State) : State :=
  match s.sqNext n opWaite with
  | none => s
  | some x =>
    let s := s.sqStep n
    let mask := s.sqReg n x.ra
    let lim := s.sqOp2 n x
    if Nat.land (s.get (O.SQ_EVT n)) mask ≠ 0 then (s.takeEvt n x.rd mask).sqResume n
    else s.sqWait n ⟨3, if lim = 0 then 0 else s.seqNow n + lim, mask, x.rd⟩

def fxWaiteEnd (n : Nat) (s : State) : State :=
  match (s.seq n).wait with
  | some w =>
    if w.kind ≠ 3 then s
    else if Nat.land (s.get (O.SQ_EVT n)) w.mask ≠ 0 then (s.takeEvt n w.rd w.mask).sqResume n
    else if w.target ≠ 0 ∧ w.target ≤ s.seqNow n then (s.setReg n w.rd 0).sqResume n
    else s
  | none => s

/-- An access instruction reports its status (R387). -/
def State.sqStatus (s : State) (n st : Nat) : State := (s.put (O.SQ_LAST_STATUS n) st).setFlag n 0 (st == stOk)

/-- A tile sequencer is cut off from the dies (R392). -/
def State.cutOff (s : State) (n : Nat) : Bool := decide (64 ≤ n) && s.get O.TILE_STATE == tileAutonomous

/-- EMIT sets an event bit, or raises CLICK_USER (R390). -/
def fxEmit (n : Nat) (s : State) : State :=
  match s.sqNext n opEmit with
  | none => s
  | some x =>
    let s := s.sqStep n
    let t := s.sqReg n x.ra % 128
    let s := if t = 127 then (s.raiseSeq n F.CLICK_USER (s.sqReg n x.rb)).sqStatus n stOk
             else if !s.seqExists t then s.sqStatus n stBadValue
             else if s.cutOff n && decide (t < 64) then s.sqStatus n stBusy
             else (s.setEvt t (x.imm % 16)).sqStatus n stOk
    s.sqGoOn n

end Sys2Proof.Machine
end

