-- ==== Sys2Proof/Machine/Ihlod.lean ====
section
/-! DEFINITION. The Ihlod node: segments, the forwarding of frames, requests held and answered, events, and the armed reset
(R342 to R356). -/
namespace Sys2Proof.Machine

def tDictRead : Nat := 0x01
def tDictWrite : Nat := 0x02
def tDpLoad : Nat := 0x03
def tDpDump : Nat := 0x04
def tTod : Nat := 0x05
def tRstArm : Nat := 0x06
def tRstGo : Nat := 0x07
def tAssign : Nat := 0x08
def tEcho : Nat := 0x09
def tSpdm : Nat := 0x0A
def tEvent : Nat := 0x40
def tNack : Nat := 0xFF

/-- The address of a node without one. -/
def noNode : Nat := 0xFF

def State.nodeAddr (s : State) : Nat := s.get O.NODE_ADDR

/-- The SRC of a switch's own answers. That of a switch without an address, which the five bits of the field cannot spell, the spec does
not state: it is free (log 111). -/
def State.ownSrc (s : State) : Nat := if s.nodeAddr = noNode then Config.unassignedSrc.toNat else s.nodeAddr

/-- Change the node's record. -/
def State.setIhl (s : State) (f : IhlSt → IhlSt) : State := { s with ihl := f s.ihl }

/-! ## Sending (R344, R345) -/

/-- A frame that a switch forwards goes before those that it originated in the same core cycle (R344). -/
def joinFrames (fs : List Frame) (f : Frame) : List Frame :=
  let first := fun (g : Frame) => !(f.way == 1 && g.way == 0 && g.joined == f.joined && !g.resent)
  fs.takeWhile first ++ [f] ++ fs.dropWhile first

/-- A frame joins what leaves by port A, or by port B while port A's segment is down. -/
def State.frameOut (s : State) (f : Frame) : State :=
  s.setLink (if s.linkIsUp ihlodA then ihlodA else ihlodB) (fun r => { r with frames := joinFrames r.frames { f with joined := s.mono 0 } })

/-- The answer to a request: its TYPE with bit 7 set, back to its SRC (R348). -/
def frameAnswer (f : Frame) (node status : Nat) : Frame :=
  { dst := f.src, src := node, type := f.type + 0x80, reqId := f.reqId, status := status }

/-- A frame whose request cannot be read is answered with NACK (R348, R350). -/
def State.nack (s : State) (f : Frame) : State :=
  s.frameOut { dst := f.src, src := s.ownSrc, type := tNack, reqId := f.reqId, status := stBadValue }

/-- The frames of an answer are sent. -/
def State.framesOut (s : State) (fs : List Frame) : State := forEach fs (fun f s => s.frameOut f) s

/-- The frames of an answer are sent, and kept with the last 32 answers (R351). -/
def State.answeredAll (s : State) (fs : List Frame) : State :=
  (s.setIhl (fun i => { i with kept := (i.kept ++ [fs]).drop ((i.kept.length + 1) - 32) })).framesOut fs

/-- The answer of one frame. -/
def State.answered (s : State) (f : Frame) : State := s.answeredAll [f]

/-- The kept answer to a request. -/
def State.keptAnswer (s : State) (f : Frame) : Option (List Frame) :=
  s.ihl.kept.find? (fun ks => ks.any (fun k => k.reqId == f.reqId && k.type == f.type + 0x80))

/-! ## Events (R353) -/

/-- Event frames queued: those that have no address yet, and those a port has not sent. One that a port is to send again has left the queue. -/
def State.eventsQueued (s : State) : Nat :=
  let own := fun (f : Frame) => f.type == tEvent && f.way == 0 && !f.resent
  s.ihl.events.length + ((s.link ihlodA).frames.filter own).length + ((s.link ihlodB).frames.filter own).length

/-- A raise that reaches die 0 is pushed as an EVENT frame, or merged into the next one. -/
def State.pushEvent (s : State) (source severity stamp : Nat) : State :=
  if severity < s.get O.EP_MIN_SEVERITY then s
  else if 64 ≤ s.eventsQueued then
    let s := (s.count32 O.EP_LOST).setIhl (fun i => { i with merged := i.merged + 1 })
    (s.setBit O.IH_EVENTS 3 true).raiseDie 0 F.IH_EVENT_LOST
  else
    let n := s.get O.EVENT_SEQ
    let cap := if s.get (O.FS_CAP_VALID source) = 1 then
        bytesOf (s.get (O.FS_CAP_ADDR source)) 8 ++
          bytesOf (s.get (O.FS_CAP_MASTER source) + s.get (O.FS_CAP_TYPE source) * 2 ^ 16) 8
      else []
    let f : Frame := { dst := 0, src := s.nodeAddr % 256, type := tEvent, reqId := n, value := stamp,
                       aux := severity * 2 ^ 16 + source, count := min s.ihl.merged 255, payload := cap }
    let s := (s.put O.EVENT_SEQ ((n + 1) % 65536)).setIhl (fun i => { i with merged := 0 })
    if s.nodeAddr = noNode then s.setIhl (fun i => { i with events := i.events ++ [f] }) else s.frameOut f

/-- The events that waited for an address are sent. -/
def State.releaseEvents (s : State) : State :=
  let fs := s.ihl.events
  forEach fs (fun f s => s.frameOut { f with src := s.nodeAddr }) (s.setIhl (fun i => { i with events := [] }))

/-! ## Receiving (R325, R344, R345, R351) -/

/-- A frame on its way round the ring is forwarded. -/
def State.forward (s : State) (f : Frame) : State := (s.count32 O.IH_FORWARDED).frameOut { f with way := 1 }

/-- A broadcast request goes on once it has been answered. -/
def State.passOn (s : State) (f : Frame) : State := if f.bcast then s.forward f else s

/-- A request whose answer is kept gets that answer again (R351). A broadcast one goes on (R344): an ASSIGN by which the switch took
its address goes on to that address, as when it was served, so that no later switch takes it. DEDUCED (log 111). -/
def State.repeatAnswer (s : State) (f : Frame) (ks : List Frame) : State :=
  let took := ks.find? (fun k => f.type == tAssign && k.status == stOk)
  let s := s.framesOut ks
  match took with
  | some k => if f.bcast then s.forward { f with bcast := false, dst := k.src } else s
  | none => s.passOn f

/-- A request whose SRC is not 0 is answered DENIED and raises IH_FOREIGN (R34, R348). -/
def State.foreign (s : State) (f : Frame) : State :=
  let s := (s.setBit O.IH_EVENTS 4 true).raiseDie 0 F.IH_FOREIGN
  (s.frameOut (frameAnswer f s.ownSrc stDenied)).passOn f

/-- Requests that the node holds: those that wait, and an SPDM request in service (R351). -/
def State.heldCount (s : State) : Nat := s.ihl.held.length + (if s.sec.waiting.isSome then 1 else 0)

/-- A request to the switch: one whose SRC is not 0 or whose TYPE is not listed is not served (R348), one whose answer is kept gets it
again, and one that finds 16 held is answered BUSY (R351). -/
def State.holdRequest (s : State) (f : Frame) : State :=
  if f.src ≠ 0 then s.foreign f
  else if f.type < 1 ∨ tSpdm < f.type then s.nack f
  else
    match s.keptAnswer f with
    | some ks => s.repeatAnswer f ks
    | none =>
      if 16 ≤ s.heldCount then ((s.count32 O.IH_REFUSED).frameOut (frameAnswer f s.ownSrc stBusy)).passOn f
      else s.setIhl (fun i => { i with held := i.held ++ [f], heldAt := i.heldAt ++ [s.mono 0] })

/-- A frame in the primary direction (R344, R347, R348). -/
def State.primaryFrame (s : State) (f : Frame) : State :=
  let n := s.nodeAddr
  let request := decide (f.type < 0x80) && f.type != tEvent
  let orphan := f.bcast && f.type != tAssign && f.type != tTod && request
  if n = noNode then
    if f.bcast && f.type == tAssign then s.holdRequest f
    else if orphan then (s.count32 O.IH_ORPHANS).forward f else s.forward f
  else if f.src = n then s.count32 O.IH_ORPHANS
  else if f.dst = n ∧ f.bcast = false then
    if 0x80 ≤ f.type then s.count32 O.IH_ORPHANS else s.holdRequest f
  else if f.bcast && f.type == tTod then s.holdRequest f
  else if f.bcast && f.type == tAssign then
    if f.src ≠ 0 then s.foreign f
    else match s.keptAnswer f with
    | some ks => s.repeatAnswer f ks
    | none => s.forward f
  else if orphan then (s.count32 O.IH_ORPHANS).forward f
  else s.forward f

/-- A frame that port A or B has accepted: port B receives the primary direction, port A the secondary (R345). -/
def State.frameIn (s : State) (x : Nat) (f : Frame) : State :=
  if x = 1 then s.primaryFrame f
  else if s.linkIsUp ihlodB then s.setLink ihlodB (fun r => { r with frames := r.frames ++ [{ f with way := 2 }] })
  else s.primaryFrame f

/-- The receiver of an Ihlod port takes a frame (R327); `ok` is the outcome of the CRC. A frame of a wrong size fails it (R321). -/
def fxIhlodFrameUnit (x : Nat) (ok : Bool) (seq : Nat) (f : Frame) (s : State) : State :=
  let l := 32 + x
  if !s.linkIsUp l then s
  else if !ok || !frameSized f then s.crcBad l
  else
    let c := s.classify l seq
    if c ≠ 0 then s.offUnit l c
    else
      let s := (s.acceptUnit l).setLinkLoop l 0 (fun k =>
        { k with received := (k.received + 1) % 2 ^ 32, returnedTx := (k.returnedTx + 1) % 2 ^ 32 })
      (s.pushBypass l bCredit 0 [0, (s.linkLoop l 0).returnedTx, 0, 0]).frameIn x (frameRead f)

/-! ## Segments (R346, R356) -/

/-- A training attempt of a segment runs, on a stable IHLOD PLL (R424, R425). -/
def State.segTraining (s : State) (x : Nat) : Bool :=
  s.domainOn 0 dMgmt && (s.rst.pll.at 5).stable && s.get (O.SEG_STATE x) != 1 && s.ihl.segWait.at x == 0

/-- A segment has trained, both ends having taken and sent 16 training sets: numbers and credits start again, and the switch leaves the bypass (R345, R346). -/
def fxSegmentUp (x peer : Nat) (s : State) : State :=
  if s.segTraining x then
    let l := 32 + x
    let now := s.elapsed 0
    let s := ((s.put (O.SEG_STATE x) 1).put (O.SEG_PEER x) (peer % 256)).freshLinkLoops l
    let s := (((s.put (O.NEXT_TX l) 0).put (O.UNACKED l) 0).put (O.NEXT_RX l) 0).put (O.LL_OUTSTANDING l) 0
    let s := ((s.openWindow l).put (O.BAD_RUN l) 0).setLink l (fun r =>
      { r with replay := [], rpos := none, bypass := [], hbSeenAt := now, hbSentAt := now,
               restart := s.mono 0, nakPending := false, accFirst := none, accCount := 0, ackAt := r.flits, stalled := false })
    let s := if x = 0 then
        let (relayed, b) := (s.link ihlodB).frames.partition (fun f => f.way == 2)
        (s.setLink ihlodB (fun r => { r with frames := relayed })).setLink ihlodA (fun r => { r with frames := r.frames ++ b })
      else s
    s.ringState
  else s

/-- An attempt has not reached UP within 2,500 ft: it is repeated after IH_RETRY. -/
def fxSegmentTrainTimeout (x : Nat) (s : State) : State :=
  if s.segTraining x && decide (s.ihl.segTry.at x + 2500 ≤ s.elapsed 0) then
    s.setIhl (fun i => { i with segWait := i.segWait.set x (s.elapsed 0 + 1) })
  else s

/-- IH_RETRY after a failed attempt the next one starts. -/
def fxSegmentRetry (x : Nat) (s : State) : State :=
  let w := s.ihl.segWait.at x
  if w ≠ 0 ∧ s.get (O.SEG_STATE x) ≠ 1 ∧ w + s.get O.IH_RETRY ≤ s.elapsed 0 + 1 then
    (s.setIhl (fun i => { i with segWait := i.segWait.set x 0, segTry := i.segTry.set x (s.elapsed 0) })).send
      (.trainingSet x (trainingSet s.nodeAddr x))
  else s

/-- SEG_CTRL RETRAIN takes the segment down. -/
def fxSegCtrl (x : Nat) (s : State) : State := s.segDown x

/-! ## Serving what needs no dictionary (R347, R348, R350, R352) -/

/-- A field that the table of R350 does not name for a request's TYPE is not zero. -/
def strayField (f : Frame) : Bool :=
  let dict := f.type == tDictRead || f.type == tDictWrite
  let spdm := f.type == tSpdm
  let anyPayload := f.type == tDictWrite || f.type == tDpLoad || f.type == tEcho || spdm
  f.status != 0 || f.resv != 0 || (f.more && !spdm) || (f.object != 0 && !dict) || (f.count != 0 && !dict && !spdm) ||
    (f.value != 0 && f.type != tTod && f.type != tRstGo && f.type != tAssign) || (f.aux != 0 && !spdm) ||
    (!f.payload.isEmpty && !anyPayload)

/-- Other ways a request breaks the layout of R348 and R350: of an SPDM segment, the valid bytes. -/
def badLayout (f : Frame) : Bool :=
  strayField f || (f.type == tSpdm && decide (f.aux = 0 ∨ 256 < f.aux ∨ f.payload.length < f.aux ∨ f.payload.length < 8)) ||
    (f.type == tDictWrite && decide (f.payload.length ≠ 8 * f.count)) || (f.type == tDpLoad && decide (f.payload.length ≠ 256))

/-- Serve the oldest request held when it is of a type: `act` answers it. A duplicate of a request served since it came, and one
that breaks R350, are answered without it (R350, R351). A broadcast request is then forwarded (R344), but for an ASSIGN that `act` has
sent on. Nothing is served while an SPDM message waits for its answer (R351). -/
def State.serveHeld (s : State) (type : Nat) (act : Frame → State → State) : State :=
  match s.ihl.held with
  | [] => s
  | f :: rest =>
    if f.type ≠ type ∨ s.sec.waiting.isSome = true then s
    else
      let s := s.setIhl (fun i => { i with held := rest, heldAt := i.heldAt.tail, servedAt := i.heldAt.headD (s.mono 0) })
      match s.keptAnswer f with
      | some ks => s.repeatAnswer f ks
      | none =>
        if badLayout f then (s.nack f).passOn f
        else if f.type = tAssign then act f s
        else (act f s).passOn f

/-- PACKAGE_SERIAL as 16 bytes. -/
def State.serialBytes (s : State) : List Byte := bytesOf (s.get (O.PACKAGE_SERIAL 0)) 8 ++ bytesOf (s.get (O.PACKAGE_SERIAL 1)) 8

/-- ASSIGN (R347). A broadcast one goes on to the new address; one that waited while another gave the switch its address goes on
unserved. -/
def fxAssign (s : State) : State :=
  s.serveHeld tAssign (fun f s =>
    let a := f.value % 32
    let ans := fun (s : State) st => s.answered { frameAnswer f s.ownSrc st with payload := s.serialBytes }
    if f.bcast = true ∧ s.nodeAddr ≠ noNode then s.forward f
    else if f.value = 0 ∨ 31 < f.value then (ans s stBadValue).passOn f
    else
      let s := ((s.put O.NODE_ADDR a).setBit O.IH_EVENTS 2 true).raiseDie 0 F.IH_ADDR_ASSIGNED
      let s := (ans s stOk).releaseEvents
      if f.bcast then s.forward { f with bcast := false, dst := a } else s)

/-- ECHO. -/
def fxEcho (s : State) : State :=
  s.serveHeld tEcho (fun f s => s.answered { frameAnswer f s.nodeAddr stOk with payload := f.payload })

/-- RST_ARM (R352, R465). -/
def fxRstArm (s : State) : State :=
  s.serveHeld tRstArm (fun f s =>
    if s.get O.IHLOD_RESET = 0 then s.answered (frameAnswer f s.nodeAddr stDenied)
    else
      (s.setIhl (fun i => { i with armedId := some f.reqId, armedAt := i.servedAt })).answered (frameAnswer f s.nodeAddr stOk))

/-- RST_GO: the armed request's identifier, received within RST_WINDOW of the arming request while IHLOD_RESET reads 1, or the switch is
disarmed (R352, R465). -/
def fxRstGo (s : State) : State :=
  s.serveHeld tRstGo (fun f s =>
    let ok := s.ihl.armedId == some f.value && decide (s.ihl.servedAt ≤ s.ihl.armedAt + 64 * s.get O.RST_WINDOW) && s.get O.IHLOD_RESET == 1
    let s := s.setIhl (fun i => { i with armedId := none })
    if ok then
      let a := frameAnswer f s.nodeAddr stOk
      (s.setIhl (fun i => { i with goReq := some a, goAcked := none })).answered a
    else s.answered (frameAnswer f s.nodeAddr stBusy))

/-- A frame without the marks of a queue. -/
def unmarked (f : Frame) : Frame := { f with way := 0, joined := 0, resent := false }

/-- The RST_GO answer is still in a port's queue or replay buffer. -/
def State.goPending (s : State) (a : Frame) : Bool :=
  [ihlodA, ihlodB].any (fun l =>
    (s.link l).frames.any (fun f => unmarked f == a) || (s.link l).replay.any (fun u => u.frame.map unmarked == some a))

/-- The moment the layer has acknowledged the RST_GO answer. -/
def State.noteGoAck (s : State) : State :=
  match s.ihl.goReq, s.ihl.goAcked with
  | some a, none => if s.goPending a then s else s.setIhl (fun i => { i with goAcked := some (s.elapsed 0) })
  | _, _ => s

/-- The SPDM segments of the Ihlod link (R350, R463): the last one completes the message, which waits for
the responder (R463). -/
def fxSpdmFrame (s : State) : State :=
  s.serveHeld tSpdm (fun f s =>
    let n := f.aux % 512
    if f.count ≠ s.sec.segNext ∨ 16 ≤ f.count then
      ({ s with sec := { s.sec with segments := [], segNext := 0 } }).answered
        { frameAnswer f s.nodeAddr stBadValue with count := f.count }
    else
      let all := (if f.count = 0 then [] else s.sec.segments) ++ f.payload.take n
      let s := { s with sec := { s.sec with segments := all, segNext := if f.more then f.count + 1 else 0 } }
      if f.more then s.answered { frameAnswer f s.nodeAddr stOk with count := f.count }
      else { s with sec := { s.sec with waiting := some f } })

end Sys2Proof.Machine
end

