-- ==== Sys2Proof/Machine/Faults.lean ====
section
/-! DEFINITION. The Firefly collectors: what a raise does, notices, reactions, retirement, the maintenance matrix, and the entry
into SAFE (R401 to R419). -/
namespace Sys2Proof.Machine

def sevLog : Nat := 1
def sevNotify : Nat := 2
def sevRecover : Nat := 3
def sevContain : Nat := 4
def sevSafe : Nat := 5

def causeSeverity : Nat := 1
def causeOverflow : Nat := 2
def causeCollector : Nat := 3
def causeFold : Nat := 5
def causeCommanded : Nat := 6

/-- The local number of a source of a die, none of the tile's. -/
def sourceLocal (n : Nat) : Nat := if 0xE00 ≤ n ∧ n < 0xE60 then 0 else n % 512

def State.collector (s : State) (d : Nat) : Collector := s.flt.die.at d
def State.setCollector (s : State) (d : Nat) (f : Collector → Collector) : State :=
  { s with flt := { s.flt with die := s.flt.die.upd d f } }

/-- The die that holds a channel (R402, R406). -/
def channelDie (ch : Nat) : Nat :=
  let i := channelIndex ch
  match channelKind ch with
  | 1 => i / 64
  | 2 => i / 1024
  | 3 => i / 4
  | 4 => i / 16
  | 5 => i / 16
  | 6 => seqDie i
  | 9 => i / 4
  | _ => 0

/-! ## Severity (R406) -/

/-- A raise of a pair joins its history: 64 pairs, the least recently raised one replaced. -/
def State.notePair (s : State) (d source ch now : Nat) : State :=
  s.setCollector d (fun c =>
    let old := match c.pairs.find? (fun x => x.source == source && x.channel == ch) with | some x => x.stamps | none => []
    { c with pairs := (⟨source, ch, (now :: old).take 65537⟩ :: c.pairs.filter (fun x => !(x.source == source && x.channel == ch))).take 64 })

/-- A stamp lies within the window: it is less than FC_WINDOW ticks older than the current raise's (R406). -/
def State.inWindow (s : State) (now t : Nat) : Bool := decide (now < t + 64 * s.get O.FC_WINDOW)

/-- Raises of a pair within the window, the current one among them. -/
def State.pairRaises (s : State) (d source ch now : Nat) : Nat :=
  match (s.collector d).pairs.find? (fun x => x.source == source && x.channel == ch) with
  | some x => (x.stamps.filter (s.inWindow now)).length
  | none => 0

/-- An earlier raise of RECOVER or CONTAIN on a channel lies within the window. -/
def State.recoveredLately (s : State) (ch now : Nat) : Bool :=
  (s.collector (channelDie ch)).recover.any (fun x => x.channel == ch && s.inWindow now x.stamp)

/-- Remember a raise of RECOVER or CONTAIN on a channel. -/
def State.noteRecover (s : State) (ch now : Nat) : State :=
  s.setCollector (channelDie ch) (fun c => { c with recover := c.recover.filter (fun x => x.channel != ch) ++ [⟨ch, now⟩] })

/-- The effective severity of a raise, before what SAFE makes of it. -/
def State.effective (s : State) (d source ch : Nat) : Nat :=
  let base := s.get (O.FS_SEVERITY source)
  let limit := s.get (O.FS_RATE_LIMIT source)
  let sev := if limit ≠ 0 ∧ 1 ≤ base ∧ base < sevContain ∧ limit < s.pairRaises d source ch (s.stamp d) then sevContain else base
  let sev := if sev = sevRecover ∧ channelKind ch ≠ 0 ∧ s.recoveredLately ch (s.stamp d) = true then sevContain else sev
  if sev = sevContain ∧ channelRetirable ch = false then sevRecover else sev

/-! ## Die 0's part (R407, R409) -/

/-- MSI vector 0 of the FM port, where it has MSI enabled (R405): a posted write of the vector's data at the address that the FM endpoint's
capability holds, through the port's bypass (R238). -/
def State.fmMsi (s : State) : State :=
  forEach (s.portsWith roleFm) (fun p s =>
    let w := fun k => (s.port p).cfg.at (cfgKey fnFm (msiCap + k))
    let granted := 2 ^ bitsOf (w 0) 22 20
    if (w 0).testBit 16 && s.carries p then
      s.enqueueBypass p { type := .req, kind := .ioPosted, channel := 7, opcode := 0x60, hpa := w 1 + w 2 * 2 ^ 32,
                          data := w 3 % 2 ^ 16 / granted * granted, mask := 15, len := 4, origin := s.stamp (dieOfPort p) }
    else s) s

/-- The recovery window (R409). -/
def State.window (s : State) (source sev stamp ch : Nat) : State :=
  let st := s.get O.FC_STATE
  if st = 0 ∧ sevRecover ≤ sev then
    let s := ((s.put O.FC_STATE 1).put O.FC_FIRST_SOURCE source).put O.FC_FIRST_STAMP stamp
    let s := ((s.put O.FC_FIRST_CHANNEL ch).put O.FC_WORST sev).put O.FC_WINDOW_RAISES 1
    { s with flt := { s.flt with windowTick := stamp / 64 } }
  else if st = 1 ∧ sevNotify ≤ sev then
    let s := (s.count32 O.FC_WINDOW_RAISES).mark O.FC_WORST sev
    if sevRecover ≤ sev then { s with flt := { s.flt with windowTick := max s.flt.windowTick (stamp / 64) } } else s
  else s

/-- A raise reaches die 0: the window, the interrupt and the Ihlod push. -/
def State.atDie0 (s : State) (source sev stamp ch : Nat) : State :=
  let s := if sevNotify ≤ sev then (s.window source sev stamp ch).fmMsi else s
  s.pushEvent source sev stamp

/-- The window closes (R409). -/
def fxRecoveryWindowClose (s : State) : State :=
  if s.get O.FC_STATE = 1 ∧ s.flt.windowTick + s.get O.FC_WINDOW ≤ s.now 0 then s.put O.FC_STATE 0 else s

/-! ## Notices (R330, R407, R417) -/

/-- Notices of a die to die 0 that are not acknowledged. -/
def State.noticesHeld (s : State) (d : Nat) : Nat := ((s.collector d).notices.filter (fun n => n.severity != sevSafe)).length

/-- Send a notice a die holds. -/
def State.sendNotice (s : State) (d : Nat) (n : Notice) : State :=
  let s := s.setCollector d (fun c => { c with notices := c.notices.map (fun (x : Notice) =>
                                               if x.serial = n.serial ∧ x.dst = n.dst then { x with sentAt := some (s.elapsed d) } else x) })
  s.sendBypass d n.dst bFaultNotice [n.serial, d, n.source, n.severity, n.stamp, n.channel]

/-- The notices that have a place among the 32 and have not been sent go out. -/
def State.sendWaiting (s : State) (d : Nat) : State :=
  forEach ((((s.collector d).notices.filter (fun n => n.severity != sevSafe)).take 32).filter (fun n => n.sentAt.isNone))
    (fun n s => s.sendNotice d n) s

/-- A die reports a raise to another die. -/
def State.report (s : State) (d dst source sev stamp ch : Nat) : State :=
  let serial := (s.collector d).serial
  let n : Notice := ⟨dst, source, sev, stamp, ch, serial, none, false⟩
  let s := s.setCollector d (fun c => { c with serial := (c.serial + 1) % 256, notices := c.notices ++ [n] })
  if sev = sevSafe then s.sendNotice d n else s.sendWaiting d

/-- A die other than die 0 reports a raise, or loses the report of a LOG or NOTIFY raise where 32 are held. -/
def State.reportTo0 (s : State) (d source sev stamp ch : Nat) : State :=
  if sev < sevNotify ∧ s.get O.EP_MIN_SEVERITY ≠ 1 then s
  else if 32 ≤ s.noticesHeld d ∧ sev < sevRecover then
    if sourceLocal source = F.NOTICE_LOST then s
    else (s.count32 (O.FD_NOTICE_LOST d)).raiseDie d F.NOTICE_LOST
  else s.report d 0 source sev stamp ch

/-- A notice is repeated every 25 ft until it is acknowledged. -/
def fxFaultNoticeRepeat (d : Nat) (s : State) : State :=
  forEach ((s.collector d).notices.filter (fun n => match n.sentAt with | some t => decide (t + 25 ≤ s.elapsed d) | none => false))
    (fun n s => s.sendNotice d n) s

/-- A NOTICE_ACK reaches a link end: it is relayed, or frees the notice. -/
def fxNoticeAck (l : Nat) (s : State) : State :=
  match s.takeBypass (s.peerLink l) bNoticeAck with
  | none => s
  | some (b, s) =>
    let d := l / 4
    if b.dst ≠ d then s.sendBypass d b.dst bNoticeAck b.args
    else
      let s := s.setCollector d (fun c => { c with notices := c.notices.filter (fun (n : Notice) =>
                                                   !(n.serial == b.args.getD 0 0 && n.dst == b.args.getD 1 0)) })
      s.sendWaiting d

/-! ## SAFE (R417, R418) -/

/-- Viral on an upstream port. -/
def State.viralOn (s : State) (p : Nat) : State := s.send (.viral p)

/-- The transaction of a home is a group's apply write, of a full or of a partial line (R202, R206). -/
def State.applyTxn (s : State) (d id : Nat) : Bool :=
  match s.homeTxn d id with | some t => t.req.cls == HomeClass.applyWrite | none => false

/-- A queued request that SAFE takes out of a queue: all but those of a group's apply writes (R206, R418). -/
def State.purged (s : State) (m : Msg) : Bool :=
  m.type == MsgType.req && (match m.owner with
    | .homeWrite d id => !s.applyTxn d id
    | .homeRead d id => !s.applyTxn d id
    | _ => true)

/-- SAFE takes a request out of the switch: a line or an access of the mover has ended, by itself or as a mirrored write (R308). -/
def State.safeEnd (s : State) (o : Owner) : State :=
  match o with
  | .mover e _ _ => s.owe (.deliver e o .write 0 false true 0)
  | .mirror e n =>
    (match s.rq.mirror.find (2 ^ 20 * e + n / 2) with
     | some w => (match w.owner with
       | .mover g _ _ => { s with rq := { s.rq with mirror := s.rq.mirror.drop (2 ^ 20 * e + n / 2) } }.owe (.deliver g w.owner .write 0 false true 0)
       | _ => s)
     | none => s)
  | _ => s

/-- Requests that wait for a device on a die are discarded. -/
def State.purgePort (s : State) (p : Nat) : State :=
  let d := dieOfPort p
  let s := forEach (s.qos.leaf.keys.filter (fun k => leafPort k == p)) (fun k s =>
    let out := (s.leaf k).queue.filter s.purged
    let keep := (s.leaf k).queue.filter (fun m => !s.purged m)
    forEach out (fun m s => (s.leaveCell d m.cell).safeEnd m.owner) (s.setLeaf k (fun x => { x with queue := keep, deficit := if keep.isEmpty then 0 else x.deficit }))) s
  let s := s.syncRings p
  let out := (s.egress p).bypass.filter s.purged
  let keep := (s.egress p).bypass.filter (fun m => !s.purged m)
  forEach out (fun m s => (s.leaveCell d m.cell).safeEnd m.owner) (s.setEgressOf p (fun e => { e with bypass := keep }))

/-- Tag slots of a port are quarantined without a completion: what waited for them has been completed (R418). Those of a group's apply
writes are no host requests: they stay, and the device's responses complete them (R206). -/
def State.quarantineSlots (s : State) (p : Nat) : State :=
  (forEach ((s.outstandingOf p).filter (fun n => s.purged (s.tagSlot p n).msg)) (fun n s =>
    (s.setTag p n (fun t => { t with state := 2, held := false, msg := {} })).safeEnd (s.tagSlot p n).msg.owner) s).countSlots p

/-- What a die held for a map entry, and the AtomicOps that its hosts' drop sweeps held, end at entry into SAFE, but for apply writes. -/
def State.purgeHeld (s : State) (d : Nat) : State :=
  let keep := fun (a : Act) => match a with
    | .toHome _ q _ _ => q.cls == HomeClass.applyWrite
    | .memory _ _ _ _ m => !s.purged m
    | _ => false
  let mine := fun (h : MapHold) => h.die == d && !keep h.act
  let late := fun (x : Nat × Act) => s.hostDie x.1 == d
  let gone := (s.map.hold.filter mine).map (fun h => h.act) ++ (s.rq.held.filter late).map (fun x => x.2)
  let s := { s with map := { s.map with hold := s.map.hold.filter (fun h => !mine h) }, rq := { s.rq with held := s.rq.held.filter (fun x => !late x) } }
  forEach gone (fun a s =>
    match a with
    | .atomic p _ _ m _ => s.refuseAtomic p m cplCa
    | .atomicOn p m _ _ => s.refuseAtomic p m cplCa
    | .toHome _ q _ c =>
      (match q.cls, q.owner with
       | .atomic, .host h tag => (s.leaveCell d c).ioToHost d h tag cplCa 0 0
       | _, _ => (s.leaveCell d c).safeEnd q.owner)
    | .memory _ _ _ _ m => (s.leaveCell d m.cell).safeEnd m.owner
    | a => forEach (s.actCells a) (fun c s => s.leaveCell d c) s) s

/-- The directory of a die freezes (R182): what is in service or waits is dropped but for apply writes, and no entry changes; its sweeps
stand as they are until the reset that ends SAFE. The hosts that wait for an atomic get a Completer Abort. -/
def State.freezeHome (s : State) (d : Nat) : State :=
  let goes := fun (q : HomeReq) => q.die == d && q.cls != HomeClass.applyWrite
  let gone := s.dir.queue.filter goes ++ (s.dir.txn.map (fun t => t.req)).filter goes ++ (s.dir.stalled.map (fun t => t.req)).filter goes
  let s := forEach gone (fun q s =>
    match q.cls, q.owner with
    | .atomic, .host h tag => (s.leaveCell q.die q.cell).ioToHost q.die h tag cplCa 0 0
    | _, _ => (s.leaveCell q.die q.cell).safeEnd q.owner) s
  let s := forEach (s.dir.wb.filter (fun w => w.die == d)) (fun w s => s.freeCell w.die w.cell) s
  { s with dir := { s.dir with queue := s.dir.queue.filter (fun q => !goes q), txn := s.dir.txn.filter (fun t => !goes t.req),
                               stalled := s.dir.stalled.filter (fun t => t.req.die != d), snoop := s.dir.snoop.filter (fun b => b.die != d),
                               wb := s.dir.wb.filter (fun w => w.die != d) } }

/-- A die enters SAFE: its sequencers stop and its reactions go (R392, R410), the host requests it holds are completed, its slots
quarantined, its groups abort and viral is signalled (R418). -/
def State.enterSafe (s : State) (d : Nat) : State :=
  let s := { s with flt := { s.flt with safeWait := s.flt.safeWait.filter (· != d) } }
  let s := (((s.setCollector d (fun c => { c with queue := [] })).seqsSafe d).freezeHome d).moverSafe d
  let s := forEach ((s.rq.tracker.filter (fun t => t.1 / 8192 == d && t.2.busy && !t.2.answered)).map (fun t => t.1))
    (fun k s => s.refuseTracked k) s
  let s := s.purgeHeld d
  let mine := s.rq.waiting.filter (fun r => dieOfPort r.port == d)
  let s := { s with rq := { s.rq with waiting := s.rq.waiting.filter (fun r => dieOfPort r.port != d) } }
  let s := forEach mine (fun r s => if s.linkAlive r.port then s.safeAnswer r else s.freeCell d r.cell) s
  let s := forEach (s.dir.atomics.filter (fun a => a.die == d)) (fun a s => s.endAtomic d a.id cplCa 0) s
  let ports := (s.portsWith roleDownstream).filter (fun p => dieOfPort p == d)
  let s := forEach ports (fun p s => (s.purgePort p).quarantineSlots p) s
  let s := s.abortGroups (fun s h _ => s.hostDie h == d) stAborted causeSafe
  forEach ((s.portsWith roleUpstream).filter (fun p => dieOfPort p == d)) (fun p s => s.viralOn p) s

/-- A mode change takes effect: the records of R441; leaving CONFIG divides the cells into their pools (R214). -/
def State.setMode (s : State) (m : Nat) : State :=
  let s := if s.mode = mConfig ∧ m ≠ mConfig then s.sizePools else s
  ((s.put O.MODE_PREV s.mode).put O.MODE_CHANGED_AT (s.now 0)).count32 O.MODE_CHANGES |>.put O.MODE m

/-- A LOCKED transaction whose instant has not come fails at entry into SAFE; one that enters SAFE in its apply cycle is still
applied (R78, R79). -/
def State.failLocked (s : State) : State :=
  forEach (txInstances.filter (fun x => s.get (O.TX_STATE x) == txLocked && decide (s.now 0 < s.get (O.TX_INSTANT x))))
    (fun x s => s.txFail x stAborted 0xFFFF 0) s

/-- A raise of SAFE on a die other than die 0 that is not the cause of SAFE is reported like any other (R407). -/
def State.reportLate (s : State) (d cause source : Nat) : State :=
  if d = 0 ∨ cause ≠ causeSeverity ∨ (s.get O.FC_SAFE_SOURCE = source ∧ s.get O.FC_SAFE_AT = s.stamp d) then s
  else s.report d 0 source sevSafe (s.stamp d) 0

/-- The decision for SAFE on a die (R417): the first cause is recorded, the mode reads SAFE, and the other dies are told, each of
which is in SAFE within 25 ft. A die that decides later, before it has been told, enters at once. DIR_STATE of an unpowered SRAM stays OFF
(R182; DEDUCED, log 132). -/
def State.doSafe (s : State) (d cause source : Nat) : State :=
  if s.mode = 0 then s
  else if s.mode = mSafe then
    let s := s.reportLate d cause source
    if s.flt.safeWait.contains d then s.enterSafe d else s
  else
    let stamp := s.stamp d
    let s := ((s.put O.FC_SAFE_CAUSE cause).put O.FC_SAFE_SOURCE source).put O.FC_SAFE_AT stamp
    let powered := s.datapathOn
    let s := (s.setMode mSafe).put O.FC_STATE 2
    let s := { s with rst := { s.rst with pendingMode := none } }
    let others := (List.range s.dies).filter (· != d)
    let s := { s with flt := { s.flt with safeWait := others, safeBy := others.map (fun e => (e, s.elapsed e + 25)) } }
    let s := forEach others (fun e s => s.report d e source sevSafe stamp 0) s
    let s := (s.txFailWhere State.txWaiting stAborted).failLocked
    let s := s.migAbortWhere (fun _ _ => true) stAborted
    let s := if powered && s.get O.DIR_STATE != 0 then s.put O.DIR_STATE 3 else s
    s.enterSafe d

/-- A FAULT_NOTICE reaches a link end: another die relays it; die 0 handles the raise; a SAFE notice brings its die into SAFE
(R407, R417). A repeat of one already handled is only acknowledged. -/
def fxFaultNotice (l : Nat) (s : State) : State :=
  match s.takeBypass (s.peerLink l) bFaultNotice with
  | none => s
  | some (b, s) =>
    let d := l / 4
    if b.dst ≠ d then s.sendBypass d b.dst bFaultNotice b.args
    else
      let serial := b.args.getD 0 0
      let from_ := b.args.getD 1 0
      let source := b.args.getD 2 0
      let sev := b.args.getD 3 0
      let mine := fun (n : Notice) => n.serial == serial && n.dst == d && !n.handled
      let fresh := (s.collector from_).notices.any mine
      let s := s.setCollector from_ (fun c => { c with notices := c.notices.map (fun (n : Notice) =>
                                                       if mine n then { n with handled := true } else n) })
      let s := s.sendBypass d from_ bNoticeAck [serial, d]
      if !fresh then s
      else
        let s := if d = 0 ∧ source < 0x1000 then s.atDie0 source sev (b.args.getD 4 0) (b.args.getD 5 0) else s
        if sev = sevSafe ∧ s.flt.safeWait.contains d then s.enterSafe d else s

/-! ## A raise (R405 to R408) -/

/-- The first-error capture of a source (R408). -/
def State.capture_ (s : State) (source sev stamp ch addr master typ : Nat) : State :=
  if s.get (O.FS_CAP_VALID source) = 1 then s.count32 (O.FS_LATER source)
  else
    let s := ((s.put (O.FS_CAP_ADDR source) addr).put (O.FS_CAP_MASTER source) master).put (O.FS_CAP_TYPE source) typ
    (((s.put (O.FS_CAP_STAMP source) stamp).put (O.FS_CAP_CHANNEL source) ch).put (O.FS_CAP_SEVERITY source) sev).put
      (O.FS_CAP_VALID source) 1

/-- Re-arm a source's capture (R408). -/
def fxFsCapValid (source : Nat) (s : State) : State :=
  forEach [O.FS_CAP_VALID, O.FS_CAP_ADDR, O.FS_CAP_MASTER, O.FS_CAP_TYPE, O.FS_CAP_STAMP, O.FS_CAP_CHANNEL, O.FS_CAP_SEVERITY,
    O.FS_LATER] (fun o s => s.clear (o source)) s

/-- A raise reaches the collector of its die. `keep` is false where nothing is captured (R411). A raise of SAFE decides at once, and the
recovery window takes it in on whichever die it comes (R409, R417). -/
def State.doRaise (s : State) (source ch addr master typ : Nat) (keep : Bool) : State :=
  let d := sourceDie source
  let stamp := s.stamp d
  let s := ((s.count32 (O.FS_COUNT source)).count32 (O.FD_RAISES d)).bindEvents source
  let s := forEach (List.range s.dies) (fun e s => s.capTrigger e source) s
  let base := s.get (O.FS_SEVERITY source)
  let s := if base = 0 then s else s.notePair d source ch stamp
  let sev := s.effective d source ch
  let s := if base < sev then s.count32 O.FC_ESCALATIONS else s
  let s := if sev = sevRecover ∨ sev = sevContain then s.noteRecover ch stamp else s
  let sev := if s.dieSafe d ∧ (sev = sevRecover ∨ sev = sevContain) then sevNotify else sev
  if sev = 0 then s
  else
    let s := (s.put (O.FS_PENDING source) 1).put (O.FS_LAST_STAMP source) stamp
    let s := if keep then s.capture_ source sev stamp ch addr master typ else s
    let s := if d = 0 then s.atDie0 source sev stamp ch
             else if sev = sevSafe then s else s.reportTo0 d source sev stamp ch
    if sev = sevSafe then
      let s := if d ≠ 0 ∧ s.mode ≠ mSafe then s.window source sev stamp ch else s
      s.doSafe d causeSeverity source
    else if sev = sevContain then (s.owe (.retire ch)).owe (.react source sev ch stamp)
    else if sev = sevRecover then s.owe (.react source sev ch stamp)
    else s

/-- The collector's own fault (R411): SAFE in the cycle of detection. -/
def fxCollectorUe (d : Nat) (s : State) : State :=
  let source := d * 512 + F.COLLECTOR_UE
  (s.doSafe d causeCollector source).doRaise source 0 0 0xFFFF 0 false

/-! ## Reactions (R410) -/

/-- A sequencer starts a reaction. -/
def State.beginReaction (s : State) (n : Nat) (r : Reaction) : State :=
  let s := ((s.startSeq n).setReg n 0 r.source).setReg n 1 r.severity
  s.setSeq n (fun q => { q with reaction := some r })

/-- A raise is handed to its reaction program (R410); in SAFE none starts (R392). -/
def State.doReact (s : State) (source sev ch stamp : Nat) : State :=
  let n := s.get (O.FS_REACTION source)
  let loc := sourceLocal source
  if n = 0xFF ∨ loc = F.REACTION_FAILED ∨ loc = F.REACTION_OVERFLOW then s
  else
    let d := seqDie n
    let r : Reaction := ⟨n, source, sev, ch, stamp⟩
    let queued := (s.collector d).queue.any (fun x => x.seq == n)
    let st := s.sqState n
    if s.dieSafe d then s.raiseOfSeq n F.REACTION_FAILED source
    else if s.get (O.SQ_ROLE n) = 1 ∧ (st = sqRunning ∨ st = sqWaiting ∨ queued = true) then
      if 8 ≤ (s.collector d).queue.length then
        let ovf := d * 512 + F.REACTION_OVERFLOW
        (s.doSafe d causeOverflow ovf).raise ovf 0 0 0xFFFF 0
      else
        let s := s.setCollector d (fun c => { c with queue := c.queue ++ [r] })
        s.mark (O.FD_REACT_PEAK d) (s.collector d).queue.length
    else if s.get (O.SQ_ROLE n) = 1 ∧ s.get (O.SQ_VALID n) = 1 ∧ (st = sqStopped ∨ st = sqFaulted) then s.beginReaction n r
    else s.raiseOfSeq n F.REACTION_FAILED source

/-- When the previous reaction of a sequencer has ended, the oldest one queued for it starts. -/
def fxReactionStart (n : Nat) (s : State) : State :=
  let d := seqDie n
  match (s.collector d).queue.find? (fun x => x.seq == n) with
  | none => s
  | some r =>
    let st := s.sqState n
    if st = sqRunning ∨ st = sqWaiting then s
    else
      let s := s.setCollector d (fun c => { c with queue := c.queue.erase r })
      if s.get (O.SQ_ROLE n) = 1 ∧ s.get (O.SQ_VALID n) = 1 ∧ (st = sqStopped ∨ st = sqFaulted) ∧ s.dieSafe d = false then
        s.beginReaction n r
      else s.raiseOfSeq n F.REACTION_FAILED r.source

/-! ## Retirement (R412, R413) -/

/-- The channel that an object belongs to (R39, R412). The spec lists no such objects: that those of a lane, a port, a link or a
sequencer belong to its channel, a port's scheduling nodes among them, is DEDUCED (log 88). -/
def objChannel (o : Obj) : Option Nat :=
  match o.cls with
  | 0x04 => if 0x100 ≤ o.inst then some (channelId 4 (o.inst - 0x100)) else none
  | 0x10 => if o.inst < 0x800 then some (channelId 4 o.inst) else none
  | 0x11 => some (channelId 1 o.inst)
  | 0x12 => if 0x100 ≤ o.inst ∧ o.inst < 0x120 then some (channelId 3 (o.inst - 0x100)) else none
  | 0x13 => some (channelId 3 o.inst)
  | 0x28 => if 0x100 ≤ o.inst then some (channelId 4 (o.inst - 0x100)) else none
  | 0x31 => if o.inst < 0x400 then some (channelId 4 (o.inst / 8)) else some (channelId 4 (o.inst - 0x400))
  | 0x60 => some (channelId 6 o.inst)
  | _ => none

/-- The two ends of an Invar link are one channel: the lower end stands for it. -/
def State.oneChannel (s : State) (ch : Nat) : Nat :=
  if channelKind ch = 3 then channelId 3 (min (channelIndex ch) (s.peerLink (channelIndex ch))) else ch

/-- The channel of an object is retired. -/
def State.objRetired (s : State) (o : Obj) : Bool :=
  match objChannel o with
  | some ch => s.flt.retired.contains (s.oneChannel ch)
  | none => false

/-- What FC_RETIRED's becoming non-zero or zero does to the mode (R437); the change waits for the apply of a LOCKED transaction
(R78). -/
def State.autoMode (s : State) : State :=
  let n := s.get O.FC_RETIRED
  if s.anyLocked then s
  else if s.mode = mRun ∧ n ≠ 0 then s.setMode mDegraded
  else if s.mode = mDegraded ∧ n = 0 then s.setMode mRun
  else s

/-- FC_RETIRED follows the channels retired now. -/
def State.countRetired (s : State) : State := (s.put O.FC_RETIRED s.flt.retired.length).autoMode

/-- A channel is retired from now on: READY and SCHEDULED transactions that write an object of it fail (R76). -/
def State.recordRetired (s : State) (ch : Nat) : State :=
  let ch := s.oneChannel ch
  if s.flt.retired.contains ch then s
  else
    let s := { s with flt := { s.flt with retired := s.flt.retired ++ [ch] } }.countRetired
    s.txFailWhere (fun s x => (s.txWrites x).any (fun k => s.objRetired (Obj.ofNumber k))) stRetired

/-- Take a channel out of use (R412). -/
def State.doRetire (s : State) (ch : Nat) : State :=
  let i := channelIndex ch
  match channelKind ch with
  | 1 =>
    if s.get (O.LANE_STATE i) = 3 then s
    else
      let p := s.leadOf (i / 4)
      let s := ((((s.put (O.LANE_STATE i) 3).put (O.LOGICAL_LANE i) 0xFF).put (O.TX_PRESET i) 0xFF).recordRetired ch).raise
        (i / 64 * 512 + F.LANE_RETIRED) ch 0 0xFFFF 0
      fxRecoveryEntry p 0 [] s
  | 2 =>
    let l := i / 256
    let lane := i % 256
    if (s.laneSet O.LANE_RETIRED l).testBit lane then s.recordRetired ch
    else ((s.retireD2dLane l lane).d2dDown l 5).recordRetired ch
  | 3 => (s.linkRetired i).recordRetired ch
  | 4 =>
    if s.linkState i = lsRetired then s
    else
      let s := if s.linkAlive i then s.linkDrop i lsRetired else s.put (O.LINK_STATE i) lsRetired
      let s := s.setPort i (fun r => { r with attemptAt := none, pauseAt := none, seqAt := none, want := false, outSince := none, ltssm := 0 })
      let s := (s.drivePerst i true).recordRetired ch
      s.raise (dieOfPort i * 512 + F.PORT_RETIRED) ch 0 0xFFFF 0
  | 5 =>
    let d := i / 16
    let b := i % 16
    if s.bit (O.BANK_STATE d) b then s.recordRetired ch
    else if s.bit (O.BANK_STATE d) (16 + b) then s
    else if (s.foldTarget d b).isNone then s.owe (.safe d causeFold 0xFFFF)
    else s.startBankRetire d b
  | 6 =>
    if s.sqState i = sqRetired then s
    else
      let s := (s.haltSeq i sqRetired).endReaction i true
      (s.recordRetired ch).raiseOfSeq i F.SEQ_RETIRED 0
  | _ => s

/-- An activity of R414 is running. Activities 1 and 4 are judged with more of their operands by those who ask. -/
def State.mxRunning (s : State) (a : Nat) : Bool :=
  match a with
  | 0 => (List.range s.dies).any (fun d => s.get (O.BANK_STATE d) / 2 ^ 16 != 0)
  | 1 => (List.range 32).any (fun m => s.get (O.MIG_STATE m) != migIdle)
  | 2 => (List.range (4 * s.dies)).any (fun l => s.get (O.D2D_STATE l) == d2dRetraining)
  | 4 => txInstances.any (fun x => s.get (O.TX_STATE x) == txScheduled || s.get (O.TX_STATE x) == txLocked)
  | 5 => (List.range 3).any (fun x => s.get (O.DP_STATE x) == 1 && s.get (O.DP_OP x) == 2 && s.get (O.DP_ADDR x) / 2 ^ 56 == 0x08)
  | 6 => (List.range 3).any (fun x => s.get (O.DP_STATE x) == 1 && s.get (O.DP_OP x) == 1 && s.get (O.DP_ADDR x) / 2 ^ 56 == 0x20) ||
      s.get O.CC_ACT_STATUS == 1
  | _ => false

/-- MX_ACTIVE (R423). -/
def State.mxActive (s : State) : Nat := (List.range 7).foldl (fun a k => if s.mxRunning k then a + 2 ^ k else a) 0

/-- A request that starts activity `a` is excluded by activity `b` (R416). -/
def State.mxRefuse (s : State) (a b : Nat) : State := (s.count32 O.MX_REFUSED).put O.MX_LAST_REFUSED (a * 256 + b)

/-- A migrating granule's source lies in an enabled shared region (R415). -/
def State.migShared (s : State) (m : Nat) : Bool :=
  s.get (O.MIG_STATE m) != migIdle &&
    (s.regionOf (s.granuleAddr (s.get (O.MIG_GRANULE m)))).isSome

/-- Some transaction that is SCHEDULED or LOCKED names an instant before FT_NOW + 2,500 ft (R338, R415). -/
def State.commitNear (s : State) : Bool :=
  txInstances.any (fun x => (s.get (O.TX_STATE x) == txScheduled || s.get (O.TX_STATE x) == txLocked) &&
    decide (s.get (O.TX_INSTANT x) < s.now 0 + 2500))

/-- Some Invar link retrains that will end after an instant: its start + 2,500 ft lies beyond it. -/
def State.retrainNear (s : State) (instant : Nat) : Bool :=
  (List.range (4 * s.dies)).any (fun l => s.get (O.D2D_STATE l) == d2dRetraining &&
    decide (instant < s.get (O.LAST_RETRAIN_AT l) + 2500))

/-- The lowest-numbered running activity that excludes a request, where it needs no operand but a die (R415). -/
def State.mxExcludes (s : State) (a d : Nat) : Option Nat :=
  match a with
  | 0 => if s.get (O.BANK_STATE d) / 2 ^ 16 ≠ 0 then some 0
         else if (List.range 32).any s.migShared then some 1
         else if s.mxRunning 5 then some 5 else if s.mxRunning 6 then some 6 else none
  | 2 => if s.commitNear then some 4 else if s.mxRunning 6 then some 6 else none
  | 3 => if s.mxRunning 2 then some 2 else if s.mxRunning 6 then some 6 else none
  | 5 => if s.mxRunning 0 then some 0 else if s.mxRunning 6 then some 6 else none
  | 6 => ([0, 1, 2, 5]).find? s.mxRunning
  | _ => none

/-- The status of a write of RET_CLEAR (R413): the check, and the activity that excludes it. -/
def State.retClearStatus (s : State) (v : Nat) : Nat × Option Nat :=
  let k := channelKind v
  let i := channelIndex v
  let exists_ := match k with
    | 1 => decide (i < 4 * s.ports)
    | 2 => decide (i / 256 < 4 * s.dies ∧ i % 256 < 136)
    | 4 => decide (i < s.ports)
    | 6 => s.seqExists i
    | _ => false
  if s.mode ≠ mMaint then (stBusy, none)
  else if bitsOf v 27 16 ≠ 0 ∨ exists_ = false ∨ s.flt.retired.contains v = false then (stBadValue, none)
  else if k = 2 then
    match s.mxExcludes 3 0 with
    | some b => (stBusy, some b)
    | none => (stOk, none)
  else (stOk, none)

/-- An accepted RET_CLEAR. -/
def fxRetClear (ch : Nat) (s : State) : State :=
  let i := channelIndex ch
  let s := forEach (List.range s.dies) (fun d s => s.setCollector d (fun c =>
    { c with pairs := c.pairs.filter (fun x => x.channel != ch), recover := c.recover.filter (fun x => x.channel != ch) })) s
  let s := { s with flt := { s.flt with retired := s.flt.retired.filter (· != ch) } }
  let s := match channelKind ch with
    | 1 => s.put (O.LANE_STATE i) 0
    | 4 => (s.put (O.LINK_STATE i) lsDisabled).setPort i (fun r => { r with cmdDisabled := true })
    | 2 =>
      let set := s.laneSet O.LANE_RETIRED (i / 256)
      let s := if set.testBit (i % 256) then s.putLanes O.LANE_RETIRED (i / 256) (set - 2 ^ (i % 256)) else s
      s.d2dDown (i / 256) 4
    | _ => s.put (O.SQ_STATE i) sqStopped
  s.countRetired

end Sys2Proof.Machine
end

