-- ==== Sys2Proof/Machine/Reset.lean ====
section
/-! DEFINITION. Clocks, reset domains, reset sources and their reach, and the operating modes (R424 to R443). Every length of
time of this chapter is counted in ticks that pass on die 0. -/
namespace Sys2Proof.Machine

/-! ## What a source covers (R427, R428) -/

def rPowerOn : Nat := 1
def rSysRst : Nat := 2
def rIhlod : Nat := 3
def rPkg : Nat := 4
def rMain : Nat := 5
def rDie : Nat := 6
def rWatchdog : Nat := 7
def rBlock : Nat := 8

/-- A source covers domain `i` of die `d`. -/
def ResetSource.covers (r : ResetSource) (d i : Nat) : Bool :=
  if r.code ≤ rIhlod then true
  else if r.code ≤ rMain then decide (1 ≤ i)
  else if r.code = rDie then r.die == d && decide (1 ≤ i)
  else if r.code = rWatchdog then r.die == d && i == dCicada
  else r.die == d && r.dom == i

/-- The shortest assertion of a timed source. -/
def resetLength (code : Nat) : Nat := if code ≤ rDie then 250 else 16

def State.setRst (s : State) (f : RstSt → RstSt) : State := { s with rst := f s.rst }
def State.covered (s : State) (d i : Nat) : Bool := s.rst.sources.any (fun r => r.covers d i)
def State.sourceOn (s : State) (p : Nat → Bool) : Bool := s.rst.sources.any (fun r => p r.code)

/-- Some asserted source covers the whole package. -/
def State.packageReset (s : State) : Bool := s.sourceOn (fun c => decide (c ≤ rMain))

/-! ## PLLs (R424, R425) -/

/-- The PLLs of a die: 0 MGMT, 1 CORE, 2 PHY, 8 to 11 the Invar links; on die 0 also 4 TIME and 5 IHLOD. -/
def pllsOf (d : Nat) : List Nat := [0, 1, 2, 8, 9, 10, 11] ++ (if d = 0 then [4, 5] else [])
def pllKey (d n : Nat) : Nat := 16 * d + n
def State.pll (s : State) (d n : Nat) : Pll := s.rst.pll.at (pllKey d n)
def State.setPll (s : State) (d n : Nat) (p : Pll) : State := s.setRst (fun r => { r with pll := r.pll.set (pllKey d n) p })

/-- A PLL of the datapath: it runs in the modes that power it, and a reset that covers DATAPATH stops it. -/
def pllOfDatapath (n : Nat) : Bool := n == 1 || n == 2 || decide (8 ≤ n)

/-- A PLL is to run now. -/
def State.pllWanted (s : State) (d n : Nat) : Bool :=
  if pllOfDatapath n then s.datapathOn && s.rst.auxRails && !s.covered d dDatapath
  else s.rst.auxRails && s.mode != 0 && !s.sourceOn (· == rPowerOn) &&
    ((s.pll d n).run || !s.sourceOn (fun c => decide (c ≤ rIhlod)))

/-- Start and stop the PLLs as the mode, the rails and the sources have them. -/
def State.syncPlls (s : State) : State :=
  forEach (List.range s.dies) (fun d s => forEach (pllsOf d) (fun n s =>
    let want := s.pllWanted d n
    if want = (s.pll d n).run then s
    else s.setPll d n (if want then { run := true, since := s.elapsed 0 } else {})) s) s

/-- The PLL that clocks a domain. -/
def clockOf (i : Nat) : Nat := if i = dMgmt ∨ i = dCicada ∨ i = dSequencers ∨ i = dTileSequencers then 0 else 1

/-! ## Domains (R426, R430) -/

/-- The domains of a die. -/
def domainsOf (d : Nat) : List Nat := List.range (if d = 0 then 10 else 9)

def State.domain (s : State) (d i : Nat) : Domain := s.rst.domain.at (10 * d + i)
def State.setDomain (s : State) (d i : Nat) (x : Domain) : State :=
  s.setRst (fun r => { r with domain := r.domain.set (10 * d + i) x })

/-- The directory's SRAM is powered (R182, R435). -/
def State.directoryPowered (s : State) : Bool :=
  let m := s.powerMode
  decide (mInit ≤ m) && !(m == mRunNc || (m == mDrain && s.rst.drainFrom == mRunNc))

/-- The mode powers a domain (R435). -/
def State.powers (s : State) (i : Nat) : Bool :=
  if clockOf i = 0 then s.rst.auxRails && s.mode != 0
  else if i = dDirectory then s.rst.auxRails && s.directoryPowered
  else s.rst.auxRails && s.datapathOn

/-- The domains that a domain follows. -/
def followsOf (d i : Nat) : List (Nat × Nat) :=
  if i = dMgmt then (if d = 0 then [] else [(0, dMgmt)])
  else if i = dCicada ∨ i = dSequencers ∨ i = dTileSequencers then [(d, dMgmt)]
  else if i = dDatapath then [(d, dCicada)]
  else [(d, dDatapath)]

/-- The sequencing step of a domain has come. -/
def State.stepCome (s : State) (d i : Nat) : Bool :=
  (followsOf d i).all (fun f => (s.domain f.1 f.2).running && decide ((s.domain f.1 f.2).since + 4 ≤ s.elapsed 0))

/-- A domain may be released now. -/
def State.releasable (s : State) (d i : Nat) : Bool :=
  !s.covered d i && s.powers i && s.stepCome d i && (s.pll d (clockOf i)).stable

/-- The state of a domain as DOMAIN_STATE shows it (R443). -/
def State.domainState (s : State) (d i : Nat) : Nat :=
  if (s.domain d i).running then 0
  else if !(domainsOf d).contains i || !s.powers i then 3
  else if !s.covered d i && s.stepCome d i then 2
  else 1

/-! ## What a domain loses as it goes into reset -/

/-- A test on a table's keys keeps what is not of a die. -/
def dropKeys {α : Type} (t : Table α) (p : Nat → Bool) : Table α := t.filter (fun e => !p e.1)

/-- Objects that show a channel's retirement: they keep what they show through every reset but a cold one (R412, R429). -/
def showsRetirement (o : Obj) (v : Nat) : Bool :=
  (o.cls == 0x10 && o.mem == 0x07 && v == lsRetired) || (o.cls == 0x11 && o.mem == 0x00 && v == 3) ||
  (o.cls == 0x13 && o.mem == 0x00 && v == d2dRetired) || (o.cls == 0x13 && decide (0x07 ≤ o.mem ∧ o.mem ≤ 0x09)) ||
  (o.cls == 0x28 && decide (1 ≤ o.inst ∧ o.inst < 0x100) && (o.mem == 0x00 && v % 65536 != 0 || o.mem == 0x02)) ||
  (o.cls == 0x60 && o.mem == 0x01 && v == sqRetired)

/-- BANK_STATE shows no bank's sweep: bits 31:16 go with the sweeps (R186). -/
def State.endBankSweeps (s : State) (d : Nat) : State :=
  s.put (O.BANK_STATE d) (s.get (O.BANK_STATE d) % 2 ^ 16)

/-- Return objects to their defaults but for what shows a retirement; of BANK_STATE only the retired banks are kept, its bits 31:16 showing
sweeps that a reset ends (R186). -/
def State.clearKeeping (s : State) (p : Obj → Bool) : State :=
  let s := { s with regs := s.regs.filter (fun c => !p (Obj.ofKey c.1) || showsRetirement (Obj.ofKey c.1) c.2.toNat) }
  forEach ((List.range s.dies).filter (fun d => p (O.BANK_STATE d))) (fun d s => s.endBankSweeps d) s

/-- The Invar link ends of a die start anew, and the far ends retrain (R429). -/
def State.resetLinks (s : State) (d : Nat) : State :=
  forEach (List.range 4) (fun k s =>
    let l := linkNo d k
    let far := s.peerLink l
    let s := if s.get (O.D2D_STATE far) = d2dUp then s.d2dDown far 4 else s
    let zero := fun (s : State) (x : Nat) =>
      (((((s.put (O.NEXT_TX x) 0).put (O.UNACKED x) 0).put (O.NEXT_RX x) 0).put (O.LL_OUTSTANDING x) 0).put
        (O.WIN_REPLAYS x) 0).put (O.BAD_RUN x) 0
    let s := (zero (zero s l) far).setLink far (fun r => { r with replay := [], rpos := none, wire := [], bwire := [] })
    let s := if s.get (O.D2D_STATE l) = d2dRetired then s else s.put (O.D2D_STATE l) d2dTraining
    s.setLink l (fun _ => {})) { s with lnk := { s.lnk with stray := s.lnk.stray.drop d } }

/-- A port of a die that loses its datapath: a live link is a drop, and nothing of the port's own is left. -/
def State.resetPort (s : State) (p : Nat) : State :=
  let s := { s with prt := { s.prt with tag := dropKeys s.prt.tag (fun k => k / 4096 == p) } }
  let s := if s.linkAlive p then s.linkDrop p lsDetect
    else if s.linkState p = lsRetired then s else (s.clearLink p).clear (O.LINK_STATE p)
  let s := ((s.clear (O.OUTSTANDING p)).clear (O.QUARANTINED p)).drivePerst p true
  s.setPort p (fun r => { r with enabled := false, want := false, seqAt := none, attemptAt := none, pauseAt := none,
                                 outSince := none, fails := 0, ltssm := 0, cmdDisabled := false, cfg := [], doeIn := [], doeOut := [] })

/-- The TAP's instruction that selects the bypass register (R451). -/
def irBypass : Nat := 0xFF

/-- The TAP in reset, as TRST_N holds it when undriven: the bypass register is selected and no pin is driven (R490). DESIGN CHOICE (log 125):
the package's power-up resets it. -/
def State.resetTap (s : State) : State :=
  s.setSec (fun x => { x with ir := irBypass, bypassed := true, scan := 0, boundary := [], status := 0, data := 0, fabric := none })

/-- A debugger's access to the fabric that a die's reset drops is over: it ends with ABORTED (DESIGN CHOICE, log 125). It is dropped where it
came from, on die 0, and where it went, its home or its port's die. -/
def State.endDebugFabric (s : State) (d : Nat) : State :=
  match s.sec.fabric with
  | none => s
  | some a =>
    let fa := a % 2 ^ 47
    let at_ := if (s.regionOf (lineOf fa)).isSome then s.homeDie (lineOf fa)
               else match s.lookup (lineOf fa) with | some t => dieOfPort t.port | none => 0
    if d = 0 ∨ d = at_ then s.setSec (fun x => { x with status := stAborted, data := 0, fabric := none }) else s

/-- DATAPATH of a die goes into reset: its ports, trackers, cells, queues, groups and links lose what they hold. -/
def State.resetDatapath (s : State) (d : Nat) : State :=
  let hosts := (s.portsWith roleUpstream).filter (fun p => dieOfPort p == d) |>.map (fun p => s.get (O.HOST_ID p))
  let mine := (List.range 16).map (fun k => 16 * d + k)
  let s := forEach mine (fun p s => s.resetPort p) (s.endDebugFabric d)
  let s := { s with prt := { s.prt with margin := s.prt.margin.filter (fun l => l / 64 != d) },
                    rq := { s.rq with tracker := dropKeys s.rq.tracker (fun k => k / 8192 == d),
                                      waiting := s.rq.waiting.filter (fun (r : HostReq) => dieOfPort r.port != d),
                                      mirror := dropKeys s.rq.mirror (fun k => k / 2 ^ 20 == d),
                                      delivered := s.rq.delivered.filter (fun (x : Delivered) => dieOfPort x.port != d),
                                      held := s.rq.held.filter (fun x => !hosts.contains x.1) },
                    map := { s.map with bad := s.map.bad.filter (fun (b : BadEntry) => b.die != d),
                                        hold := s.map.hold.filter (fun (h : MapHold) => h.die != d) },
                    dir := { s.dir with atomics := s.dir.atomics.filter (fun (a : PrivAtomic) => a.die != d),
                                        held := s.dir.held.filter (fun (x : Nat × Msg) => dieOfPort x.1 != d) },
                    grp := { s.grp with slot := dropKeys s.grp.slot (fun k => hosts.contains (k / 8)),
                                        answer := s.grp.answer.filter (fun (a : GroupAnswer) => !hosts.contains a.host) },
                    core := { s.core with cell := dropKeys s.core.cell (fun k => k / 65536 == d),
                                          portLoop := dropKeys s.core.portLoop (fun k => k % 4096 / 256 == d),
                                          linkLoop := dropKeys s.core.linkLoop (fun k => k / 32 == d),
                                          die := s.core.die.upd d (fun (c : DieCore) => { c with weevil := 0, found := [] }) },
                    qos := { s.qos with leaf := s.qos.leaf.map (fun (e : Nat × Leaf) =>
                                          if dieOfPort (leafPort e.1) = d then (e.1, { e.2 with queue := [], deficit := 0, fences := [] }) else e),
                                        ring := dropKeys s.qos.ring (fun k => (if k < 1024 then k / 128 else (k - 1024) / 16) == d),
                                        egress := s.qos.egress.map (fun (e : Nat × Egress) =>
                                          if dieOfPort e.1 = d then (e.1, { e.2 with bypass := [], rotor := 0, wrr := {}, clsDeficit := [] }) else e),
                                        bucket := dropKeys s.qos.bucket (fun k => k / 2048 == d),
                                        refilled := s.qos.refilled.drop d } }
  let s := forEach ((s.qos.leaf.keys).filter (fun k => dieOfPort (leafPort k) == d)) (fun k s => s.freshLeaf k) s
  let s := forEach ((s.qos.egress.keys).filter (fun p => dieOfPort p == d)) (fun p s => s.freshEgress p) s
  let s := s.clearWhere (fun o => isLiveMark o && markOfDie d o)
  let s := forEach hosts (fun h s => s.clearWhere (fun o => o.cls == 0x29 && o.inst / 8 == h && o.inst % 8 != 0 && o.mem != 3)) s
  let s := s.clearWhere (fun o => o.cls == 0x59 && ((o.inst == 1 + d && (decide (o.mem ≤ 7) || o.mem == 0x0E)) ||
    (decide (0x100 + 16 * d ≤ o.inst ∧ o.inst < 0x110 + 16 * d) && o.mem == 0)))
  (s.resetLinks d).unloadDie d

/-- DIRECTORY of a die goes into reset: its slice holds nothing, and BANK_STATE keeps its value (R182). Where the die's datapath runs on,
no request is dropped, and apply writes and absorbed writebacks go on (R156, R206). -/
def State.resetSlice (s : State) (d : Nat) : State :=
  let live := (s.domain d dDatapath).running
  let s := if live then s.refuseHomes d else s
  let s : State := { s with
           dir := { s.dir with entry := dropKeys s.dir.entry (fun k => entryDie k == d), lru := dropKeys s.dir.lru (fun k => k / 2 ^ 18 == d),
                               rot := dropKeys s.dir.rot (fun k => k / 16 == d),
                               queue := s.dir.queue.filter (fun (q : HomeReq) => live || q.die != d), txn := s.dir.txn.filter (fun (t : HomeTxn) => live || t.req.die != d),
                               snoop := s.dir.snoop.filter (fun (b : Snoop) => b.die != d), wb := s.dir.wb.filter (fun (w : WriteBack) => live || w.die != d),
                               stalled := s.dir.stalled.filter (fun (x : Stalled) => x.req.die != d),
                               lastScrub := s.dir.lastScrub.drop d },
           grp := { s.grp with mark := s.grp.mark.filter (fun (m : Mark) => live || m.die != d) } }
  s.endLostSweeps d

/-- The mover of a die loses what it holds; its queues are DISABLED. -/
def State.stopMover (s : State) (d : Nat) : State :=
  let mine := fun q => s.queueDie q == d
  let s := forEach ((s.regs.filter (fun c => decide (c.1 / 0x100 % 0x100 = 0x38 ∧ c.1 % 0x100 = 1) && mine (c.1 / 0x10000))).map (fun c => c.1 / 0x10000))
    (fun q s => s.put (O.Q_STATE q) qDisabled) s
  { s with mv := { s.mv with req := s.mv.req.filter (fun r => !mine r.queue), desc := s.mv.desc.filter (fun x => !mine x.queue),
                             queue := s.mv.queue.filter (fun x => !mine x.1), engine := dropKeys s.mv.engine (fun k => k / 4 == d),
                             ptr := s.mv.ptr.drop d } }

/-- The sequencers of a domain. -/
def State.seqsOf (s : State) (d i : Nat) : List Nat :=
  if i = dTileSequencers then [64, 65, 66, 67] else s.sequencers.filter (fun n => n / 8 == d && decide (n < 64))

/-- A reset of a sequencer keeps its retirement (R393, R412). -/
def State.resetSeqKeeping (s : State) (n : Nat) : State :=
  let gone := s.sqState n = sqRetired
  let s := s.resetSeq false n
  if gone then s.put (O.SQ_STATE n) sqRetired else s

/-- What a domain holds beside its objects goes as it enters reset. -/
def State.resetInside (s : State) (d i : Nat) : State :=
  if i = dMgmt then
    let s := s.setCollector d (fun _ => {})
    if d = 0 then
      let s := s.setIhl (fun x => { x with held := [], heldAt := [], kept := [], armedId := none, goReq := none, goAcked := none })
      { s with sec := { s.sec with segments := [], segNext := 0, waiting := none } }
    else s.setTime d (fun t => { t with now := 0, sub := 0, loaded := false, flagged := false })
  else if i = dCicada then
    s.put (O.CC_STATE d) 0
  else if i = dDatapath then s.resetDatapath d
  else if i = dDirectory then s.resetSlice d
  else if i = dMover then s.stopMover d
  else if i = dCapture then (s.setCapture d (fun _ => {})).put (O.CAP_STATE d) capStopped
  else if i = dAuditor then
    let s := s.setDieCore d (fun c => { c with weevil := 0, found := [] })
    if d = 0 then
      let s := { s with core := { s.core with failed := [], awaited := [] } }
      if s.get O.CA_STATE = 2 then s.put O.CA_STATE (if s.get O.CA_AT = 0 then 0 else 1) else s
    else s
  else if i = dCounters then s
  else forEach (s.seqsOf d i) (fun n s => s.resetSeqKeeping n) s

/-- A domain that runs and may not any longer goes into reset. -/
def State.syncDomains (s : State) : State :=
  forEach (List.range s.dies) (fun d s => forEach (domainsOf d) (fun i s =>
    if (s.domain d i).running && (s.covered d i || !s.powers i || !(s.pll d (clockOf i)).stable) then
      (s.setDomain d i {}).resetInside d i
    else s) s) s

/-! ## Data port operations that lose their block (R57) -/

/-- The domain that holds a space of the data port (R52). DESIGN CHOICE (log 104): that of tenant images (0x18), formed from objects of
DATAPATH and kept in store slots of a core's memory (R279), is die 0's DATAPATH. -/
def spaceDomain (addr : Nat) : Nat × Nat :=
  match addr / 2 ^ 56 with
  | 0x01 | 0x02 | 0x18 => (0, dDatapath)
  | 0x08 => (addr % 2 ^ 56 / 0x4000000, dDirectory)
  | 0x10 => (addr % 2 ^ 56 / 0x40000, dCapture)
  | 0x21 => (0, dSequencers)
  | _ => (0, dMgmt)

/-- The range of a data port's operation: its space, start and length. -/
def State.dpRange (s : State) (x : Nat) : Nat × Nat × Nat :=
  (s.get (O.DP_ADDR x) / 2 ^ 56, (s.dict.port.at x).start, s.get (O.DP_LENGTH x))

/-- The units of a size that a range meets. -/
def unitsIn (size start length : Nat) : List Nat :=
  (List.range (if length = 0 then 0 else (start + length - 1) / size - start / size + 1)).map (fun k => start / size + k)

/-- A LOAD that ends FAILED leaves its shadow or its images invalid (R57, R279). -/
def State.dpSpoil (s : State) (x : Nat) : State :=
  let (space, start, length) := s.dpRange x
  if s.get (O.DP_OP x) ≠ 1 then s
  else if space = 0x01 ∨ space = 0x02 then
    { s with dict := { s.dict with invalid := s.dict.invalid ++ [({ space := space, start := start, length := length } : BadRange)] } }
  else if space = 0x18 then forEach (unitsIn 0x10000 start length) (fun t s => s.put (O.T_IMAGE t) imgInvalid) s
  else s

/-- An operation of a data port ends FAILED. -/
def State.dpFail (s : State) (x status : Nat) : State := ((s.dpSpoil x).put (O.DP_STATE x) 3).put (O.DP_STATUS x) status

/-- Operations on a space whose block is no longer there end FAILED with BUSY. -/
def State.endDataPorts (s : State) : State :=
  forEach (List.range 3) (fun x s =>
    let u := spaceDomain (s.get (O.DP_ADDR x))
    if s.get (O.DP_STATE x) = 1 ∧ s.domainOn u.1 u.2 = false then s.dpFail x stBusy else s) s

/-- Bring PLLs, domains and data ports into line with the mode, the rails and the sources. -/
def State.syncReset (s : State) : State := s.syncPlls.syncDomains.endDataPorts

/-! ## The reach of a source on objects (R429) -/

/-- Fused values of class 04: they change by a burn only (R444). -/
def isFuse (o : Obj) : Bool := o.cls == 0x04 && o.inst == 0 && (o.mem == 0 || o.mem == 1 || o.mem == 4)

/-- Class 12's instances of the Ihlod segments. -/
def ihlodInst (o : Obj) : Bool := o.cls == 0x12 && (o.inst == 0x001 || o.inst == 0x120 || o.inst == 0x121)

/-- Objects that a cold reset leaves: power-on takes the second group too. -/
def coldKeeps (powerOn : Bool) (o : Obj) : Bool :=
  o.cls == 0x00 || isFuse o || (o.cls == 0x61 && o.inst == 0 && o.mem == 0x03) ||
    (!powerOn && (o.cls == 0x14 || ihlodInst o))

/-- The counts that run since cold reset, by the tables that define them: BIND_EPOCH, APPLIED_COUNT and FAILED_COUNT (R83),
SCRUB_PASSES (R186), HWM_SNAP_COUNT (R262) and PC_SNAP_COUNT (R482). DESIGN CHOICE (log 98): they outlive the warm and die resets
that return the other objects of their classes to the defaults (R429). -/
def sinceCold (o : Obj) : Bool :=
  match o.cls, o.mem with
  | 0x07, 0x04 | 0x07, 0x07 | 0x07, 0x08 | 0x33, 0x05 | 0x48, 0x04 => o.inst == 0
  | 0x28, 0x0C => o.inst != 0
  | _, _ => false

/-- Objects that a warm reset returns to their defaults (R429), but for the counts of `sinceCold`. -/
def warmClears (o : Obj) : Bool :=
  !sinceCold o &&
  match o.cls with
  | 0x01 => o.mem == 0x02 || o.mem == 0x07
  | 0x04 => !isFuse o
  | 0x05 | 0x06 | 0x07 | 0x10 | 0x11 | 0x13 | 0x20 | 0x21 | 0x22 | 0x2A | 0x30 | 0x31 | 0x32 | 0x33 | 0x28 | 0x29
  | 0x38 | 0x39 | 0x48 | 0x59 | 0x5A => true
  | 0x12 => !ihlodInst o
  | 0x60 => o.mem != 0x0B
  | 0x61 => !(o.inst == 0 && o.mem == 0x03) && !(o.inst != 0 && o.mem == 0x03)
  | _ => false

/-- Objects that a reset of die `d` returns to their defaults, but for those of its mover and its sequencers and the counts of
`sinceCold`. `hosts` are the hosts of the die's ports. -/
def dieClears (d : Nat) (hosts : List Nat) (o : Obj) : Bool :=
  let port := fun (base : Nat) => decide (base + 16 * d ≤ o.inst ∧ o.inst < base + 16 * d + 16)
  !sinceCold o &&
  match o.cls with
  | 0x04 => port 0x100
  | 0x06 => o.inst == d || decide (0x10 + 4 * d ≤ o.inst ∧ o.inst < 0x14 + 4 * d) || decide (0x40 + 8 * d ≤ o.inst ∧ o.inst < 0x48 + 8 * d)
  | 0x07 => true
  | 0x10 => port 0
  | 0x11 => o.inst / 64 == d
  | 0x12 => decide (0x100 + 4 * d ≤ o.inst ∧ o.inst < 0x104 + 4 * d)
  | 0x13 => o.inst / 4 == d
  | 0x28 => o.inst == 1 + d || port 0x100
  | 0x29 => decide (o.inst < 0x200) && hosts.contains (o.inst / 8)
  | 0x48 => decide (0x100 + 64 * d ≤ o.inst ∧ o.inst < 0x140 + 64 * d)
  | 0x59 => o.inst == 1 + d || port 0x100
  | 0x5A => o.inst == 1 + d
  | 0x61 => o.inst == 1 + d && o.mem != 0x03
  | _ => false

/-- A fresh challenge: 32 random bytes (R447). -/
def State.freshChallenge (s : State) : State :=
  forEach (List.range 4) (fun k s => let f := s.fresh; f.2.put ⟨0x05, 0, 0x02 + k⟩ f.1) s

/-- What a reset whose reach covers every port's class 04 instance and class 05 ends (R449, R463, R468). A request that the Ihlod node
holds for the responder is not among it (R351). -/
def State.resetSecurity (s : State) : State :=
  ({ s with sec := { s.sec with session := [], peer := [], selected := [] } }).freshChallenge

/-- A cold reset is asserted: everything but what lies outside its reach is as after power-on (R428, R429). -/
def State.coldReach (s : State) (powerOn : Bool) : State :=
  let s := (if s.mode = mSafe then s.setMode mAux else s).syncReset
  let pending := s.get O.SEC_PENDING
  let s := s.resetTile
  let s := { s with regs := s.regs.filter (fun c => coldKeeps powerOn (Obj.ofKey c.1)),
                    ram := [], acts := [], dict := {}, tx := [], map := {}, dir := {}, grp := {},
                    core := { linkLoop := dropKeys s.core.linkLoop (fun k => decide (k < 256) || powerOn) }, qos := {}, perf := {},
                    mv := {}, ten := {}, io := {}, rq := {}, flt := {},
                    clk := { die := s.clk.die.map (fun (e : Nat × DieTime) => (e.1, { elapsed := e.2.elapsed })),
                             refEdges := s.clk.refEdges, refGood := s.clk.refGood },
                    prt := { port := s.prt.port.map (fun (e : Nat × Port) => 
                      (e.1, { perstIn := e.2.perstIn, prsntLow := e.2.prsntLow, present := e.2.present, perstOut := true })) },
                    lnk := { link := dropKeys s.lnk.link (fun k => decide (k < 32) || powerOn) },
                    sqs := { seq := [], cic := { running := s.sqs.cic.running, previous := s.sqs.cic.previous } },
                    rst := { s.rst with pendingMode := none, initTested := [], initCleared := [], dieInit := [] } }
  let s := if powerOn then { s with ihl := {} } else s
  ((s.put O.SEC_STATE pending).put O.FT_STATE ftFree).resetSecurity

/-- A warm reset is asserted (R429, R437). -/
def State.warmReach (s : State) : State :=
  let s := if s.mode = mAux then s else s.setMode mAux
  let s := s.setRst (fun r => { r with pendingMode := none, initTested := [], initCleared := [], dieInit := [] })
  let s := s.syncReset
  let s := forEach (s.sequencers) (fun n s => s.resetSeqKeeping n) s
  let s := s.clearKeeping warmClears
  let s := { s with acts := s.acts.filter (fun a => match a with | .raise .. => true | .retire .. => true | .react .. => true | _ => false),
                    dict := { s.dict with mailbox := [], fmBind := none }, tx := [], map := {}, dir := {}, grp := {},
                    core := { cap := s.core.cap, linkLoop := dropKeys s.core.linkLoop (fun k => decide (k < 256)) }, qos := {},
                    perf := {}, mv := {}, ten := {}, io := {}, rq := {}, sqs := { s.sqs with cic := { s.sqs.cic with await := [] } },
                    flt := { s.flt with safeWait := [], safeBy := [] } }
  let s := forEach (List.range s.dies) (fun d s =>
    (s.setCollector d (fun c => { c with queue := [] })).put (O.CAP_STATE d) capStopped) s
  (s.put O.FC_STATE 0).resetSecurity

/-- A reset of die `d` is asserted (R429, R432). -/
def State.dieReach (s : State) (d : Nat) : State :=
  let hosts := (s.portsWith roleUpstream).filter (fun p => dieOfPort p == d) |>.map (fun p => s.get (O.HOST_ID p))
  let s := s.resetMover d
  let s := s.syncReset
  let s := forEach (s.seqsOf d dSequencers ++ (if d = 0 then s.seqsOf 0 dTileSequencers else [])) (fun n s => s.resetSeqKeeping n) s
  let s := s.clearKeeping (dieClears d hosts)
  let s := s.setCollector d (fun c => { c with queue := [] })
  let s := { s with tx := [], sec := { s.sec with selected := dropKeys s.sec.selected (fun p => dieOfPort p == d),
                                                  peer := s.sec.peer.filter (fun p => dieOfPort p != d) },
                    perf := { s.perf with part := dropKeys s.perf.part (fun k => k / 8192 == d), latest := dropKeys s.perf.latest (fun k => k / 8192 == d) } }
  s.put (O.CAP_STATE d) capStopped

/-! ## Asserting and releasing sources (R427, R430, R442) -/

/-- A source joins those asserted; a package-wide one joins the episode. -/
def State.assertSource (s : State) (code d dom : Nat) : State :=
  s.setRst (fun r => { r with sources := r.sources.filter (fun x => !(x.code == code && x.die == d && x.dom == dom)) ++
                                [({ code := code, die := d, dom := dom, since := s.elapsed 0 } : ResetSource)],
                              episode := if code ≤ rMain then r.episode ++ [code] else r.episode })

/-- The code that LAST_RESET records of an episode: the widest reach, the lowest code among equals. -/
def widest (codes : List Nat) : Nat := codes.foldl min 0xFF

/-- The directory is to be cleared, or is off, as the mode has it (R182). -/
def State.syncDirectory (s : State) (was : Bool) : State :=
  let on := s.directoryPowered
  if on = was then s
  else if on then s.clearDirectory
  else s.put O.DIR_STATE 0

/-- A mode change takes effect on every die, with what the change brings about (R76, R91, R182, R205, R436 to R440). -/
def State.changeMode (s : State) (m : Nat) : State :=
  if s.mode = m then s
  else
    let old := s.mode
    let takesTx := fun (m : Nat) => decide (mConfig ≤ m ∧ m ≤ mMaint)
    let trained := s.trainMode
    let dirWas := s.directoryPowered
    let s := if m = mDrain then s.setRst (fun r => { r with drainFrom := old }) else s
    let s := s.setMode m
    let s := if takesTx old && !takesTx m then s.txFailWhere (fun _ _ => true) stBusy else s
    let s := if m = mRun ∨ m = mDegraded then s else s.abortGroups (fun _ _ _ => true) stBusy causeMode
    let s := if s.trainMode = trained then s else if trained then s.portsDown else s.portsUp
    let s := s.syncReset.syncDirectory dirWas
    s.owe .admitOne

/-- INIT takes effect: instant I of R440. -/
def State.startInit (s : State) : State :=
  let s := s.setRst (fun r => { r with initAt := s.elapsed 0, initTested := [], initCleared := [] })
  (s.put O.INIT_STATUS 1).changeMode mInit

/-- INIT fails: the mode returns to AUX (R440), after the apply of a LOCKED transaction (R78). -/
def State.failInit (s : State) (status : Nat) : State :=
  let s := s.put O.INIT_STATUS status
  if s.anyLocked then s.setRst (fun r => { r with pendingMode := some mAux, pendingAt := s.elapsed 0 }) else s.changeMode mAux

/-- What the end of the last package-wide source brings (R437, R442). -/
def State.endEpisode (s : State) : State :=
  if s.packageReset || s.rst.episode.isEmpty then s
  else
    let code := widest s.rst.episode
    let s := s.setRst (fun r => { r with episode := [] })
    let s := (s.put O.LAST_RESET code).put O.LAST_RESET_AT (s.now 0)
    if code ≤ rIhlod then s
    else
      let s := s.count32 O.WARM_COUNT
      if s.get O.BOOT_MODE = mConfig ∧ s.rst.mainRails = true then s.startInit else s.put O.MODE_STATUS stBusy

/-- The tile starts again once no cold source is asserted: no other reset covers it (R376, R428). -/
def State.tileAgain (s : State) : State :=
  if s.rst.auxRails && s.get O.TILE_STATE == 0 && !s.sourceOn (fun c => decide (c ≤ rIhlod)) then s.startTile else s

/-- A source releases. -/
def State.releaseSource (s : State) (p : ResetSource → Bool) : State :=
  let s := s.setRst (fun r => { r with sources := r.sources.filter (fun x => !p x) })
  s.syncReset.tileAgain.endEpisode

/-- A source of a code is asserted and has been for so long. -/
def State.sourceDue (s : State) (code n : Nat) : Bool :=
  s.rst.sources.any (fun r => r.code == code && decide (r.since + n ≤ s.elapsed 0))

/-! ## The rails and pins (R427, R434, R437) -/

/-- The aux rails come into tolerance: power-on is asserted, and the tile starts (R434). -/
def fxPowerOn (s : State) : State :=
  if s.rst.auxRails then s
  else
    let s := s.setRst (fun r => { r with auxRails := true })
    ((s.assertSource rPowerOn 0 0).coldReach true).startTile.put O.LAST_RESET rPowerOn

/-- 250,000 ft later power-on releases. -/
def fxPowerOnRelease (s : State) : State :=
  if s.sourceDue rPowerOn 250000 then s.releaseSource (fun r => r.code == rPowerOn) else s

/-- SYS_RST_N has been low for 25 ft. -/
def fxSysRstAssert (s : State) : State :=
  if s.rst.auxRails && !s.sourceOn (· == rSysRst) then (s.assertSource rSysRst 0 0).coldReach false else s

/-- SYS_RST_N is high and 250 ft have passed. -/
def fxSysRstRelease (s : State) : State :=
  if s.sourceDue rSysRst 250 then s.releaseSource (fun r => r.code == rSysRst) else s

/-- The reset of RST_GO is asserted, 25 ft after its answer was acknowledged, while IHLOD_RESET reads 1 (R352, R465). -/
def fxIhlodReset (s : State) : State :=
  match s.ihl.goAcked with
  | some t =>
    if t + 25 ≤ s.elapsed 0 then
      let s := s.setIhl (fun i => { i with goAcked := none, goReq := none })
      if s.get O.IHLOD_RESET = 1 then (s.assertSource rIhlod 0 0).coldReach false else s
    else s
  | none => s

/-- The main rails leave tolerance: warm. -/
def fxMainRailsOut (s : State) : State :=
  if s.rst.mainRails then
    let s := s.setRst (fun r => { r with mainRails := false })
    if s.rst.auxRails then (s.assertSource rMain 0 0).warmReach else s
  else s

/-- The main rails return. -/
def fxMainRailsIn (s : State) : State :=
  (s.setRst (fun r => { r with mainRails := true })).releaseSource (fun r => r.code == rMain)

/-- The aux rails leave tolerance: OFF, and nothing runs, the tile included (R375). -/
def fxAuxRailsOut (s : State) : State :=
  if s.rst.auxRails then
    let s := s.setRst (fun r => { r with auxRails := false, sources := [], episode := [], pendingMode := none, dieInit := [] })
    (s.setMode 0).syncReset.resetTile.resetTap
  else s

/-! ## Commanded resets (R431, R432, R442) -/

/-- PKG_RESET: the check of its value. -/
def pkgResetStatus (v : Nat) : Nat := if v = 0xA5A5 then stOk else stBadValue
def fxPkgReset (s : State) : State := (s.assertSource rPkg 0 0).warmReach

/-- DIE_RESET: its check, and its effect. -/
def State.dieResetStatus (s : State) (v : Nat) : Nat :=
  if v ≠ 0xA5A5 then stBadValue else if s.mode = mAux ∨ s.mode = mConfig then stOk else stBusy
def fxDieReset (d : Nat) (s : State) : State :=
  let s := if s.mode = mConfig then s.setRst (fun r => { r with dieInit := r.dieInit.set d true, initTested := r.initTested.drop d,
                                                                initCleared := r.initCleared.drop d }) else s
  (s.assertSource rDie d 0).dieReach d

/-- A block's idle condition (R431). -/
def State.blockIdle (s : State) (d b : Nat) : Bool :=
  if b = dMover then
    ((s.regs.filter (fun c => decide (c.1 / 0x100 % 0x100 = 0x38 ∧ c.1 % 0x100 = 1))).map (fun c => c.1 / 0x10000)).all (fun q =>
      s.queueDie q != d || s.get (O.Q_STATE q) == qDisabled || (s.get (O.Q_STATE q) == qHalted && s.queueIdle q)) &&
    (List.range 4).all (fun e => s.engineState d e == 0)
  else if b = dCapture then s.get (O.CAP_STATE d) == capOff || s.get (O.CAP_STATE d) == capStopped
  else if b = dAuditor then s.get O.CA_STATE != 2
  else if b = dSequencers ∨ b = dTileSequencers then
    (s.seqsOf d b).all (fun n => (s.sqState n == sqStopped || s.sqState n == sqFaulted || s.sqState n == sqRetired) &&
      s.get (O.TX_HOLDER 4) != n)
  else b == dCounters

/-- BLOCK_IDLE as it reads. -/
def State.blockIdleMask (s : State) (d : Nat) : Nat :=
  maskOf ((List.range 10).filter (fun b => decide (4 ≤ b) && (domainsOf d).contains b && s.blockIdle d b))

/-- Every bit written to BLOCK_RESET of a die names a block of it that can be reset (R431). -/
def blockBits (d v : Nat) : Bool := (hostsIn v).all (fun b => decide (4 ≤ b) && (domainsOf d).contains b)

/-- BLOCK_RESET: the check of the bits written. -/
def State.blockResetStatus (s : State) (d v : Nat) : Nat :=
  let bits := hostsIn v
  if !blockBits d v then stBadValue
  else if bits.any (fun b => !s.blockIdle d b) then stNotIdle
  else if bits.any (fun b => s.rst.sources.any (fun r => decide (r.code ≤ rWatchdog) && r.covers d b)) then stBusy
  else stOk

/-- A block source is asserted: the effect of R431 on each block. -/
def State.blockReset (s : State) (d b : Nat) : State :=
  let s := if b = dMover then s.resetMover d else s
  let s := (s.assertSource rBlock d b).syncReset
  if b = dCapture then (s.clearWhere (fun o => o.cls == 0x58 && (o.inst == 1 + d || decide (0x100 + 8 * d ≤ o.inst ∧ o.inst < 0x108 + 8 * d)))).emptyRing d
  else if b = dAuditor then s.clearWhere (fun o => o.cls == 0x59 && o.inst == 1 + d && (o.mem == 0x0B || o.mem == 0x0C || o.mem == 0x0D || o.mem == 0x11))
  else if b = dCounters then s.resetCounters d
  else s

/-- A served write of BLOCK_RESET. -/
def fxBlockReset (d v : Nat) (s : State) : State := forEach (hostsIn v) (fun b s => s.blockReset d b) s

/-- The Cicada watchdog of a die resets its pair (R397). -/
def State.watchdogReset (s : State) (d : Nat) : State := (s.assertSource rWatchdog d 0).syncReset

/-- A timed source comes to its end. -/
def fxResetSourceRelease (code d dom : Nat) (s : State) : State :=
  let due := fun (r : ResetSource) => decide (rIhlod ≤ r.code) && r.code != rMain && r.code == code && r.die == d && r.dom == dom &&
    decide (r.since + resetLength r.code ≤ s.elapsed 0)
  if s.rst.sources.any due then s.releaseSource due else s

/-! ## Clock and domain events (R425, R430) -/

/-- A domain is released. The tick count of a die other than 0 starts at 0 as its MGMT domain is released (R424); the Ihlod
segments begin to train as die 0's is (R346, R434), and the ports of a die as its DATAPATH is (R92). -/
def fxDomainRelease (d i : Nat) (s : State) : State :=
  if (s.domain d i).running then s
  else if (domainsOf d).contains i && s.releasable d i then
    let now := s.elapsed 0
    let s := s.setDomain d i { running := true, since := now }
    if i = dMgmt then
      if d = 0 then
        forEach [0, 1] (fun x s => s.send (.trainingSet x (trainingSet s.nodeAddr x))) (s.setIhl (fun x => { x with segTry := [(0, now), (1, now)] }))
      else s.setTime d (fun t => { t with now := 0, sub := 0, loaded := false })
    else if i = dDatapath then
      (forEach (List.range 4) (fun k s => s.setLink (linkNo d k) (fun r => { r with attemptAt := s.elapsed d })) s).portsReleased d
    else s
  else s

/-- A PLL has held lock for 64 reference cycles; the ports that waited for their PHY PLL train (R425). -/
def fxPllLock (d n : Nat) (s : State) : State :=
  let p := s.pll d n
  if p.run && !p.stable && decide (p.since + 16 ≤ s.elapsed 0) then
    let s := s.setPll d n { p with stable := true }
    if n = 2 then s.portsClocked d else s
  else s

/-- A PLL loses lock (R425). -/
def fxPllUnlock (d n : Nat) (s : State) : State :=
  if (s.pll d n).stable then
    let s := (s.setPll d n { run := true, since := s.elapsed 0 }).count32 (O.UNLOCK_COUNT d)
    let s := s.raiseDie d F.CLOCK_UNSTABLE
    let s := if n = 2 then forEach ((List.range 16).map (fun k => 16 * d + k)) (fun p s => if s.linkAlive p then s.linkDrop p lsDetect else s) s
      else if 8 ≤ n then s.d2dDown (linkNo d (n - 8)) 3
      else if n = 5 then (s.segDown 0).segDown 1
      else s
    s.syncReset
  else s

/-- A PLL has not locked within 2,500 ft of starting. -/
def fxClockUnstable (d n : Nat) (s : State) : State :=
  let p := s.pll d n
  if p.run && !p.stable && !p.unstable && decide (p.since + 2500 ≤ s.elapsed 0) then
    (s.setPll d n { p with unstable := true }).raiseDie d F.CLOCK_UNSTABLE
  else s

/-- CLOCK_LOCK as it reads (R443). -/
def State.clockLock (s : State) (d : Nat) : Nat :=
  let on := fun n => (s.pll d n).stable
  b2n (on 0) + 2 * b2n (on 1) + 4 * b2n (on 2) + 8 * b2n ([8, 9, 10, 11].all on) + 16 * b2n (d == 0 && on 4) + 32 * b2n (d == 0 && on 5)

/-! ## Mode requests (R436, R437) -/

/-- DRAIN_IDLE (R438). -/
def State.drainIdle (s : State) : Bool :=
  s.rq.tracker.all (fun t => !t.2.busy) && s.prt.tag.all (fun t => t.2.state != 1) &&
    s.regs.all (fun c => !decide (c.1 / 0x100 % 0x100 = 0x29 ∧ c.1 % 0x100 = 0 ∧ c.1 / 0x10000 % 8 ≠ 0 ∧ c.2.toNat = grpApplying)) &&
    s.mv.desc.isEmpty && s.dir.sweep.isEmpty

/-- The transitions by request of R437. -/
def mayRequest (old m : Nat) : Bool :=
  if m = mAux ∨ m = mUpdate then old == mConfig || old == mDrain
  else if m = mInit then old == mAux
  else if m = mConfig then old == mDrain || old == mUpdate
  else if m = mLinkup then old == mConfig
  else if m = mRun then old == mLinkup || old == mDrain || old == mMaint || old == mRunNc
  else if m = mRunNc then old == mLinkup || old == mRun || old == mDegraded || old == mDrain || old == mMaint
  else if m = mDrain then old == mRun || old == mRunNc || old == mDegraded || old == mMaint
  else if m = mMaint then old == mRun || old == mRunNc || old == mDegraded || old == mDrain
  else false

/-- The mode a request asks for: DEGRADED stands for RUN. -/
def requested (v : Nat) : Nat := if v = mDegraded then mRun else v

/-- A request names the current mode. -/
def State.isCurrent (s : State) (v : Nat) : Bool :=
  s.mode == requested v || (s.mode == mDegraded && requested v == mRun)

/-- The status of a MODE_REQUEST, and the state with the record of a failed layout check (R89, R108). DESIGN CHOICE (log 122): the layout is
checked on the way to LINKUP alone, the one row of R437 that names R89; R89 speaks of a request to leave CONFIG. -/
def State.modeRequestStatus (s : State) (v : Nat) : Nat × State :=
  let m := requested v
  if m = 0 ∨ mSafe ≤ m then (stBadValue, s)
  else if s.mode = mInit ∨ s.rst.pendingMode.isSome ∨ s.mode = mSafe then (stBusy, s)
  else if s.isCurrent v then (stOk, s)
  else if s.packageReset = true then (stBusy, s)
  else if !mayRequest s.mode m then (stBusy, s)
  else if s.mode = mConfig ∧ !s.rst.dieInit.isEmpty then (stBusy, s)
  else if m = mInit ∧ s.rst.mainRails = false then (stBusy, s)
  else if m = mLinkup then
    let t := s.recordLayout
    (if s.layoutFailure.isSome then stBadValue else stOk, t)
  else if m = mRunNc ∧ (List.range 64).any (fun r => s.get (O.SR_HELD r) != 0) then (stNotIdle, s)
  else if s.mode = mDrain ∧ (m = mConfig ∨ m = mUpdate ∨ m = mAux) ∧ s.drainIdle = false then (stNotIdle, s)
  else if s.mode = mUpdate ∧ s.get O.CC_ACT_STATUS = 1 then (stBusy, s)
  else (stOk, s)

/-- A request that is accepted waits for the next tick (R436); one for the current mode changes nothing. -/
def fxModeRequest (v : Nat) (s : State) : State :=
  let s := s.put O.MODE_STATUS stOk
  if s.isCurrent v then s
  else s.setRst (fun r => { r with pendingMode := some (requested v), pendingAt := s.elapsed 0 })

/-- The accepted change takes effect: at the next tick, and not while a transaction is LOCKED. -/
def fxModeChange (s : State) : State :=
  match s.rst.pendingMode with
  | none => s
  | some m =>
    if s.rst.pendingAt < s.elapsed 0 ∧ s.anyLocked = false then
      let s := s.setRst (fun r => { r with pendingMode := none })
      if m = mInit then s.startInit
      else s.changeMode (if m = mRun ∧ s.get O.FC_RETIRED ≠ 0 then mDegraded else m)
    else s

/-! ## INIT (R432, R440) -/

/-- A die runs the steps of INIT: the whole package's, or its own after a die reset in CONFIG. -/
def State.initOf (s : State) (d : Nat) : Bool := s.mode == mInit || s.rst.dieInit.at d

/-- The self-test and repair of a die's SRAM ends; after the last die's the directory is cleared. -/
def fxSramSelfTestEnd (d repairs : Nat) (ok : Bool) (s : State) : State :=
  if s.initOf d && s.domainOn d dDatapath && s.domainOn d dDirectory && !s.rst.initTested.at d then
    let s := s.put (O.SRAM_REPAIRS d) (repairs % 65536)
    if ok then s.setRst (fun r => { r with initTested := r.initTested.set d true })
    else s.failInit 3
  else s

/-- Clearing of the directory ends. In INIT every die's self-test has ended before it. -/
def fxDirectoryCleared (s : State) : State :=
  let tested := (List.range s.dies).all (fun d => s.rst.initTested.at d)
  if (List.range s.dies).any (fun d => !s.domainOn d dDirectory) then s
  else if s.mode = mInit then
    if tested then
      (fxDirCleared s).setRst (fun r => { r with initCleared := (List.range s.dies).map (fun d => (d, true)) })
    else s
  else
    (fxDirCleared s).setRst (fun r => { r with initCleared := r.initTested })

/-- Step 5 has ended for a die: its slice is clear, its Invar links are UP or retired, and its tick count is loaded. -/
def State.initDone (s : State) (d : Nat) : Bool :=
  s.rst.initTested.at d && s.rst.initCleared.at d && (d == 0 || (s.time d).loaded) &&
    (List.range 4).all (fun k => s.get (O.D2D_STATE (linkNo d k)) == d2dUp || s.get (O.D2D_STATE (linkNo d k)) == d2dRetired)

/-- INIT succeeds. -/
def fxInitEnd (s : State) : State :=
  if s.mode = mInit ∧ s.anyLocked = false ∧ (List.range s.dies).all (fun d => s.initDone d) = true then
    (s.put O.INIT_STATUS 2).changeMode mConfig
  else s

/-- INIT has not ended within INIT_LIMIT. -/
def fxInitTimeout (s : State) : State :=
  if s.mode = mInit ∧ s.rst.initAt + s.get O.INIT_LIMIT ≤ s.elapsed 0 then s.failInit 4 else s

/-- Dies that have ended INIT's steps for themselves. -/
def State.noteDieInit (s : State) : State :=
  if s.rst.dieInit.isEmpty then s
  else s.setRst (fun r => { r with dieInit := r.dieInit.filter (fun (e : Nat × Bool) => !s.initDone e.1) })

end Sys2Proof.Machine
end

