-- ==== Sys2Proof/Machine/Live.lean ====
section
/-! DEFINITION. What the live objects of the dictionary read: values that follow from the block's state and are not held
as objects of their own (R6). -/
namespace Sys2Proof.Machine

/-- A Boolean test counted over a list of units. -/
def countWhere {α : Type} (l : List α) (p : α → Bool) : Nat := (l.filter p).length

/-- A mask with the bit of each number that satisfies a test. -/
def bitsWhere (n : Nat) (p : Nat → Bool) : Nat := (List.range n).foldl (fun m b => m + (if p b then 2 ^ b else 0)) 0

/-- VCS_STATE (R116). -/
def State.vcsState (s : State) (h : Nat) : Nat :=
  match s.hostPort h with
  | none => 0
  | some p => if s.linkState p = lsUp then 2 else 1

/-- VPPB_STATE (R111, R116): Link Active of a DEVICE binding reads 1 while the target port is UP and has the LD. -/
def State.vppbState (s : State) (h v : Nat) : Nat :=
  let w := s.get (O.VPPB_BIND h v)
  if bindKind w = 0 then 0
  else if bindKind w = bindDevice then
    (if s.linkState (bindPort w) = lsUp ∧ bindLd w < max 1 (s.get (O.LD_COUNT (bindPort w))) then 1 else 2)
  else 1

/-- SHADOW_APPLY is staged, with a bit, in a transaction that is READY, SCHEDULED or LOCKED (R131). -/
def State.storeHeld (s : State) (b : Nat) : Bool :=
  txInstances.any (fun x => s.txHolding x &&
    (s.tx.at x).staged.any (fun e => e.obj == O.SHADOW_APPLY.number && (e.values.headD 0).testBit b))

/-- SHADOW_STATE (R133). -/
def State.shadowState (s : State) : Nat :=
  b2n (s.dict.invalid.any (fun r => r.space == 1)) + 2 * b2n (s.dict.invalid.any (fun r => r.space == 2)) +
  4 * b2n (s.storeHeld 0) + 8 * b2n (s.storeHeld 1)

/-- SR_ENTRIES (R151): entries of all dies whose sector lies in a region. -/
def State.srEntries (s : State) (r : Nat) : Nat := countWhere s.dir.entry (fun e => s.inRegion r (entrySector e.1 e.2))

/-- Slots of every host in states that satisfy a test (R211). -/
def State.groupsWhere (s : State) (p : Nat → Bool) : Nat :=
  (List.range 64).foldl (fun n h => n + countWhere [1, 2, 3, 4, 5, 6, 7] (fun k => p (s.grpState h k))) 0

/-- UPSTREAM_COUNT (R108). -/
def State.upstreamCount (s : State) : Nat := (s.portsWith roleUpstream).length

/-- The two parts that the status words of R259 and R260 share: tokens, pending, the head's colour and FENCED. -/
def State.leafStatus (s : State) (k : Nat) : Nat :=
  let l := s.leaf k
  (BitVec.ofInt 32 l.tokens).toNat * 2 ^ 32 + b2n l.pending * 2 ^ 31 + s.headColour k * 2 ^ 29 +
    b2n (!l.fences.isEmpty) * 2 ^ 28

/-- LEAF_STATUS, CLS_STATUS and PORT_STATUS (R259, R260). -/
def State.leafStatusWord (s : State) (k : Nat) : Nat := s.leafStatus k + min (s.leaf k).queue.length 0xFFFFFF
def State.clsStatusWord (s : State) (p c : Nat) : Nat :=
  s.leafStatus (leafKey p c commonSlot) + min (s.classDepth p c) 0xFFFFFF
def State.portStatusWord (s : State) (p : Nat) : Nat :=
  (BitVec.ofInt 32 (s.egress p).tokens).toNat * 2 ^ 32 + b2n (s.egress p).pending * 2 ^ 31 +
    min (s.bypassDepth p) 0xFFFFFF

/-- SIDEBAND (R97, R107): the levels of PERST_N, PRSNT_N and CLKREQ_N. A port that has a role holds CLKREQ_N low while the mode powers
the datapath; otherwise no rule drives it. -/
def State.sideband (s : State) (p : Nat) : Nat :=
  let r := s.port p
  let perst := if s.role p = roleDownstream then r.perstOut else r.perstIn
  b2n (!perst) + 2 * b2n (!r.prsntLow) + 4 * b2n (!(s.role p != roleDisabled && s.datapathOn) && Config.clkreq p (s.portClock p))

/-- The master of an instance of class 06 (R408, R456). -/
def mpuMaster (i : Nat) : Nat :=
  if i < 0x10 then 0x400 + i
  else if i < 0x40 then 0x200 + (i - 0x10)
  else if i < 0xC0 then 0x300 + (i - 0x40)
  else if i = mpuDebug then 0x600
  else 0x500 + (i - 0xD0)

/-- Regions of all instances with a lock in force (R461). -/
def State.lockRegions (s : State) (l : Nat) : Nat :=
  s.mpuInstances.foldl (fun n i => n + countWhere (List.range 32) (fun r => (s.mpuRegion i r).lock == l)) 0

/-- What regions 28 to 31 of an engine's MPU show: the regions of the tenant whose queue the engine holds (R269, R473). -/
def State.engineRegion (s : State) (inst r : Nat) : MpuRegion :=
  let e := inst - 0x10
  match (s.engine (e / 4) (e % 4)).queue.bind s.queueTenant with
  | some t => (s.tenantRegions t).getD (r - 28) ⟨0, 0, 0⟩
  | none => ⟨0, 0, 0⟩

/-- The version that a die's firmware image reports (R400). -/
def State.firmware (s : State) (d : Nat) : Nat :=
  match (if s.sqs.cic.await.contains d || s.sqs.cic.old.contains d then s.sqs.cic.previous else s.sqs.cic.running) with
  | some f => f.version
  | none => Config.firmware.toNat % 2 ^ 32

/-- The digest of the microcode that the engines run (R396). -/
def State.microcode (s : State) : Nat :=
  match s.sqs.cic.running with | some f => f.microcode | none => Config.firmwareMicrocode.toNat

/-- Live objects of classes 01 to 14. DESIGN CHOICE (log 128): DRAIN_IDLE (R438, R441) reads 0 in every mode but DRAIN. -/
def State.liveLow (s : State) (o : Obj) : Option Nat :=
  let i := o.inst
  match o.cls, o.mem with
  | 0x01, 0x09 => some (b2n (s.mode == mDrain && s.drainIdle))
  | 0x01, 0x0A => some (b2n s.rst.auxRails + 2 * b2n s.rst.mainRails)
  | 0x02, 0x04 => if i = 0 then some ([1, 2, 3, 4, 5].foldl (fun m c => m + (if s.sourceOn (fun n => n == c) then 2 ^ c else 0)) 0)
                  else some (s.clockLock (i - 1))
  | 0x02, 0x01 => if i = 0 then none else some (s.blockIdleMask (i - 1))
  | 0x02, 0x03 => if i = 0 then none else
      some ((domainsOf (i - 1)).foldl (fun m k => m + s.domainState (i - 1) k * 4 ^ k) (if i = 1 then 0 else 3 * 4 ^ 9))
  | 0x03, 0x01 => if i = 0 then some (s.now 0) else some (b2n (s.timeOk (i - 1)))
  | 0x03, 0x02 => if i = 0 then some (s.stamp 0) else none
  | 0x04, 0x05 => if i = 0 then some s.sec.session.length else none
  | 0x06, m =>
    if i = 0x100 then some (s.lockRegions (m + 1))
    else if m = 0x60 then some (mpuMaster i)
    else if 0x10 ≤ i ∧ i < 0x40 ∧ 28 ≤ m % 0x20 ∧ m < 0x60 then
      let g := s.engineRegion i (m % 0x20)
      some (if m < 0x20 then g.lo else if m < 0x40 then g.hi else g.attr)
    else none
  | 0x07, 0x04 => if i = 0 then none else some (s.tx.at i).staged.length
  | 0x10, 0x02 => if i = 0x800 then some s.upstreamCount else none
  | 0x10, 0x03 => if i = 0x800 then some ((s.portsWith roleFm).headD 0xFF) else none
  | 0x10, 0x0B => if i = 0x800 then none else some (if s.get (O.PORT_WIDTH i) = 0 then 0 else s.ltssmOf i)
  | 0x10, 0x15 => if i = 0x800 then none else some (s.sideband i)
  | 0x11, 0x01 => some (s.leadOf (i / 4))
  | 0x13, 0x0D => some (s.spanRetrains i)
  | 0x14, 0x05 => if i = 0 then some s.eventsQueued else none
  | _, _ => none

/-- Live objects of classes 20 to 33. DEC_IDLE after a reset reads 0, as DEC_ADMIT reads 1 (log 131). -/
def State.liveMid (s : State) (o : Obj) : Option Nat :=
  let i := o.inst
  match o.cls, o.mem with
  | 0x20, 0x00 => some ((s.hostPort i).getD 0xFF)
  | 0x20, 0x01 => some (s.vcsState i)
  | 0x20, 0x02 => some ((s.poolVppb i).getD 0xFF)
  | 0x20, m => if 0x20 ≤ m ∧ m < 0x30 then some (s.vppbState i (m - 0x20))
               else if 0x40 ≤ m ∧ m < 0x50 then some (s.vppbOutstanding i (m - 0x40)) else none
  | 0x21, 0x07 => some (s.decOutstanding i)
  | 0x21, 0x08 => some (b2n (s.get (O.DEC_ADMIT i) == 0 && s.decOutstanding i == 0))
  | 0x22, m =>
    if i ≠ 0 then none
    else if m = 2 then some s.shadowState
    else if m = 3 then some s.map.extStage.length
    else if m = 4 then some s.map.grnStage.length
    else if m = 5 then some s.drainedEpoch
    else if m = 6 then some (countWhere (List.range 32) (fun k => s.get (O.MIG_STATE k) != migIdle))
    else none
  | 0x28, 0x03 => if 1 ≤ i ∧ i < 0x100 then some (s.entriesOf (i - 1)).length else none
  | 0x28, 0x04 => if 1 ≤ i ∧ i < 0x100 then some (countWhere (s.entriesOf (i - 1)) (fun e => e.2.pin != 0)) else none
  | 0x29, m =>
    if i = 0x200 then
      (if m = 1 then some (7 * s.upstreamCount)
       else if m = 2 then some (s.groupsWhere (fun g => g == grpOpen || g == grpCommitting || g == grpApplying))
       else if m = 3 then some (s.groupsWhere (fun g => g == grpApplying))
       else if m = 4 then some ((List.range s.dies).foldl (fun a d => max a (s.marksOf d)) (s.get O.SLT_PEAK)) else none)
    else if i % 8 = 0 ∧ m = 6 then
      some (countWhere [1, 2, 3, 4, 5, 6, 7] (fun k => s.grpState (i / 8) k != grpIdle))
    else none
  | 0x2A, 0x08 => some (s.srEntries i)
  | 0x30, m =>
    if i = 0x400 then
      (if m = 0 then some s.freeTenants else if m = 1 then some s.nextFree
       else if m = 2 then some (4 - s.ten.store.length) else none)
    else if m = 1 then some (s.tenantState i)
    else if m = 3 then some (b2n (s.tenantIdle i))
    else if m = 4 then some (s.tenantWork i)
    else if m = 0x13 then some (s.imageState i)
    else none
  | 0x31, m =>
    if i < 0x400 then (if m % 4 = 2 then some (s.leafStatusWord (leafKey (i / 8) (i % 8) (m / 4))) else none)
    else if m = 0x21 then some (s.portStatusWord (i - 0x400))
    else if m < 0x20 ∧ m % 4 = 3 then some (s.clsStatusWord (i - 0x400) (m / 4))
    else none
  | 0x32, 0x08 => some (b2n ((List.range s.dies).any (fun d => (s.bucket d i).pending)))
  | _, _ => none

/-- Live objects of classes 38 to 61. -/
def State.liveHigh (s : State) (o : Obj) : Option Nat :=
  let i := o.inst
  match o.cls, o.mem with
  | 0x38, 0x02 => some (b2n (s.queueIdle i))
  | 0x39, m =>
    if i = 0x100 then (if m = 1 then some (s.queuesWith qEnabled) else if m = 2 then some (s.queuesWith qHalted) else none)
    else if m = 0 then some (s.engineState (i / 4) (i % 4))
    else if m = 1 then some (s.engineQueue (i / 4) (i % 4))
    else if m = 2 then some (s.engineLines (i / 4) (i % 4))
    else if m = 6 then some ((Config.microcode s.microcode).toNat % 2 ^ 32)
    else none
  | 0x41, 0x01 => if i = 0 then none else some (s.flt.die.at (i - 1)).queue.length
  | 0x41, 0x02 => if i = 0 then none else some (max (s.get (O.FD_REACT_PEAK (i - 1))) (s.flt.die.at (i - 1)).queue.length)
  | 0x41, 0x03 => if i = 0 then none else some (min 32 (s.noticesHeld (i - 1)))
  | 0x42, 0x00 => some s.mxActive
  | 0x48, m => if 0x400 ≤ i ∧ m < 0x20 ∧ m % 4 = 1 then some (s.tcValue (i - 0x400) (m / 4)) else none
  | 0x50, 0x07 => some (s.tempUsed i)
  | 0x50, 0x0A => some (s.condRead i)
  | 0x50, 0x13 => some (max (s.get (O.CH_PEAK_I i)) (s.get (O.CH_IOUT i)))
  | 0x50, 0x0E => some (ofS32 (s.fetTemp i))
  | 0x51, 0x11 => some (s.chMask (fun st => st == chOn))
  | 0x51, 0x12 => some (s.chMask (fun st => st == chTripped || st == chDamaged))
  | 0x59, 0x09 => if 1 ≤ i ∧ i < 0x100 then some (min (s.get (O.FREE_LOW (i - 1))) (s.get (O.CELLS_FREE (i - 1)))) else none
  | 0x59, 0x01 => if 0x100 ≤ i then some (max (s.get (O.EGRESS_PEAK (i - 0x100))) (s.get (O.EGRESS_CELLS (i - 0x100)))) else none
  | 0x5A, 0x02 => if i = 0 then none else some (8192 - s.trackersUsed (i - 1))
  | 0x61, 0x01 => if i = 0 then none else some (s.firmware (i - 1))
  | _, _ => none

/-- The value of a live object; none where the object is held. -/
def State.liveRead (s : State) (o : Obj) : Option Nat :=
  if o.cls < 0x20 then s.liveLow o else if o.cls < 0x38 then s.liveMid o else s.liveHigh o

/-- The value a read of an object's slot returns. -/
def State.readObj (s : State) (o : Obj) : Nat := (s.liveRead o).getD (s.get o)

end Sys2Proof.Machine
end

