-- ==== Sys2Proof/Machine/Dict.lean ====
section
/-! DEFINITION. The object dictionary's checks of an access (R33 to R41, R271, R419): the requester classes and their rights,
the domain that holds an object, and the values that types, limits and layouts allow. -/
namespace Sys2Proof.Machine

/-! ## Requesters (R34, R49, R51, R71) -/

/-- The requester classes of R34. -/
inductive ReqClass where
  | fm | ten | host | dbg
  deriving DecidableEq, Repr

/-- The class whose rights an interface has. -/
def ifcClass : Iface → ReqClass
  | .mailbox _ => .ten
  | .counterPage _ => .host
  | .debug => .dbg
  | _ => .fm

/-- The instance of class 7E, and 7F less one, that serves an interface (R49, R51). -/
def ifcPort : Iface → Option Nat
  | .ihlod => some 0
  | .inband => some 1
  | .cicada _ => some 2
  | _ => none

/-- The instance of class 07 through which an interface holds its transaction (R71). -/
def ifcTx : Iface → Option Nat
  | .ihlod => some 1
  | .inband => some 2
  | .cicada _ => some 3
  | .click _ => some 4
  | _ => none

/-- The right a row gives a class: 0 none, 1 read only, 2 the listed access. -/
def Row.right (r : Row) : ReqClass → Nat
  | .fm => r.rights.fm
  | .ten => r.rights.ten
  | .host => r.rights.host
  | .dbg => r.rights.dbg

/-- The instances a tenant's mailbox reaches (R271). -/
def State.tenantOwns (s : State) (t : Nat) (o : Obj) : Bool :=
  match o.cls with
  | 0x30 => o.inst == t
  | 0x32 => o.inst / 2 == t
  | 0x38 => (s.tenantQueues t).contains o.inst
  | 0x48 => o.inst == 0x400 + t
  | 0x10 => s.hostPort (s.tenantHost t) == some o.inst
  | 0x20 => o.inst == s.tenantHost t
  | 0x2A => (s.get (O.SR_HOSTS o.inst)).testBit (s.tenantHost t)
  | 0x00 | 0x01 | 0x03 | 0x04 | 0x07 | 0x28 | 0x7F => o.inst == 0
  | _ => false

/-- Check 2 of R39: the interface's class holds a right to the object, and the object is one the interface reaches (R34, R51,
R271). Of a data port instance of another interface the debug access port reads what its rights name. -/
def State.rightTo (s : State) (ifc : Iface) (o : Obj) (r : Row) : Nat :=
  match ifc with
  | .mailbox t => if s.tenantOwns t o then r.rights.ten else 0
  | .counterPage _ => r.rights.host
  | .debug => r.rights.dbg
  | .click _ => if o.cls = 0x04 ∨ o.cls = 0x05 ∨ o.cls = 0x06 ∨ o.cls = 0x61 ∨ o.cls = 0x7E then 0 else r.rights.fm
  | _ => if o.cls = 0x7E ∧ ifcPort ifc ≠ some o.inst then 0 else r.rights.fm

/-! ## Where an object lies (R426) -/

/-- The die and the domain that hold an object (R18, R401, R426). The group slots of a host lie on the die of its port (R188).
DESIGN CHOICE (log 101): the objects of virtual switches and of tenants, for which R426 names no domain, and those of the tables that
every die holds (classes 20, 21, 22, 2A, 30, 32), for which R18 names no die, are served by die 0's DATAPATH. The Weevil's objects of class
59 are AUDITOR's (R426). -/
def State.homeOf (s : State) (o : Obj) : Nat × Nat :=
  let i := o.inst
  let die := fun (k : Nat) => if k ≤ i ∧ i < k + s.dies then i - k else 0
  match o.cls with
  | 0x00 | 0x01 | 0x02 | 0x03 | 0x41 => (die 1, dMgmt)
  | 0x04 => (if 0x100 ≤ i then (i - 0x100) / 16 else 0, dMgmt)
  | 0x06 => (if i < 0x10 then i else if i < 0x40 then (i - 0x10) / 4 else if i < 0x80 then (i - 0x40) / 8 else 0, dMgmt)
  | 0x40 => (sourceDie i, dMgmt)
  | 0x10 => (if i < 0x800 then i / 16 else 0, dDatapath)
  | 0x11 => (i / 64, dDatapath)
  | 0x12 => if 0x100 ≤ i ∧ i < 0x120 then ((i - 0x100) / 4, dDatapath) else if i = 0 then (0, dDatapath) else (0, dMgmt)
  | 0x13 => (i / 4, dDatapath)
  | 0x29 => (s.hostDie (i / 8), dDatapath)
  | 0x20 | 0x21 | 0x22 | 0x2A | 0x30 | 0x32 => (0, dDatapath)
  | 0x28 => (if 0x100 ≤ i then (i - 0x100) / 16 else die 1, dDatapath)
  | 0x31 => (if i < 0x400 then i / 128 else (i - 0x400) / 16, dDatapath)
  | 0x33 => (if i = 0 then 0 else if i < 0x800 then (i - 0x100) / 128 else (i - 0x800) / 16, dDatapath)
  | 0x38 => (s.queueDie i, dMover)
  | 0x39 => (if i < 0x100 then i / 4 else 0, dMover)
  | 0x48 => (if 0x400 ≤ i then s.tenantHome (i - 0x400) else if 0x100 ≤ i then (i - 0x100) / 64 else 0, dCounters)
  | 0x58 => (if 0x100 ≤ i then (i - 0x100) / 8 else i - 1, dCapture)
  | 0x59 => (if 0x100 ≤ i then (i - 0x100) / 16 else die 1,
      if (i = 0 ∧ 1 ≤ o.mem ∧ o.mem ≤ 3) ∨ (1 ≤ i ∧ i < 0x100 ∧ ((0x0A ≤ o.mem ∧ o.mem ≤ 0x0D) ∨ o.mem = 0x11)) then dAuditor else dDatapath)
  | 0x5A => (die 1, dAuditor)
  | 0x60 => if i < 0x40 then (i / 8, dSequencers) else (0, dTileSequencers)
  | 0x61 => (die 1, dMgmt)
  | _ => (0, dMgmt)

/-- The block that holds an object is powered and running (R41, R426). -/
def State.servesObj (s : State) (o : Obj) : Bool := let h := s.homeOf o; s.mode != 0 && s.domainOn h.1 h.2

/-- The classes that accept writes in SAFE (R419). -/
def safeClass (c : Nat) : Bool := [0x02, 0x03, 0x05, 0x14, 0x40, 0x41, 0x50, 0x51, 0x7E, 0x7F].contains c

/-! ## Checks 1 to 5 of R39 -/

/-- The transaction state that an RW-T write meets (R38, R73). -/
def State.stageStatus (s : State) (ifc : Iface) : Nat :=
  match ifcTx ifc with
  | none => stDenied
  | some x =>
    let st := s.get (O.TX_STATE x)
    if st = txOpenSt then stOk
    else if st = txPreparing ∨ st = txReady ∨ st = txScheduled ∨ st = txLocked then stBusy
    else stDenied

/-- Members that only one interface stages or writes: TX_CMD its own instance's (R71), which no STO is (R71, R387), every member of
07.004 not by STO (R387), a Cicada pair's MPU only Cicada, and regions 28 to 31 of an engine's MPU nobody (R460). -/
def reservedTo (ifc : Iface) (o : Obj) : Bool :=
  match o.cls with
  | 0x07 => match ifc with
            | .click _ => o.inst == 4 || o.mem == 0
            | _ => o.mem == 0 && ifcTx ifc != some o.inst
  | 0x06 => (match ifc with
             | .cicada _ => false
             | _ => decide (o.inst < 0x10)) ||
            decide (0x10 ≤ o.inst ∧ o.inst < 0x40 ∧ 28 ≤ o.mem % 0x20 ∧ o.mem < 0x60)
  | _ => false

/-- Checks 1 to 4 of a read. -/
def State.readStatus (s : State) (ifc : Iface) (o : Obj) : Nat :=
  match rowOf s.variant o with
  | none => stBadObject
  | some r =>
    if s.rightTo ifc o r = 0 then stDenied
    else if r.acc = Access.wo then stDenied
    else if s.servesObj o = false then stBusy
    else stOk

/-- Check 3 of a write. -/
def State.writeAllowed (s : State) (ifc : Iface) (o : Obj) (r : Row) : Nat :=
  match r.acc with
  | .ro | .rc => stDenied
  | .rwt => if reservedTo ifc o then stDenied else s.stageStatus ifc
  | _ => if reservedTo ifc o then stDenied else stOk

/-- Checks 4 and 5 of a write, which PREPARE repeats (R74). -/
def State.openStatus (s : State) (o : Obj) (r : Row) : Nat :=
  if s.servesObj o = false then stBusy
  else if r.config ∧ s.mode ≠ mConfig then stBusy
  else if s.mode = mSafe ∧ safeClass o.cls = false ∧ r.acc ≠ Access.w1c then stBusy
  else if s.objRetired o then stRetired
  else stOk

/-- Checks 1 to 5 of a write. -/
def State.writeStatus (s : State) (ifc : Iface) (o : Obj) : Nat :=
  match rowOf s.variant o with
  | none => stBadObject
  | some r =>
    if s.rightTo ifc o r < 2 then stDenied
    else if s.writeAllowed ifc o r ≠ stOk then s.writeAllowed ifc o r
    else s.openStatus o r

/-! ## Check 6: values (R36) -/

/-- The value fits its type's place in a slot. -/
def Ty.fits (t : Ty) (v : Nat) : Bool :=
  match t with
  | .s32 => v == ofS32 (toS32 (v % 2 ^ 32))
  | _ => decide (v < 2 ^ t.bits)

/-- The value meets the limit of the owning table. -/
def Limit.ok (l : Limit) (v : Nat) : Bool :=
  match l with
  | .any => true
  | .range lo hi => decide (lo ≤ v ∧ v ≤ hi)
  | .rangeOr lo hi other => decide (lo ≤ v ∧ v ≤ hi ∨ v = other)
  | .zeroOr lo hi => decide (v = 0 ∨ lo ≤ v ∧ v ≤ hi)
  | .oneOf vs => vs.contains v
  | .mask m => maskWithout v m == 0
  | .aligned a lo hi => decide (v % a = 0 ∧ lo ≤ v ∧ v ≤ hi)
  | .pow2Or0 lo hi => decide (v = 0) || (decide (lo ≤ v ∧ v ≤ hi) && (List.range 64).any (fun k => v == 2 ^ k))

/-- Bits of a value that a layout leaves reserved are zero. -/
def within (v m : Nat) : Bool := maskWithout v m == 0

/-- VPPB_BIND (R111). -/
def vppbLayout (v : Nat) : Bool :=
  within v 0xC3FF0F7F && bindKind v != 3 && (bindKind v == bindDevice || (bindLd v == 0 && bindPort v == 0))

/-- DEC_CTRL (R118). -/
def decLayout (v : Nat) : Bool :=
  within v 0x9FFF0F3F && [0, 1, 2, 3, 4, 8, 9, 10].contains (bitsOf v 23 20) && decide (bitsOf v 19 16 ≤ 6) &&
  decide (bitsOf v 11 8 < hostWays (bitsOf v 23 20)) && decide (v % 16 ≤ 6)

/-- EXT_ENTRY (R124). -/
def extLayout (v : Nat) : Bool :=
  !v.testBit 27 && extKind v != 3 && extRegion v != 3 &&
  (extKind v != 0 || v % 2 ^ 30 == 0) && (extKind v != 2 || decide (bitsOf v 26 16 = 0 ∧ bitsOf v 15 9 = 0))

/-- GRN_ENTRY (R125). -/
def grnLayout (v : Nat) : Bool :=
  within v 0xFFFFFFFFFC3F && grnKind v != 3 && decide (grnSlot v ≤ 31) && (grnKind v == 2 || grnSlot v == 0)

/-- The layouts that no limit of an object's row says (R111, R118, R124, R125, R139, R253, R259, R261, R282, R305, R311, R457, R475), and
the limits that depend on the variant (R405, R475). -/
def State.layoutOk (s : State) (o : Obj) (v : Nat) : Bool :=
  match o.cls with
  | 0x20 => if 0x10 ≤ o.mem ∧ o.mem < 0x20 then vppbLayout v else true
  | 0x21 => if o.mem = 1 then decLayout v else true
  | 0x22 =>
    if 0x100 ≤ o.inst ∧ o.inst < 0x400 then extLayout v
    else if 0x400 ≤ o.inst then grnLayout v
    else if 1 ≤ o.inst ∧ o.inst ≤ 0x20 ∧ o.mem = 1 then within v 0x3FFFFFFFFC00
    else true
  | 0x31 =>
    if o.inst < 0x400 then
      (if o.mem % 4 = 0 then within v 0x800003FF0000FFFF else if o.mem % 4 = 1 then within v 0xF0FFFFFF00FFFFFF else true)
    else if o.mem = 0x20 ∨ (o.mem < 0x20 ∧ o.mem % 4 = 2) then within v 0xF0FFFFFF00FFFFFF else true
  | 0x32 => if o.mem = 0 then within v 0xFC0000000007FFFF else true
  | 0x06 => if 0x40 ≤ o.mem ∧ o.mem < 0x60 then within v 0xE0000007 && bitsOf v 30 29 != 3 else true
  | 0x38 => if o.mem = 1 then decide (v ≤ 3) else if o.mem = 0x15 then v / 2 == 0 else true
  | 0x40 =>
    if o.mem = 0 then !(o.inst % 512 == 0x1E0 || o.inst % 512 == 0x1E1) || v == 5
    else if o.mem = 1 then v == 0xFF || s.seqExists v else true
  | 0x48 =>
    if 0x100 ≤ o.inst ∧ o.inst < 0x400 ∧ o.mem = 0 then s.selectOk v (some ((o.inst - 0x100) / 64))
    else if 0x400 ≤ o.inst ∧ o.mem < 0x20 ∧ o.mem % 4 = 0 then s.selectOk v none
    else true
  | _ => true

/-- Check 6: one slot of an object takes a value. `k` is the slot within an OCTETS object. -/
def State.valueOk (s : State) (o : Obj) (r : Row) (k v : Nat) : Bool :=
  match r.ty with
  | .octets n => decide (8 * k + 8 ≤ n ∨ v < 2 ^ (8 * (n - 8 * k)))
  | t => t.fits v && r.limit.ok v && s.layoutOk o v

/-- Checks 1 to 6 of a write; `form` is false where the access's form does not suit the object (R43). -/
def State.writeCheck (s : State) (ifc : Iface) (o : Obj) (form : Bool) (vs : List Nat) : Nat :=
  if s.writeStatus ifc o ≠ stOk then s.writeStatus ifc o
  else match rowOf s.variant o with
    | none => stBadObject
    | some r => if form && (vs.zipIdx).all (fun p => s.valueOk o r p.2 p.1) then stOk else stBadValue

end Sys2Proof.Machine
end

