-- ==== Sys2Proof/Machine/Prepare.lean ====
section
/-! DEFINITION. Validation of a transaction (R74, R75): the writes that a staged set brings, the state before and after the
set, and the checks of the owning chapters on bindings, decoders, maps, migrations, regions, leaves, shapers, meters,
tenants, queues and MPU regions. -/
namespace Sys2Proof.Machine

/-! ## Write sets (R73, R75, R132, R276, R282) -/

/-- A write of a set: the staging index of the write that brings it, the object, its values, whether it is implicit, and whether it
is the release of an object of a tenant (R276). -/
structure SetWrite where
  idx : Nat
  obj : Obj
  values : List Nat
  implicit : Bool
  release : Bool := false
  deriving DecidableEq, Repr

/-- Lay values on an object's slots. -/
def State.layValues (s : State) (o : Obj) (vs : List Nat) : State :=
  forEach vs.zipIdx (fun p s => s.put ⟨o.cls, o.inst, o.mem + p.2⟩ p.1) s

/-- Lay writes on a state in order. -/
def State.lay (s : State) (ws : List SetWrite) : State := forEach ws (fun w s => s.layValues w.obj w.values) s

/-- The staged shadow entries that SHADOW_APPLY selects (R132). -/
def State.shadowWrites (s : State) (idx v : Nat) : List SetWrite :=
  (if v.testBit 0 then s.map.extStage.map (fun e => (⟨idx, O.EXT_ENTRY e.1, [e.2], true, false⟩ : SetWrite)) else []) ++
  (if v.testBit 1 then s.map.grnStage.map (fun e => (⟨idx, O.GRN_ENTRY e.1, [e.2], true, false⟩ : SetWrite)) else [])

/-- The releases of a tenant as writes (R276). -/
def State.releaseWrites (s : State) (idx t : Nat) : List SetWrite :=
  (s.releaseObjs t).map (fun o => (⟨idx, o, [defaultOf s.variant o], true, true⟩ : SetWrite))

/-- The SETTING records of a restore as writes, after the releases of a FROZEN tenant (R282, R283). -/
def State.restoreWrites (s : State) (idx t v : Nat) : List SetWrite :=
  (if s.tenantState t = tFrozen then s.releaseWrites idx t else []) ++
  ((s.restoreRecords t (v % 64)).filter (fun r => r.kind == kSetting)).map
    (fun r => (⟨idx, Obj.ofNumber r.obj, [r.value], true, false⟩ : SetWrite))

/-- The staged writes of a transaction with their staging indexes. -/
def State.stagedOf (s : State) (x : Nat) : List SetWrite :=
  (s.tx.at x).staged.zipIdx.map (fun p => (⟨p.2, Obj.ofNumber p.1.obj, p.1.values, false, false⟩ : SetWrite))

/-- A write of T_CFG that clears ENABLE of an enabled tenant, and a write of T_RESTORE with GO. -/
def State.removes (s : State) (w : SetWrite) : Bool :=
  w.obj.cls == 0x30 && w.obj.mem == 0 && decide (w.obj.inst < 1024) && s.tenantOn w.obj.inst && !(w.values.headD 0).testBit 63
def SetWrite.restores (w : SetWrite) : Bool :=
  w.obj.cls == 0x30 && w.obj.mem == 0x12 && decide (w.obj.inst < 1024) && (w.values.headD 0).testBit 63

/-- The write set of a transaction in order: each staged write, with the writes it implies; what a removal releases comes
last. T_RESTORE reads 0 after the apply (R285); SHADOW_APPLY reads the applied value, as an RW-T object does (R38, R133). -/
def State.setWrites (s : State) (x : Nat) : List SetWrite :=
  let staged := s.stagedOf x
  (staged.map (fun w =>
    if w.restores then { w with values := [0] } :: s.restoreWrites w.idx w.obj.inst (w.values.headD 0)
    else if w.obj = O.SHADOW_APPLY then w :: s.shadowWrites w.idx (w.values.headD 0)
    else if w.obj.cls = 0x30 ∧ w.obj.mem = 0x12 then [{ w with values := [0] }]
    else [w])).flatten ++
  ((staged.filter s.removes).map (fun w => s.releaseWrites w.idx w.obj.inst)).flatten

/-- The state before a transaction's set: with the sets of every other transaction that is READY, SCHEDULED or LOCKED laid over
it (R74). -/
def State.before (s : State) (x : Nat) : State :=
  forEach (txInstances.filter (fun y => y != x && s.txHolding y)) (fun y t => t.lay (s.setWrites y)) s

/-! ## What a set is judged by -/

/-- What the checks know: the state as it is, with the other sets, and with this set too; the set's writes; the transaction's
interface; the tenants that this set removes or restores. -/
structure Judge where
  now : State
  pre : State
  post : State
  ws : List SetWrite
  inst : Nat
  freed : List Nat
  restored : List Nat

/-- A check of an owning chapter: whether it is met, the status where it is not, and the objects it judges (R74). -/
structure Check where
  ok : Bool
  status : Nat
  about : List Obj

/-- A change of an object's value by the set. -/
def Judge.changes (j : Judge) (o : Obj) : Bool := j.pre.get o != j.post.get o

/-- The first check of a list that is not met, and those that are not. -/
def firstBad (l : List Check) : Option Check := l.find? (fun c => !c.ok)
def allBad (l : List Check) : List Check := l.filter (fun c => !c.ok)

/-- A status unless a condition holds. -/
def need (ok : Bool) (st : Nat) : Nat := if ok then stOk else st

/-- Two ranges from `a` and `c`, of lengths `n` and `m`, share a byte. -/
def meets (a n c m : Nat) : Bool := decide (max a c < min (a + n) (c + m))

/-! ## Maps: entries and device ranges (R129, R138 to R142) -/

/-- The valid extent entries and granule entries listed, by index. -/
def State.validExts (s : State) : List (Nat × Nat) :=
  (s.regs.filter (fun e => decide (e.1 / 0x100 % 0x100 = 0x22 ∧ 0x100 ≤ e.1 / 0x10000 ∧ e.1 / 0x10000 < 0x400) && extKind e.2.toNat != 0)).map
    (fun e => ((e.1 / 0x10000 - 0x100) * 256 + e.1 % 0x100, e.2.toNat))
def State.validGrns (s : State) : List (Nat × Nat) :=
  (s.regs.filter (fun e => decide (e.1 / 0x100 % 0x100 = 0x22 ∧ 0x400 ≤ e.1 / 0x10000) && grnKind e.2.toNat != 0)).map
    (fun e => ((e.1 / 0x10000 - 0x400) * 256 + e.1 % 0x100, e.2.toNat))

/-- A device range: the entry that covers it (2 × extent, 2 × granule + 1), its port, LD, first DPA and length. -/
structure Span where
  key : Nat
  port : Nat
  ld : Nat
  lo : Nat
  len : Nat
  deriving DecidableEq, Repr

/-- The device range of a granule-format word. -/
def grnSpan (key w : Nat) : Span := ⟨key, grnPort w, grnLd w, grnDpa w * 2 ^ 21, 2 ^ 21⟩
def extSpan (e w : Nat) : Span := ⟨2 * e, extPort w, extLd w, extTarget w * 2 ^ 30, 2 ^ 30⟩

/-- The device ranges of the valid entries. -/
def State.spans (s : State) : List Span :=
  (s.validExts.filter (fun e => extKind e.2 == 1)).map (fun e => extSpan e.1 e.2) ++
  s.validGrns.map (fun g => grnSpan (2 * g.1 + 1) g.2)

/-- Two ranges of one logical device share a byte. -/
def Span.meets (a b : Span) : Bool := a.port == b.port && a.ld == b.ld && Machine.meets a.lo a.len b.lo b.len

/-- The PORT, LD and DPA_2M fields of a granule-format word. -/
def placeBits (w : Nat) : Nat := w / 2 ^ 10 % 2 ^ 36

/-- A granule that becomes MIGRATING under slot `m` by the sets that are laid over a state. -/
def State.migStart (post : State) (m : Nat) : Option Nat :=
  let g := post.get (O.MIG_GRANULE m)
  if g < 0x40000 ∧ grnKind (post.get (O.GRN_ENTRY g)) = 2 ∧ grnSlot (post.get (O.GRN_ENTRY g)) = m then some g else none

/-- What a migration slot is after the sets laid over `now` (R139, R142): its state, the destination range it covers while it
is neither IDLE nor DRAINING, and the range it holds while DRAINING. -/
def slotAfter (now post : State) (m : Nat) : Nat × Option Span × Option Span :=
  let st := now.get (O.MIG_STATE m)
  let dest := fun (s : State) => some (grnSpan 0 (s.get (O.MIG_DEST m)))
  if st = migIdle then
    match post.migStart m with
    | some _ => (migMirror, dest post, none)
    | none => (migIdle, none, none)
  else if st = migDraining then (migDraining, none, some (grnSpan 0 (now.migSlot m).held))
  else
    let w := now.get (O.GRN_ENTRY (now.get (O.MIG_GRANULE m)))
    let w' := post.get (O.GRN_ENTRY (now.get (O.MIG_GRANULE m)))
    if grnKind w' = 1 then
      (migDraining, none, if placeBits w' = placeBits w then dest now else some (grnSpan 0 w))
    else (st, dest now, none)

/-- A migration slot that is not IDLE, or becomes busy by the sets laid over `now`, names a logical device (R113): by the destination
that its MIG_DEST gives, while DRAINING too, or by the range that it holds. -/
def slotNames (now post : State) (m p ld : Nat) : Bool :=
  let x := slotAfter now post m
  let dest := if x.1 = migIdle then none else some (grnSpan 0 ((if now.get (O.MIG_STATE m) = migIdle then post else now).get (O.MIG_DEST m)))
  [dest, x.2.1, x.2.2].any (fun r => match r with
    | some r => r.port == p && r.ld == ld
    | none => false)

/-- An LD that a binding or an entry may name on a port (R113): any on a port that is not UP, below LD_COUNT of a multi-logical
device, 0 of a single-logical one. -/
def State.ldValid (s : State) (p ld : Nat) : Bool :=
  s.linkState p != lsUp || decide (ld < max 1 (s.get (O.LD_COUNT p)))

/-- A port that exists, is DOWNSTREAM, and may be named with an LD. -/
def State.targetOk (s : State) (p ld : Nat) : Bool :=
  decide (p < s.ports) && s.role p == roleDownstream && s.ldValid p ld

/-- A logical device is bound to a vPPB. -/
def State.ldBound (s : State) (p ld : Nat) : Bool :=
  s.bindings.any (fun b => bindKind b.2.2 == bindDevice && bindPort b.2.2 == p && bindLd b.2.2 == ld)

/-! ## Decoders (R113, R120, R121, R130, R134, R148, R208, R268) -/

/-- The tenant whose requests a decoder carries: DEC_TENANT, or the tenant of the vPPB it targets (R273, R504). -/
def State.decTenant (s : State) (n : Nat) : Nat :=
  let d := s.decoder n
  if d.isVppb then
    let w := s.get (O.VPPB_BIND (n / 16) d.vppb)
    if bindKind w = bindDevice then bindTenant w else 0xFFFF
  else d.tenant

/-- A tenant that is enabled and does not admit, and one that is quiesced (R273). -/
def State.holdsBack (s : State) (t : Nat) : Bool := s.tenantOn t && s.get (O.T_ADMIT t) == 0

/-- A decoder is idle (R121, R273): a tenant counts as its own that its DEC_TENANT names, of either target kind, and the one whose requests
it carries. -/
def State.decIdle (s : State) (n : Nat) : Bool :=
  let ts := [s.decTenant n, (s.decoder n).tenant]
  (s.get (O.DEC_ADMIT n) == 0 || ts.any s.holdsBack) && (s.decOutstanding n == 0 || ts.any s.quiesced)

/-- A vPPB is idle for rule 4 of R113. -/
def State.vppbIdle (s : State) (h v : Nat) : Bool :=
  let w := s.get (O.VPPB_BIND h v)
  let t := if bindKind w = 0 then 0xFFFF else bindTenant w
  (s.get (O.VPPB_ADMIT h v) == 0 || s.holdsBack t) && (s.vppbOutstanding h v == 0 || s.quiesced t)

/-- Some RW-T member of a decoder changes between two states. -/
def decChanged (a b : State) (n : Nat) : Bool := a.decoder n != b.decoder n

/-- The fabric ranges that back a tenant's decoder: the enabled regions and its extent slice, as first byte and length. -/
def State.backing (s : State) (t : Nat) : List (Nat × Nat) :=
  (s.get (O.T_EXT_FIRST t) * 2 ^ 30, s.get (O.T_EXT_COUNT t) * 2 ^ 30) ::
    s.regions.map (fun r => (s.get (O.SR_BASE r), s.get (O.SR_SIZE r)))

/-- A range lies wholly in a list of ranges: each step leaps over what one of them covers. -/
def coveredBy (rs : List (Nat × Nat)) (a stop fuel : Nat) : Bool :=
  match fuel with
  | 0 => decide (stop ≤ a)
  | fuel + 1 =>
    if stop ≤ a then true
    else match rs.find? (fun r => decide (r.1 ≤ a ∧ a < r.1 + r.2)) with
      | some r => coveredBy rs (r.1 + r.2) stop fuel
      | none => false

/-- The conditions of the table of R120 on a decoder's own members, in its order, with the members each judges. -/
def Dec.shapeChecks (d : Dec) (n : Nat) : List Check :=
  let m := 0x10000000
  let g := 0x40000000
  let ctrl := O.DEC_CTRL n
  [⟨d.base % m == 0, stBadValue, [O.DEC_HPA_BASE n]⟩,
   ⟨d.size != 0, stBadValue, [O.DEC_HPA_SIZE n]⟩,
   ⟨decide (d.base + d.size ≤ 2 ^ 52), stBadValue, [O.DEC_HPA_BASE n, O.DEC_HPA_SIZE n]⟩,
   ⟨d.q % m == 0 && decide (d.q * ((if d.aliased then 8 else 1) * max d.hw 1) = d.size), stBadValue, [O.DEC_HPA_SIZE n, ctrl]⟩] ++
  (if d.isVppb then [⟨d.fw == 1 && !d.aliased, stBadValue, [ctrl]⟩, ⟨d.fbase == 0, stBadValue, [O.DEC_FABRIC_BASE n, ctrl]⟩]
   else
    [⟨d.fbase % m == 0, stBadValue, [O.DEC_FABRIC_BASE n]⟩,
     ⟨decide (d.fbase + d.q ≤ 2 ^ 47), stBadValue, [O.DEC_FABRIC_BASE n, O.DEC_HPA_SIZE n, ctrl]⟩,
     ⟨decide (d.tenant < 1024), stBadValue, [O.DEC_TENANT n]⟩,
     ⟨d.fw == 1 || d.q % (d.fw * g) == 0, stBadValue, [O.DEC_HPA_SIZE n, ctrl]⟩,
     ⟨d.fw == 1 || d.fbase % g == 0, stBadValue, [O.DEC_FABRIC_BASE n, ctrl]⟩,
     ⟨!d.aliased || (d.hiw == 0 && d.fw == 1), stBadValue, [ctrl]⟩])

/-- The other conditions on an enabled decoder after the set: no overlap with another of its host, a target that exists (rule 5
of R113), extents of an ALIASED range (R134), the regions it meets (R148), and its tenant (R268). -/
def State.decPlaced (s : State) (n : Nat) : List Check :=
  let d := s.decoder n
  let h := n / 16
  let mine := s.enabledDecs.filter (fun k => k / 16 == h && k != n)
  let range := [O.DEC_FABRIC_BASE n, O.DEC_HPA_SIZE n, O.DEC_CTRL n]
  ⟨mine.all (fun k => !meets d.base d.size (s.decoder k).base (s.decoder k).size), stBadValue, [O.DEC_HPA_BASE n, O.DEC_HPA_SIZE n]⟩ ::
  (if d.isVppb then [⟨bindKind (s.get (O.VPPB_BIND h d.vppb)) == bindDevice, stBadValue, [O.DEC_CTRL n]⟩]
   else
    [⟨(s.poolVppb h).isSome, stBadValue, [O.DEC_CTRL n]⟩,
     ⟨!d.aliased || s.validExts.all (fun e => !meets (e.1 * 2 ^ 30) (2 ^ 30) d.fbase d.q || extRegion e.2 == regionSharedTx), stBadValue, range⟩,
     ⟨s.regions.all (fun r =>
        let b := s.get (O.SR_BASE r)
        let z := s.get (O.SR_SIZE r)
        !meets b z d.fbase d.q ||
          ((s.get (O.SR_HOSTS r)).testBit h &&
           mine.all (fun k =>
             let e := s.decoder k
             e.isVppb || !decide (max (max e.fbase d.fbase) b < min (min (e.fbase + e.q) (d.fbase + d.q)) (b + z))))), stBadValue, range⟩,
     ⟨s.tenantOn d.tenant && s.tenantHost d.tenant == h, stBadValue, [O.DEC_TENANT n]⟩,
     ⟨coveredBy (s.backing d.tenant) d.fbase (d.fbase + d.q) 66, stBadValue, range ++ [O.DEC_TENANT n]⟩])

/-- A group of a host is OPEN, COMMITTING or APPLYING (R208). -/
def State.groupsBusy (s : State) (h : Nat) : Bool :=
  [1, 2, 3, 4, 5, 6, 7].any (fun k =>
    let st := s.grpState h k
    st == grpOpen || st == grpCommitting || st == grpApplying)

/-- The members of a class and instance that the set changes. -/
def Judge.changed (j : Judge) (objs : List Obj) : List Obj := objs.filter j.changes

/-- The checks on a decoder. -/
def Judge.dec (j : Judge) (n : Nat) : List Check :=
  let a := j.pre.decoder n
  let b := j.post.decoder n
  let own := j.changed ((List.range 6).map (fun m => (⟨0x21, n, m⟩ : Obj)))
  (if b.enable then b.shapeChecks n ++ j.post.decPlaced n else []) ++
  [⟨!(a.enable && decChanged j.pre j.post n) || j.now.decIdle n, stNotIdle, own⟩,
   ⟨!(a.aliased && decChanged j.pre j.post n) || !j.now.groupsBusy (n / 16), stNotIdle, own⟩]

/-! ## Bindings (R113, R268) -/

/-- A tenant is enabled with a host. -/
def State.tenantOf (s : State) (t h : Nat) : Bool := s.tenantOn t && s.tenantHost t == h

/-- The checks on a vPPB's binding. -/
def Judge.vppb (j : Judge) (h v : Nat) : List Check :=
  let w := j.post.get (O.VPPB_BIND h v)
  let p := bindPort w
  let ld := bindLd w
  let isDev := bindKind w == bindDevice
  let twice := j.post.bindings.any (fun b => bindKind b.2.2 == bindDevice && bindPort b.2.2 == p && bindLd b.2.2 == ld &&
    !(b.1 == h && b.2.1 == v))
  let mapped := j.post.spans.any (fun x => x.port == p && x.ld == ld) ||
    (List.range 32).any (fun m => slotNames j.now j.post m p ld)
  let pools := j.post.bindings.filter (fun b => b.1 == h && bindKind b.2.2 == bindPool)
  let decs := (j.post.enabledDecs.filter (fun n => n / 16 == h)).all (fun n =>
    let d := j.post.decoder n
    if d.isVppb then d.vppb != v || isDev else !pools.isEmpty)
  let o := [O.VPPB_BIND h v]
  [⟨!isDev || j.now.targetOk p ld, stBadValue, o⟩,
   ⟨!isDev || (!twice && !mapped), stBadValue, o⟩,
   ⟨bindKind w != bindPool || decide (pools.length ≤ 1), stBadValue, o⟩,
   ⟨bindKind (j.pre.get (O.VPPB_BIND h v)) == 0 || !j.changes (O.VPPB_BIND h v) || j.now.vppbIdle h v, stNotIdle, o⟩,
   ⟨decs, stBadValue, o⟩,
   ⟨bindKind w == 0 || j.post.tenantOf (bindTenant w) h, stBadValue, o⟩]

/-! ## Map entries (R129, R130, R134, R139, R142, R147, R148) -/

/-- A live extent (R130): a decoder that is enabled before the set, and is not idle or is changed by another transaction,
covers part of it. -/
def Judge.liveExt (j : Judge) (e : Nat) : Bool :=
  j.pre.enabledDecs.any (fun n =>
    let d := j.pre.decoder n
    !d.isVppb && meets d.fbase d.q (e * 2 ^ 30) (2 ^ 30) && (!j.now.decIdle n || decChanged j.now j.pre n))

/-- A block reproduces a DIRECT extent in order: every granule is DIRECT, with its PORT, its LD and its DPA (R130). -/
def State.reproduces (s : State) (block w : Nat) : Bool :=
  (List.range 512).all (fun k =>
    let g := s.get (O.GRN_ENTRY (block * 512 + k))
    grnKind g == 1 && grnPort g == extPort w && grnLd g == extLd w && grnDpa g == extTarget w * 512 + k)

/-- The changes that a live extent accepts (R130). -/
def Judge.extChangeOk (j : Judge) (a b : Nat) : Bool :=
  a == b || extKind a == 0 ||
  (extKind a == 1 && extKind b == 2 && extRegion a == extRegion b && j.post.reproduces (extTarget b % 512) a) ||
  (extKind a == 2 && extKind b == 1 && extRegion a == extRegion b && j.pre.reproduces (extTarget a % 512) b)

/-- A device range after the set (R129): its port, no binding of its device, no overlap with another entry nor with the
destination of a migration. -/
def Judge.spanOk (j : Judge) (x : Span) : Bool :=
  j.now.targetOk x.port x.ld && !j.post.ldBound x.port x.ld &&
  j.post.spans.all (fun y => y.key == x.key || !x.meets y) &&
  (List.range 32).all (fun m => match (slotAfter j.now j.post m).2.1 with
    | some r => !x.meets r
    | none => true)

/-- No DRAINING slot holds a byte of a range. -/
def Judge.spanFree (j : Judge) (x : Span) : Bool :=
  (List.range 32).all (fun m => match (slotAfter j.now j.post m).2.2 with
    | some r => !x.meets r
    | none => true)

/-- The enabled region that an extent lies wholly in. -/
def State.extRegionOf (s : State) (e : Nat) : Option Nat :=
  s.regions.find? (fun r => decide (s.get (O.SR_BASE r) ≤ e * 2 ^ 30 ∧ (e + 1) * 2 ^ 30 ≤ s.get (O.SR_BASE r) + s.get (O.SR_SIZE r)))

/-- The checks on an extent entry. -/
def Judge.ext (j : Judge) (e : Nat) : List Check :=
  let a := j.pre.get (O.EXT_ENTRY e)
  let b := j.post.get (O.EXT_ENTRY e)
  let valid := extKind b != 0
  let place := extKind b != 1 || j.spanOk (extSpan e b)
  let block := extKind b != 2 || j.post.validExts.all (fun x => x.1 == e || extKind x.2 != 2 || extTarget x.2 % 512 != extTarget b % 512)
  let region := match j.post.extRegionOf e with
    | some r => extRegion b == j.post.get (O.SR_KIND r)
    | none => extRegion b == regionPrivate && j.post.regions.all (fun r =>
        !meets (j.post.get (O.SR_BASE r)) (j.post.get (O.SR_SIZE r)) (e * 2 ^ 30) (2 ^ 30))
  let aliased := j.post.enabledDecs.all (fun n =>
    let d := j.post.decoder n
    d.isVppb || !d.aliased || !meets d.fbase d.q (e * 2 ^ 30) (2 ^ 30) || extRegion b == regionSharedTx)
  let held := match j.pre.extRegionOf e with
    | some r => j.now.get (O.SR_HELD r) == 0
    | none => true
  let o := [O.EXT_ENTRY e]
  [⟨!valid || (place && block && region && aliased), stBadValue, o⟩,
   ⟨extRegion a == regionPrivate || extRegion a == extRegion b || held, stNotIdle, o⟩,
   ⟨extKind b != 1 || j.spanFree (extSpan e b), stNotIdle, o⟩,
   ⟨j.extChangeOk a b || !j.liveExt e, stNotIdle, o⟩]

/-- A live granule (R130): its block is named, before and after the set, by a live SPLIT extent. -/
def Judge.liveGrn (j : Judge) (g : Nat) : Bool :=
  j.pre.validExts.any (fun e => extKind e.2 == 2 && extTarget e.2 % 512 == g / 512 &&
    j.post.get (O.EXT_ENTRY e.1) == e.2 && j.liveExt e.1)

/-- The set writes an object itself. -/
def Judge.writes (j : Judge) (o : Obj) : Bool := (j.now.stagedOf j.inst).any (fun w => w.obj == o)

/-- The status of a granule entry's change from `a` to `b` as a start or an end of a migration (R139, R142); none for a change that
is neither. A destination meets no valid entry, no destination of another slot that is or becomes busy, and no range that a
DRAINING slot holds (R129, R139). -/
def Judge.migChange (j : Judge) (g a b : Nat) : Option Nat :=
  if a = b then none
  else if grnKind a = 2 then
    let m := grnSlot a
    if grnKind b = 1 ∧ placeBits b = placeBits a then some stOk
    else if grnKind b = 1 ∧ placeBits b = placeBits (j.now.get (O.MIG_DEST m)) then
      (if j.now.get (O.MIG_STATE m) = migCopied then some stOk
       else if j.now.get (O.MIG_STATE m) = migAborted then some stAborted else some stBusy)
    else some stBadValue
  else if grnKind b = 2 then
    let m := grnSlot b
    if j.now.get (O.MIG_STATE m) ≠ migIdle then some stBusy
    else
      let d := j.post.migDest m
      let span := grnSpan 0 (j.post.get (O.MIG_DEST m))
      some (need (grnKind a == 1 && placeBits a == placeBits b && j.writes (O.MIG_GRANULE m) &&
        j.post.get (O.MIG_GRANULE m) == g && j.now.targetOk d.1 d.2.1 && !j.post.ldBound d.1 d.2.1 &&
        j.post.spans.all (fun y => !span.meets y) &&
        (List.range 32).all (fun k => k == m ||
          (let y := slotAfter j.now j.post k
           [y.2.1, y.2.2].all (fun r => match r with
             | some r => !span.meets r
             | none => true)))) stBadValue)
  else none

/-- The checks on a granule entry. -/
def Judge.grn (j : Judge) (g : Nat) : List Check :=
  let a := j.pre.get (O.GRN_ENTRY g)
  let b := j.post.get (O.GRN_ENTRY g)
  let span := grnSpan (2 * g + 1) b
  let mc := j.migChange g a b
  let o := [O.GRN_ENTRY g]
  [⟨mc.getD stOk == stOk, mc.getD stOk, o⟩,
   ⟨grnKind b == 0 || j.spanOk span, stBadValue, o⟩,
   ⟨grnKind b == 0 || j.spanFree span, stNotIdle, o⟩,
   ⟨mc.isSome || a == b || (grnKind a == 0 && grnKind b == 1) || !j.liveGrn g, stNotIdle, o⟩]

/-- The members of a migration slot that is not IDLE stay as they are. R139 gives BUSY for a change of the granule's entry alone; that a
change of MIG_GRANULE or MIG_DEST of such a slot is refused too is a DESIGN CHOICE (log 130). -/
def Judge.slot (j : Judge) (m : Nat) : List Check :=
  let own := j.changed [O.MIG_GRANULE m, O.MIG_DEST m]
  [⟨own.isEmpty || j.now.get (O.MIG_STATE m) == migIdle, stBusy, own⟩]

/-! ## Shared regions (R147, R208) and atomics (R187) -/

/-- The checks on a region: the rows of R147, of which a region disabled after the set meets only those on a change of SR_ENABLE or
SR_HOSTS, and those of R208. -/
def Judge.region (j : Judge) (r : Nat) : List Check :=
  let a := j.pre
  let b := j.post
  let on := b.get (O.SR_ENABLE r) == 1
  let was := a.get (O.SR_ENABLE r) == 1
  let lo := b.get (O.SR_BASE r)
  let len := b.get (O.SR_SIZE r)
  let gib := 2 ^ 30
  let kind := b.get (O.SR_KIND r)
  let held := j.now.get (O.SR_HELD r)
  let extsIn := fun (s : State) => s.validExts.filter (fun e => meets (s.get (O.SR_BASE r)) (s.get (O.SR_SIZE r)) (e.1 * gib) gib)
  let cleared := maskWithout (a.get (O.SR_HOSTS r)) (b.get (O.SR_HOSTS r))
  let tx := a.get (O.SR_KIND r) == regionSharedTx
  let base := O.SR_BASE r
  let size := O.SR_SIZE r
  let place := [base, size, O.SR_ENABLE r]
  [⟨!on || lo % gib == 0, stBadValue, [base]⟩,
   ⟨!on || (len % gib == 0 && len != 0), stBadValue, [size]⟩,
   ⟨!on || decide (lo + len ≤ 2 ^ 47), stBadValue, [base, size]⟩,
   ⟨!on || kind == 1 || kind == 2, stBadValue, [O.SR_KIND r]⟩,
   ⟨!on || b.regions.all (fun q => q == r || !meets lo len (b.get (O.SR_BASE q)) (b.get (O.SR_SIZE q))), stBadValue, place⟩,
   ⟨!on || (extsIn b).all (fun e => extRegion e.2 != regionPrivate), stBadValue, place⟩,
   ⟨!(on && was) || (!j.changes base && !j.changes size && !j.changes (O.SR_KIND r)), stNotIdle, j.changed [base, size, O.SR_KIND r]⟩,
   ⟨maskAnd cleared held == 0, stNotIdle, [O.SR_HOSTS r]⟩,
   ⟨!(was && !on) || (held == 0 && (b.validExts.filter (fun e =>
      meets (a.get base) (a.get size) (e.1 * gib) gib)).all (fun e => extRegion e.2 == regionPrivate)), stNotIdle, [O.SR_ENABLE r]⟩,
   ⟨!on || j.now.get (O.SR_STATE r) != 2, stBusy, []⟩,
   ⟨!tx || (hostsIn cleared).all (fun h => !j.now.groupsBusy h), stNotIdle, [O.SR_HOSTS r]⟩,
   ⟨!(tx && was && !on) || (hostsIn (a.get (O.SR_HOSTS r))).all (fun h => !j.now.groupsBusy h), stNotIdle, [O.SR_ENABLE r]⟩]

/-- ATOM_DEVICE of a port. -/
def Judge.atom (j : Judge) (p : Nat) : List Check :=
  [⟨j.post.get (O.ATOM_DEVICE p) == 0 || j.now.role p == roleDownstream, stBadValue, [O.ATOM_DEVICE p]⟩]

/-! ## Leaves, shapers and meters (R242, R253, R259 to R261, R268) -/

/-- A shaper's new settings (R253). -/
def shaperOk (old new : Nat) : Bool :=
  shapeReset new != 3 && (!shapeOn new || (shapeRate new != 0 && decide (shapeRate new ≤ shapeBurst new))) &&
  ((shapeOn old == shapeOn new && shapeMsgs old == shapeMsgs new) || shapeReset new != 0)

/-- A port whose scheduler nodes may be written (R259, R260). -/
def State.schedPort (s : State) (p : Nat) : Bool := s.role p == roleUpstream || s.role p == roleDownstream

/-- The value that a set's write of an object replaces: its default where the set releases the object first (R282), otherwise what it
holds before the set. -/
def Judge.replaced (j : Judge) (o : Obj) : Nat :=
  if j.ws.any (fun w => w.obj == o && w.release) then defaultOf j.now.variant o else j.pre.get o

/-- The set writes an object, itself or by a record that it restores. -/
def Judge.sets (j : Judge) (o : Obj) : Bool := j.ws.any (fun w => w.obj == o && !w.release)

/-- The checks on a leaf slot. A LEAF_SHAPE that a restore writes is checked as any write of it (R74, R253, R282). -/
def Judge.leaf (j : Judge) (p c k : Nat) : List Check :=
  let a := j.pre.get (O.LEAF_CFG p c k)
  let b := j.post.get (O.LEAF_CFG p c k)
  let on := b.testBit 63
  let t := bitsOf b 41 32
  let twin := (List.range 64).any (fun i => i != k &&
    (j.post.get (O.LEAF_CFG p c i)).testBit 63 && bitsOf (j.post.get (O.LEAF_CFG p c i)) 41 32 == t)
  let cfg := [O.LEAF_CFG p c k]
  let shape := O.LEAF_SHAPE p c k
  [⟨j.now.schedPort p, stBusy, cfg ++ [shape]⟩,
   ⟨!on || (b % 65536 != 0 && !twin && j.post.tenantOn t), stBadValue, cfg⟩,
   ⟨!j.sets shape || shaperOk (j.replaced shape) (j.post.get shape), stBadValue, [shape]⟩,
   ⟨(bitsOf a 41 32 == t && (!on || a.testBit 63)) || (j.now.leaf (leafKey p c k)).queue.isEmpty, stNotIdle, cfg⟩]

/-- The checks on a class node, a common leaf or the port node. -/
def Judge.node (j : Judge) (p m : Nat) : List Check :=
  let o : Obj := ⟨0x31, 0x400 + p, m⟩
  let shape := m == 0x20 || (decide (m < 0x20) && m % 4 == 2)
  [⟨j.now.schedPort p, stBusy, [o]⟩, ⟨!shape || !j.sets o || shaperOk (j.pre.get o) (j.post.get o), stBadValue, [o]⟩]

/-- The checks on a meter (R261). -/
def Judge.meter (j : Judge) (i : Nat) : List Check :=
  let cfg := j.post.get ⟨0x32, i, 0⟩
  [⟨!cfg.testBit 61 || decide (j.post.get ⟨0x32, i, 1⟩ ≤ j.post.get ⟨0x32, i, 3⟩), stBadValue, [⟨0x32, i, 1⟩, ⟨0x32, i, 3⟩]⟩,
   ⟨bitsOf cfg 63 62 != 3 && bitsOf cfg 59 58 != 3 && (List.range 8).all (fun k => bitsOf cfg (2 * k + 1) (2 * k) != 3), stBadValue,
    [⟨0x32, i, 0⟩]⟩]

/-! ## Tenants (R267, R268, R276, R282) -/

/-- The rows of R267 after the first, with the members each judges. -/
def State.tenantShape (s : State) (t : Nat) : List Check :=
  let cfg := s.get (O.T_CFG t)
  let lo := s.get (O.T_EXT_FIRST t)
  let n := s.get (O.T_EXT_COUNT t)
  let others := s.tenants.filter (fun u => u != t)
  let mine := s.tenantQueues t
  let slice := [O.T_EXT_FIRST t, O.T_EXT_COUNT t]
  [⟨others.all (fun u => bitsOf (s.get (O.T_CFG u)) 53 44 != bitsOf cfg 53 44), stBadValue, [O.T_CFG t]⟩,
   ⟨decide (lo + n ≤ 131072), stBadValue, slice⟩,
   ⟨others.all (fun u => !meets lo n (s.get (O.T_EXT_FIRST u)) (s.get (O.T_EXT_COUNT u))), stBadValue, slice⟩,
   ⟨mine.all (fun q => others.all (fun u => !(s.tenantQueues u).contains q)), stBadValue, [O.T_QUEUES t]⟩] ++
  (List.range 4).flatMap (fun k =>
    let a := s.get (O.T_RGN_LO t k)
    let b := s.get (O.T_RGN_HI t k)
    let off := !(s.get (O.T_RGN_PERM t)).testBit (4 * k + 3)
    [⟨off || a % 64 == 0, stBadValue, [O.T_RGN_LO t k]⟩,
     ⟨off || (b + 1) % 64 == 0, stBadValue, [O.T_RGN_HI t k]⟩,
     ⟨off || decide (a ≤ b ∧ b < 2 ^ 47), stBadValue, [O.T_RGN_LO t k, O.T_RGN_HI t k]⟩])

/-- The requirements of a restore that come before its records are checked (R282). -/
def Judge.restore (j : Judge) (t v : Nat) : List Check :=
  let s := j.now
  let recs := s.restoreRecords t (v % 64)
  let owner := fun (o : Obj) => (j.pre.tenants.find? (fun u => u != t && j.pre.tenantHolds u o)).isSome
  let recOk := fun (r : ImageRecord) =>
    let o := Obj.ofNumber r.obj
    match rowOf s.variant o with
    | none => false
    | some row => s.valueOk o row 0 r.value && !owner o
  let o := [O.T_RESTORE t]
  [⟨s.tenantState t == tFree || s.tenantState t == tFrozen, stNotIdle, o⟩,
   ⟨s.hasImage t, stBadValue, o⟩,
   ⟨(s.restoreImage t).isSome, stBadValue, o⟩,
   ⟨(s.hostPort (v % 64)).isSome, stBadValue, o⟩,
   ⟨recs.all recOk, stBadValue, o⟩]

/-- The checks on a tenant. -/
def Judge.tenant (j : Judge) (t : Nat) : List Check :=
  let a := j.pre
  let b := j.post
  let was := a.tenantOn t
  let on := b.tenantOn t
  let stays := was && on && !j.restored.contains t
  let moved := stays && bitsOf (a.get (O.T_CFG t)) 53 44 != bitsOf (b.get (O.T_CFG t)) 53 44
  let lo := a.get (O.T_EXT_FIRST t)
  let hi := lo + a.get (O.T_EXT_COUNT t)
  let lo' := b.get (O.T_EXT_FIRST t)
  let hi' := lo' + b.get (O.T_EXT_COUNT t)
  let shrinks := decide (lo < hi) && !decide (lo' ≤ lo ∧ hi ≤ hi')
  let drops := (a.tenantQueues t).any (fun q => !(b.tenantQueues t).contains q)
  let idle := j.now.quiesced t
  (if on then b.tenantShape t else []) ++
  [⟨!moved || idle, stNotIdle, [O.T_CFG t]⟩,
   ⟨!stays || !shrinks || idle, stNotIdle, j.changed [O.T_EXT_FIRST t, O.T_EXT_COUNT t]⟩,
   ⟨!stays || !drops || idle, stNotIdle, [O.T_QUEUES t]⟩,
   ⟨on || !was || idle, stNotIdle, [O.T_CFG t]⟩]

/-! ## Mover queues (R288, R289, R302, R308) and MPU regions (R460) -/

/-- The checks on a queue's settings. -/
def Judge.queue (j : Judge) (q : Nat) : List Check :=
  let b := j.post
  let size := b.get (O.Q_RING_SIZE q)
  let base := b.get (O.Q_RING_BASE q)
  let host := b.get (O.Q_SPACE q) == 1
  let top := if host then 2 ^ 52 else 2 ^ 47
  let pow := fun (n lo hi : Nat) => n == 0 || (decide (lo ≤ n ∧ n ≤ hi) && (List.range 17).any (fun k => n == 2 ^ k))
  let own := j.changed ((List.range 12).map (fun m => (⟨0x38, q, 4 + m⟩ : Obj)))
  let st := j.now.get (O.Q_STATE q)
  [⟨!host || (b.queueTenant q).isSome, stBadValue, [O.Q_SPACE q]⟩,
   ⟨pow size 16 65536, stBadValue, [O.Q_RING_SIZE q]⟩,
   ⟨base % 4096 == 0, stBadValue, [O.Q_RING_BASE q]⟩,
   ⟨decide (base + 64 * size ≤ top), stBadValue, [O.Q_RING_BASE q, O.Q_RING_SIZE q, O.Q_SPACE q]⟩,
   ⟨b.get (O.Q_PI_ADDR q) % 8 == 0, stBadValue, [O.Q_PI_ADDR q]⟩,
   ⟨b.get (O.Q_NTF_BASE q) % 4096 == 0, stBadValue, [O.Q_NTF_BASE q]⟩,
   ⟨pow (b.get (O.Q_NTF_SIZE q)) 16 4096, stBadValue, [O.Q_NTF_SIZE q]⟩,
   ⟨own.isEmpty || j.freed.any (fun t => (j.pre.tenantQueues t).contains q) ||
      ((st == qDisabled || st == qHalted) && j.now.queueIdle q), stNotIdle, own⟩]

/-- The checks on an MPU instance's region. -/
def Judge.mpu (j : Judge) (i r : Nat) : List Check :=
  let a := j.pre.mpuRegion i r
  let b := j.post.mpuRegion i r
  let off := !b.attr.testBit 31
  let own := j.changed [O.MPU_LO i r, O.MPU_HI i r, O.MPU_ATTR i r]
  [⟨off || b.lo % 64 == 0, stBadValue, [O.MPU_LO i r]⟩,
   ⟨off || (b.hi + 1) % 64 == 0, stBadValue, [O.MPU_HI i r]⟩,
   ⟨off || decide (b.lo ≤ b.hi), stBadValue, [O.MPU_LO i r, O.MPU_HI i r]⟩,
   ⟨a.lock == 0 || a == b, stProtection, own⟩,
   ⟨j.inst == 3 || b.lock != 2 || a.lock == 2, stProtection, [O.MPU_ATTR i r]⟩]

/-! ## Units -/

/-- A unit that the owning chapters' checks judge. -/
inductive Judged where
  | none
  | vppb (h v : Nat)
  | dec (n : Nat)
  | ext (e : Nat)
  | grn (g : Nat)
  | slot (m : Nat)
  | region (r : Nat)
  | atom (p : Nat)
  | leaf (p c k : Nat)
  | node (p m : Nat)
  | meter (i : Nat)
  | tenant (t : Nat)
  | queue (q : Nat)
  | mpu (i r : Nat)
  deriving DecidableEq, Repr

/-- The unit of an RW-T object. -/
def judgedOf (o : Obj) : Judged :=
  let i := o.inst
  match o.cls with
  | 0x20 => .vppb i (o.mem - 0x10)
  | 0x21 => .dec i
  | 0x22 => if 0x400 ≤ i then .grn ((i - 0x400) * 256 + o.mem) else if 0x100 ≤ i then .ext ((i - 0x100) * 256 + o.mem)
            else if 1 ≤ i then .slot (i - 1) else .none
  | 0x28 => if o.mem = 0 then .atom (i - 0x100) else .none
  | 0x2A => .region i
  | 0x30 => .tenant i
  | 0x31 => if i < 0x400 then .leaf (i / 8) (i % 8) (o.mem / 4) else .node (i - 0x400) o.mem
  | 0x32 => .meter i
  | 0x38 => .queue i
  | 0x06 => .mpu i (o.mem % 0x20)
  | _ => .none

/-- The checks on a unit, in order. -/
def Judge.checks (j : Judge) : Judged → List Check
  | .none => []
  | .vppb h v => j.vppb h v
  | .dec n => j.dec n
  | .ext e => j.ext e
  | .grn g => j.grn g
  | .slot m => j.slot m
  | .region r => j.region r
  | .atom p => j.atom p
  | .leaf p c k => j.leaf p c k
  | .node p m => j.node p m
  | .meter i => j.meter i
  | .tenant t => j.tenant t
  | .queue q => j.queue q
  | .mpu i r => j.mpu i r

/-- The first check of a unit that a set breaks: unmet by the state `j` judges and met by the one `still` judges. A unit that the set does
not write has the same checks in both. -/
def Judge.broken (j still : Judge) (u : Judged) : Option Check :=
  (((j.checks u).zip (still.checks u)).find? (fun c => !c.1.ok && c.2.ok)).map Prod.fst

/-- The checks of a unit that count: where the owning chapter has the first condition that fails give the status, that one alone (R113,
R147, R267, R460). -/
def Judge.failing (j : Judge) (u : Judged) : List Check :=
  match u with
  | .vppb _ _ | .region _ | .tenant _ | .mpu _ _ => (firstBad (j.checks u)).toList
  | _ => allBad (j.checks u)

/-- The units that a set may leave broken without writing them, each with the object that stands for it. DESIGN CHOICE (log 82): of
a decoder, a tenant, a region or a queue, which have several members, TX_FAIL_OBJECT names DEC_ENABLE, T_CFG, SR_ENABLE or the
queue's Q_SPACE; R74 gives "the number of that object" and no member. -/
def State.standing (s : State) : List (Judged × Obj) :=
  s.bindings.map (fun b => (Judged.vppb b.1 b.2.1, O.VPPB_BIND b.1 b.2.1)) ++
  s.enabledDecs.map (fun n => (Judged.dec n, O.DEC_ENABLE n)) ++
  s.validExts.map (fun e => (Judged.ext e.1, O.EXT_ENTRY e.1)) ++
  s.validGrns.map (fun g => (Judged.grn g.1, O.GRN_ENTRY g.1)) ++
  s.regions.map (fun r => (Judged.region r, O.SR_ENABLE r)) ++
  (s.regs.filter (fun e => decide (e.1 / 0x100 % 0x100 = 0x31 ∧ e.1 / 0x10000 < 0x400 ∧ e.1 % 4 = 0) && e.2.toNat.testBit 63)).map
    (fun e => (judgedOf (Obj.ofKey e.1), Obj.ofKey e.1)) ++
  s.tenants.map (fun t => (Judged.tenant t, O.T_CFG t)) ++
  (s.regs.filter (fun e => decide (e.1 / 0x100 % 0x100 = 0x38 ∧ e.1 % 0x100 = 7) && e.2.toNat == 1)).map
    (fun e => (Judged.queue (e.1 / 0x10000), Obj.ofKey e.1))

/-! ## The read set (R75) -/

/-- The RW-T members of a unit. -/
def membersOf : Judged → List Obj
  | .none => []
  | .vppb h v => [O.VPPB_BIND h v]
  | .dec n => (List.range 6).map (fun m => (⟨0x21, n, m⟩ : Obj))
  | .ext e => [O.EXT_ENTRY e]
  | .grn g => [O.GRN_ENTRY g]
  | .slot m => [O.MIG_GRANULE m, O.MIG_DEST m]
  | .region r => (List.range 5).map (fun m => (⟨0x2A, r, m⟩ : Obj))
  | .atom p => [O.ATOM_DEVICE p]
  | .leaf p c k => [O.LEAF_CFG p c k]
  | .node _ _ => []
  | .meter i => (List.range 5).map (fun m => (⟨0x32, i, m⟩ : Obj))
  | .tenant t => ([0x00, 0x05, 0x06, 0x07] ++ (List.range 9).map (8 + ·)).map (fun m => (⟨0x30, t, m⟩ : Obj))
  | .queue q => [O.Q_RING_BASE q, O.Q_RING_SIZE q, O.Q_SPACE q, O.Q_NTF_BASE q, O.Q_NTF_SIZE q, O.Q_PI_ADDR q]
  | .mpu i r => [O.MPU_LO i r, O.MPU_HI i r, O.MPU_ATTR i r]

/-- The units that share a key with a logical device of a port (R75, R113, R129): its binding, and the entries and migration slots
whose device range meets the range given, a slot's being the destination that its MIG_DEST names and what it holds. -/
def State.relatedDevice (s : State) (x : Span) : List Judged :=
  ((s.bindings.filter (fun b => bindKind b.2.2 == bindDevice && bindPort b.2.2 == x.port && bindLd b.2.2 == x.ld)).map
    (fun b => Judged.vppb b.1 b.2.1)) ++
  ((s.spans.filter (fun y => x.meets y)).map (fun y => if y.key % 2 = 0 then Judged.ext (y.key / 2) else Judged.grn (y.key / 2))) ++
  ((List.range 32).filter (fun m =>
    let y := slotAfter s s m
    y.1 != migIdle && ((grnSpan 0 (s.get (O.MIG_DEST m)) :: y.2.2.toList).any x.meets))).map Judged.slot

/-- The units related to a unit: those whose ranges meet its range and those that share its key (R75). -/
def State.related (s : State) (u : Judged) : List Judged :=
  match u with
  | .vppb h v =>
    let w := s.get (O.VPPB_BIND h v)
    (if bindKind w = 0 then [] else [.tenant (bindTenant w)]) ++
      (if bindKind w = bindDevice then s.relatedDevice ⟨0, bindPort w, bindLd w, 0, 2 ^ 46⟩ else []) ++
      (if bindKind w = bindPool then (s.bindings.filter (fun b => b.1 == h && bindKind b.2.2 == bindPool)).map
        (fun b => Judged.vppb b.1 b.2.1) else []) ++
      (s.enabledDecs.filter (fun n => n / 16 == h && (if (s.decoder n).isVppb then (s.decoder n).vppb == v else bindKind w == bindPool))).map
        Judged.dec
  | .dec n =>
    let d := s.decoder n
    let h := n / 16
    (s.enabledDecs.filter (fun k => k / 16 == h)).map Judged.dec ++
    if d.isVppb then [.vppb h d.vppb]
    else
      [.tenant d.tenant] ++ ((s.poolVppb h).toList.map (fun v => Judged.vppb h v)) ++
      (s.regions.filter (fun r => meets (s.get (O.SR_BASE r)) (s.get (O.SR_SIZE r)) d.fbase d.q)).map Judged.region ++
      (s.validExts.filter (fun e => meets (e.1 * 2 ^ 30) (2 ^ 30) d.fbase d.q)).map (fun e => Judged.ext e.1)
  | .ext e =>
    let w := s.get (O.EXT_ENTRY e)
    (s.regions.filter (fun r => meets (s.get (O.SR_BASE r)) (s.get (O.SR_SIZE r)) (e * 2 ^ 30) (2 ^ 30))).map Judged.region ++
    (s.enabledDecs.filter (fun n => !(s.decoder n).isVppb && meets (s.decoder n).fbase (s.decoder n).q (e * 2 ^ 30) (2 ^ 30))).map Judged.dec ++
    (if extKind w = 1 then s.relatedDevice (extSpan e w) else []) ++
    (if extKind w = 2 then
      (List.range 512).map (fun k => Judged.grn (extTarget w % 512 * 512 + k)) ++
      (s.validExts.filter (fun x => extKind x.2 == 2 && extTarget x.2 % 512 == extTarget w % 512)).map (fun x => Judged.ext x.1)
     else [])
  | .grn g =>
    let w := s.get (O.GRN_ENTRY g)
    let exts := s.validExts.filter (fun e => extKind e.2 == 2 && extTarget e.2 % 512 == g / 512)
    (if grnKind w = 2 then [.slot (grnSlot w)] else []) ++
    (if grnKind w = 0 then [] else s.relatedDevice (grnSpan (2 * g + 1) w)) ++
    exts.map (fun e => Judged.ext e.1) ++
    (s.enabledDecs.filter (fun n => !(s.decoder n).isVppb &&
      exts.any (fun e => meets (s.decoder n).fbase (s.decoder n).q (e.1 * 2 ^ 30) (2 ^ 30)))).map Judged.dec
  | .slot m =>
    let w := s.get (O.MIG_DEST m)
    s.relatedDevice (grnSpan 0 w)
  | .region r =>
    let lo := s.get (O.SR_BASE r)
    let n := s.get (O.SR_SIZE r)
    (s.regions.filter (fun q => meets (s.get (O.SR_BASE q)) (s.get (O.SR_SIZE q)) lo n)).map Judged.region ++
    (s.validExts.filter (fun e => meets (e.1 * 2 ^ 30) (2 ^ 30) lo n)).map (fun e => Judged.ext e.1) ++
    (s.enabledDecs.filter (fun k => !(s.decoder k).isVppb && meets (s.decoder k).fbase (s.decoder k).q lo n)).map Judged.dec
  | .leaf p c k =>
    let w := s.get (O.LEAF_CFG p c k)
    if w.testBit 63 then
      .tenant (bitsOf w 41 32) :: ((s.tenantLeaves (bitsOf w 41 32)).filter (fun i => leafPort i == p && leafClass i == c)).map
        (fun i => Judged.leaf p c (leafSlot i))
    else []
  | .tenant t =>
    ((s.tenants.filter (fun u => s.tenantHost u == s.tenantHost t ||
        meets (s.get (O.T_EXT_FIRST u)) (s.get (O.T_EXT_COUNT u)) (s.get (O.T_EXT_FIRST t)) (s.get (O.T_EXT_COUNT t)) ||
        (s.tenantQueues u).any (fun q => (s.tenantQueues t).contains q))).map Judged.tenant) ++
    (s.bindings.filter (fun b => bindKind b.2.2 != 0 && bindTenant b.2.2 == t)).map (fun b => Judged.vppb b.1 b.2.1) ++
    (s.enabledDecs.filter (fun n => !(s.decoder n).isVppb && (s.decoder n).tenant == t)).map Judged.dec ++
    (s.tenantLeaves t).map (fun k => Judged.leaf (leafPort k) (leafClass k) (leafSlot k)) ++ (s.tenantQueues t).map Judged.queue
  | .queue q => (s.queueTenant q).toList.map Judged.tenant
  | _ => []

/-- The objects that the checks on a unit consult. -/
def State.consulted (s : State) (u : Judged) : List Nat :=
  (((u :: s.related u).map membersOf).flatten).map Obj.number

/-! ## PREPARE (R74) -/

/-- How a validation ends: a status with the index and the object it names, or the read set of a set that passes. -/
structure Verdict where
  status : Nat
  index : Nat := 0xFFFF
  object : Nat := 0
  reads : List Nat := []
  deriving DecidableEq, Repr

/-- The first, in staging order, of the writes to which a test gives a status other than OK. -/
def firstFail (ws : List SetWrite) (f : SetWrite → Nat) : Option Verdict :=
  let first := (ws.filter (fun w => f w != stOk)).foldl
    (fun (a : Option SetWrite) w => match a with
      | none => some w
      | some v => if w.idx < v.idx then some w else some v) none
  first.map (fun w => ⟨f w, w.idx, w.obj.number, []⟩)

/-- The write set and the read set of the transactions that a set may meet. -/
def State.othersWrite (s : State) (x : Nat) : List Nat :=
  ((txInstances.filter (fun y => y != x && s.txHolding y)).map s.txWrites).flatten
def State.othersRead (s : State) (x : Nat) : List Nat :=
  ((txInstances.filter (fun y => y != x && s.txHolding y)).map (fun y => (s.tx.at y).readSet)).flatten

/-- The status of a write of a set by the rules that do not depend on its unit: a selected shadow that is invalid or meets a
staged entry (R132), a value that a write of the object would be refused for, which the entries of a shadow may hold (R124, R125,
R131, R132), and an object that a FROZEN tenant holds (R268). -/
def Judge.plain (j : Judge) (ws : List SetWrite) (w : SetWrite) : Nat :=
  let s := j.now
  let frozen := !w.implicit && (j.pre.frozenHolder w.obj).isSome &&
    !(s.removes w) && !(w.obj.cls == 0x30 && w.obj.mem == 0x12)
  let bad := w.implicit && !w.release && (match rowOf s.variant w.obj with
    | some r => !s.valueOk w.obj r 0 (w.values.headD 0)
    | none => true)
  if frozen then stFrozen
  else if bad then stBadValue
  else if w.obj = O.SHADOW_APPLY then
    let v := ((s.stagedOf j.inst).find? (fun y => y.obj == w.obj)).elim 0 (fun y => y.values.headD 0)
    if s.dict.invalid.any (fun r => (r.space == 1 && v.testBit 0) || (r.space == 2 && v.testBit 1)) then stBadValue
    else if ws.any (fun y => y.implicit && y.idx == w.idx && (s.stagedOf j.inst).any (fun z => z.obj == y.obj)) then stConflict
    else stOk
  else stOk

/-- The status of a write of a set by its owning chapter (check 7): of the checks on its unit that judge the object, the first that is
not met. -/
def Judge.owner (j : Judge) (w : SetWrite) : Nat :=
  let restore := (j.now.stagedOf j.inst).find? (fun y => y.obj == w.obj && y.restores)
  match restore with
  | some y => if w.implicit then stOk else ((firstBad (j.restore w.obj.inst (y.values.headD 0))).map (fun c => c.status)).getD stOk
  | none =>
    match (j.failing (judgedOf w.obj)).find? (fun c => c.about.isEmpty || c.about.contains w.obj) with
    | none => stOk
    | some c => c.status

/-- A check on a unit that the set writes is not met, and judges only objects that the set does not write: its status, and the first of
those objects (R74). -/
def Judge.beside (j : Judge) (u : Judged) : Option Verdict :=
  ((j.failing u).find? (fun c => !c.about.isEmpty && !j.ws.any (fun y => c.about.contains y.obj))).map
    (fun c => ⟨c.status, 0xFFFF, ((c.about.head?).map Obj.number).getD 0, []⟩)

/-- Validate the staged set of a transaction. A clash of its write set or its read set with another transaction's is one check, which
names the first write concerned (R75). -/
def State.validate (s : State) (x : Nat) : Verdict :=
  let ws := s.setWrites x
  let pre := s.before x
  let staged := s.stagedOf x
  let restored := (staged.filter SetWrite.restores).map (fun w => w.obj.inst)
  let freed := ((staged.filter s.removes).map (fun w => w.obj.inst)) ++ restored
  let j : Judge := { now := s, pre := pre, post := pre.lay ws, ws := ws, inst := x, freed := freed, restored := restored }
  let still : Judge := { j with post := pre, ws := [] }
  let open_ := fun (w : SetWrite) => match rowOf s.variant w.obj with
    | some r => s.openStatus w.obj r
    | none => stBadValue
  let others := s.othersWrite x
  let readers := s.othersRead x
  let written := ws.map (fun w => judgedOf w.obj)
  let unwritten := (j.pre.standing ++ j.post.standing).findSome? (fun p =>
    if written.contains p.1 then none else (j.broken still p.1).map (fun c => (⟨c.status, 0xFFFF, p.2.number, []⟩ : Verdict)))
  let reads := (written.eraseDups.map (fun u => j.post.consulted u ++ j.pre.consulted u)).flatten.eraseDups
  let order := [
    firstFail ws open_,
    firstFail ws (fun w =>
      need (!others.contains w.obj.number && !readers.contains w.obj.number &&
        (j.post.consulted (judgedOf w.obj) ++ j.pre.consulted (judgedOf w.obj)).all (fun o => !others.contains o)) stConflict),
    firstFail ws (j.plain ws),
    firstFail ws j.owner,
    (written.eraseDups.filterMap j.beside).head?,
    unwritten]
  match order.find? Option.isSome with
  | some (some v) => v
  | _ => { status := stOk, reads := reads }

end Sys2Proof.Machine
end

