-- ==== Sys2Proof/Machine/Apply.lean ====
section
/-! DEFINITION. Configuration transactions: staging, the commands of TX_CMD, validation, the lock point and the apply with
what it brings about in the owning chapters (R71 to R84, R121, R139 to R142, R242, R247, R255, R267, R276, R283). -/
namespace Sys2Proof.Machine

/-! ## Staging and commands (R72, R73, R77) -/

/-- Change an instance's record. -/
def State.setTx (s : State) (x : Nat) (f : TxInst → TxInst) : State := { s with tx := s.tx.upd x f }

/-- Stage a write (R73): its status, and the state with the staged set. -/
def State.stageObj (s : State) (x : Nat) (o : Obj) (vs : List Nat) : Nat × State :=
  let st := (s.tx.at x).staged
  if st.any (fun w => w.obj == o.number) then
    (stOk, s.setTx x (fun t => { t with staged := t.staged.map (fun (w : Staged) => if w.obj = o.number then { w with values := vs } else w) }))
  else if 4096 ≤ st.length then (stLimit, s)
  else (stOk, s.setTx x (fun t => { t with staged := t.staged ++ [⟨o.number, vs⟩] }))

/-- TX_CMD codes. -/
def txcOpen : Nat := 1
def txcPrepare : Nat := 2
def txcCommitAt : Nat := 3
def txcAbort : Nat := 4
def txcCancel : Nat := 5

/-- Granules that a set takes to MIGRATING. -/
def State.migsStarted (s : State) (x : Nat) : List Nat :=
  (s.setWrites x).filterMap (fun w =>
    let v := w.values.headD 0
    if w.obj.cls = 0x22 ∧ 0x400 ≤ w.obj.inst ∧ grnKind v = 2 ∧ grnKind (s.get w.obj) ≠ 2 then
      some ((w.obj.inst - 0x400) * 256 + w.obj.mem)
    else none)

/-- The activity that excludes a COMMIT_AT with an instant (R77, R415): the pair refused. -/
def State.commitExcluded (s : State) (x instant : Nat) : Option (Nat × Nat) :=
  let gs := s.migsStarted x
  let shared := gs.any (fun g => (s.regionOf (s.granuleAddr g)).isSome)
  if s.retrainNear instant then some (4, 2)
  else if shared && s.mxRunning 0 then some (1, 0)
  else if !gs.isEmpty && s.mxRunning 6 then some (1, 6)
  else none

/-- The checks of R77 in order, before the matrix. -/
def State.commitStatus (s : State) (x : Nat) : Nat :=
  let now := s.now 0
  let t := s.get (O.TX_INSTANT x)
  if s.get (O.TX_STATE x) ≠ txReady then stBusy
  else if s.ftState = ftFree then stClock
  else if s.inExpired then stHoldover
  else if s.inHoldover ∧ s.get O.HOLDOVER_START + s.get O.HOLDOVER_LIMIT < t then stHoldover
  else if t < now + s.get O.TX_MIN_LEAD then stBadValue
  else if now + s.get O.TX_MAX_LEAD < t then stBadValue
  else if (s.commitExcluded x t).isSome then stBusy
  else stOk

/-- The status of a TX_CMD command (R72). -/
def State.txCmdStatus (s : State) (x v : Nat) : Nat :=
  let st := s.get (O.TX_STATE x)
  let rest := st = txIdle ∨ st = txApplied ∨ st = txFailed ∨ st = txAborted
  if v = txcOpen then (if rest then stOk else stBusy)
  else if v = txcPrepare then (if st = txOpenSt then stOk else stBusy)
  else if v = txcCommitAt then s.commitStatus x
  else if v = txcAbort then (if st = txOpenSt ∨ st = txReady ∨ st = txScheduled then stOk else stBusy)
  else if v = txcCancel then (if st = txScheduled then stOk else stBusy)
  else stBadValue

/-- OPEN: a new set, a new serial, and the latest outcome gone. -/
def fxTxOpen (x : Nat) (s : State) : State :=
  ((((((s.txDiscard x).put (O.TX_STATE x) txOpenSt).wrap32 (O.TX_SERIAL x)).put (O.TX_STATUS x) stOk).clear
    (O.TX_FAIL_INDEX x)).clear (O.TX_FAIL_OBJECT x))

/-- PREPARE: validation starts. -/
def fxTxPrepare (x : Nat) (s : State) : State :=
  (s.put (O.TX_STATE x) txPreparing).setTx x (fun t => { t with prepareAt := s.elapsed 0 })

/-- READY is entered: at the end of validation, and at CANCEL. -/
def State.enterReady (s : State) (x : Nat) : State :=
  ((s.put (O.TX_STATE x) txReady).put (O.TX_READY_AT x) (s.now 0)).setTx x (fun t => { t with readyLimit := s.get O.TX_READY_LIMIT })

/-- COMMIT_AT, where accepted; refused by the matrix it is recorded (R416). -/
def fxTxCommitAt (x : Nat) (s : State) : State := s.put (O.TX_STATE x) txScheduled
def State.commitRefused (s : State) (x : Nat) : State :=
  let t := s.get (O.TX_INSTANT x)
  if s.get (O.TX_STATE x) = txReady ∧ s.commitStatus x = stBusy then
    match s.commitExcluded x t with
    | some p => s.mxRefuse p.1 p.2
    | none => s
  else s

/-- The effect of an accepted TX_CMD command. -/
def fxTxCmd (x v : Nat) (s : State) : State :=
  if v = txcOpen then fxTxOpen x s
  else if v = txcPrepare then fxTxPrepare x s
  else if v = txcCommitAt then fxTxCommitAt x s
  else if v = txcAbort then s.txAbort x
  else s.enterReady x

/-- Validation ends (R74): READY with the read set of R75, or FAILED. -/
def fxValidationEnds (x : Nat) (s : State) : State :=
  if s.get (O.TX_STATE x) ≠ txPreparing then s
  else
    let v := s.validate x
    if v.status = stOk then
      let ws := s.setWrites x
      ((s.setTx x (fun t => { t with readSet := v.reads, implicit := ((ws.filter (fun w => w.implicit)).map (fun w => w.obj.number)).eraseDups })).put
        (O.TX_STATUS x) stOk).enterReady x
    else s.txFail x v.status v.index v.object

/-- A transaction stays READY for longer than the limit it took (R76). -/
def fxReadyTimeout (x : Nat) (s : State) : State :=
  if s.get (O.TX_STATE x) = txReady ∧ s.get (O.TX_READY_AT x) + (s.tx.at x).readyLimit < s.now 0 then s.txFail x stTimeout 0xFFFF 0 else s

/-- The lock point (R78): past it the set is applied, but under SAFE or a reset, as the binding sequence of R85 relies on. -/
def fxLockPoint (x : Nat) (s : State) : State :=
  if s.get (O.TX_STATE x) = txScheduled ∧ s.get (O.TX_INSTANT x) ≤ s.now 0 + s.get O.TX_LOCK_LEAD then s.put (O.TX_STATE x) txLocked else s

/-! ## What an apply brings about -/

/-- Migration slots (R139, R141, R142): a start clears the slot and its bitmap; an end leaves it DRAINING with the range it
holds till the epoch `e` has drained, and its bitmap as it stands, which the next start clears. -/
def State.applySlots (s a : State) (instant e : Nat) : State :=
  forEach (List.range 32) (fun m s =>
    let now := a.get (O.MIG_STATE m)
    if now = migIdle then
      match s.migStart m with
      | none => s
      | some g =>
        let s := ((((s.put (O.MIG_STATE m) migMirror).put (O.MIG_STATUS m) stOk).put (O.MIG_STARTED_AT m) instant).clear (O.MIG_COPIED_AT m))
        ((s.put (O.MIG_MIRRORED m) 0).put (O.MIG_SUPPRESSED m) 0).setMig m (fun _ =>
          { source := placeBits (s.get (O.GRN_ENTRY g)) * 2 ^ 10 })
    else if now = migDraining then s
    else
      let g := a.get (O.MIG_GRANULE m)
      let w := a.get (O.GRN_ENTRY g)
      let w' := s.get (O.GRN_ENTRY g)
      if grnKind w' = 1 then
        let held := if placeBits w' = placeBits w then a.get (O.MIG_DEST m) else placeBits w * 2 ^ 10
        (s.put (O.MIG_STATE m) migDraining).setMig m (fun r => { r with held := held, epoch := e, engine := none })
      else s) s

/-- Admission of bindings and decoders that the instant changes (R114, R121); those of a restored tenant are enabled anew. -/
def State.applyAdmits (s a : State) (objs : List Obj) (restored : List Nat) : State :=
  forEach objs (fun o s =>
    if o.cls = 0x20 then
      let w := s.get o
      if bindKind w ≠ 0 ∧ (a.get o ≠ w ∨ restored.contains (bindTenant w)) then s.put (O.VPPB_ADMIT o.inst (o.mem - 0x10)) 1 else s
    else if o.cls = 0x21 then
      let d := s.decoder o.inst
      if d.enable && (decChanged a s o.inst || restored.contains (s.decTenant o.inst)) then s.put (O.DEC_ADMIT o.inst) 1 else s
    else s) s

/-- SR_STATE of regions that are enabled or disabled (R151). -/
def State.applyRegions (s a : State) (objs : List Obj) : State :=
  forEach (objs.filter (fun o => o.cls == 0x2A && o.mem == 0)) (fun o s =>
    if a.get o = s.get o then s else s.put (O.SR_STATE o.inst) (s.get o)) s

/-- The queues of a tenant's requests at a port move in a class (R242). -/
def State.moveQueue (s a : State) (p t c c' : Nat) : State := s.fence (a.leafFor p c t) (s.leafFor p c' t) t

/-- Leaf slots (R242): the tenants whose queue changes are fenced, and a disabled slot keeps its last weight. -/
def State.applyLeaves (s a : State) (objs : List Obj) : State :=
  let slots := objs.filter (fun o => o.cls == 0x31 && decide (o.inst < 0x400) && o.mem % 4 == 0 && a.get o != s.get o)
  let s := forEach slots (fun o s =>
    if (a.get o).testBit 63 && !(s.get o).testBit 63 then
      s.setLeaf (leafKey (o.inst / 8) (o.inst % 8) (o.mem / 4)) (fun l => { l with weight := a.get o % 65536 })
    else s) s
  forEach slots (fun o s =>
    let p := o.inst / 8
    let c := o.inst % 8
    let ts := ([a.get o, s.get o].filter (fun w => w.testBit 63)).map (fun w => bitsOf w 41 32)
    forEach ts.eraseDups (fun t s => if a.leafFor p c t = s.leafFor p c t then s else s.moveQueue a p t c c) s) s

/-- Shapers (R253, R255): an applied write waits for a refill, and RESET reads 0. -/
def State.applyShapers (s : State) (ws : List SetWrite) : State :=
  forEach ws (fun w s =>
    let o := w.obj
    let v := w.values.headD 0
    if o.cls ≠ 0x31 then s
    else
      let stored := s.put o (v % 2 ^ 62)
      if o.inst < 0x400 ∧ o.mem % 4 = 1 then stored.shapeApplied (leafKey (o.inst / 8) (o.inst % 8) (o.mem / 4)) v
      else if 0x400 ≤ o.inst ∧ o.mem = 0x20 then stored.portShapeApplied (o.inst - 0x400) v
      else if 0x400 ≤ o.inst ∧ o.mem < 0x20 ∧ o.mem % 4 = 2 then stored.shapeApplied (leafKey (o.inst - 0x400) (o.mem / 4) commonSlot) v
      else s) s

/-- Meters (R247): every field but CLASS waits for a refill; CLASS moves the tenant's queues at the ports its direction's
requests leave by (R242). -/
def State.applyMeters (s a : State) (ws : List SetWrite) : State :=
  let ms := ((ws.filter (fun w => w.obj.cls == 0x32)).map (fun w => w.obj.inst)).eraseDups
  forEach ms (fun m s =>
    let cfg := s.get ⟨0x32, m, 0⟩
    let old := a.meterRegs m
    let s := s.put ⟨0x32, m, 0⟩ (cfg % 2 ^ 62)
    let cls := fun (w : Nat) => bitsOf w 18 16
    let noCls := fun (w : Nat) => w - cls w * 2 ^ 16
    let others := noCls (old.headD 0) ≠ noCls (cfg % 2 ^ 62) ∨ old.tail ≠ (s.meterRegs m).tail ∨ shapeReset cfg ≠ 0
    let s := if others then s.meterApplied m old (shapeReset cfg) else s
    if cls (old.headD 0) = cls cfg then s
    else forEach ((List.range s.ports).filter (fun p => s.role p == (if m % 2 = 0 then roleDownstream else roleUpstream))) (fun p s => s.moveQueue a p (m / 2) (cls (old.headD 0)) (cls cfg)) s) s

/-- A restore of a tenant takes effect beside its settings (R283). -/
def State.applyRestore (s : State) (t v instant : Nat) (recs : List ImageRecord) : State :=
  let s := forEach (recs.filter (fun r => r.kind == kState)) (fun r s => s.takeStateRecord t r) s
  let s := s.put (O.T_ADMIT t) (b2n (v.testBit 62))
  let s := forEach (s.tenantLeaves t) (fun k s => s.freshLeaf k) (s.freshMeters t)
  let s := ((s.put (O.T_RESTORED_AT t) instant).endImageOps t).dropImage t
  { s with ten := { s.ten with frozen := s.ten.frozen.erase t, formed := s.ten.formed.drop t } }

/-- The staging stores after an apply: what a SHADOW_APPLY selected is gone, and so is what no longer differs (R131, R132). -/
def State.trimStores (s : State) (sel : Nat) : State :=
  let ext := if sel.testBit 0 then [] else s.map.extStage.filter (fun e => s.get (O.EXT_ENTRY e.1) != e.2)
  let grn := if sel.testBit 1 then [] else s.map.grnStage.filter (fun e => s.get (O.GRN_ENTRY e.1) != e.2)
  { s with map := { s.map with extStage := ext, grnStage := grn } }

/-- The apply of one transaction's set at its instant: `e` is BIND_EPOCH after it. -/
def State.applyOne (s : State) (x e : Nat) : State :=
  let a := s
  let instant := s.get (O.TX_INSTANT x)
  let staged := s.stagedOf x
  let ws := s.setWrites x
  let objs := (ws.map (fun w => w.obj)).eraseDups
  let removed := (staged.filter s.removes).map (fun w => w.obj.inst)
  let back := (staged.filter SetWrite.restores).map (fun w => (w.obj.inst, w.values.headD 0, s.restoreRecords w.obj.inst (w.values.headD 0 % 64)))
  let created := ((ws.filter (fun w => w.obj.cls == 0x30 && w.obj.mem == 0 && (w.values.headD 0).testBit 63)).map (fun w => w.obj.inst)).filter
    (fun t => !a.tenantOn t && !(back.map (fun b => b.1)).contains t)
  let sel := ((staged.find? (fun w => w.obj == O.SHADOW_APPLY)).map (fun w => w.values.headD 0)).getD 0
  let freed := removed ++ (back.map (fun b => b.1)).filter (fun t => a.tenantState t == tFrozen)
  let s := (forEach freed (fun t s => s.clearTenant t) s).lay ws
  let s := s.applySlots a instant e
  let s := s.applyAdmits a objs (back.map (fun b => b.1))
  let s := ((s.applyRegions a objs).applyLeaves a objs).applyShapers ws
  let s := s.applyMeters a ws
  let s := forEach created (fun t s => s.put (O.T_ADMIT t) 1) s
  let s := forEach back (fun b s => s.applyRestore b.1 b.2.1 instant b.2.2) s
  let s := s.trimStores sel
  forEach (created ++ back.map (fun b => b.1)) (fun t s => forEach (s.tenantQueues t) (fun q s => s.fetchMore q 16) s) s

/-- A set makes its instant a bind epoch (R82, R276, R283). -/
def State.isBindEpoch (s : State) (x : Nat) : Bool :=
  (s.setWrites x).any (fun w => w.obj.cls == 0x20 || w.obj.cls == 0x21 || w.obj.cls == 0x22) ||
  (s.stagedOf x).any (fun w => w.restores || s.removes w)

/-- A transaction has been applied (R80, R83): its fabric manager reads APPLIED and its instant (R85). -/
def State.txDone (s : State) (x instant : Nat) : State :=
  let s := ((s.put (O.TX_STATE x) txApplied).put (O.TX_STATUS x) stOk).put (O.TX_APPLIED_AT x) instant
  (((s.put O.LAST_APPLIED_AT instant).count32 O.APPLIED_COUNT).txRelease x).raiseDie 0 F.TX_APPLIED

/-- The first core cycle of an instant (R79, R85): every LOCKED transaction of it is applied, in interface order. -/
def fxApply (s : State) : State :=
  let before := s
  let due := txInstances.filter (fun x => s.get (O.TX_STATE x) == txLocked && decide (s.get (O.TX_INSTANT x) ≤ s.now 0))
  let bind := due.any s.isBindEpoch
  let e := if bind then (s.get O.BIND_EPOCH + 1) % 2 ^ 32 else s.get O.BIND_EPOCH
  let instant := due.foldl (fun m x => max m (s.get (O.TX_INSTANT x))) 0
  let s := forEach due (fun x s => (s.applyOne x e).txDone x (s.get (O.TX_INSTANT x))) s
  let s := if bind then (s.put O.BIND_EPOCH e).put O.LAST_BIND_AT instant else s
  if due.isEmpty then s else s.reformImages before

/-! ## The maps' own commands (R133, R142) -/

/-- SHADOW_DISCARD: refused while a store it names belongs to a transaction. -/
def State.discardStatus (s : State) (v : Nat) : Nat :=
  if (v.testBit 0 && s.storeHeld 0) || (v.testBit 1 && s.storeHeld 1) then stBusy else stOk
def fxShadowDiscard (v : Nat) (s : State) : State :=
  { s with map := { s.map with extStage := if v.testBit 0 then [] else s.map.extStage, grnStage := if v.testBit 1 then [] else s.map.grnStage },
           dict := { s.dict with invalid := s.dict.invalid.filter (fun r => !((r.space == 1 && v.testBit 0) || (r.space == 2 && v.testBit 1))) } }

/-- A DRAINING slot whose epoch has drained becomes IDLE and releases its range (R142). -/
def fxMigDrained (m : Nat) (s : State) : State :=
  let age := (s.get O.BIND_EPOCH + 2 ^ 32 - s.drainedEpoch) % 2 ^ 32
  let mine := (s.get O.BIND_EPOCH + 2 ^ 32 - (s.migSlot m).epoch) % 2 ^ 32
  if s.get (O.MIG_STATE m) = migDraining ∧ age ≤ mine then
    (((s.put (O.MIG_STATE m) migIdle).clear (O.MIG_GRANULE m)).clear (O.MIG_DEST m)).setMig m (fun r => { lines := r.lines })
  else s

end Sys2Proof.Machine
end

