-- ==== Sys2Proof/Machine/Security.lean ====
section
/-! DEFINITION. The security state, the debug level and its opening, the gating of the TAP, attestation and the IDE keys (R444 to
R451, R462 to R468). -/
namespace Sys2Proof.Machine

def secManufacture : Nat := 0
def secSecured : Nat := 1
def secRma : Nat := 2

/-! ## IDE keys (R105, R466, R468) -/

def ideOff : Nat := 0
def idePending : Nat := 1
def ideSecure : Nat := 2
def ideFailed : Nat := 3

/-- The keys of a port are zeroized and IDE_STATE returns to KEYS_PENDING where IDE is in use. -/
def State.zeroize (s : State) (p : Nat) : State :=
  let s := (s.put (O.IDE_KEYS p) 0).setSec (fun x => { x with selected := x.selected.drop p, peer := x.peer.filter (· != p) })
  if s.get (O.IDE_STATE p) = ideOff then s else s.put (O.IDE_STATE p) idePending

/-- A failure of key handling is raised on the die that holds the port. -/
def State.ideKeyFail (s : State) (p : Nat) : State :=
  (s.setBit O.SEC_EVENTS 3 true).raise (dieOfPort p * 512 + F.IDE_KEY_FAIL) (chPort p) 0 0xFFFF 0

/-- The keys of set `k` in direction `d`: three sub-streams (R470). -/
def State.keysOf (s : State) (p k d : Nat) : Nat := s.get (O.IDE_KEYS p) / 2 ^ (6 * k + 3 * d) % 8

/-- The active set of a direction: IDE_KEYS bits 12 and 13. -/
def State.activeSet (s : State) (p d : Nat) : Nat := b2n (s.bit (O.IDE_KEYS p) (12 + d))

/-- Both directions have selected a fully programmed set. -/
def State.ideReady (s : State) (p : Nat) : Bool :=
  s.get (O.IDE_ENABLE p) != 0 &&
    [0, 1].all (fun d => (s.sec.selected.at p).testBit d && s.keysOf p (s.activeSet p d) d == 7)

/-- A port reads SECURE while both directions have selected a fully programmed set: a selection of another set ends it. -/
def State.noteSecure (s : State) (p : Nat) : State :=
  if s.ideReady p then s.put (O.IDE_STATE p) ideSecure
  else if s.get (O.IDE_STATE p) = ideSecure then s.put (O.IDE_STATE p) idePending
  else s

/-- A set is selected in one direction. -/
def State.selectSet (s : State) (p k d : Nat) : State :=
  (s.setBit (O.IDE_KEYS p) (12 + d) (k == 1)).setSec (fun x =>
    { x with selected := x.selected.set p (Nat.lor (x.selected.at p) (2 ^ d)) })

/-- An IDE_KM message can be served: its port's DOE offers Secured CMA/SPDM (DOE_ENABLE bit 2), and a secure session on it carries the
message (R106, R466). -/
def State.ideKmOk (s : State) (p : Nat) (session : Option Nat) : Bool :=
  match session with
  | some n => s.bit (O.DOE_ENABLE p) 2 && s.sec.session.any (fun x => x.id == n && x.via == some p)
  | none => false

/-- A port is an IDE_KM responder: an UPSTREAM or FM port whose link carries DOE. -/
def State.ideResponder (s : State) (p : Nat) : Bool := (s.role p == roleUpstream || s.role p == roleFm) && s.linkAlive p

/-- A failed acknowledgement changes nothing and raises IDE_KEY_FAIL. -/
def State.ideKmFail (s : State) (p : Nat) : State := (s.send (.ideKm p false)).ideKeyFail p

/-- Serve an IDE_KM message on a responder that offers IDE_KM (DOE_ENABLE bit 3): outside a session, or with bad fields, it fails. -/
def State.ideKm (s : State) (p : Nat) (session : Option Nat) (good : Bool) (act : State → State) : State :=
  if !(s.ideResponder p && s.bit (O.DOE_ENABLE p) 3) then s
  else if !(s.ideKmOk p session && good) then s.ideKmFail p
  else (act s).send (.ideKm p true)

/-- QUERY. -/
def fxIdeQuery (p : Nat) (session : Option Nat) (s : State) : State := s.ideKm p session true (fun s => s)

/-- KEY_PROG programs the key of a set, direction and sub-stream of the one link stream. -/
def fxKeyProg (p : Nat) (session : Option Nat) (stream k d sub : Nat) (s : State) : State :=
  s.ideKm p session (decide (stream = 0 ∧ k < 2 ∧ d < 2 ∧ sub < 3)) (fun s => s.setBit (O.IDE_KEYS p) (6 * k + 3 * d + sub) true)

/-- K_SET_GO selects a set in a direction. A change of set on a SECURE port is a refresh, counted when both directions have it. -/
def fxKSetGo (p : Nat) (session : Option Nat) (k d : Nat) (s : State) : State :=
  s.ideKm p session (decide (k < 2 ∧ d < 2)) (fun s =>
    let switched := s.get (O.IDE_STATE p) == ideSecure && s.activeSet p d != k && s.activeSet p (1 - d) == k
    let s := (s.selectSet p k d).noteSecure p
    if switched && s.ideReady p then s.count32 (O.IDE_REFRESHES p) else s)

/-- K_SET_STOP stops a set in a direction: its keys are gone, and a port whose selected set it was is no longer secure. With
every set stopped the port is zeroized. -/
def fxKSetStop (p : Nat) (session : Option Nat) (k d : Nat) (s : State) : State :=
  s.ideKm p session (decide (k < 2 ∧ d < 2)) (fun s =>
    let mine := (s.sec.selected.at p).testBit d && s.activeSet p d == k
    let s := forEach [0, 1, 2] (fun sub s => s.setBit (O.IDE_KEYS p) (6 * k + 3 * d + sub) false) s
    let s := if mine then
        let s := s.setSec (fun x => { x with selected := x.selected.set p (maskWithout (x.selected.at p) (2 ^ d)) })
        if s.get (O.IDE_STATE p) = ideSecure then s.put (O.IDE_STATE p) idePending else s
      else s
    if s.get (O.IDE_KEYS p) % 2 ^ 12 = 0 then s.zeroize p else s)

/-! ## IDE_KEY_CMD (R467) -/

/-- The status of an IDE_KEY_CMD write. -/
def State.ideCmdStatus (s : State) (p v : Nat) : Nat :=
  if s.role p ≠ roleDownstream ∨ v = 0 ∨ 4 < v then stBadValue
  else if v = 1 then (if s.linkState p = lsUp ∧ s.get (O.IDE_ENABLE p) ≠ 0 then stOk else stBusy)
  else if v = 2 then (if s.sec.peer.contains p then stOk else stBusy)
  else if v = 3 then (if s.get (O.IDE_STATE p) = ideSecure then stOk else stBusy)
  else stOk

/-- A step of a key command succeeds, or fails with a status: what the device answers is open. -/
def State.ideStep (s : State) (p : Nat) (act : State → State) : State :=
  let (f, s) := s.fresh
  if f % 256 = 0 then act s
  else ((s.put (O.IDE_STATE p) ideFailed).put (O.IDE_LAST_FAIL p) (f % 256)).ideKeyFail p

/-- ESTABLISH: a session with the device, whose certificate chain's digest is recorded. -/
def fxIdeEstablish (p : Nat) (s : State) : State :=
  s.ideStep p (fun s =>
    let s := forEach (List.range 6) (fun k s => let f := s.fresh; f.2.put ⟨0x04, 0x100 + p, 2 + k⟩ f.1) s
    s.setSec (fun x => { x with peer := if x.peer.contains p then x.peer else p :: x.peer }))

/-- Every key of a set is programmed at both ends. -/
def State.programSet (s : State) (p k : Nat) : State :=
  forEach (List.range 6) (fun n s => s.setBit (O.IDE_KEYS p) (6 * k + n) true) s

/-- APPROVE: keys are generated and selected at both ends. -/
def fxIdeApprove (p : Nat) (s : State) : State :=
  s.ideStep p (fun s => ((((s.programSet p 0).selectSet p 0 0).selectSet p 0 1)).put (O.IDE_STATE p) ideSecure)

/-- REFRESH: the inactive set is programmed at both ends and then selected. -/
def fxIdeRefresh (p : Nat) (s : State) : State :=
  s.ideStep p (fun s =>
    let k := 1 - s.activeSet p 0
    ((((s.programSet p k).selectSet p k 0).selectSet p k 1)).count32 (O.IDE_REFRESHES p))

/-- STOP: K_SET_STOP at both ends. -/
def fxIdeStop (p : Nat) (s : State) : State :=
  s.ideStep p (fun s =>
    let had := s.sec.peer.contains p
    let s := (s.zeroize p).put (O.IDE_STATE p) idePending
    if had then s.setSec (fun x => { x with peer := p :: x.peer }) else s)

/-- The effect of an accepted IDE_KEY_CMD. -/
def fxIdeKeyCmd (p v : Nat) (s : State) : State :=
  if v = 1 then fxIdeEstablish p s else if v = 2 then fxIdeApprove p s else if v = 3 then fxIdeRefresh p s else fxIdeStop p s

/-! ## RMA (R445) -/

/-- The checks of RMA_ENTER after those of R39: its value, and its interface, mode and state. -/
def State.rmaStatus (s : State) (ifc : Iface) (v : Nat) : Nat :=
  let viaCicada := match ifc with | .cicada _ => true | _ => false
  if v ≠ 0xA5A5 then stBadValue
  else if viaCicada then stDenied
  else if s.mode ≠ mAux then stBusy
  else if s.get O.SEC_STATE ≠ secSecured then stBadValue
  else stOk

/-- RMA_ENTER burns the fuse: sessions end, IDE keys are zeroized and the identity key is destroyed. -/
def fxRmaEnter (s : State) : State :=
  let s := (s.put O.SEC_PENDING secRma).setSec (fun x => { x with session := [], idGone := true })
  forEach (List.range s.ports) (fun p s => s.zeroize p) s

/-! ## The debug level (R446 to R449) -/

/-- The state permits a credential at a level (R448). -/
def State.credentialOk (s : State) (level cred : Nat) : Bool :=
  let st := s.get O.SEC_STATE
  if st = secManufacture then cred == 0
  else if st = secSecured then cred == 1 || (cred == 2 && decide (level ≤ 1))
  else cred == 2

/-- A 48-byte integer of class 05, its six members in order. -/
def State.debugBytes (s : State) (m : Nat) : List Byte := (List.range 6).flatMap (fun k => bytesOf (s.get ⟨0x05, 0, m + k⟩) 8)

/-- The key's hash and the signature hold (R447). -/
def State.debugProof (s : State) (level cred : Nat) : Bool :=
  let key := s.debugBytes 0x20 ++ s.debugBytes 0x26
  let sig := s.debugBytes 0x10 ++ s.debugBytes 0x16
  let msg := (List.range 4).flatMap (fun k => bytesOf (s.get ⟨0x05, 0, 0x02 + k⟩) 8) ++ s.serialBytes ++
    bytesOf level 1 ++ bytesOf cred 1
  Config.sha384 key == Config.debugKeyHash cred && Config.debugSigned key msg sig

/-- The checks of a DBG_AUTH write. -/
def State.authStatus (s : State) (v : Nat) : Nat :=
  let level := v % 256
  let cred := v / 256 % 256
  if s.now 0 < s.get O.DBG_LOCKOUT_UNTIL then stCooldown
  else if level = 0 ∨ 3 < level ∨ s.get O.DBG_MAX_LEVEL < level then stBadValue
  else if !s.credentialOk level cred then stDenied
  else if s.get O.SEC_STATE ≠ secManufacture ∧ s.debugProof level cred = false then stProtection
  else stOk

/-- What a DBG_AUTH write leaves, whatever its status: a write that reaches the credential check replaces the challenge, a failed
proof counts, and a success opens the level. -/
def fxDbgAuth (v : Nat) (s : State) : State :=
  let st := s.authStatus v
  if st = stCooldown ∨ st = stBadValue then s
  else
    let s := s.freshChallenge
    if st = stDenied then s
    else if st = stProtection then
      let n := s.get O.DBG_AUTH_FAILS + 1
      let s := (s.addSat O.DBG_AUTH_FAILS 1 255).setBit O.SEC_EVENTS 2 true
      let s := s.raiseDie 0 F.AUTH_FAIL
      if n = 3 then s.put O.DBG_LOCKOUT_UNTIL (s.now 0 + 250000000) else s
    else
      (((s.put O.DBG_LEVEL (v % 256)).put O.DBG_CREDENTIAL (v / 256 % 256)).put O.DBG_LEVEL_AT (s.now 0)).put O.DBG_AUTH_FAILS 0

/-- DBG_CLOSE. -/
def fxDbgClose (s : State) : State := s.put O.DBG_LEVEL 0

/-- DBG_MAX_LEVEL: a level above it falls to it. -/
def fxDbgMaxLevel (s : State) : State :=
  if s.get O.DBG_MAX_LEVEL < s.get O.DBG_LEVEL then s.put O.DBG_LEVEL (s.get O.DBG_MAX_LEVEL) else s

/-! ## The TAP (R446, R450, R451) -/

def irIdcode : Nat := 0x01
def irSample : Nat := 0x02
def irExtest : Nat := 0x03
def irClamp : Nat := 0x04
def irHighz : Nat := 0x05
def irAccess : Nat := 0x20

/-- A refused debug access is raised (R452). -/
def State.debugRefused (s : State) (addr typ : Nat) : State :=
  (s.setBit O.SEC_EVENTS 1 true).raise F.DEBUG_REFUSED 0 addr 0x0600 typ

/-- The level and the mode permit an instruction. -/
def State.irPermitted (s : State) (ir : Nat) : Bool :=
  if ir = irSample then decide (1 ≤ s.get O.DBG_LEVEL)
  else if ir = irExtest ∨ ir = irClamp ∨ ir = irHighz then decide (3 ≤ s.get O.DBG_LEVEL) && s.mode == mAux
  else true

/-- What boundary scan does with the pins under an instruction. -/
def scanOf (ir : Nat) : Nat := if ir = irExtest then 1 else if ir = irClamp then 2 else if ir = irHighz then 3 else 0

/-- The levels of the digital pins that the boundary-scan register covers, those that the model holds: PERST_N and PRSNT_N of each port,
SYS_RST_N, and the presence pin and the gate of each slot power channel (R451). Their order is a DESIGN CHOICE (log 125). -/
def State.pinLevels (s : State) : List Bool :=
  (List.range s.ports).flatMap (fun p => [!(if s.role p = roleDownstream then (s.port p).perstOut else (s.port p).perstIn), !(s.port p).prsntLow]) ++
    [!s.rst.sources.any (fun r => r.code == rSysRst)] ++
    (List.range s.variant.slotChannels).flatMap (fun n => [!s.cond n cPresent, s.gateOn n])

/-- What an instruction does with the boundary-scan register and the pins: SAMPLE/PRELOAD captures the levels; under EXTEST and CLAMP the pins
are driven from the register, and HIGHZ floats them. -/
def State.scanPins (s : State) (ir : Nat) : State :=
  let s := if ir = irSample then s.setSec (fun x => { x with boundary := s.pinLevels }) else s
  if scanOf ir = 0 then s else s.send (.boundary (scanOf ir) s.sec.boundary)

/-- Update-IR with an instruction. One that is not permitted selects the bypass register. In OFF nothing is served. -/
def State.selectIr (s : State) (ir : Nat) : State :=
  if s.mode = 0 then s
  else
    let ok := s.irPermitted ir
    let s := s.setSec (fun x => { x with ir := ir, bypassed := !ok || ir == irClamp || ir == irHighz || ir == irBypass,
                                         scan := if ok then scanOf ir else 0 })
    if ok then s.scanPins ir else s.debugRefused 0 0


/-- IDCODE's register. -/
def State.idcode (s : State) : Nat :=
  s.get O.STEPPING / 16 % 16 * 2 ^ 28 + s.get O.PART_CODE * 2 ^ 20 + 0x80 * 2 ^ 12 + Config.manufacturer.toNat * 2 + 1

def fxIdcode (s : State) : State := if s.mode = 0 then s else (s.selectIr irIdcode).send (.tap 0 s.idcode)

/-! ## Attestation (R463, R464) -/

/-- Slot 0 holds no certificate chain. -/
def State.slotEmpty (s : State) : Bool := s.get O.SEC_STATE != secSecured || s.sec.idGone

/-- The responder's answers: a response, or an ERROR. -/
def spdmOk : Nat := 0
def spdmUnsupported : Nat := 1
def spdmLimit : Nat := 2
def spdmInvalidSession : Nat := 3

/-- What the responder supports (R463): versions 1.2 and 1.3; CERT, CHAL, MEAS with signature, KEY_EX, ENCRYPT, MAC, HBEAT and KEY_UPD,
numbered in that order from 1; ECDSA P-384, SHA-384, DHE secp384r1 and AEAD AES-256-GCM likewise. -/
def spdmVersions : List Nat := [0x12, 0x13]
def spdmCapabilities : List Nat := [1, 2, 3, 4, 5, 6, 7, 8]
def spdmAlgorithms : List Nat := [1, 2, 3, 4]

/-- A request can reach the responder: over the DOE of an UPSTREAM or FM port whose link is alive and whose DOE_ENABLE offers it,
or as a whole message of the Ihlod link. -/
def State.spdmReaches (s : State) (via : Option Nat) : Bool :=
  s.domainOn 0 dMgmt &&
    match via with
    | some p => s.ideResponder p && s.bit (O.DOE_ENABLE p) 1
    | none => s.sec.waiting.isSome

/-- A number of bytes that nothing constrains. -/
def State.freshBytes (s : State) (n : Nat) : List Byte × State :=
  ((List.range n).map (fun k => (Config.freeValue (s.free + k)).setWidth 8), { s with free := s.free + n })

/-- The segments in which an answer of `n` bytes goes back over the Ihlod link: 256 valid bytes in each but the last, whose payload is
filled to a multiple of 8 bytes (R321, R350). -/
def spdmSegments (f : Frame) (node n : Nat) (bytes : List Byte) : List Frame :=
  let k := (n + 255) / 256
  (List.range k).map (fun i =>
    let m := min 256 (n - 256 * i)
    { frameAnswer f node stOk with count := i, more := decide (i + 1 < k), aux := m, payload := (bytes.drop (256 * i)).take ((m + 7) / 8 * 8) })

/-- Send an answer: over the Ihlod link it answers the frame that completed the message, in segments (R350). What an answer holds and
how long it is, 1 to 4,096 bytes, is another standard's: free. -/
def State.spdmAnswer (s : State) (via : Option Nat) (code : Nat) : State :=
  let s := s.send (.spdm via code)
  match via, s.sec.waiting with
  | none, some f =>
    let (b, s) := s.fresh
    let n := b % 4096 + 1
    let (bytes, s) := s.freshBytes ((n + 7) / 8 * 8)
    (s.setSec (fun x => { x with waiting := none })).answeredAll (spdmSegments f s.nodeAddr n bytes)
  | _, _ => s

/-- Serve an SPDM request that needs the identity in slot 0 or does not. -/
def State.spdm (s : State) (via : Option Nat) (needsSlot : Bool) (act : State → Nat × State) : State :=
  if !s.spdmReaches via then s
  else if needsSlot && s.slotEmpty then s.spdmAnswer via spdmUnsupported
  else
    let r := act s
    r.2.spdmAnswer via r.1

def fxGetCertificate (via : Option Nat) (s : State) : State := s.spdm via true (fun s => (spdmOk, s))
def fxChallenge (via : Option Nat) (s : State) : State := s.spdm via true (fun s => (spdmOk, s))

/-- Any other request that R463 has the responder support, GET_VERSION, GET_CAPABILITIES and NEGOTIATE_ALGORITHMS among them: the answer
bears what it supports. -/
def fxSpdmRequest (via : Option Nat) (s : State) : State :=
  s.spdm via false (fun s => (spdmOk, s.send (.spdmInfo via spdmVersions spdmCapabilities spdmAlgorithms)))

/-- KEY_EXCHANGE opens a session; a ninth is refused. -/
def fxKeyExchange (via : Option Nat) (s : State) : State :=
  s.spdm via true (fun s =>
    if 8 ≤ s.sec.session.length then (spdmLimit, s)
    else (spdmOk, s.setSec (fun x => { x with session := x.session ++ [⟨x.serial, via⟩], serial := x.serial + 1 })))

/-- A transport carries messages of a session: a port's DOE that offers Secured CMA/SPDM (DOE_ENABLE bit 2), and the Ihlod link. -/
def State.securedVia (s : State) (via : Option Nat) : Bool :=
  match via with
  | some p => s.bit (O.DOE_ENABLE p) 2
  | none => true

/-- END_SESSION, a message of the session itself, ends a session of the transport it came by. Of one that is not open there it ends
nothing and is answered with ERROR InvalidSession (DESIGN CHOICE, log 127). -/
def fxEndSession (via : Option Nat) (n : Nat) (s : State) : State :=
  if !s.securedVia via then s
  else if !s.sec.session.any (fun y => y.id == n && y.via == via) then s.spdm via false (fun s => (spdmInvalidSession, s))
  else s.spdm via false (fun s => (spdmOk, s.setSec (fun x => { x with session := x.session.filter (fun y => !(y.id == n && y.via == via)) })))

/-- The sessions of a port's DOE end (R463). -/
def State.endDoe (s : State) (p : Nat) : State := s.setSec (fun x => { x with session := x.session.filter (fun y => y.via != some p) })

/-- The regions of the lock set: instance, number and the three members, in order (R461, R464). -/
def State.lockSet (s : State) : List (List Nat) :=
  s.mpuInstances.flatMap (fun i => (List.range 32).filterMap (fun r =>
    let g := s.mpuRegion i r
    if g.lock = 1 ∨ g.lock = 2 then some [i, r, g.lo, g.hi, g.attr] else none))

/-- A measurement block. -/
def State.measurement (s : State) (k : Nat) : List Byte :=
  if k = 1 then bytesOf (match s.sqs.cic.running with | some f => f.digest | none => Config.firmwareDigest.toNat) 48
  else if k = 2 then bytesOf s.microcode 48
  else if k = 3 then
    bytesOf (Config.sha384 (s.sequencers.flatMap (fun n =>
      s.readBytes (dportAddr 0x21 (0x1000 * n)) 0x1000 ++ bytesOf (s.get (O.SQ_VALID n)) 1))).toNat 48
  else if k = 4 then
    bytesOf (s.get O.SEC_STATE) 1 ++ bytesOf (s.get O.DBG_LEVEL) 1 ++ bytesOf (s.get O.DBG_MAX_LEVEL) 1 ++ bytesOf 0 1 ++
      bytesOf (s.get O.CC_MIN_SVN) 2 ++
      bytesOf (match s.sqs.cic.running with | some f => f.svn | none => Config.firmwareSvn.toNat) 2 ++ bytesOf 0 8
  else bytesOf (Config.lockDigest s.lockSet).toNat 48

/-- GET_MEASUREMENTS: the five blocks, or those asked for. -/
def fxGetMeasurements (via : Option Nat) (signed : Bool) (s : State) : State :=
  s.spdm via signed (fun s => (spdmOk, forEach [1, 2, 3, 4, 5] (fun k s => s.send (.measurement via k (s.measurement k))) s))

end Sys2Proof.Machine
end

