-- ==== Sys2Proof/Machine/Cicada.lean ====
section
/-! DEFINITION. The Cicada pairs and their firmware image (R395 to R400). -/
namespace Sys2Proof.Machine

def ccReset : Nat := 0
def ccRunning : Nat := 1
def ccRestarting : Nat := 2
def ccHalted : Nat := 3

def actRestarting : Nat := 1
def actOk : Nat := 2
def actFailed : Nat := 3

def State.setCic (s : State) (f : CicSt → CicSt) : State := { s with sqs := { s.sqs with cic := f s.sqs.cic } }

/-! ## The staging image (R395) -/

/-- The size of data-port space 0x20. -/
def stagingSize : Nat := 0xC0000

/-- Bytes of the staging image, as a number and as they lie. -/
def State.stagingBytes (s : State) (off n : Nat) : List Byte := s.readBytes (dportAddr 0x20 off) n
def State.staging (s : State) (off n : Nat) : Nat := ofBytes (s.stagingBytes off n)
def State.stagingBody (s : State) : List Byte := s.stagingBytes 0x200 (s.staging 0x10 4)

/-- MAGIC, FORMAT, the lengths and the reserved fields. -/
def State.stagingForm (s : State) : Bool :=
  let body := s.staging 0x10 4
  s.staging 0x000 4 == 0x43494346 && s.staging 0x004 2 == 1 && s.staging 0x006 2 == 0 && s.staging 0x00E 2 == 0 &&
  body % 256 == 0 && decide (body ≤ 0xBFE00) && decide (s.staging 0x14 4 + s.staging 0x18 4 ≤ body) &&
  s.staging 0x1C 0x24 == 0 && s.staging 0xD0 0x130 == 0

/-- DIGEST matches the body and SIGNATURE verifies. -/
def State.stagingSigned (s : State) : Bool :=
  Config.sha384 s.stagingBody == BitVec.ofNat 384 (s.staging 0x40 48) &&
  Config.imageSigned (s.stagingBytes 0 0x70) (s.stagingBytes 0x70 96)

/-- The image that the staging bytes hold. -/
def State.stagingImage (s : State) : FwImage :=
  { version := s.staging 0x08 4, svn := s.staging 0x0C 2, digest := s.staging 0x40 48,
    microcode := (Config.sha384 (s.stagingBytes (0x200 + s.staging 0x14 4) (s.staging 0x18 4))).toNat }

/-- CC_STAGED_VERSION after a LOAD of the space has begun or ended (R399). -/
def State.noteStaging (s : State) (done : Bool) : State :=
  let s := s.setCic (fun c => { c with loaded := done })
  s.put O.CC_STAGED_VERSION (if done && s.stagingForm && s.stagingSigned then s.staging 0x08 4 else 0)

/-! ## Activation (R396) -/

/-- The checks of a write of 1 to CC_ACTIVATE. -/
def State.activateStatus (s : State) (ifc : Iface) (v : Nat) : Nat :=
  let viaCicada := match ifc with | .cicada _ => true | _ => false
  if v ≠ 1 then stOk
  else if s.mode ≠ mUpdate then stBusy
  else if viaCicada then stDenied
  else if !s.sqs.cic.loaded then stBadValue
  else if !s.stagingForm then stBadValue
  else if !s.stagingSigned then stProtection
  else if s.staging 0x0C 2 < s.get O.CC_MIN_SVN then stProtection
  else stOk

/-- Each die's pair restarts from the image, and each engine loads its microcode. -/
def fxActivate (s : State) : State :=
  let s := s.setCic (fun c => { c with previous := c.running, running := some s.stagingImage, actAt := s.elapsed 0,
                                       await := List.range s.dies, old := [] })
  forEach (List.range s.dies) (fun d s => s.put (O.CC_STATE d) ccRestarting) (s.put O.CC_ACT_STATUS actRestarting)

/-- Every pair runs the new image. -/
def fxActivationDone (s : State) : State :=
  if s.get O.CC_ACT_STATUS = actRestarting ∧ s.sqs.cic.await = [] then s.put O.CC_ACT_STATUS actOk else s

/-- A Cicada event: its bit of CC_EVENTS and its source on the pair's die. -/
def State.cicadaEvent (s : State) (d bit loc : Nat) : State := (s.setBit O.CC_EVENTS bit true).raiseDie d loc

/-- A pair does not run the new image within 250,000 ft: it restarts from the previous one. -/
def fxCicadaActFail (d : Nat) (s : State) : State :=
  if s.sqs.cic.await.contains d ∧ s.sqs.cic.actAt + 250000 ≤ s.elapsed 0 then
    let s := s.setCic (fun c => { c with await := c.await.filter (· != d), old := d :: c.old })
    ((s.put O.CC_ACT_STATUS actFailed).put (O.CC_STATE d) (if s.domainOn d dCicada then ccRestarting else ccReset)).cicadaEvent d 2 F.CICADA_ACT_FAIL
  else s

/-! ## Lockstep, the watchdog and boot (R397, R434, R460) -/

/-- The pair executes or stands halted by the debugger. -/
def State.pairAlive (s : State) (d : Nat) : Bool := s.get (O.CC_STATE d) == ccRunning || s.get (O.CC_STATE d) == ccHalted

/-- The two cores of a pair differ: it restarts from its image. -/
def fxCicadaLockstep (d : Nat) (s : State) : State :=
  if s.pairAlive d then
    ((s.put (O.CC_STATE d) ccRestarting).count32 (O.CC_LOCKSTEP_ERRORS d)).cicadaEvent d 0 F.CICADA_LOCKSTEP
  else s

/-- The watchdog of a running pair expires, once CC_WDT_PERIOD has passed since it began to count: at the pair's start, the time that the
pair is halted left out (R397, R454). A service by the firmware is seen in that this command does not come (DESIGN CHOICE, log 119). -/
def fxCicadaWdt (d : Nat) (s : State) : State :=
  if s.get (O.CC_STATE d) = ccRunning ∧ s.sqs.cic.watch.at d + s.get O.CC_WDT_PERIOD ≤ s.elapsed d then
    ((s.count32 (O.CC_WDT_EXPIRIES d)).cicadaEvent d 1 F.CICADA_WDT).watchdogReset d
  else s

/-- The firmware applies an L2 region of its own instance: reserved bits zero, 64-byte bounds, and no locked region changes. -/
def State.firmwareRegion (s : State) (d : Nat) (g : Nat × Nat × Nat × Nat) : State :=
  let (r, lo, hi, rights) := g
  if r < 32 ∧ lo % 64 = 0 ∧ (hi + 1) % 64 = 0 ∧ lo ≤ hi ∧ hi < 2 ^ 64 ∧ (s.mpuRegion d r).lock = 0 then
    ((s.put (O.MPU_LO d r) lo).put (O.MPU_HI d r) hi).put (O.MPU_ATTR d r) (0xC0000000 + rights % 8)
  else s

/-- A pair that has booted or restarted reaches RUNNING, its L2 regions set before. -/
def fxCicadaRunning (d : Nat) (regions : List (Nat × Nat × Nat × Nat)) (s : State) : State :=
  let st := s.get (O.CC_STATE d)
  if (st = ccReset ∨ st = ccRestarting) ∧ s.domainOn d dCicada = true then
    let s := forEach regions (fun g s => s.firmwareRegion d g) s
    (s.put (O.CC_STATE d) ccRunning).setCic (fun c => { c with
      await := c.await.filter (· != d), watch := c.watch.set d (s.elapsed d),
      stepped := c.stepped.filter (· != d), busError := c.busError.filter (· != d) })
  else s

end Sys2Proof.Machine
end

