-- ==== Sys2Proof/Machine/DataPort.lean ====
section
/-! DEFINITION. The data port: starting and ending an operation, and the bursts through the data window (R51 to R57), with the
contents of each space (R131, R183, R230, R279, R394, R395). -/
namespace Sys2Proof.Machine

def dpLoad : Nat := 1
def dpDump : Nat := 2
def dpActive : Nat := 1
def dpDone : Nat := 2

def State.setPort7E (s : State) (x : Nat) (f : DataPort → DataPort) : State :=
  { s with dict := { s.dict with port := s.dict.port.upd x f } }

/-! ## The spaces (R52) -/

/-- The size of a space; none for a value that names none. -/
def State.spaceSize (s : State) (space : Nat) : Option Nat :=
  match space with
  | 0x01 => some 0x80000
  | 0x02 => some 0x200000
  | 0x08 => some (s.dies * 0x4000000)
  | 0x10 => some (s.dies * 0x40000)
  | 0x18 => some 0x4000000
  | 0x20 => some stagingSize
  | 0x21 => some 0x44000
  | _ => none

/-- The space permits an operation. -/
def spacePermits (space op : Nat) : Bool := op == dpDump || !(space == 0x08 || space == 0x10)

/-- A staged entry of a shadow: held only while it differs from the live one (R131). -/
def stageEntry (t : Table Nat) (k v live : Nat) : Table Nat := if v = live then t.drop k else t.place k v

/-- What the shadow of the extent map and of the granule map shows: the live map with the staged entries laid over it. -/
def State.shadowExt (s : State) (e : Nat) : Nat := (s.map.extStage.find e).getD (s.get (O.EXT_ENTRY e))
def State.shadowGrn (s : State) (g : Nat) : Nat := (s.map.grnStage.find g).getD (s.get (O.GRN_ENTRY g))

/-- The 128 bits of an entry (R153). -/
def DirEntry.word (e : DirEntry) : Nat :=
  let w := e.sharers + e.owner * 2 ^ 64 + e.state * 2 ^ 70 + e.tag * 2 ^ 78 + e.pin * 2 ^ 99 + e.fold * 2 ^ 103
  w + (Config.entryEcc (BitVec.ofNat 120 w)).toNat * 2 ^ 120

/-- Eight bytes of a space as a DUMP returns them. -/
def State.spaceSlot (s : State) (space off : Nat) : Nat :=
  match space with
  | 0x01 => s.shadowExt (off / 4) % 2 ^ 32 + s.shadowExt (off / 4 + 1) % 2 ^ 32 * 2 ^ 32
  | 0x02 => s.shadowGrn (off / 8)
  | 0x08 => (s.dir.entry.at (off / 16)).word / 2 ^ (64 * (off / 8 % 2)) % 2 ^ 64
  | 0x10 => ofBytes (s.readBytes (captureAddr (off / 0x40000) (off % 0x40000)) 8)
  | 0x18 => ofBytes ((List.range 8).map (fun k => s.imageByte (off / 0x10000) (off % 0x10000 + k)))
  | _ => ofBytes (s.readBytes (dportAddr space off) 8)

/-- The bytes of a space that a DUMP reads in one indivisible step: a directory set (R183), a capture record (R230), otherwise a
slot. -/
def wholeUnit (space : Nat) : Nat := if space = 0x08 then 256 else if space = 0x10 then 32 else 8

/-- The eight bytes that instance `x` reads at an offset: from the set or record that it has begun to read, or, at its first slot,
as the whole of it stands now. -/
def State.dumpSlot (s : State) (x space off : Nat) : Nat × State :=
  let unit := wholeUnit space
  if unit = 8 then (s.spaceSlot space off, s)
  else
    let base := off / unit * unit
    let r := s.dict.port.at x
    let words := if r.snap ≠ [] ∧ r.snapAt = base then r.snap
      else (List.range (unit / 8)).map (fun k => s.spaceSlot space (base + 8 * k))
    (words.getD ((off - base) / 8) 0, s.setPort7E x (fun r =>
      if off + 8 = base + unit then { r with snap := [], snapAt := 0 } else { r with snap := words, snapAt := base }))

/-- Eight bytes of a LOAD reach a space; none where a staging store would exceed its limit (R131). -/
def State.loadSlot (s : State) (space off v : Nat) : Option State :=
  if space = 0x01 then
    let t := stageEntry s.map.extStage (off / 4) (v % 2 ^ 32) (s.get (O.EXT_ENTRY (off / 4)))
    let t := stageEntry t (off / 4 + 1) (v / 2 ^ 32) (s.get (O.EXT_ENTRY (off / 4 + 1)))
    if 8192 < t.length then none else some { s with map := { s.map with extStage := t } }
  else if space = 0x02 then
    let t := stageEntry s.map.grnStage (off / 8) v (s.get (O.GRN_ENTRY (off / 8)))
    if 16384 < t.length then none else some { s with map := { s.map with grnStage := t } }
  else some (s.writeBytes (dportAddr space off) (bytesOf v 8))

/-! ## Starting (R53, R56) -/

/-- Another instance works on the space in a way that excludes the operation. -/
def State.spaceTaken (s : State) (x space op : Nat) : Bool :=
  (List.range 3).any (fun y => y != x && s.get (O.DP_STATE y) == dpActive && s.get (O.DP_ADDR y) / 2 ^ 56 == space &&
    (op == dpLoad || s.get (O.DP_OP y) == dpLoad))

/-- The owning chapter's checks of a start. -/
def State.ownerStart (s : State) (space op start length : Nat) : Nat :=
  match space with
  | 0x01 => if op = dpLoad ∧ s.storeHeld 0 = true then stBusy else stOk
  | 0x02 => if op = dpLoad ∧ s.storeHeld 1 = true then stBusy else stOk
  | 0x08 => if s.mode = mMaint then stOk else stBusy
  | 0x18 =>
    let ts := unitsIn 0x10000 start length
    if op = dpDump then (if ts.all s.imageDumpable then stOk else stBusy)
    else
      match (ts.map s.imageLoadStatus).find? (· != stOk) with
      | some st => st
      | none => if 4 < (s.ten.store ++ ts.filter (fun t => !s.ten.store.contains t)).length then stLimit else stOk
  | 0x21 =>
    let ns := unitsIn 0x1000 start length
    if op = dpLoad ∧ ns.any (fun n => s.sqState n != sqStopped && s.sqState n != sqFaulted) = true then stBusy else stOk
  | _ => stOk

/-- The activity of the maintenance matrix that a start would begin (R414). -/
def startActivity (space op : Nat) : Option Nat :=
  if space = 0x08 ∧ op = dpDump then some 5 else if space = 0x20 ∧ op = dpLoad then some 6 else none

/-- The status of a write of LOAD or DUMP to DP_OP, and the pair where the matrix refuses it. A LOAD in SAFE fails check 4 of R39
(R419), before the operands are looked at. -/
def State.dpStartStatus (s : State) (x op : Nat) : Nat × Option (Nat × Nat) :=
  let addr := s.get (O.DP_ADDR x)
  let space := addr / 2 ^ 56
  let start := addr % 2 ^ 56
  let length := s.get (O.DP_LENGTH x)
  let home := spaceDomain addr
  if s.get (O.DP_STATE x) = dpActive ∨ (s.mode = mSafe ∧ op = dpLoad) then (stBusy, none)
  else match s.spaceSize space with
    | none => (stBadValue, none)
    | some size =>
      if spacePermits space op = false ∨ start % 256 ≠ 0 ∨ length = 0 ∨ length % 8 ≠ 0 ∨ size < start + length then (stBadValue, none)
      else if space = 0x21 ∧ (unitsIn 0x1000 start length).any (fun n => !s.seqExists n) = true then (stBadValue, none)
      else if s.domainOn home.1 home.2 = false ∨ s.spaceTaken x space op = true then (stBusy, none)
      else
        match (startActivity space op).bind (fun a => (s.mxExcludes a 0).map (fun b => (a, b))) with
        | some p => (stBusy, some p)
        | none => (s.ownerStart space op start length, none)

/-- An operation starts. -/
def fxDpStart (x op : Nat) (s : State) : State :=
  let addr := s.get (O.DP_ADDR x)
  let space := addr / 2 ^ 56
  let start := addr % 2 ^ 56
  let length := s.get (O.DP_LENGTH x)
  let s := (s.put (O.DP_OP x) op).put (O.DP_STATE x) dpActive
  let s := ((s.put (O.DP_STATUS x) stOk).put (O.DP_COUNT x) 0).put (O.DP_CRC x) 0
  let s := s.setPort7E x (fun _ => { start := start, slot := 0, crc := crcStart })
  if op ≠ dpLoad then s
  else if space = 0x18 then forEach (unitsIn 0x10000 start length) (fun t s => s.imageLoading t) s
  else if space = 0x20 then s.noteStaging false
  else if space = 0x21 then forEach (unitsIn 0x1000 start length) (fun n s => s.put (O.SQ_VALID n) 0) s
  else s

/-- DP_OP IDLE: an ACTIVE operation is aborted. -/
def fxDpIdle (x : Nat) (s : State) : State :=
  (if s.get (O.DP_STATE x) = dpActive then s.dpFail x stAborted else s).put (O.DP_OP x) 0

/-- An operation ends DONE: a LOAD's contents are whole. -/
def State.dpFinish (s : State) (x : Nat) : State :=
  let (space, start, length) := s.dpRange x
  let load := s.get (O.DP_OP x) = dpLoad
  let s := ((s.put (O.DP_STATE x) dpDone).put (O.DP_STATUS x) stOk).put (O.DP_ADDR x)
    (space * 2 ^ 56 + start + (length + 255) / 256 * 256)
  if !load then s
  else if space = 0x01 ∨ space = 0x02 then
    { s with dict := { s.dict with invalid := s.dict.invalid.filter (fun (r : BadRange) =>
        !(r.space == space && decide (start ≤ r.start ∧ r.start + r.length ≤ start + length))) } }
  else if space = 0x18 then forEach (unitsIn 0x10000 start length) (fun t s => s.put (O.T_IMAGE t) imgLoaded) s
  else if space = 0x20 then s.noteStaging true
  else if space = 0x21 then
    forEach (unitsIn 0x1000 start length) (fun n s =>
      (s.put (O.SQ_VALID n) 1).put (O.SQ_PROG_CRC n) (crcEnd (crcBytes crcStart (s.readBytes (dportAddr 0x21 (0x1000 * n)) 0x1000)))) s
  else s

/-! ## Bursts (R54, R57) -/

/-- The data window can be accessed in a direction from a slot on: an ACTIVE operation, or what is left of its final burst. -/
def State.windowOpen (s : State) (x op : Nat) : Bool :=
  s.get (O.DP_OP x) == op &&
    (s.get (O.DP_STATE x) == dpActive || (s.get (O.DP_STATE x) == dpDone && (s.dict.port.at x).slot != 0))

/-- A LOAD works on a space whose staged entries, or on an image, that belong to a transaction: while they do, its bursts are refused with BUSY and move
nothing, so that what PREPARE has checked is what goes live (R131, R132, R282). DEDUCED (log 112). -/
def State.loadHeld (s : State) (x : Nat) : Bool :=
  let space := s.get (O.DP_ADDR x) / 2 ^ 56
  s.get (O.DP_STATE x) == dpActive && ((space == 0x01 && s.storeHeld 0) || (space == 0x02 && s.storeHeld 1) ||
    (space == 0x18 && (unitsIn 0x10000 (s.dict.port.at x).start (s.get (O.DP_LENGTH x))).any (fun t => s.txRestores t)))

/-- The checks before any byte moves: direction, order, and the MPU over the whole burst at its first access. DESIGN CHOICE
(log 77): an access that skips slots forward within a burst is served, the slots it skips move nothing and are not counted, so that
the operation stays ACTIVE beyond its last burst; the spec orders the slots and states no outcome of a gap. -/
def State.burstStatus (s : State) (x op k : Nat) : Nat × State :=
  let r := s.dict.port.at x
  if !s.windowOpen x op || (op == dpLoad && s.loadHeld x) then (stBusy, s)
  else if k < r.slot then
    (stBadValue, if s.get (O.DP_STATE x) = dpActive then s.dpFail x stBadValue else s)
  else if r.slot ≠ 0 then (stOk, s)
  else
    let a := s.get (O.DP_ADDR x)
    match s.mpuCheck (mpuPort x) (List.range 32) (if op = dpLoad then mpuW else mpuR) (dportAddr (a / 2 ^ 56) (a % 2 ^ 56)) 256 with
    | some bad =>
      (stProtection, (s.mpuRefuse 0 (mpuPort x) (mpuMaster (mpuPort x)) (if op = dpLoad then 2 else 1) (bad / 64 * 64)).dpFail x stProtection)
    | none => (stOk, s)

/-- One slot of a burst moves: its status, what it reads, and the state. Past DP_LENGTH it is discarded or reads zero. -/
def State.moveSlot (s : State) (x op k v : Nat) : Nat × Nat × State :=
  let (space, start, length) := s.dpRange x
  let active := s.get (O.DP_STATE x) = dpActive
  let off := s.get (O.DP_ADDR x) % 2 ^ 56 + 8 * k
  let s := s.setPort7E x (fun r => { r with slot := (k + 1) % 32 })
  let past := fun (s : State) => if active ∧ k = 31 then s.put (O.DP_ADDR x) (s.get (O.DP_ADDR x) + 256) else s
  if !active ∨ start + length ≤ off then (stOk, 0, past s)
  else
    let (w, s) := if op = dpLoad then (v, s) else s.dumpSlot x space off
    match (if op = dpLoad then s.loadSlot space off v else some s) with
    | none => (stLimit, 0, s.dpFail x stLimit)
    | some s =>
      let s := s.setPort7E x (fun r => { r with crc := crcBytes r.crc (bytesOf w 8) })
      let n := s.get (O.DP_COUNT x) + 8
      let s := (s.put (O.DP_COUNT x) n).put (O.DP_CRC x) (crcEnd (s.dict.port.at x).crc)
      (stOk, w, if n = length then s.dpFinish x else past s)

/-- The slots of one access move in ascending order, up to one that fails. -/
def State.moveSlots (s : State) (x op k : Nat) (vs : List Nat) : Nat × List Nat × State :=
  match vs with
  | [] => (stOk, [], s)
  | v :: rest =>
    let (st, w, s) := s.moveSlot x op k v
    if st ≠ stOk then (st, [], s)
    else
      let (st, ws, s) := s.moveSlots x op (k + 1) rest
      (st, w :: ws, s)

/-- A write of the data window in a LOAD. -/
def State.dpWrite (s : State) (x k : Nat) (vs : List Nat) : Nat × State :=
  let (st, s) := s.burstStatus x dpLoad k
  if st ≠ stOk then (st, s)
  else
    let r := s.moveSlots x dpLoad k vs
    (r.1, r.2.2)

/-- A read of `n` slots of a DUMP. One whose data do not come within 10 µs has passed the checks of the burst, is refused with
TIMEOUT, and moves nothing (R55). -/
def State.dpRead (s : State) (x k n : Nat) (stalls : Bool := false) : Nat × List Nat × State :=
  let (st, s) := s.burstStatus x dpDump k
  if st ≠ stOk then (st, [], s)
  else if stalls then (stTimeout, [], s)
  else s.moveSlots x dpDump k (List.replicate n 0)

end Sys2Proof.Machine
end

