-- ==== Sys2Proof/Machine/Effects.lean ====
section
/-! DEFINITION. What a write of each object that acts at once does: the owning chapter's check (check 7 of R39) and the effect. -/
namespace Sys2Proof.Machine

/-! ## Which interface writes -/

def viaCicada : Iface → Bool
  | .cicada _ => true
  | _ => false
def viaClick : Iface → Bool
  | .click _ => true
  | _ => false

/-- A check that leaves the state alone. -/
def State.only (s : State) (st : Nat) : Nat × State := (st, s)

/-- A request that starts an activity of the maintenance matrix: refused and recorded where another excludes it (R416). -/
def State.unlessExcluded (s : State) (a d : Nat) (st : Nat) : Nat × State :=
  match s.mxExcludes a d with
  | some b => (stBusy, s.mxRefuse a b)
  | none => (st, s)

/-! ## Checks of the owning chapters -/

/-- A slice is absorbed by a wider port (R89). -/
def State.absorbed (s : State) (p : Nat) : Bool := s.get (O.PORT_WIDTH p) == 0

/-- The status of a LINK_CTRL command (R100). -/
def State.linkCtrlStatus (s : State) (p v : Nat) : Nat :=
  let idle := s.get (O.OUTSTANDING p) = 0 ∧
    (s.role p ≠ roleUpstream ∨ s.rq.tracker.all (fun t => !(t.2.busy && t.2.req.port == p)) = true)
  if v = 0 ∨ 4 < v then stBadValue
  else if s.trainMode = false then stBusy
  else if v = 1 then (if s.linkState p = lsDisabled then stBusy else stOk)
  else if v = 3 then stOk
  else if idle then stOk else stNotIdle

/-- Classes 01 to 07. -/
def State.ownerSystem (s : State) (ifc : Iface) (o : Obj) (v : Nat) : Nat × State :=
  match o.cls, o.mem with
  | 0x01, 0x01 =>
    let r := s.modeRequestStatus v
    (r.1, if r.1 = stOk then r.2 else r.2.put O.MODE_STATUS r.1)
  | 0x02, 0x03 => s.only (if viaClick ifc then stDenied else pkgResetStatus v)
  | 0x02, 0x00 => s.only (if viaClick ifc then stDenied else s.dieResetStatus v)
  | 0x02, 0x02 => s.only (if viaClick ifc then stDenied else s.blockResetStatus (o.inst - 1) v)
  | 0x03, 0x03 =>
    s.only (if v % 25000000 ≠ 0 then stBadValue
            else if txInstances.any (fun x => s.get (O.TX_STATE x) == txScheduled || s.get (O.TX_STATE x) == txLocked) then stBusy else stOk)
  | 0x04, 0x02 => s.only (s.rmaStatus ifc v)
  | 0x04, 0x03 => s.only (if ifc = Iface.ihlod then stDenied else stOk)
  | 0x04, 0x01 => s.only (s.ideCmdStatus (o.inst - 0x100) v)
  | 0x05, 0x06 =>
    let st := s.authStatus v
    (st, if st = stOk then s else fxDbgAuth v s)
  | 0x07, 0x00 =>
    let st := s.txCmdStatus o.inst v
    (st, if st ≠ stOk ∧ v = txcCommitAt then s.commitRefused o.inst else s)
  | 0x07, 0x03 =>
    s.only (if s.get (O.TX_STATE o.inst) = txScheduled ∨ s.get (O.TX_STATE o.inst) = txLocked then stBusy else stOk)
  | _, _ => s.only stOk

/-- Classes 10 to 14: ports, lanes and links. -/
def State.ownerLinks (s : State) (o : Obj) (v : Nat) : Nat × State :=
  let i := o.inst
  match o.cls, o.mem with
  | 0x10, m =>
    if m = 0 ∨ m = 1 ∨ m = 4 then s.only stOk
    else if s.absorbed i then s.only stBusy
    else if m = 3 then s.only (if s.get (O.PORT_WIDTH i) < v then stBadValue else stOk)
    else if m = 6 then s.only (s.linkCtrlStatus i v)
    else s.only stOk
  | 0x11, 0x08 => s.only (if s.linkState (s.leadOf (i / 4)) = lsUp ∧ !s.prt.margin.contains i then stOk else stBusy)
  | 0x13, 0x02 =>
    if v ≠ 1 then s.only stBadValue
    else if s.retrainStatus i ≠ stOk then s.only (s.retrainStatus i)
    else s.unlessExcluded 2 0 stOk
  | 0x13, 0x03 =>
    if 135 < v then s.only stBadValue
    else if s.mode ≠ mMaint then s.only stBusy
    else s.unlessExcluded 3 0 (s.laneRetireStatus i v false)
  | 0x14, 0x02 => if i = 0 then s.only stOk else s.only (if v = 1 then stOk else stBadValue)
  | _, _ => s.only stOk

/-- Classes 20 to 33: bindings, maps, the directory, groups, tenants and marks. -/
def State.ownerFabric (s : State) (o : Obj) (v : Nat) : Nat × State :=
  let i := o.inst
  match o.cls, o.mem with
  | 0x20, m => s.only (if v = 1 ∧ s.txChanges (O.VPPB_BIND i (m - 0x30)) = true then stBusy else stOk)
  | 0x21, _ => s.only (if v = 1 ∧ (List.range 6).any (fun k => s.txChanges ⟨0x21, i, k⟩) = true then stBusy else stOk)
  | 0x22, _ => s.only (s.discardStatus v)
  | 0x28, 0x01 =>
    if i = 0 then s.only stOk
    else if s.mode ≠ mMaint then s.only stBusy
    else if s.bankMigrates (i - 1) v then (stBusy, s.mxRefuse 0 1)
    else s.unlessExcluded 0 (i - 1) (s.bankStatus (i - 1) v)
  | 0x29, 0x08 => s.only (s.grpCtrlStatus (i / 8) (i % 8) v)
  | 0x2A, _ => s.only (s.recallStatus i)
  | 0x30, 0x02 => s.only (if i < 0x400 then s.admitStatus i v else stOk)
  | 0x30, 0x11 => s.only (s.tenantCmdStatus i v)
  | 0x33, 0x00 => s.only (if v ≠ 0 ∧ v < s.now 0 + 25 then stBadValue else stOk)
  | _, _ => s.only stOk

/-- Classes 38 to 7F. -/
def State.ownerUnits (s : State) (ifc : Iface) (o : Obj) (v : Nat) : Nat × State :=
  let i := o.inst
  match o.cls, o.mem with
  | 0x38, 0x00 => s.only (s.queueCtrlStatus i v)
  | 0x38, 0x14 => s.only (s.ntfAckStatus i v)
  | 0x41, 0x0A => s.only (if viaCicada ifc || viaClick ifc then stDenied else stOk)
  | 0x42, 0x03 =>
    let r := s.retClearStatus v
    (r.1, match r.2 with | some b => s.mxRefuse 3 b | none => s)
  | 0x48, m =>
    s.only (if 0x400 ≤ i ∧ s.tenantState (i - 0x400) = tFree then stBusy
            else if i = 0 ∧ m = 0 ∧ v ≠ 0 ∧ v < s.now 0 + 25 then stBadValue else stOk)
  | 0x50, 0x00 => s.only (s.chEnableStatus i v)
  | 0x50, 0x11 => s.only (if v = 1 then s.damageClearStatus i (!(viaCicada ifc || viaClick ifc)) else stOk)
  | 0x50, _ => s.only (s.slotWriteStatus o v)
  | 0x51, _ => s.only (s.slotWriteStatus o v)
  | 0x58, m =>
    s.only (if i < 0x100 ∧ m = 0x0C then
              (if s.get (O.CAP_STATE (i - 1)) = capOff ∨ s.get (O.CAP_STATE (i - 1)) = capStopped then stOk else stBusy)
            else if 0x100 ≤ i ∧ m = 0x0A ∧ v < s.get ⟨0x58, i, 0x09⟩ then stBadValue else stOk)
  | 0x5A, 0x00 => s.only (if i = 0 then s.caAtStatus v else stOk)
  | 0x60, 0x00 => s.only (s.sqCmdStatus i v)
  | 0x60, m => s.only (s.sqWriteStatus i m v)
  | 0x61, 0x00 =>
    if s.activateStatus ifc v ≠ stOk ∨ v = 0 then s.only (s.activateStatus ifc v) else s.unlessExcluded 6 0 stOk
  | 0x7E, 0x00 =>
    if v = 0 then s.only stOk
    else
      let r := s.dpStartStatus i v
      (r.1, match r.2 with | some p => s.mxRefuse p.1 p.2 | none => s)
  | 0x7E, _ => s.only (if s.get (O.DP_STATE i) = dpActive then stBusy else stOk)
  | _, _ => s.only stOk

/-- The limits that an owner puts on a value beside those of its table, which belong to check 6 of R39 (R303, R431, R432). -/
def State.ownerLimit (s : State) (o : Obj) (v : Nat) : Bool :=
  match o.cls, o.mem with
  | 0x02, 0x03 => pkgResetStatus v == stOk
  | 0x02, 0x00 => v == 0xA5A5
  | 0x02, 0x02 => blockBits (o.inst - 1) v
  | 0x38, 0x14 => s.ntfAckStatus o.inst v == stOk
  | _, _ => true

/-- The owner's limits and check 7 of a write that acts at once: its status, and what a refusal leaves behind. What a FROZEN tenant holds
takes no write but T_CMD's (R274, R278). -/
def State.ownerStatus (s : State) (ifc : Iface) (o : Obj) (v : Nat) : Nat × State :=
  if !s.ownerLimit o v then (stBadValue, s)
  else if (s.frozenHolder o).isSome && !(o.cls == 0x30 && o.mem == 0x11) then (stFrozen, s)
  else if o.cls < 0x10 then s.ownerSystem ifc o v
  else if o.cls < 0x20 then s.ownerLinks o v
  else if o.cls < 0x38 then s.ownerFabric o v
  else s.ownerUnits ifc o v

/-! ## QUERY_OBJECT (R50) -/

def Ty.code : Ty → Nat
  | .u8 => 0 | .u16 => 1 | .u32 => 2 | .u64 => 3 | .s32 => 4 | .bool => 5 | .enum8 => 6 | .bits32 => 7 | .bits64 => 8
  | .ticks64 => 9 | .addr64 => 10 | .octets _ => 11

def Ty.size : Ty → Nat
  | .u8 | .bool | .enum8 => 1
  | .u16 => 2
  | .u32 | .s32 | .bits32 => 4
  | .octets n => n
  | _ => 8

def Access.code : Access → Nat
  | .ro => 0 | .rw => 1 | .rwt => 2 | .wo => 3 | .w1c => 4 | .rc => 5

/-- Objects replicated on every die: the maps' class, the regions' and the meters' settings (R127, R138, R146, R244). DESIGN CHOICE
(log 105): bit 27 of QUERY_RESULT shows those objects that their owning chapter calls replicated, as R18 says, and not every class of
which R429 and R432 speak of a die's copies. -/
def replicated (o : Obj) : Bool := o.cls == 0x22 || o.cls == 0x2A || (o.cls == 0x32 && decide (o.mem < 5))

/-- The description of an object, and its default. -/
def State.describe (s : State) (o : Obj) : Nat × Nat :=
  match rowOf s.variant o with
  | none => (0x03 * 2 ^ 56, 0)
  | some r =>
    let flags := b2n r.config + 2 * b2n (r.kind == .fuse) + 4 * b2n (r.kind == .live) + 8 * b2n (replicated o)
    let oct := match r.ty with | .octets _ => true | _ => false
    (r.ty.code * 2 ^ 48 + r.acc.code * 2 ^ 40 + r.rights.dbg * 2 ^ 38 + r.rights.host * 2 ^ 36 + r.rights.ten * 2 ^ 34 +
      r.rights.fm * 2 ^ 32 + flags * 2 ^ 24 + r.ty.size,
     if oct || r.kind == .fuse || r.kind == .live then 0 else defaultOf s.variant o)

/-- QUERY_OBJECT is written. -/
def fxQueryObject (x v : Nat) (s : State) : State :=
  let r := s.describe (Obj.ofNumber v)
  ((s.put (O.QUERY_OBJECT x) v).put (O.QUERY_RESULT x) r.1).put (O.QUERY_DEFAULT x) r.2

/-! ## Effects -/

/-- IDE_ENABLE: a stream that starts or stops (R105, R466). -/
def fxIdeEnable (p v : Nat) (s : State) : State :=
  let s := s.put (O.IDE_ENABLE p) v
  if v = 0 then s.put (O.IDE_STATE p) ideOff
  else if s.get (O.IDE_STATE p) = ideOff then s.put (O.IDE_STATE p) idePending
  else s

/-- Effects in classes 01 to 07. -/
def State.effectSystem (s : State) (o : Obj) (v : Nat) : State :=
  match o.cls, o.mem with
  | 0x01, 0x01 => fxModeRequest v s
  | 0x02, 0x03 => fxPkgReset s
  | 0x02, 0x00 => fxDieReset (o.inst - 1) s
  | 0x02, 0x02 => fxBlockReset (o.inst - 1) v s
  | 0x03, 0x03 => fxTodArm v s
  | 0x04, 0x02 => fxRmaEnter s
  | 0x04, 0x01 => fxIdeKeyCmd (o.inst - 0x100) v s
  | 0x05, 0x01 => fxDbgMaxLevel (s.put o v)
  | 0x05, 0x06 => fxDbgAuth v s
  | 0x05, 0x07 => if v = 1 then fxDbgClose s else s
  | 0x07, 0x00 => fxTxCmd o.inst v s
  | _, _ => s.put o v

/-- Effects in classes 10 to 14. -/
def State.effectLinks (s : State) (o : Obj) (v : Nat) : State :=
  let i := o.inst
  match o.cls, o.mem with
  | 0x10, 0x06 => fxLinkCtrl i v s
  | 0x10, 0x12 => fxIdeEnable i v s
  | 0x10, 0x14 => s.put o (Nat.lor v 1)
  | 0x11, 0x08 => fxMarginCtrl i v s
  | 0x13, 0x02 => fxD2dRetrain i s
  | 0x13, 0x03 => fxLaneRetire i v s
  | 0x14, 0x02 => if i = 0 then s.put o v else fxSegCtrl (i - 1) s
  | _, _ => s.put o v

/-- Effects in classes 20 to 33. -/
def State.effectFabric (s : State) (o : Obj) (v : Nat) : State :=
  let i := o.inst
  match o.cls, o.mem with
  | 0x22, _ => fxShadowDiscard v s
  | 0x28, 0x01 => if i = 0 then s.put o v else fxBankRetire (i - 1) v s
  | 0x29, 0x08 => fxGrpCtrl (i / 8) (i % 8) v s
  | 0x2A, _ => fxSrRecall i v s
  | 0x30, 0x02 => fxTenantAdmit i v s
  | 0x30, 0x11 => fxTenantCmd i v s
  | 0x33, 0x03 => if v = 1 then fxHwmClear s else s
  | _, _ => s.put o v

/-- Effects in classes 38 to 7F. -/
def State.effectUnits (s : State) (o : Obj) (v : Nat) : State :=
  let i := o.inst
  match o.cls, o.mem with
  | 0x38, 0x00 => fxQueueCtrl i v s
  | 0x38, 0x03 => fxDoorbell i s
  | 0x38, 0x14 => fxNtfAck i v s
  | 0x41, 0x0A => if v = 1 then s.owe (.safe 0 causeCommanded 0xFFFF) else s
  | 0x42, 0x03 => fxRetClear v s
  | 0x48, m =>
    if 0x400 ≤ i then
      (if m = 0x21 then fxTcClear (i - 0x400) v s
       else if m < 0x20 then fxTcSelect (i - 0x400) (m / 4) v s else s.put o v)
    else if 0x100 ≤ i then
      let d := (i - 0x100) / 64
      let n := (i - 0x100) % 64
      (if m = 0 then fxPcSelect d n v s else if m = 4 then (if v = 1 then fxPcClear d n s else s) else s.put o v)
    else s.put o v
  | 0x50, 0x00 => fxChEnable i v s
  | 0x50, 0x11 => fxChDamageClear i v s
  | 0x58, m =>
    if 0x100 ≤ i then (if m = 0 then fxCfEnable ((i - 0x100) / 8) ((i - 0x100) % 8) v s else s.put o v)
    else if m = 0 then fxCapEnable (i - 1) v s
    else if m = 0x0C then (if v = 1 then fxCapClear (i - 1) s else s)
    else s.put o v
  | 0x5A, 0x00 => if i = 0 then fxCaAt v s else s.put o v
  | 0x60, 0x00 => fxSqCmd i v s
  | 0x60, 0x02 => fxSqRole i v s
  | 0x61, 0x00 => if v = 1 then fxActivate s else s
  | 0x7E, 0x00 => if v = 0 then fxDpIdle i s else fxDpStart i v s
  | 0x7F, 0x08 => fxQueryObject (i - 1) v s
  | _, _ => s.put o v

/-- A served write of an object that acts at once. A W1C object loses the bits written as 1; FS_CAP_VALID clears its capture. -/
def State.effect (s : State) (o : Obj) (r : Row) (v : Nat) : State :=
  if r.acc = .w1c then
    (if o.cls = 0x40 ∧ o.mem = 0x05 then (if v = 1 then fxFsCapValid o.inst s else s)
     else s.put o (maskWithout (s.get o) v))
  else if o.cls < 0x10 then s.effectSystem o v
  else if o.cls < 0x20 then s.effectLinks o v
  else if o.cls < 0x38 then s.effectFabric o v
  else s.effectUnits o v

end Sys2Proof.Machine
end

