-- ==== Sys2Proof/Machine/Access.lean ====
section
/-! DEFINITION. Accesses to the object dictionary: READ and WRITE services, the error record, the in-band window, tenant mailboxes
and the debug port's own checks (R35 to R44, R49, R387, R446, R450 to R452, R456 to R461). -/
namespace Sys2Proof.Machine

/-! ## The internal address of an object (R43, R455) -/

/-- The in-band window offset of a member slot. -/
def windowOffset (o : Obj) : Nat := o.cls * 2 ^ 23 + o.inst * 2 ^ 11 + o.mem * 8

/-- The DICT address of a member slot. -/
def dictAddr (o : Obj) : Nat := 2 ^ 48 + windowOffset o

/-- The slot at a window offset. -/
def slotAt (off : Nat) : Obj := ⟨off / 2 ^ 23 % 256, off / 2 ^ 11 % 4096, off / 8 % 256⟩

/-! ## The MPU of the interface's master (R456, R459) -/

/-- The MPU that checks an interface's dictionary accesses, with its die. -/
def ifcMpu : Iface → Option (Nat × Nat)
  | .cicada d => some (mpuCicada d, d)
  | .click n => some (mpuClick n, seqDie n)
  | _ => none

/-- A Cicada pair that the debugger has halted makes no access, but for one of the instruction that it steps (R454). -/
def State.pairStands (s : State) (d : Nat) : Bool := s.get (O.CC_STATE d) == ccHalted && !s.sqs.cic.stepped.contains d

/-- A Cicada pair takes a bus-error exception (R459). -/
def State.busError (s : State) (d : Nat) : State :=
  s.setCic (fun c => { c with busError := if c.busError.contains d then c.busError else d :: c.busError })

/-- The check of a whole service of `n` slots: the refused state, if it is refused. -/
def State.ifcRefused (s : State) (ifc : Iface) (o : Obj) (n : Nat) (write : Bool) : Option State :=
  match ifcMpu ifc with
  | none => none
  | some (inst, d) =>
    if (match ifc with | .cicada e => s.pairStands e | _ => false) then none else
    (s.mpuCheck inst (List.range 32) (if write then mpuW else mpuR) (dictAddr o) (8 * n)).map (fun bad =>
      let s := s.mpuRefuse d inst (mpuMaster inst) 6 (max (dictAddr o) (bad / 64 * 64))
      match ifc with | .cicada e => s.busError e | _ => s)

/-! ## The debug access port's checks (R446, R450, R452, R461) -/

/-- The kind of an internal address (R455). -/
def spaceOf (a : Nat) : Nat := a / 2 ^ 48
def spFabric : Nat := 0
def spDict : Nat := 1
def spCore : Nat := 2
def spCapture : Nat := 4

/-- R455 defines an address. -/
def State.addrDefined (s : State) (a : Nat) : Bool :=
  let off := a % 2 ^ 48
  let die := off / 2 ^ 40
  match spaceOf a with
  | 0 => decide (off < 2 ^ 47)
  | 1 => decide (off < 2 ^ 31)
  | 2 => decide (die < s.dies ∧ off % 2 ^ 40 < 2 ^ 20)
  | 4 => decide (die < s.dies ∧ off % 2 ^ 40 < 2 ^ 18)
  | _ => false

/-- The level grants the reach. -/
def State.debugReach (s : State) (a : Nat) (write : Bool) : Bool :=
  let level := s.get O.DBG_LEVEL
  let cls := (slotAt (a % 2 ^ 48)).cls
  match spaceOf a with
  | 0 => decide (3 ≤ level)
  | 1 => cls == 0x05 || decide (2 ≤ level) || (level == 1 && !write && (cls == 0x00 || cls == 0x48 || cls == 0x58))
  | 2 => decide (2 ≤ level)
  | 4 => !write && decide (1 ≤ level)
  | _ => false

/-- A Cicada pair's core memory is out of the debugger's reach. -/
def State.coreHeld (s : State) (d : Nat) : Bool :=
  decide (d < s.dies) && (s.get (O.CC_STATE d) == ccReset || s.get (O.CC_STATE d) == ccRestarting)

/-- The mode serves an access to an object (R450): in AUX, INIT and CONFIG of powered blocks only (R41), and in SAFE the writes of R419. -/
def State.debugObject (s : State) (o : Obj) (write : Bool) : Bool :=
  match rowOfSlot s.variant o with
  | none => true
  | some r =>
    let m := s.mode
    if m = mAux ∨ m = mInit ∨ m = mConfig then s.servesObj o
    else !(m == mSafe && write && !safeClass o.cls && r.acc != Access.w1c)

/-- The mode serves an access (R450). -/
def State.debugServed (s : State) (a : Nat) (write : Bool) : Bool :=
  let m := s.mode
  let shared := (s.regionOf (a % 2 ^ 47 / 64 * 64)).isSome
  match spaceOf a with
  | 0 =>
    if m = mRunNc then !shared
    else if m = mSafe then !write && !shared
    else decide (mLinkup ≤ m ∧ m ≤ mMaint)
  | 2 => !(m == mUpdate && s.get O.CC_ACT_STATUS == actRestarting) && !s.coreHeld (a % 2 ^ 48 / 2 ^ 40)
  | 4 => m != mAux
  | 1 => s.debugObject (slotAt (a % 2 ^ 48)) write
  | _ => true

/-- The lock set permits an address. -/
def State.lockPermits (s : State) (a : Nat) : Bool :=
  s.mpuInstances.all (fun i => (List.range 32).all (fun r =>
    let g := s.mpuRegion i r
    let inside := decide (g.lo ≤ a ∧ a ≤ g.hi)
    !(inside && (g.lock == 2 || (g.lock == 1 && decide (s.get O.DBG_LEVEL < 3))))))

/-- Steps 1 to 4 of R452 for 8 bytes at an address. -/
def State.debugStatus (s : State) (a : Nat) (write : Bool) : Nat :=
  if !s.debugReach a write then stDenied
  else if !s.debugServed a write then stBusy
  else if !s.lockPermits a then stProtection
  else if !s.addrDefined a || (s.mpuCheck mpuDebug (List.range 32) (if write then mpuW else mpuR) a 8).isSome then stProtection
  else stOk

/-- The steps before those of R39: the debug port's, and of a halted pair that nothing is served, BUSY (DESIGN CHOICE, log 126). -/
def State.ifcGate (s : State) (ifc : Iface) (o : Obj) (write : Bool) : Nat :=
  match ifc with
  | .debug => s.debugStatus (dictAddr o) write
  | .cicada d => if s.pairStands d then stBusy else stOk
  | _ => stOk

/-! ## The error record (R49) -/

/-- What an access leaves beside its record: a refused one of the debug port is raised and counted (R452), and the access of a halted pair's
stepped instruction has been made (R454). -/
def State.afterAccess (s : State) (ifc : Iface) (o : Obj) (st : Nat) : State :=
  match ifc with
  | .debug => if st = stOk then s else (s.debugRefused (dictAddr o) 6).count32 O.DBG_REFUSED
  | .cicada d => if s.sqs.cic.stepped.contains d then s.setCic (fun c => { c with stepped := c.stepped.filter (· != d) }) else s
  | _ => s

/-- Record the outcome of a member access in the interface's own instance of class 7F. -/
def State.logAccess (s : State) (ifc : Iface) (o : Obj) (st : Nat) : State :=
  let s := s.afterAccess ifc o st
  match ifcPort ifc with
  | none => s
  | some x =>
    if o.cls = 0x7F ∧ o.inst = x + 1 then s
    else
      let s := (s.put (O.LAST_STATUS x) st).put (O.LAST_OBJECT x) o.number
      if st = stOk then s
      else
        let s := if s.get (O.ERROR_COUNT x) = 0 then (s.put (O.FIRST_ERROR_STATUS x) st).put (O.FIRST_ERROR_OBJECT x) o.number else s
        s.count32 (O.ERROR_COUNT x)

/-! ## One member (R38, R39) -/

/-- The object whose slot is named: itself, or the OCTETS object that covers it. -/
def State.baseOf (s : State) (o : Obj) : Obj :=
  match rowOfSlot s.variant o with
  | some r => { o with mem := o.mem - (o.mem - r.mem) % r.stride }
  | none => o

/-- A read of one slot: its status, its value and the state; an RC object returns to its default. -/
def State.readSlot (s : State) (ifc : Iface) (o : Obj) : Nat × Nat × State :=
  let b := s.baseOf o
  let st := if s.ifcGate ifc o false ≠ stOk then s.ifcGate ifc o false else s.readStatus ifc b
  if st ≠ stOk then (st, 0, s)
  else
    let v := s.readObj o
    let rc := match rowOf s.variant b with | some r => r.acc == .rc | none => false
    if !rc then (stOk, v, s)
    else if o.cls = 0x7F ∧ o.mem = 4 then
      (stOk, v, ((s.clear o).clear ⟨0x7F, o.inst, 2⟩).clear ⟨0x7F, o.inst, 3⟩)
    else (stOk, v, s.clear o)

/-- A write of one object, with a value for each of its slots: its status and the state. -/
def State.writeObj (s : State) (ifc : Iface) (o : Obj) (form : Bool) (vs : List Nat) : Nat × State :=
  let st := if s.ifcGate ifc o true ≠ stOk then s.ifcGate ifc o true else s.writeCheck ifc o form vs
  if st ≠ stOk then (st, s)
  else
    match rowOf s.variant o, ifcTx ifc with
    | some r, tx =>
      if r.acc = .rwt then
        match tx with
        | some x => s.stageObj x o vs
        | none => (stDenied, s)
      else
        let (st, s) := s.ownerStatus ifc o (vs.headD 0)
        if st ≠ stOk then (st, s) else (stOk, s.effect o r (vs.headD 0))
    | none, _ => (stBadObject, s)

/-! ## Services (R42) -/

/-- The data window of a data port instance. -/
def isWindow (o : Obj) : Bool := o.cls == 0x7E && decide (o.inst < 3) && decide (0x20 ≤ o.mem ∧ o.mem < 0x40)

/-- A range is malformed. -/
def State.malformed (s : State) (o : Obj) (n : Nat) : Bool :=
  decide (256 < o.mem + n) ||
  (List.range n).any (fun k =>
    let x : Obj := { o with mem := o.mem + k }
    match rowOfSlot s.variant x with
    | some r => decide (1 < r.slots) && !isWindow x &&
        (let b := (s.baseOf x).mem
         !decide (o.mem ≤ b ∧ b + r.slots ≤ o.mem + n))
    | none => false)

/-- Record one outcome for each of `n` member slots in ascending order; a range that runs past member 0xFF goes on numbering its
slots beyond it. -/
def State.logSlots (s : State) (ifc : Iface) (o : Obj) (n st : Nat) : State :=
  forEach (List.range n) (fun k s => s.logAccess ifc { o with mem := o.mem + k } st) s

/-- The status that refuses a service as a whole, if any: its size, its MPU or its range. Every slot of a malformed range yields
BAD_OBJECT (R42), and so is recorded (R49). -/
def State.refusedWhole (s : State) (ifc : Iface) (o : Obj) (n : Nat) (write : Bool) : Option (Nat × State) :=
  if n = 0 ∨ 32 < n then some (stBadValue, s.logAccess ifc o stBadValue)
  else match s.ifcRefused ifc o n write with
    | some t => some (stProtection, t)
    | none => if s.malformed o n then some (stBadObject, s.logSlots ifc o n stBadObject) else none

/-- A read of window slots: one access of the burst (R54); `stalls` says that its data do not come in time (R55). -/
def State.readWindow (s : State) (ifc : Iface) (o : Obj) (n : Nat) (stalls : Bool := false) : List (Nat × Nat) × State :=
  let st := if s.ifcGate ifc o false ≠ stOk then s.ifcGate ifc o false else s.readStatus ifc { o with mem := 0x20 }
  let (st, ws, s) := if st ≠ stOk then (st, [], s) else s.dpRead o.inst (o.mem - 0x20) n stalls
  ((List.range n).map (fun k => (st, ws.getD k 0)), s.logSlots ifc o n st)

/-- A write of window slots (R54). -/
def State.writeWindow (s : State) (ifc : Iface) (o : Obj) (vs : List Nat) : List Nat × State :=
  let st := if s.ifcGate ifc o true ≠ stOk then s.ifcGate ifc o true else s.writeStatus ifc { o with mem := 0x20 }
  let (st, s) := if st ≠ stOk then (st, s) else s.dpWrite o.inst (o.mem - 0x20) vs
  (vs.map (fun _ => st), s.logSlots ifc o vs.length st)

/-- READ members one after another; `fuel` bounds the slots, and `stalls` says that the data of window slots do not come in time. -/
def State.readMembers (s : State) (ifc : Iface) (o : Obj) (n fuel : Nat) (stalls : Bool := false) : List (Nat × Nat) × State :=
  match fuel with
  | 0 => ([], s)
  | fuel + 1 =>
    if n = 0 then ([], s)
    else if isWindow o then
      let k := min n (0x40 - o.mem)
      let (r, s) := s.readWindow ifc o k stalls
      let (rs, s) := s.readMembers ifc { o with mem := o.mem + k } (n - k) fuel stalls
      (r ++ rs, s)
    else
      let (st, v, s) := s.readSlot ifc o
      let s := s.logAccess ifc o st
      let (rs, s) := s.readMembers ifc { o with mem := o.mem + 1 } (n - 1) fuel stalls
      ((st, v) :: rs, s)

/-- WRITE members one after another: an OCTETS object takes its slots together. -/
def State.writeMembers (s : State) (ifc : Iface) (o : Obj) (form : Bool) (vs : List Nat) (fuel : Nat) : List Nat × State :=
  match fuel with
  | 0 => ([], s)
  | fuel + 1 =>
    if vs = [] then ([], s)
    else
      let size := match rowOf s.variant o with | some r => r.slots | none => 1
      let k := if isWindow o then min vs.length (0x40 - o.mem) else size
      let (sts, s) :=
        if isWindow o then s.writeWindow ifc o (vs.take k)
        else
          let (st, s) := s.writeObj ifc o form (vs.take k)
          (List.replicate k st, s.logSlots ifc o k st)
      let (rest, s) := s.writeMembers ifc { o with mem := o.mem + k } form (vs.drop k) fuel
      (sts ++ rest, s)

/-- The READ service: a status and a value for each slot. -/
def State.dictRead (s : State) (ifc : Iface) (o : Obj) (n : Nat) (stalls : Bool := false) : List (Nat × Nat) × State :=
  match s.refusedWhole ifc o n false with
  | some (st, t) => (List.replicate n (st, 0), t)
  | none => s.readMembers ifc o n 32 stalls

/-- The WRITE service: a status for each slot. -/
def State.dictWrite (s : State) (ifc : Iface) (o : Obj) (form : Bool) (vs : List Nat) : List Nat × State :=
  match s.refusedWhole ifc o vs.length true with
  | some (st, t) => (List.replicate vs.length st, t)
  | none => s.writeMembers ifc o form vs 32

/-! ## Services as commands -/

/-- A READ answers its requester. -/
def State.readCmd (s : State) (ifc : Iface) (o : Obj) (n : Nat) : State :=
  let (rs, s) := s.dictRead ifc o n
  forEach rs (fun r s => s.send (.value ifc r.1 r.2)) s

/-- A WRITE answers its requester; the in-band window posts its writes (R44). -/
def State.writeCmd (s : State) (ifc : Iface) (o : Obj) (vs : List Nat) : State :=
  let (sts, s) := s.dictWrite ifc o true vs
  if ifc = .inband then s else forEach sts (fun st s => s.send (.status ifc st)) s

/-- A write of one object by its value. -/
def State.write1 (s : State) (ifc : Iface) (o : Obj) (v : Nat) : State := s.writeCmd ifc o [v]

/-! ## The in-band window (R43, R44) -/

/-- The form of a window access. -/
def windowForm (off len : Nat) : Bool :=
  (len == 4 && off % 4 == 0) ||
    (decide (8 ≤ len ∧ len ≤ 256) && len % 8 == 0 && off % 8 == 0 && off / 2 ^ 11 == (off + len - 1) / 2 ^ 11)

/-- A four-byte read: half a slot. -/
def State.readHalf (s : State) (off : Nat) : Nat × Nat × State :=
  let o := slotAt off
  let done := fun (r : Nat × Nat × State) => (r.1, r.2.1, r.2.2.logAccess .inband o r.1)
  match rowOfSlot s.variant o with
  | none => done (stBadObject, 0, s)
  | some r =>
    if 1 < r.slots then done (stBadObject, 0, s)
    else if s.readStatus .inband o ≠ stOk then done (s.readStatus .inband o, 0, s)
    else if r.acc = .rc then done (stBadValue, 0, s)
    else
      let (st, v, s) := s.readSlot .inband o
      done (st, if off % 8 = 4 then v / 2 ^ 32 else v % 2 ^ 32, s)

/-- A read of the window: bytes, all ones where it is refused. -/
def State.windowBytes (s : State) (off len : Nat) : List Byte × State :=
  let ones := fun n => List.replicate n (255 : Byte)
  if !windowForm off len then (ones len, s.logAccess .inband (slotAt off) stBadValue)
  else if len = 4 then
    let (st, v, s) := s.readHalf off
    (if st = stOk then bytesOf v 4 else ones 4, s)
  else
    let (rs, s) := s.dictRead .inband (slotAt off) (len / 8)
    (rs.flatMap (fun r => if r.1 = stOk then bytesOf r.2 8 else ones 8), s)

/-- A read of the window, answered with its bytes. -/
def fxWindowRead (off len : Nat) (s : State) : State :=
  let r := s.windowBytes off len
  r.2.send (.bytes .inband r.1)

/-- A four-byte write: the low half of a type of at most 32 bits (R43). DESIGN CHOICE (log 78): one to a slot of an OCTETS object
of more than 8 bytes is refused as the malformed range that it is (R42), with BAD_OBJECT, and not with the BAD_VALUE of R43's
"any other 4-byte write"; the spec says both. -/
def State.writeHalf (s : State) (off v : Nat) : State :=
  let o := slotAt off
  let (st, s) :=
    match rowOfSlot s.variant o with
    | none => (stBadObject, s)
    | some r =>
      if 1 < r.slots ∧ isWindow o = false then (stBadObject, s)
      else
        let form := off % 8 == 0 && decide (r.ty.size ≤ 4) && r.slots == 1
        s.writeObj .inband (s.baseOf o) form [if r.ty = Ty.s32 then ofS32 (toS32 v) else v]
  s.logAccess .inband o st

/-- A write of the window, posted. -/
def fxWindowWrite (off : Nat) (data : List Byte) (s : State) : State :=
  let len := data.length
  if !windowForm off len then s.logAccess .inband (slotAt off) stBadValue
  else if len = 4 then s.writeHalf off (ofBytes data)
  else (s.dictWrite .inband (slotAt off) true ((List.range (len / 8)).map (fun k => ofBytes ((data.drop (8 * k)).take 8)))).2

/-! ## Tenant mailboxes (R35) -/

def State.setMailbox (s : State) (t : Nat) (f : Mailbox → Mailbox) : State :=
  { s with dict := { s.dict with mailbox := s.dict.mailbox.upd t f } }

/-- The die that serves a tenant's waiting access: the one that holds its instance (R35). -/
def State.mbxDie (s : State) (t : Nat) : Nat := (s.homeOf (Obj.ofNumber (s.dict.mailbox.at t).object)).1

/-- The tenants whose accesses wait at a die. -/
def State.mbxWaiting (s : State) (d : Nat) : List Nat :=
  (s.dict.mailbox.filter (fun (e : Nat × Mailbox) => e.2.busy && s.mbxDie e.1 == d)).map (fun e => e.1)

/-- The front frame of the Ihlod node makes an access to the dictionary: the die that it reaches. A read of the data port's burst, a
DP_DUMP or a DICT_READ that covers a slot of it, may stall and delays no other access (R40, R55). -/
def State.ihlodDie (s : State) : Option Nat :=
  match s.ihl.held with
  | f :: _ =>
    if s.sec.waiting.isSome then none
    else if f.type = tTod ∨ f.type = tDpLoad then some 0
    else
      let o := Obj.ofNumber f.object
      let burst := o.cls == 0x7E && decide (0x20 < o.mem + f.count)
      if f.type = tDictWrite ∨ (f.type = tDictRead ∧ !burst) then some (s.homeOf o).1 else none
  | [] => none

/-- At one die, the Ihlod node's access comes before a tenant's (R40): where neither has waited 32 core cycles, and where its own wait
is 32 cycles and no shorter than the tenant's. -/
def State.ihlodFirst (s : State) (t : Nat) : Bool :=
  let age := s.mono (s.mbxDie t) - (s.dict.mailbox.at t).since
  let own := s.mono 0 - s.ihl.heldAt.headD (s.mono 0)
  if 32 ≤ own then decide (age ≤ own) else decide (age < 32)

/-- A tenant's access is the one that its die serves next (R40): the oldest of those that have waited 32 core cycles, the lower
tenant first of two as old; where none has waited so long, the lowest tenant's. An access of the
Ihlod node that waits at the die comes before it or after it as R40 says. The accesses of the other interfaces are served as their commands
come, each within its command: DEDUCED (log 81). -/
def State.mbxNext (s : State) (t : Nat) : Bool :=
  let d := s.mbxDie t
  let now := s.mono d
  let ts := s.mbxWaiting d
  let since := fun (u : Nat) => (s.dict.mailbox.at u).since
  let old := ts.filter (fun u => decide (since u + 32 ≤ now))
  !(s.ihlodDie == some d && s.ihlodFirst t) &&
  if old.isEmpty then ts.all (fun u => decide (t ≤ u))
  else old.contains t && old.all (fun u => decide (since t < since u ∨ (since t = since u ∧ t ≤ u)))

/-- A request of a mailbox starts: it waits at the die of its instance. -/
def State.mbxStart (s : State) (t op : Nat) (f : Mailbox → Mailbox) : State :=
  let s := s.setMailbox t (fun m => { f m with op := op, busy := true })
  s.setMailbox t (fun m => { m with since := s.mono (s.mbxDie t) })

/-- The way to a tenant's window (R104, R270): its host's upstream port, which carries data on a die that is not in SAFE, and the vPPB of
the host's POOL binding. -/
def State.windowWay (s : State) (t : Nat) : Option (Nat × Nat) :=
  match s.hostPort (s.tenantHost t), s.poolVppb (s.tenantHost t) with
  | some p, some v => if s.tenantOn t && s.carries p && !s.dieSafe (dieOfPort p) then some (p, v) else none
  | _, _ => none

/-- MBX_OP is written after MBX_OBJECT and MBX_VALUE; while MBX_BUSY is 1 every one of these writes is ignored. While the POOL vPPB's
VPPB_ADMIT reads 0 the host's write is an unmapped access, which is counted and discarded (R114). -/
def fxMbxOp (t op obj : Nat) (val : Option Nat) (s : State) : State :=
  let h := s.tenantHost t
  match s.windowWay t with
  | none => s
  | some (p, v) =>
    if s.get (O.VPPB_ADMIT h v) = 0 then s.countUnmapped p h (bitsOf (s.get (O.T_CFG t)) 47 44 * 0x4000 + 0x10) noTenant 2
    else if (s.dict.mailbox.at t).busy then s
    else s.mbxStart t op (fun m => { m with object := obj % 2 ^ 28, value := val.getD m.value })

/-- The access is served in its turn (R40), and MBX_BUSY, MBX_STATUS and MBX_VALUE take its outcome. DESIGN CHOICE (log 79): after
a refused read MBX_VALUE keeps what it held; R35 gives it the value read, and a refused read reads none. -/
def fxMbxDone (t : Nat) (s : State) : State :=
  let m := s.dict.mailbox.at t
  if !m.busy || !s.mbxNext t then s
  else
    let o := Obj.ofNumber m.object
    if m.op = 1 then
      match s.dictRead (.mailbox t) o 1 with
      | ((st, v) :: _, s) => s.setMailbox t (fun m => { m with busy := false, op := 0, status := st, value := if st = stOk then v else m.value })
      | ([], s) => s
    else
      match s.dictWrite (.mailbox t) o true [m.value] with
      | (st :: _, s) => s.setMailbox t (fun m => { m with busy := false, op := 0, status := st })
      | ([], s) => s

/-! ## Commands that are accesses of one object (R49 to R57) -/

/-- The interface of a data port instance (R51). DESIGN CHOICE (log 80): the table's row does not say which die's Cicada pair
reads, and the answer names die 0's. -/
def portIfc (x : Nat) : Iface := if x = 0 then .ihlod else if x = 1 then .inband else .cicada 0

/-- The Ihlod frame in front asks for the burst whose slot stalls: a DP_DUMP, or a DICT_READ that covers the slot (R350, R351). -/
def State.frameReads (s : State) (slot : Nat) : Option Frame :=
  match s.ihl.held with
  | f :: _ =>
    let o := Obj.ofNumber f.object
    if f.type = tDpDump ∨ (f.type = tDictRead ∧ o.cls = 0x7E ∧ o.inst = 0 ∧ o.mem ≤ 0x20 + slot ∧ 0x20 + slot < o.mem + f.count) then some f
    else none
  | [] => none

/-- The status of the lowest refused slot, and the mask of refused slots. -/
def firstRefusal (sts : List Nat) : Nat := (sts.find? (· != stOk)).getD stOk
def failMask (sts : List Nat) : Nat := (sts.zipIdx).foldl (fun m p => if p.1 = stOk then m else m + 2 ^ p.2) 0

/-- The answer to a DICT_READ by the outcome of its slots, and to a DP_DUMP by the address before its burst too (R350). -/
def State.answerRead (s : State) (f : Frame) (rs : List (Nat × Nat)) : State :=
  let sts := rs.map (fun r => r.1)
  s.answered { frameAnswer f s.nodeAddr (firstRefusal sts) with
    value := failMask sts * 2 ^ 32, payload := rs.flatMap (fun r => bytesOf (if r.1 = stOk then r.2 else 0) 8) }
def State.answerDump (s : State) (f : Frame) (addr : Nat) (rs : List (Nat × Nat)) : State :=
  let st := firstRefusal (rs.map (fun r => r.1))
  s.answered { frameAnswer f s.nodeAddr st with value := addr, payload := if st = stOk then rs.flatMap (fun r => bytesOf r.2 8) else [] }

/-- A DUMP read of a slot whose data have not come within 10 µs passes the checks of an access and of the burst first; it is then
refused with TIMEOUT, and nothing moves (R54, R55, R57). A frame of the Ihlod link that waited for it is answered (R350, R351), and
a window read returns all-ones (R43). A DUMP of the capture rings never stalls (R230). -/
def fxDumpStall (x slot : Nat) (s : State) : State :=
  if s.windowOpen x dpDump && s.get (O.DP_STATE x) == dpActive && s.get (O.DP_ADDR x) / 2 ^ 56 != 0x10 && decide (slot < 32) then
    let ifc := portIfc x
    match (if x = 0 then s.frameReads slot else none) with
    | some f =>
      s.serveHeld f.type (fun f s =>
        let addr := s.get (O.DP_ADDR 0)
        if f.type = tDpDump then
          let (rs, s) := s.dictRead ifc (O.DP_DATA 0 0) 32 true
          s.answerDump f addr rs
        else
          let (rs, s) := s.dictRead ifc (Obj.ofNumber f.object) f.count true
          s.answerRead f rs)
    | none =>
      let (rs, s) := s.readWindow ifc (O.DP_DATA x slot) 1 true
      let st := (rs.map (fun r => r.1)).headD stTimeout
      if x = 1 then s.send (.bytes .inband (List.replicate 8 255)) else s.send (.value ifc st 0)
  else s

end Sys2Proof.Machine
end

