-- ==== Sys2Proof/Machine/ClickIns.lean ====
section
/-! DEFINITION. The Click instructions that reach the dictionary and the Click transaction: LDO, STO, TXB and TXC (R387, R388,
R392). -/
namespace Sys2Proof.Machine

/-- The object that LDO and STO name. -/
def State.sqObject (s : State) (n : Nat) (x : SqIns) : Obj := Obj.ofNumber ((s.sqReg n x.ra + x.imm % 256) % 2 ^ 28)

/-- A tile sequencer that is cut off reaches classes 50 and 51 only. -/
def State.cutOffFrom (s : State) (n : Nat) (o : Obj) : Bool := s.cutOff n && !(o.cls == 0x50 || o.cls == 0x51)

/-- A program goes on after an access, unless the access itself ended it. -/
def State.sqAfter (s : State) (n : Nat) : State := if s.sqState n = sqRunning then s.sqGoOn n else s

/-- The access of an LDO. -/
def State.sqRead (s : State) (n : Nat) (o : Obj) : Nat × Nat × State :=
  match s.ifcRefused (.click n) o 1 false with
  | some t => (stProtection, 0, t)
  | none =>
    if s.cutOffFrom n o then (stBusy, 0, s)
    else
      let (rs, s) := s.dictRead (.click n) o 1
      ((rs.headD (stBadObject, 0)).1, (rs.headD (stBadObject, 0)).2, s)

/-- The access of an STO. -/
def State.sqWrite (s : State) (n : Nat) (o : Obj) (v : Nat) : Nat × State :=
  match s.ifcRefused (.click n) o 1 true with
  | some t => (stProtection, t)
  | none =>
    if s.cutOffFrom n o then (stBusy, s)
    else
      let (sts, s) := s.dictWrite (.click n) o true [v]
      (sts.headD stBadObject, s)

def fxLdo (n : Nat) (s : State) : State :=
  match s.sqNext n opLdo with
  | none => s
  | some x =>
    let (st, v, s) := (s.sqStep n).sqRead n (s.sqObject n x)
    let s := if st = stOk then s.setReg n x.rd (if x.h then v / 2 ^ 32 else v % 2 ^ 32) else s
    (s.sqStatus n st).sqAfter n

def fxSto (n : Nat) (s : State) : State :=
  match s.sqNext n opSto with
  | none => s
  | some x =>
    let v := s.sqReg n x.rd % 2 ^ 32 + (if x.i then 0 else s.sqReg n x.rb % 2 ^ 32 * 2 ^ 32)
    let (st, s) := (s.sqStep n).sqWrite n (s.sqObject n x) v
    (s.sqStatus n st).sqAfter n

/-- The instance of the Click transaction, and nobody as its holder. -/
def txClick : Nat := 4
def noHolder : Nat := 0xFF

/-- The holder gives the Click transaction up. -/
def State.sqRelease (s : State) (n : Nat) : State := if s.get (O.TX_HOLDER txClick) = n then s.put (O.TX_HOLDER txClick) noHolder else s

def fxTxb (n : Nat) (s : State) : State :=
  match s.sqNext n opTxb with
  | none => s
  | some _ =>
    let s := s.sqStep n
    let h := s.get (O.TX_HOLDER txClick)
    let st := if s.cutOff n ∨ (h ≠ noHolder ∧ h ≠ n) then stBusy else s.txCmdStatus txClick txcOpen
    let s := if st = stOk then (fxTxOpen txClick s).put (O.TX_HOLDER txClick) n else s.sqRelease n
    (s.sqStatus n st).sqGoOn n

/-- TXC: it issues PREPARE and waits, or completes at once. -/
def fxTxc (n : Nat) (s : State) : State :=
  match s.sqNext n opTxc with
  | none => s
  | some x =>
    let s := s.sqStep n
    if s.get (O.TX_HOLDER txClick) ≠ n then (s.sqStatus n stBusy).sqGoOn n
    else
      let st := s.txCmdStatus txClick txcPrepare
      if st ≠ stOk then ((s.sqRelease n).sqStatus n st).sqGoOn n
      else (fxTxPrepare txClick s).sqWait n ⟨4, s.sqOp2 n x, 0, 0⟩

/-- Step 2 of TXC, once validation has ended in READY: TX_INSTANT is written and COMMIT_AT issued; refused, the transaction is
aborted. -/
def State.sqCommit (s : State) (n : Nat) : State :=
  match (s.seq n).wait with
  | some w =>
    if w.kind = 4 ∧ s.get (O.TX_STATE txClick) = txReady then
      let s := s.put (O.TX_INSTANT txClick) ((s.seqNow n + w.target) % 2 ^ 64)
      let st := s.txCmdStatus txClick txcCommitAt
      if st = stOk then (fxTxCommitAt txClick s).setSeq n (fun q => { q with wait := some ⟨5, 0, 0, 0⟩ })
      else ((s.commitRefused txClick).txAbort txClick).setSeq n (fun q => { q with wait := some ⟨6, st, 0, 0⟩ })
    else s
  | none => s

/-- The sequencer that holds the Click transaction goes on with its TXC. -/
def State.sqTxAdvance (s : State) : State :=
  if s.get (O.TX_STATE txClick) = txReady then s.sqCommit (s.get (O.TX_HOLDER txClick)) else s

/-- TXC completes with its status. -/
def fxTxcEnd (n : Nat) (s : State) : State :=
  let st := s.get (O.TX_STATE txClick)
  let ended := st = txApplied ∨ st = txFailed ∨ st = txAborted
  let finish := fun (c : Nat) => ((s.sqRelease n).sqStatus n c).sqResume n
  match (s.seq n).wait with
  | some w =>
    if w.kind = 6 then finish w.target
    else if (w.kind = 4 ∨ w.kind = 5) ∧ ended then finish (s.get (O.TX_STATUS txClick))
    else s
  | none => s

end Sys2Proof.Machine
end

