-- ==== Sys2Proof/Machine/IhlodDict.lean ====
section
/-! DEFINITION. The Ihlod frames that reach the dictionary and the data port (R350). -/
namespace Sys2Proof.Machine

/-- The 8-byte words of a payload. -/
def wordsOf (bs : List Byte) (n : Nat) : List Nat := (List.range n).map (fun k => ofBytes ((bs.drop (8 * k)).take 8))

/-- The front frame's access waits for that of a tenant which has waited longer at its die (R40). -/
def State.frameWaits (s : State) : Bool :=
  match s.ihlodDie with
  | some d => (s.mbxWaiting d).any (fun t => !s.ihlodFirst t)
  | none => false

/-- Serve the oldest request held where its access to the dictionary is the next one of its die. -/
def State.serveDict (s : State) (type : Nat) (act : Frame → State → State) : State :=
  if s.frameWaits then s else s.serveHeld type act

/-- DICT_READ. -/
def fxDictRead (s : State) : State :=
  s.serveDict tDictRead (fun f s =>
    if f.count = 0 ∨ 32 < f.count then s.nack f
    else
      let (rs, s) := s.dictRead .ihlod (Obj.ofNumber f.object) f.count
      s.answerRead f rs)

/-- DICT_WRITE. -/
def fxDictWrite (s : State) : State :=
  s.serveDict tDictWrite (fun f s =>
    if f.count = 0 ∨ 32 < f.count then s.nack f
    else
      let (sts, s) := s.dictWrite .ihlod (Obj.ofNumber f.object) true (wordsOf f.payload f.count)
      s.answered { frameAnswer f s.nodeAddr (firstRefusal sts) with value := failMask sts * 2 ^ 32 })

/-- DP_LOAD: one whole burst is written through 7E.000. -/
def fxDpLoadFrame (s : State) : State :=
  s.serveDict tDpLoad (fun f s =>
    let addr := s.get (O.DP_ADDR 0)
    let (sts, s) := s.dictWrite .ihlod (O.DP_DATA 0 0) true (wordsOf f.payload 32)
    s.answered { frameAnswer f s.nodeAddr (firstRefusal sts) with value := addr })

/-- DP_DUMP: one whole burst is read through 7E.000. -/
def fxDpDumpFrame (s : State) : State :=
  s.serveHeld tDpDump (fun f s =>
    let addr := s.get (O.DP_ADDR 0)
    let (rs, s) := s.dictRead .ihlod (O.DP_DATA 0 0) 32
    s.answerDump f addr rs)

/-- TOD: TOD_LOAD is written; a broadcast one has been forwarded. -/
def fxTodFrame (s : State) : State :=
  s.serveDict tTod (fun f s =>
    let (sts, s) := s.dictWrite .ihlod O.TOD_LOAD true [f.value]
    s.answered (frameAnswer f s.nodeAddr (firstRefusal sts)))

/-! ## Accesses that have waited 32 core cycles (R40) -/

/-- The front frame's access has waited 32 core cycles at a die. -/
def State.frameOld (s : State) (d : Nat) : Bool :=
  s.ihlodDie == some d && decide (s.ihl.heldAt.headD (s.mono 0) + 32 ≤ s.mono 0)

/-- In a core cycle a die serves, before any access that comes later, the oldest of the mailboxes' and the Ihlod node's accesses that have
waited 32 core cycles there: one member access in a cycle (R40). -/
def State.serveOldest (s : State) (d : Nat) : State :=
  if s.frameOld d && !s.frameWaits then
    match s.ihl.held.map (fun f => f.type) with
    | 0x01 :: _ => fxDictRead s
    | 0x02 :: _ => fxDictWrite s
    | 0x03 :: _ => fxDpLoadFrame s
    | _ => fxTodFrame s
  else match (s.mbxWaiting d).find? (fun t => decide ((s.dict.mailbox.at t).since + 32 ≤ s.mono d) && s.mbxNext t) with
    | some t => fxMbxDone t s
    | none => s

end Sys2Proof.Machine
end

