-- ==== Sys2Proof/Machine/Debug.lean ====
section
/-! DEFINITION. The commands of the debug access port (R451 to R454). -/
namespace Sys2Proof.Machine

/-- A command can be issued: the TAP selects the debug register, the previous command is over, and the package is not OFF. -/
def State.debugReady (s : State) : Bool := s.mode != 0 && s.sec.ir == irAccess && !s.sec.bypassed && s.sec.status != 0xFF

/-- A command ends with a status and data, shifted out by the next one. -/
def State.debugDone (s : State) (st data : Nat) : State :=
  (s.setSec (fun x => { x with status := st, data := data, fabric := none })).send (.tap st data)

/-- A refused command is raised and counted (R452). -/
def State.debugRefuse (s : State) (a typ st : Nat) : State := ((s.debugRefused a typ).count32 O.DBG_REFUSED).debugDone st 0

/-- The access type of a command: a DICT access has its own (R408). -/
def debugType (a : Nat) (write : Bool) : Nat := if spaceOf a = spDict then 6 else if write then 2 else 1

/-- The memory of an address in CORE or CAPTURE space. -/
def debugMemory (a : Nat) : Nat :=
  if spaceOf a = spCore then coreAddr (a % 2 ^ 48 / 2 ^ 40) (a % 2 ^ 40) else captureAddr (a % 2 ^ 48 / 2 ^ 40) (a % 2 ^ 40)

/-- A FABRIC access goes to the home of a shared region or to the device, in the egress port's bypass (R453). -/
def State.debugFabric (s : State) (a : Nat) (write : Bool) (data : Nat) : State :=
  let fa := a % 2 ^ 48
  let line := lineOf fa
  let sh := 8 * (fa % 64)
  let st := s.mvCheck fa
  if st ≠ stOk then (s.mvRefuse 0 fa 0x600 (if write then 2 else 1)).debugDone st 0
  else
    let s := s.setSec (fun x => { x with status := 0xFF, fabric := some a })
    let w := data * 2 ^ sh
    let mask := if write then 255 * 2 ^ (fa % 64) else 0
    match s.regionOf fa with
    | some _ =>
      let q : HomeReq := { cls := if write then .moverWrite else .moverRead, die := s.homeDie fa, line := line, host := 64,
                           owner := .debug, data := w, mask := mask, full := false, stamp := s.stamp 0 }
      s.toHome 0 q q.stamp 0
    | none =>
      s.toMemory 0 line vcReq true
        { type := .req, kind := if write then .write else .read, opcode := if write then 2 else 1, channel := if write then 1 else 0,
          owner := .debug, tenant := noTenant, data := w, mask := mask, origin := s.stamp 0, len := if write then 64 else 0,
          fa := line, hasFa := true }

/-- A FABRIC access comes back. -/
def State.debugDelivered (s : State) (data : Nat) (poison synthetic : Bool) : State :=
  match s.sec.fabric with
  | none => s
  | some a =>
    let st := if synthetic then (if data = 1 then stTimeout else if data = 2 then stBadValue else stLinkDown) else if poison then stPoison else stOk
    s.debugDone st (if synthetic then 0 else data / 2 ^ (8 * (a % 64)) % 2 ^ 64)


/-- READ. -/
def fxDbgRead (a : Nat) (s : State) : State :=
  if !s.debugReady then s
  else if a % 8 ≠ 0 ∨ 2 ^ 64 ≤ a then s.debugDone stBadValue 0
  else
    let st := s.debugStatus a false
    if st ≠ stOk then s.debugRefuse a (debugType a false) st
    else if spaceOf a = spDict then
      let (rs, s) := s.dictRead .debug (slotAt (a % 2 ^ 48)) 1
      let r := rs.headD (stBadObject, 0)
      s.debugDone r.1 (if r.1 = stOk then r.2 else 0)
    else if spaceOf a = spFabric then s.debugFabric a false 0
    else s.debugDone stOk (ofBytes (s.readBytes (debugMemory a) 8))

/-- WRITE. -/
def fxDbgWrite (a data : Nat) (s : State) : State :=
  if !s.debugReady then s
  else if a % 8 ≠ 0 ∨ 2 ^ 64 ≤ a then s.debugDone stBadValue 0
  else
    let st := s.debugStatus a true
    if st ≠ stOk then s.debugRefuse a (debugType a true) st
    else if spaceOf a = spDict then
      let (sts, s) := s.dictWrite .debug (slotAt (a % 2 ^ 48)) true [data]
      s.debugDone (sts.headD stBadObject) 0
    else if spaceOf a = spFabric then s.debugFabric a true data
    else (s.writeBytes (debugMemory a) (bytesOf data 8)).debugDone stOk 0

/-- Steps 1 and 2 of R452 for HALT, RESUME and STEP of a die's pair, whose address names no byte. -/
def State.haltStatus (s : State) (d : Nat) : Nat :=
  let a := spCore * 2 ^ 48 + d % 256 * 2 ^ 40
  if !s.debugReach a true then stDenied
  else if !s.debugServed a true then stBusy
  else if s.dies ≤ d then stProtection
  else stOk

/-- A command on a Cicada pair. -/
def State.debugPair (s : State) (d : Nat) (act : State → State) : State :=
  if !s.debugReady then s
  else
    let st := s.haltStatus d
    if st ≠ stOk then s.debugRefuse (d * 2 ^ 40) 0 st else (act s).debugDone stOk 0

/-- HALT stops a running pair. -/
def fxDbgHalt (d : Nat) (s : State) : State :=
  s.debugPair d (fun s => if s.get (O.CC_STATE d) = ccRunning then
    (s.put (O.CC_STATE d) ccHalted).setCic (fun c => { c with haltedAt := c.haltedAt.set d (s.elapsed d) }) else s)

/-- RESUME returns a halted pair to RUNNING. -/
def fxDbgResume (d : Nat) (s : State) : State :=
  s.debugPair d (fun s => if s.get (O.CC_STATE d) = ccHalted then
    (s.put (O.CC_STATE d) ccRunning).setCic (fun c => { c with stepped := c.stepped.filter (· != d), watch := c.watch.set d (c.watch.at d + (s.elapsed d - c.haltedAt.at d)) }) else s)

/-- A pair fetches an instruction (R456, R457): the piece of CORE that it lies in must be granted for fetch; a fetch that is refused takes a
bus-error exception (R459). Where the firmware's next instruction lies is free (log 126). -/
def State.pairFetch (s : State) (d : Nat) : Bool × State :=
  let a := spCore * 2 ^ 48 + d * 2 ^ 40 + s.fresh.1 % 2 ^ 20
  let s := s.fresh.2
  match s.mpuCheck (mpuCicada d) (List.range 32) mpuX (a / 4 * 4) 4 with
  | some bad => (false, (s.mpuRefuse d (mpuCicada d) (0x400 + d) 5 (max a (bad / 64 * 64))).busError d)
  | none => (true, s)

/-- STEP of a halted pair executes one instruction of the firmware and halts again: the instruction is fetched, and may make one access
through the pair's interface (R454). -/
def fxDbgStep (d : Nat) (s : State) : State :=
  s.debugPair d (fun s =>
    if s.get (O.CC_STATE d) = ccHalted then
      let (ok, s) := s.pairFetch d
      if ok then s.setCic (fun c => { c with stepped := if c.stepped.contains d then c.stepped else d :: c.stepped }) else s
    else s)

/-- NOP issues nothing. -/
def fxDbgNop (s : State) : State := if s.debugReady then s.send (.tap s.sec.status s.sec.data) else s

end Sys2Proof.Machine
end

