-- ==== Sys2Proof/Machine/HostCfg.lean ====
section
/-! DEFINITION. The functions that a port presents over CXL.io (R86, R90, R106, R110, R112, R117, R304): their configuration
registers, the HDM decoder capability, the DOE mailbox and the native hot-plug of the vPPBs. Where a rule names a register of PCI
Express or CXL and gives no layout, its place is PRESUMED (log 95). -/
namespace Sys2Proof.Machine

/-! ## Reads and writes within words -/

/-- Bytes of an 8-byte word at an offset within it. -/
def wordPart (w off len : Nat) : Nat := w / 256 ^ (off % 8) % 256 ^ (min len (8 - off % 8))

/-- A word after bytes are written at an offset within it. -/
def wordWith (w off len v : Nat) : Nat :=
  let n := min len (8 - off % 8)
  let lo := 256 ^ (off % 8)
  w % lo + (v % 256 ^ n) * lo + w / (lo * 256 ^ n) * (lo * 256 ^ n)

/-- The 8-byte words that an access covers: the offset of each word's first byte in the access, and how far into the access it
lies. -/
def wordsCovered (off len : Nat) : List (Nat × Nat) :=
  (List.range ((off % 8 + len + 7) / 8)).map (fun k =>
    let at_ := max off (off / 8 * 8 + 8 * k)
    (at_, at_ - off))

/-- A read of any length, word by word in ascending order. -/
def State.readSpan (s : State) (read : State → Nat → Nat × State) (off len : Nat) : Nat × State :=
  (wordsCovered off len).foldl (fun r x =>
    let w := read r.2 (x.1 / 8 * 8)
    (r.1 + wordPart w.1 x.1 (len - x.2) * 256 ^ x.2, w.2)) (0, s)

/-- A write of any length, word by word in ascending order: each word's part has its own offset, length and value. -/
def State.writeSpan (s : State) (write : State → Nat → Nat → Nat → State) (off len v : Nat) : State :=
  forEach (wordsCovered off len) (fun x s =>
    let n := min (len - x.2) (8 - x.1 % 8)
    write s x.1 n (v / 256 ^ x.2 % 256 ^ n)) s

/-! ## DOE (R106) -/

/-- The DOE capability of a port's function: its control, status, write mailbox and read mailbox. -/
def wordDoeCtl : Nat := 0x42
def wordDoeStatus : Nat := 0x43
def wordDoeWrite : Nat := 0x44
def wordDoeRead : Nat := 0x45

/-- The data object protocols that a port's DOE mailbox offers, as vendor and type, in the order of DOE_ENABLE: Discovery, CMA/SPDM,
Secured CMA/SPDM, and Table Access (CDAT). IDE_KM has none of its own: it travels within Secured CMA/SPDM. -/
def State.doeOffers (s : State) (p : Nat) : List (Nat × Nat) :=
  (0x0001, 0) :: (((([(1, (0x0001, 1)), (2, (0x0001, 2)), (4, (0x1E98, 2))] : List (Nat × Nat × Nat)).filter
    (fun x => s.bit (O.DOE_ENABLE p) x.1)).map (fun x => x.2)))

/-- The dies that a route between two dies crosses to (R19, R20): none, one, or two. -/
def dieHops (v : Variant) (a b : Nat) : Nat :=
  if a = b then 0 else if (List.range 4).any (fun k => v.linkMask k == Nat.xor a b) then 1 else 2

/-- An entry of the CDAT of the pool endpoint at a host's port (R112): the table's header, then for the memory on each die a structure of
access latency, in nanoseconds, whose entries are the request latency of R24 in a private region and that in a shared region. The layout
is PRESUMED (log 95), and the header's checksum is free. -/
def State.cdatEntry (s : State) (p k : Nat) : List Nat × State :=
  if k = 0 then
    let x := s.fresh
    ([16 + 24 * s.dies, 1 + x.1 % 256 * 256, 0, 0], x.2)
  else if k ≤ s.dies then
    let ns := 55 + 18 * dieHops s.variant (dieOfPort p) (k - 1)
    ([1 + 24 * 2 ^ 16, k - 1, 1000, 0, ns + (ns + 6) * 2 ^ 16, 0], s)
  else ([], s)

/-- The answer to a data object: Discovery's next entry; an entry of CDAT with the handle of the next. An object of a protocol
that the mailbox does not offer has none, and those of SPDM are answered by the responder's own commands. -/
def State.doeAnswer (s : State) (p : Nat) (words : List Nat) : List Nat × State :=
  let h := words.headD 0
  let proto := (h % 2 ^ 16, h / 2 ^ 16 % 256)
  let offers := s.doeOffers p
  if !offers.contains proto then ([], s)
  else if proto = (0x0001, 0) then
    let i := words.getD 2 0 % 256
    let x := offers.getD i (0xFFFF, 0)
    ([1, 3, x.1 + x.2 * 2 ^ 16 + (if i + 1 < offers.length then i + 1 else 0) * 2 ^ 24], s)
  else if proto = (0x1E98, 2) then
    let k := words.getD 2 0 / 2 ^ 16
    let x := s.cdatEntry p k
    ([h % 2 ^ 24, 3 + x.1.length, (if k < s.dies then k + 1 else 0xFFFF) * 2 ^ 16] ++ x.1, x.2)
  else ([], s)

/-- A read of a DOE register: an object is ready while words of it wait. -/
def State.doeRead (s : State) (p word : Nat) : Nat :=
  let out := (s.port p).doeOut
  if word = wordDoeStatus then (if out.isEmpty then 0 else 2 ^ 31)
  else if word = wordDoeRead then out.headD 0
  else 0

/-- A write of a DOE register: a word for the mailbox, GO and ABORT in the control register, and the step past a word read. -/
def State.doeWrite (s : State) (p word data : Nat) : State :=
  if word = wordDoeWrite then s.setPort p (fun r => { r with doeIn := r.doeIn ++ [data] })
  else if word = wordDoeRead then s.setPort p (fun r => { r with doeOut := r.doeOut.drop 1 })
  else if word = wordDoeCtl then
    if data.testBit 0 then s.setPort p (fun r => { r with doeIn := [], doeOut := [] })
    else if data.testBit 31 then
      let a := s.doeAnswer p (s.port p).doeIn
      a.2.setPort p (fun r => { r with doeIn := [], doeOut := r.doeOut ++ a.1 })
    else s
  else s

/-! ## HDM decoders (R117) -/

/-- The code of R118's host ways in a decoder's control register is the one CXL gives. A decoder is shown committed and locked: the
lock bit 8, COMMIT bit 9 and COMMITTED bit 10 read 1. -/
def Dec.hdmCtrl (d : Dec) : Nat := d.hig + d.hiw * 16 + 2 ^ 8 + 2 ^ 9 + 2 ^ 10

/-- The decoders that an HDM decoder capability lists, enabled or not: of the VPPB kind at the upstream port, of the FABRIC kind at the
pool endpoint (R117). -/
def State.hdmDecoders (s : State) (h : Nat) (vppb : Bool) : List Nat :=
  (List.range 16).filter (fun k => (s.decoder (16 * h + k)).isVppb == vppb)

/-- A 32-bit register of an HDM decoder capability: the capability and its control, then 32 bytes for each decoder. -/
def State.hdmWord (s : State) (h : Nat) (vppb : Bool) (off : Nat) : Nat :=
  let ds := s.hdmDecoders h vppb
  if off = 0 then (ds.length + 1) / 2
  else if off = 4 then 2
  else if off < 0x10 then 0
  else
    match ds[(off - 0x10) / 32]? with
    | none => 0
    | some k =>
      let d := s.decoder (16 * h + k)
      match (off - 0x10) % 32 / 4 with
      | 0 => d.base % 2 ^ 32
      | 1 => d.base / 2 ^ 32
      | 2 => d.size % 2 ^ 32
      | 3 => d.size / 2 ^ 32
      | 4 => d.hdmCtrl
      | 5 => if vppb then d.vppb else 0
      | _ => 0

/-- A read of an HDM decoder capability. -/
def State.hdmRead (s : State) (h : Nat) (vppb : Bool) (off len : Nat) : Nat :=
  (s.readSpan (fun s o => (s.hdmWord h vppb o + s.hdmWord h vppb (o + 4) * 2 ^ 32, s)) off len).1

/-! ## Native hot-plug of a vPPB (R110, R112) -/

/-- The words of a PCI Express capability at 0x40 that a rule reaches: Link Status, Slot Capabilities, Slot Control and Slot Status. -/
def wordLink : Nat := 0x14
def wordSlotCap : Nat := 0x15
def wordSlot : Nat := 0x16

/-- Device Capabilities 2 of the PCI Express capability that the pool endpoint has at 0x80. -/
def wordDevCap2 : Nat := 0x29

/-- A vPPB's function in the table of a port's registers. -/
def fnVppb (v : Nat) : Nat := 32 + v

/-- Slot Control of a vPPB (bits 15:0) with the two changes of Slot Status: Presence Detect Changed (19) and Data Link Layer State
Changed (24). -/
def State.slotReg (s : State) (p v : Nat) : Nat := (s.port p).cfg.at (cfgKey (fnVppb v) wordSlot)
def State.setSlotReg (s : State) (p v x : Nat) : State :=
  s.setPort p (fun r => { r with cfg := r.cfg.place (cfgKey (fnVppb v) wordSlot) x })

/-- A change that Slot Control enables asks for the hot-plug interrupt. -/
def slotAsks (x : Nat) : Bool := x.testBit 5 && (x.testBit 3 && x.testBit 19 || x.testBit 12 && x.testBit 24)

/-- A new value of a vPPB's slot register; an interrupt that it begins to ask for goes to the host through the bypass of its port (R238), as
the message of CXL.io that PCI Express has for it, with the vPPB as its tag (DESIGN CHOICE, log 121). -/
def State.takeSlotReg (s : State) (p h v x : Nat) : State :=
  let t := s.setSlotReg p v x
  if slotAsks x && !slotAsks (s.slotReg p v) && s.carries p then
    t.enqueueBypass p { type := .req, kind := .ioPosted, channel := 7, opcode := 0x34, host := h, tag := v, origin := t.stamp (dieOfPort p) }
  else t

/-- A vPPB's presence or link has changed since its host last saw it. -/
def State.noteVppb (s : State) (k : Nat) : State :=
  let old := s.io.seen.at k
  let new := s.vppbState (k / 16) (k % 16)
  if old = new then s
  else
    let s : State := { s with io := { s.io with seen := s.io.seen.set k new } }
    match s.hostPort (k / 16) with
    | none => s
    | some p =>
      let x := s.slotReg p (k % 16)
      let x := if (old == 0) == (new == 0) then x else Nat.lor x (2 ^ 19)
      s.takeSlotReg p (k / 16) (k % 16) (if (old == 1) == (new == 1) then x else Nat.lor x (2 ^ 24))

/-- Every vPPB that shows another state than it last did. -/
def State.noteVppbs (s : State) : State :=
  forEach ((s.bindings.map (fun (b : Nat × Nat × Nat) => 16 * b.1 + b.2.1)) ++ s.io.seen.keys).eraseDups (fun k s => s.noteVppb k) s

/-! ## Configuration registers -/

/-- The words of an endpoint's configuration space that a rule gives a meaning: the command register, the BARs and the MSI
capability (R90, R112, R304). -/
def endpointWords : List Nat := [1, 4, 5, 6, 7, 8, 9, 0x14, 0x15, 0x16, 0x17, 0x18]

/-- The bits of an endpoint's word that a host can write. The BARs are of 64 bits: of the FM endpoint 2 GiB and 4 KiB (R90), of the pool
endpoint 256 KiB for the tenant windows (R270) and 4 KiB for the group page (R197), with 64 KiB for its HDM decoder capability PRESUMED
(log 95). Of the MSI capability (R304) they are the enable, the vectors granted, the address, the data and the mask of each vector. -/
def endpointMask (fm : Bool) (word : Nat) : Nat :=
  let size := fun (n : Nat) => 2 ^ 32 - n
  match word with
  | 4 => if fm then size (2 ^ 31) else size (2 ^ 16)
  | 6 => if fm then size (2 ^ 12) else size (2 ^ 18)
  | 8 => if fm then 0 else size (2 ^ 12)
  | 9 => if fm then 0 else size 1
  | 0x14 => 2 ^ 16 + 7 * 2 ^ 20
  | 0x15 => size 4
  | 0x17 => 2 ^ 16 - 1
  | _ => size 1

/-- What an endpoint's word reads in the bits that no host can write; `x` is a free value, which stands for what no rule gives. The type
of a BAR is a memory BAR of 64 bits that is not prefetchable; the MSI capability shows its identifier, 32 vectors (R304), addresses of
64 bits and a mask for each vector. -/
def endpointFixed (fm : Bool) (word x : Nat) : Nat :=
  match word with
  | 4 => 4
  | 6 => 4
  | 8 => if fm then 0 else 4
  | 0x14 => 5 + x % 256 * 2 ^ 8 + (if fm then x / 256 % 8 else 5) * 2 ^ 17 + 2 ^ 23 + 2 ^ 24
  | _ => 0

def isDoeWord (word : Nat) : Bool := decide (wordDoeCtl ≤ word ∧ word ≤ wordDoeRead)

/-- A word with one bit replaced. -/
def withBit (x b : Nat) (v : Bool) : Nat := x - (if x.testBit b then 2 ^ b else 0) + (if v then 2 ^ b else 0)

/-- A configuration read of function `fn` of a port: below 16 the endpoint (the pool endpoint of a host, the FM endpoint), 16 the
virtual switch's upstream port, 17 + v its vPPB v. Device Capabilities 2 of the pool endpoint shows the AtomicOps that R171 names: of
32 and 64 bits and CAS of 128 (bits 7 to 9). Word 0 holds the Vendor ID, equal to VENDOR_CODE (R46, R500). What no rule gives is
a free value. -/
def State.cfgIn (s : State) (p h fn word : Nat) : Nat × State :=
  let (x, s) := s.fresh
  let x := x % 2 ^ 32
  if word = 0 then (x / 2 ^ 16 * 2 ^ 16 + s.get ⟨0x00, 0, 0⟩ % 2 ^ 16, s)
  else if 17 ≤ fn then
    let v := fn - 17
    let st := s.vppbState h v
    if word = wordLink then (withBit x 29 (st == 1), s)
    else if word = wordSlotCap then (withBit x 6 true, s)
    else if word = wordSlot then (withBit (s.slotReg p v) 22 (st != 0), s)
    else (x, s)
  else if isDoeWord word then (s.doeRead p word, s)
  else if word = wordDevCap2 ∧ fn < 16 ∧ s.role p ≠ roleFm then (withBit (withBit (withBit x 7 true) 8 true) 9 true, s)
  else if fn < 16 ∧ endpointWords.contains word then
    let fm := s.role p == roleFm
    (endpointFixed fm word x + Nat.land ((s.port p).cfg.at (cfgKey (if fm then fnFm else fnPool) word)) (endpointMask fm word), s)
  else (x, s)

/-- A configuration write of a function: held where a rule gives the word a meaning; the changes of Slot Status are cleared by
writing 1 to them. -/
def State.cfgOut (s : State) (p h fn word data : Nat) : State :=
  let data := data % 2 ^ 32
  if 17 ≤ fn then
    if word = wordSlot then
      let kept := [19, 24].foldl (fun a b => if (s.slotReg p (fn - 17)).testBit b && !data.testBit b then a + 2 ^ b else a) 0
      s.takeSlotReg p h (fn - 17) (data % 2 ^ 16 + kept)
    else s
  else if isDoeWord word then s.doeWrite p word data
  else if fn < 16 ∧ endpointWords.contains word then
    let fm := s.role p == roleFm
    s.setPort p (fun r => { r with cfg := r.cfg.place (cfgKey (if fm then fnFm else fnPool) word) (Nat.land data (endpointMask fm word)) })
  else s

end Sys2Proof.Machine
end

