-- ==== Sys2Proof/Machine/HostIo.lean ====
section
/-! DEFINITION. CXL.io of the hosts and requests of the devices (R90, R110 to R114, R197, R238, R270 to R273, R418, R481): what a
host's configuration and memory requests reach, the tenant windows and the counter page, and what a device sends toward a host. -/
namespace Sys2Proof.Machine

/-! ## The counter page (R481) -/

/-- The object behind an offset of 0x800–0x89F of the page, if any. -/
def pageObject (off : Nat) : Option Obj :=
  if 0x800 ≤ off ∧ off < 0x850 then some ⟨0, 0, (off - 0x800) / 8⟩
  else if off / 8 * 8 = 0x880 then some O.MODE
  else if off / 8 * 8 = 0x888 then some O.FT_NOW
  else if off / 8 * 8 = 0x890 then some O.SEC_STATE
  else if off / 8 * 8 = 0x898 then some O.LAYOUT_VERSION
  else none

/-- The word of the counters at an offset below 0x0D0 of the page, while USER_READ is 1. -/
def State.pageWord (s : State) (t off : Nat) : Nat :=
  let k := off / 8 % 8
  if off < 0x040 then s.readObj (O.TC_VALUE t k)
  else if off < 0x080 then s.readObj (O.TC_SNAP t k)
  else if off < 0x088 then s.readObj O.PC_LAST_SNAP_AT
  else if off < 0x090 then 256 * (s.get (O.TC_OVF t) % 256) + 1
  else if off < 0x0D0 then s.get (O.TC_SELECT t ((off - 0x090) / 8))
  else 0

/-- A read of the counter page of a tenant: aligned reads of 4 or 8 bytes are served. A slot of PACKAGE_SERIAL is presented by itself
(R481). -/
def State.pageRead (s : State) (t off len : Nat) : Nat × State :=
  if (len = 4 ∨ len = 8) ∧ off % len = 0 then
    match pageObject off with
    | some o =>
      let r := s.readSlot (.counterPage t) o
      (wordPart r.2.1 off len, r.2.2)
    | none => (if s.get (O.USER_READ t) = 1 then wordPart (s.pageWord t off) off len else 0, s)
  else s.fresh

/-! ## Tenant windows (R35, R270) -/

/-- The tenant whose window of a host a number names (R270). -/
def State.windowTenant (s : State) (h w : Nat) : Option Nat :=
  s.tenants.find? (fun t => s.tenantHost t == h && bitsOf (s.get (O.T_CFG t)) 47 44 == w)

/-- A word of a window's control page. The spec states no value that MBX_OP reads. -/
def State.controlWord (s : State) (t off : Nat) : Nat × State :=
  let m := s.dict.mailbox.at t
  if off < 0x08 then (m.object, s)
  else if off < 0x10 then (m.value, s)
  else if off < 0x18 then let r := s.fresh; (r.1 % 256, r.2)
  else if off < 0x20 then (256 * b2n m.busy + m.status % 256, s)
  else if off < 0x28 then (s.get O.BIND_EPOCH % 2 ^ 32 * 2 ^ 32 + s.tenantState t * 2 ^ 16 + t, s)
  else (0, s)

/-- A read of BAR 2 of the pool endpoint. -/
def State.windowIn (s : State) (h addr len : Nat) : Nat × State :=
  match s.windowTenant h (addr / 0x4000) with
  | none => (0, s)
  | some t =>
    let off := addr % 0x4000
    if off < 0x1000 then s.readSpan (fun s o => s.controlWord t o) off len
    else if off < 0x2000 then s.pageRead t (off - 0x1000) len
    else (0, s)

/-- A write of bytes within one word of a window's control page: the mailbox registers are written while MBX_BUSY is 0, and a write
that covers MBX_OP with 1 or 2 starts a request (R35). -/
def State.controlOut (s : State) (t off len v : Nat) : State :=
  if (s.dict.mailbox.at t).busy then s
  else if off < 0x08 then s.setMailbox t (fun m => { m with object := wordWith m.object off len v % 2 ^ 28 })
  else if off < 0x10 then s.setMailbox t (fun m => { m with value := wordWith m.value off len v })
  else if off = 0x10 ∧ 0 < len ∧ (v % 256 = 1 ∨ v % 256 = 2) then s.mbxStart t (v % 256) id
  else s

/-- A write of BAR 2 of the pool endpoint. -/
def State.windowOut (s : State) (h addr len v : Nat) : State :=
  match s.windowTenant h (addr / 0x4000) with
  | none => s
  | some t => s.writeSpan (fun s off n x => s.controlOut t off n x) (addr % 0x4000) len v

/-! ## Completions toward a host -/

/-- A CXL.io read completes toward its host with data, poisoned or not. -/
def State.ioData (s : State) (d h tag data len : Nat) (poison : Bool) (tenant : Nat := noTenant) : State :=
  s.ioToHost d h tag cplOk data len poison (tenant := tenant)

/-- The data bytes that a host's operation brings (R476). -/
def ioWrites (op : IoOp) (len : Nat) : Nat := match op with | .cfgWrite => len | .memWrite => len | _ => 0

/-- The tenant that a binding's requests carry, CXL.io to the pool endpoint among them (R111). -/
def State.vppbTenant (s : State) (h v : Nat) : Nat :=
  let w := s.get (O.VPPB_BIND h v)
  if bindKind w = 0 then noTenant else bindTenant w

/-- What an operation asks for: a read, a non-posted write, or a posted write. -/
def ioKind : IoOp → ReqKind
  | .cfgRead => .read
  | .memRead => .read
  | .cfgWrite => .other
  | .memWrite => .ioPosted
  | .completion _ => .ioPosted
  | .cache _ _ => .ioPosted

/-- The completion of an operation that carries no data: none for a posted one. -/
def State.ioDone (s : State) (d h tag : Nat) (op : IoOp) (status : Nat) : State :=
  if ioKind op = .ioPosted then s else s.ioToHost d h tag status 0 0

/-- An unmapped access over CXL.io (R114, R135, R272): a read completes with poisoned data, a non-posted write as done, and a posted
write is discarded. -/
def State.ioUnmapped (s : State) (p h v tag addr len : Nat) (op : IoOp) : State :=
  let d := dieOfPort p
  let w := s.get (O.VPPB_BIND h v)
  let t := s.vppbTenant h v
  let s := if bindKind w = bindDevice ∧ s.tenantRefuses t = true then s.countTenantRefusal d t else s
  let s := s.countUnmapped p h addr t (if ioKind op = .read then 1 else 2)
  if ioKind op = .read then s.ioData d h tag 0 len true t else s.ioDone d h tag op cplOk

/-! ## The pool endpoint (R112, R197, R270) -/

/-- A request that the pool endpoint serves. BAR 0 gives its HDM decoder capability, BAR 2 the tenant windows and BAR 4 the group
page. -/
def State.poolServe (s : State) (p h t : Nat) (op : IoOp) (bar addr len data tag : Nat) : State :=
  let d := dieOfPort p
  match op with
  | .cfgRead => let r := s.cfgIn p h 0 (addr / 4); r.2.ioData d h tag r.1 4 false t
  | .cfgWrite => (s.cfgOut p h 0 (addr / 4) data).ioDone d h tag op cplOk
  | .memRead =>
    if bar = 0 then s.ioData d h tag (s.hdmRead h false addr len) len false t
    else if bar = 2 ∧ addr < 0x40000 then let r := s.windowIn h addr len; r.2.ioData d h tag r.1 len false t
    else if bar = 4 ∧ addr < 0x1000 then
      s.ioData d h tag (s.readSpan (fun s o => (s.groupPageRead h o, s)) addr len).1 len false t
    else s.ioToHost d h tag cplUr 0 0
  | .memWrite =>
    if bar = 2 ∧ addr < 0x40000 then s.windowOut h addr len data
    else if bar = 4 ∧ 0x40 ≤ addr ∧ addr < 0x200 ∧ addr % 0x40 = 0 then s.groupPageWrite h (addr / 0x40) len data
    else s
  | .completion _ => s
  | .cache _ _ => s

/-! ## A host's request -/

/-- The message of a host's CXL.io request. -/
def State.ioMsg (s : State) (p h : Nat) (op : IoOp) (addr len data tag : Nat) : Msg :=
  let kind := ioKind op
  let code := match op with | .cfgRead => 0x04 | .cfgWrite => 0x44 | .memWrite => 0x60 | _ => 0x20
  { type := .req, kind := kind, opcode := code, channel := 7, owner := if kind = .ioPosted then .none else .host h tag, host := h,
    hpa := addr, dpa := addr, tag := tag, data := data, len := len, mask := if kind = .read then 0 else 2 ^ len - 1,
    charge := ioCharge len, origin := s.stamp (dieOfPort p) }

/-- A request of a host through a DEVICE binding goes to its device, coloured and in its tenant's class (R112, R241, R244). `tc` is
its traffic class, none for CXL.cache. -/
def State.hostForward (s : State) (p v : Nat) (m : Msg) (tc : Option Nat) : State :=
  let d := dieOfPort p
  let w := s.get (O.VPPB_BIND m.host v)
  let t := bindTenant w
  let (colour, metered, s) := s.colour d t 0 m.charge tc
  let m := { m with tenant := t, ld := bindLd w, epoch := some (s.get O.BIND_EPOCH), colour := colour, metered := metered, cls := s.meterClass t 0 }
  let s := if m.channel = 7 then s.perfCount d evIoReq p t 1 else s
  (s.observe p 0 m).toPort d (bindPort w) (devKey (bindPort w) (bindLd w) m.hpa) vcReq false m

/-- A vPPB turns away what its host addresses to it: it is unbound, not admitted, or bound to a device for a tenant that is not
admitted (R112, R114, R272). What is addressed to the pool endpoint no vPPB translates, so the tenant of a POOL binding turns none of it away
(DEDUCED, log 121). -/
def State.vppbRefuses (s : State) (h v : Nat) : Bool :=
  let w := s.get (O.VPPB_BIND h v)
  bindKind w == 0 || s.get (O.VPPB_ADMIT h v) == 0 || (bindKind w == bindDevice && s.tenantRefuses (bindTenant w))

/-- A request of a host that reaches a vPPB. What is not forwarded leaves its cell here. -/
def State.ioThrough (s : State) (p h v : Nat) (op : IoOp) (bar addr len data tag tc : Nat) (m : Msg) : State :=
  let d := dieOfPort p
  let m := { m with tenant := s.vppbTenant h v }
  if s.vppbRefuses h v then ((s.observe p 0 m).freeCell d m.cell).ioUnmapped p h v tag addr len op
  else if bindKind (s.get (O.VPPB_BIND h v)) = bindDevice then s.hostForward p v m (some tc)
  else ((s.observe p 0 m).freeCell d m.cell).poolServe p h m.tenant op bar addr len data tag

/-- A message of CXL.cache from a host to the device of a vPPB (R86, R112, R238): an H2D Req joins the hierarchy, and is an unmapped
access, which has no completion, where the vPPB turns it away (R114, R272); responses and data, which are no requests, join the bypass,
and the first of them answers the device's request of its tag (DESIGN CHOICE, log 116). -/
def State.cacheToDevice (s : State) (p h v kind code addr len data tag : Nat) : State :=
  let d := dieOfPort p
  let type : MsgType := if kind = 0 then .req else if kind = 1 then .cache else .data 0
  let m : Msg := { type := type, kind := .ioPosted, opcode := code, channel := 6, host := h, hpa := addr, dpa := addr, tag := tag,
                   data := if kind = 2 then data else 0, len := if kind = 2 then len else 0, mask := 2 ^ 64 - 1,
                   charge := ioCharge (if kind = 2 then len else 0), origin := s.stamp d }
  let (cell, s) := s.receiveCell p m
  let m := { m with cell := cell }
  let w := s.get (O.VPPB_BIND h v)
  let pt := bindPort w
  let s := if s.dieSafe d then s else s.perfCount d evWrBytes p (s.vppbTenant h v) m.len
  if s.dieSafe d || bindKind w != bindDevice then (s.observe p 0 m).freeCell d cell
  else if kind = 0 then
    if s.vppbRefuses h v then ((s.observe p 0 m).freeCell d cell).ioUnmapped p h v tag addr 0 (.cache kind code)
    else s.hostForward p v m none
  else
    let s : State := { s with io := { s.io with up := s.io.up.filter (fun (u : UpReq) =>
                         !(u.kind == 1 && u.device == pt && u.ld == bindLd w && u.devTag == tag)) } }
    let m := { m with tenant := bindTenant w, ld := bindLd w }
    (s.observe p 0 m).carry d (dieOfPort pt) (devKey pt (bindLd w) addr) vcRsp (dataSize m.len) true m.origin cell (.bypass pt m)

/-- A host's completion of a device's request returns to the device; one that answers no request is received, observed and discarded. -/
def State.ioReturn (s : State) (p tag status data len : Nat) : State :=
  match s.io.up.find? (fun u => u.port == p && u.tag == tag && u.kind == 0) with
  | none =>
    let m : Msg := { type := .ioCpl status, kind := .ioNp, channel := 7, tag := tag, data := data, len := len, opcode := if len = 0 then 0x0A else 0x4A,
                     host := s.get (O.HOST_ID p), charge := ioCharge len, origin := s.stamp (dieOfPort p) }
    let (cell, s) := s.receiveCell p m
    (s.observe p 0 { m with cell := cell }).freeCell (dieOfPort p) cell
  | some u =>
    let d := dieOfPort p
    let s : State := { s with io := { s.io with up := s.io.up.filter (fun (x : UpReq) => !(x.port == p && x.tag == tag)) } }
    let m : Msg := { type := .ioCpl status, kind := .ioNp, channel := 7, ld := u.ld, tag := u.devTag, data := data, len := len,
                     opcode := if len = 0 then 0x0A else 0x4A, host := s.get (O.HOST_ID p), tenant := u.tenant, charge := ioCharge len,
                     origin := s.stamp d }
    let (cell, s) := s.receiveCell p m
    let m := { m with cell := cell }
    (s.observe p 0 m).carry d (dieOfPort u.device) u.devTag vcRsp (dataSize len) true m.origin m.cell (.bypass u.device m)

/-! ## The FM endpoint (R90) -/

/-- A completion of the FM endpoint, which the FM port sends through its bypass (R238). -/
def State.fmDone (s : State) (p tag status data len : Nat) : State :=
  s.enqueueBypass p { type := .ioCpl status, kind := .ioNp, channel := 7, opcode := if len = 0 then 0x0A else 0x4A, tag := tag,
                      data := data, len := len, charge := ioCharge len, origin := s.stamp (dieOfPort p) }

/-- A request at the FM port: configuration, BAR 0 the in-band window of R43, BAR 2 the component command interface mailbox, whose
registers the spec does not lay out: a read returns a free value, and its commands are those of R115. -/
def State.fmServe (s : State) (p : Nat) (op : IoOp) (bar addr len data tag : Nat) : State :=
  match op with
  | .cfgRead => let r := s.cfgIn p 0xFF 0 (addr / 4); r.2.fmDone p tag cplOk r.1 4
  | .cfgWrite => (s.cfgOut p 0xFF 0 (addr / 4) data).fmDone p tag cplOk 0 0
  | .memRead =>
    if bar = 0 ∧ addr < 2 ^ 31 then let r := s.windowBytes addr len; r.2.fmDone p tag cplOk (ofBytes r.1) len
    else if bar = 2 ∧ addr < 0x1000 then let r := s.fresh; r.2.fmDone p tag cplOk (r.1 % 256 ^ len) len
    else s.fmDone p tag cplUr 0 0
  | .memWrite => if bar = 0 ∧ addr < 2 ^ 31 then fxWindowWrite addr (bytesOf data len) s else s
  | .completion _ => s
  | .cache _ _ => s

/-! ## A host's CXL.io request -/

/-- A CXL.io request of a host (R112, R114, R418). `fn` names the function: below 16 what vPPB `fn` presents, 16 the virtual
switch's upstream port, 17 + v vPPB v itself. `bar` and `addr` say which BAR and the offset in it, or the address that goes to a
device. BAR 0 of the upstream port gives its HDM decoder capability (R117). -/
def State.hostIo (s : State) (p : Nat) (op : IoOp) (fn bar addr len data tag tc : Nat) : State :=
  let h := s.get (O.HOST_ID p)
  let d := dieOfPort p
  let m := s.ioMsg p h op addr len data tag
  let (cell, s) := s.receiveCell p m
  let t := if fn < 16 then s.vppbTenant h fn else noTenant
  if s.dieSafe d then
    (((s.observe p 0 m).freeCell d cell).perfCount d evSynthCpl p t (if ioKind op = .ioPosted then 0 else 1)).ioDone d h tag op cplUr
  else if fn < 16 then (s.perfCount d evWrBytes p t (ioWrites op len)).ioThrough p h fn op bar addr len data tag tc { m with cell := cell }
  else
    let s := ((s.perfCount d evWrBytes p t (ioWrites op len)).observe p 0 m).freeCell d cell
    match op with
    | .cfgRead => let r := s.cfgIn p h fn (addr / 4); r.2.ioData d h tag r.1 4 false
    | .cfgWrite => (s.cfgOut p h fn (addr / 4) data).ioDone d h tag op cplOk
    | .memRead => if fn = 16 ∧ bar = 0 then s.ioData d h tag (s.hdmRead h true addr len) len false else s.ioToHost d h tag cplUr 0 0
    | _ => s

/-- What a host or a fabric manager sends over CXL.io or CXL.cache, while the port carries data (R90, R94, R105). -/
def fxHostIo (p : Nat) (op : IoOp) (fn bar addr len data tag tc : Nat) (s : State) : State :=
  if !s.carries p then s
  else if s.role p = roleFm then
    let m := s.ioMsg p 0xFF op addr len data tag
    let got := s.receiveCell p m
    ((got.2.observe p 0 m).freeCell (dieOfPort p) got.1).fmServe p op bar addr len data tag
  else if s.role p = roleUpstream then
    match op with
    | .completion status => s.ioReturn p tag status data len
    | .cache kind code => if s.speaks p 2 then s.cacheToDevice p (s.get (O.HOST_ID p)) fn kind code addr len data tag else s
    | op => s.hostIo p op fn bar addr len data tag tc
  else s

/-! ## A device's request (R86, R238, R272, R418) -/

/-- The vPPB to which a device of a port is bound: host, vPPB and binding. -/
def State.boundTo (s : State) (p ld : Nat) : Option (Nat × Nat × Nat) :=
  s.bindings.find? (fun b => bindKind b.2.2 == bindDevice && bindPort b.2.2 == p && bindLd b.2.2 == ld)

/-- The channel of the observed message that a device's operation is (R227). -/
def devChannel : DevOp → Nat
  | .ioRead => 7
  | .ioWrite => 7
  | .cacheReq _ => 6
  | .cacheRsp _ => 6
  | .cacheData _ => 6
  | .bisnp _ => 5
  | .conflictAck => 3

/-- A device's operation is a request that its device port completes if it is turned away; the others are discarded. -/
def devAnswered : DevOp → Bool
  | .ioRead => true
  | .cacheReq _ => true
  | _ => false

/-- A device's operation carries data. -/
def devData : DevOp → Bool
  | .ioWrite => true
  | .cacheData _ => true
  | _ => false

/-- The protocol of a device's operation is negotiated on a port (R94). -/
def State.speaksFor (s : State) (p : Nat) (op : DevOp) : Bool :=
  match devChannel op with
  | 5 => s.speaks p 3
  | 3 => s.speaks p 3
  | 6 => s.speaks p 2
  | _ => true

/-- The message that a device's operation is, before it is metered. -/
def State.devMsg (s : State) (p ld : Nat) (op : DevOp) (addr len data tag : Nat) : Msg :=
  let type : MsgType :=
    match op with | .bisnp k => .bisnp k | .cacheRsp _ => .cache | .cacheData _ => .data 0 | .conflictAck => .conflictAck | _ => .req
  let code :=
    match op with
    | .ioRead => 0x20 | .ioWrite => 0x60 | .cacheReq c => c | .cacheRsp c => c | .cacheData c => c | .bisnp k => k | .conflictAck => 4
  let n := if devData op then len else 0
  { type := type, kind := if op = .ioWrite then .ioPosted else .ioNp, opcode := code, channel := devChannel op, hpa := addr, ld := ld,
    tag := match op with | .bisnp _ => p | _ => tag, data := if n = 0 then 0 else data, len := n, mask := if n = 0 then 0 else 2 ^ n - 1,
    charge := ioCharge (if devChannel op = 7 then len else n), origin := s.stamp (dieOfPort p), drops := (s.port p).drops }

/-- A device's request is turned away at its port: a non-posted one completes with Unsupported Request. -/
def State.deviceRefused (s : State) (p ld tag : Nat) (op : DevOp) : State :=
  if devAnswered op then
    s.enqueueBypass p { type := .ioCpl cplUr, kind := .ioNp, channel := devChannel op, opcode := if devChannel op = 7 then 0x0A else 0, ld := ld, tag := tag, origin := s.stamp (dieOfPort p) }
  else s

/-- A device's request goes to its host's port in its tenant's class (R238, R241), and is not completed yet (R273). A CXL.io read is known
upstream by a tag of the switch's own until its host completes it. -/
def State.deviceForward (s : State) (p ld h t hp tc : Nat) (op : DevOp) (m : Msg) : State :=
  let d := dieOfPort p
  let (colour, metered, s) := s.colour d t 1 m.charge (if m.channel = 7 then some tc else none)
  let n := s.io.tag
  let s : State := { s with io := { s.io with tag := n + 1, up := s.io.up ++
    [{ port := hp, tag := n, device := p, ld := ld, devTag := m.tag, tenant := t,
       kind := if op = .ioRead then 0 else if m.channel = 6 then 1 else 2 }] } }
  let m := { m with host := h, tenant := t, epoch := some (s.get O.BIND_EPOCH), colour := colour, metered := metered, cls := s.meterClass t 1, up := n + 1,
                    tag := if op = .ioRead then n else m.tag }
  ((if m.channel = 7 then s.perfCount d evIoReq p t 1 else s).observe p 0 m).toPort d hp (hostKey h) vcReq false m

/-- What a device sends toward its host, while the port carries data and has negotiated its protocol (R86, R94, R105): back-invalidate
snoops, BIConflictAck and CXL.cache responses and data go to the host port's bypass, requests to its hierarchy. -/
def fxDeviceRequest (p ld : Nat) (op : DevOp) (addr len data tag tc : Nat) (s : State) : State :=
  if s.role p = roleDownstream ∧ s.carries p = true ∧ s.speaksFor p op = true then
    let d := dieOfPort p
    let got := s.receiveCell p (s.devMsg p ld op addr len data tag)
    let m := { s.devMsg p ld op addr len data tag with cell := got.1 }
    let s := got.2
    let mine := match s.boundTo p ld with | some (_, _, w) => bindTenant w | none => noTenant
    let refuse := fun (s : State) =>
      (((s.observe p 0 m).freeCell d m.cell).perfCount d evSynthCpl p mine (if s.dieSafe d && devAnswered op then 1 else 0)).deviceRefused p ld tag op
    match s.boundTo p ld with
    | none => refuse s
    | some (h, _, w) =>
      let t := bindTenant w
      let shut := m.type == .req && s.tenantRefuses t
      match (if s.dieSafe d then none else s.hostPort h) with
      | none => refuse (if shut && !s.dieSafe d then s.countTenantRefusal d t else s)
      | some hp =>
        if shut then refuse (s.countTenantRefusal d t)
        else if !s.speaksFor hp op then refuse s
        else if m.type ≠ .req then
          let m := { m with host := h, tenant := if m.channel = 6 then t else m.tenant }
          (s.observe p 0 m).carry d (dieOfPort hp) (hostKey h) (if m.channel = 5 then vcSnp else vcRsp) (dataSize m.len) (m.channel == 6) m.origin
            m.cell (.bypass hp m)
        else s.deviceForward p ld h t hp tc op m
  else s

/-- The link of a port has dropped: a host's completions of its devices' requests come no more, nor do those for a device that is
gone. -/
def State.ioDropped (s : State) (p : Nat) : State :=
  { s with io := { s.io with up := s.io.up.filter (fun (u : UpReq) => !(u.port == p || u.device == p)) } }

end Sys2Proof.Machine
end

