-- ==== Sys2Proof/Machine/FmApi.lean ====
section
/-! DEFINITION. The FM-API commands of the Virtual Switch command set (R86, R87, R115). -/
namespace Sys2Proof.Machine

/-- The return codes of CXL that R87 and R115 name. -/
def fmSuccess : Nat := 0
def fmInvalidInput : Nat := 2
def fmUnsupported : Nat := 3
def fmBusy : Nat := 6

/-- The mailbox of the FM port answers (R90): the port carries data and its die is not in SAFE (R105, R418). -/
def State.fmReady (s : State) : Bool :=
  (s.portsWith roleFm).any (fun p => s.carries p && !s.dieSafe (dieOfPort p))

/-- The instance of class 07 through which the FM-API works (R115). -/
def txFm : Nat := 2

def State.setFmBind (s : State) (t : Option Nat) : State := { s with dict := { s.dict with fmBind := t } }

/-- Bind vPPB or Unbind vPPB: a one-object transaction with the instant FT_NOW + 500 (R115). An operand that no object holds, and a
value that cannot be staged, is an Invalid Input. -/
def fxFmBind (h v w : Nat) (s : State) : State :=
  if !s.fmReady then s
  else if 64 ≤ h ∨ 16 ≤ v ∨ 2 ^ 32 ≤ w then s.send (.fmApi fmInvalidInput)
  else if s.txCmdStatus txFm txcOpen ≠ stOk then s.send (.fmApi fmBusy)
  else
    let o := O.VPPB_BIND h v
    let t := fxTxOpen txFm s
    if t.writeCheck .inband o true [w] ≠ stOk then s.send (.fmApi fmInvalidInput)
    else (fxTxPrepare txFm (t.stageObj txFm o [w]).2).setFmBind (some (s.now 0 + 500))

/-- The command in progress goes on with its transaction: COMMIT_AT once it is READY, and the answer once it is over. R115 gives the return
codes of a failed PREPARE alone; one whose transaction fails or is aborted later ends with Invalid Input too (DESIGN CHOICE, log 31). -/
def State.fmAdvance (s : State) : State :=
  match s.dict.fmBind with
  | none => s
  | some t =>
    let st := s.get (O.TX_STATE txFm)
    if st = txReady then
      let s := s.put (O.TX_INSTANT txFm) (t % 2 ^ 64)
      if s.txCmdStatus txFm txcCommitAt = stOk then fxTxCommitAt txFm s
      else (((s.commitRefused txFm).txAbort txFm).setFmBind none).send (.fmApi fmInvalidInput)
    else if st = txApplied then (s.setFmBind none).send (.fmApi fmSuccess)
    else if st = txFailed ∨ st = txAborted ∨ st = txIdle then
      (s.setFmBind none).send (.fmApi (if s.get (O.TX_STATUS txFm) = stNotIdle then fmBusy else fmInvalidInput))
    else s

/-- The word of Bind vPPB: operands wider than their fields of R111 give a value that no binding has. -/
def bindWord (port ld tenant : Nat) : Nat :=
  if port < 128 ∧ ld < 16 ∧ tenant < 1024 then 2 ^ 30 + tenant * 2 ^ 16 + ld * 2 ^ 8 + port else 2 ^ 32

/-- Get Virtual CXL Switch Info reports class 20 of a virtual switch (R115); of one that there is not it is an Invalid Input. -/
def fxSwitchInfo (h : Nat) (s : State) : State :=
  if s.fmReady ∧ 64 ≤ h then s.send (.fmApi fmInvalidInput)
  else if s.fmReady then
    s.send (.switchInfo h (((List.range 256).filter (fun m => (rowOf s.variant ⟨0x20, h, m⟩).isSome)).map (fun m => s.readObj ⟨0x20, h, m⟩)))
  else s

/-- A command of an absent command set (R87). -/
def fxFmUnsupported (s : State) : State := if s.fmReady then s.send (.fmApi fmUnsupported) else s

end Sys2Proof.Machine
end

