-- ==== Sys2Proof/Machine/Settle.lean ====
section
/-! DEFINITION. What a command brings about before it is over: the raises, messages and completions it owes are carried out in the
order in which they arose, and the units that follow by themselves are brought up to date. -/
namespace Sys2Proof.Machine

/-! ## Completions that come back (R101, R102, R155) -/

/-- The die on which the one who waits for a completion stands, if it stands on one. -/
def Owner.die : Owner → Option Nat
  | .tracker d _ => some d
  | .homeRead d _ => some d
  | .homeWrite d _ => some d
  | .mover d _ _ => some d
  | .atomicRead d _ => some d
  | .atomicWrite d _ => some d
  | .mirror d _ => some d
  | .debug => some 0
  | _ => Option.none

/-- The number by which a completion is routed (R20). DESIGN CHOICE (log 102): R20 gives the requester's tracker number; a completion
whose requester holds no tracker goes by the requester's own transaction, line or serial number. -/
def Owner.key : Owner → Nat
  | .tracker _ n => n
  | .homeRead _ n => n
  | .homeWrite _ n => n
  | .mover _ _ n => n
  | .atomicRead _ n => n
  | .atomicWrite _ n => n
  | .mirror _ n => n
  | _ => 0

/-- A completion reaches the one who waits for it. Of a synthesised one `data` says whether a completion timer made it. -/
def State.delivered (s : State) (d : Nat) (o : Owner) (kind : ReqKind) (data : Nat) (poison synthetic : Bool) (cell : Nat) (origin : Option Nat)
    (status len tenant : Nat) : State :=
  match o with
  | .tracker e n => s.takeAnswer (8192 * e + n) (kind.answerType 0) (if synthetic then 0 else data) poison cell origin
  | .homeRead _ n => s.homeData d n data poison synthetic cell
  | .homeWrite _ n => (s.leaveCell d cell).noteAck d n data poison synthetic
  | .mover _ _ id => s.mvDelivered d id data poison synthetic cell
  | .atomicRead _ n =>
    let (ue, s) := s.readIn d cell
    (s.leaveCell d cell).atomicRead d n data (poison || ue) synthetic
  | .atomicWrite _ n => s.atomicWritten d n data poison synthetic status cell origin
  | .mirror _ n => (s.leaveCell d cell).mirrorDone d n data poison synthetic
  | .host h tag =>
    if kind = .read ∧ status = cplOk then s.ioToHost d h tag status (if synthetic then 0 else data) len poison (cell := cell) (origin := origin) (tenant := tenant)
    else s.ioToHost d h tag status 0 0 (cell := cell) (origin := origin) (tenant := tenant)
  | .debug =>
    let (ue, s) := s.readIn d cell
    (s.leaveCell d cell).debugDelivered data (poison || ue) synthetic
  | .apply _ _ _ => s.leaveCell d cell
  | .none => s.leaveCell d cell

/-- A completion on a die goes on to the die of the one who waits for it. -/
def State.deliverOn (s : State) (d : Nat) (o : Owner) (kind : ReqKind) (data : Nat) (poison synthetic : Bool) (cell : Nat) (origin : Option Nat)
    (status len tenant : Nat) : State :=
  match o.die with
  | some e =>
    if e = d then s.delivered d o kind data poison synthetic cell origin status len tenant
    else
      let g := origin.getD (s.stamp d)
      s.carry d e o.key vcRsp (if kind = .read then 1 else 0) false g cell (.deliver e o kind data poison synthetic 0 (some g) status len tenant)
  | none => s.delivered d o kind data poison synthetic cell origin status len tenant

/-! ## Viral (R102, R502) -/

/-- An extent entry names a port, by itself or through a migration. -/
def State.namesPort (s : State) (p : Nat) (granule : Bool) (w : Nat) : Bool :=
  if granule then (grnKind w == 1 && grnPort w == p) || (grnKind w == 2 && s.migTouches p (grnSlot w))
  else extKind w == 1 && extPort w == p

/-- The fabric ranges of the entries that name a port: first byte and length. -/
def State.portRanges (s : State) (p : Nat) : List (Nat × Nat) :=
  ((s.validExts.filter (fun e => s.namesPort p false e.2)).map (fun e => (e.1 * 2 ^ 30, 2 ^ 30))) ++
  ((s.validGrns.filter (fun g => s.namesPort p true g.2)).flatMap (fun g =>
    (s.validExts.filter (fun e => extKind e.2 == 2 && extTarget e.2 % 512 == g.1 / 512)).map
      (fun e => (e.1 * 2 ^ 30 + g.1 % 512 * 2 ^ 21, 2 ^ 21))))

/-- A host is bound to a device port, or reaches it through a decoder (R502). -/
def State.boundHost (s : State) (p h : Nat) : Bool :=
  s.bindings.any (fun b => b.1 == h && bindKind b.2.2 == bindDevice && bindPort b.2.2 == p)

def State.reachesPort (s : State) (p h : Nat) : Bool :=
  let ranges := s.portRanges p
  s.enabledDecs.any (fun n => n / 16 == h && !(s.decoder n).isVppb &&
    ranges.any (fun r => decide (r.1 < (s.decoder n).fbase + (s.decoder n).q ∧ (s.decoder n).fbase < r.1 + r.2)))

/-- Viral for a drop or expiry on a device port (R502), and on the ports of its bound hosts. -/
def State.viralWhere (s : State) (test : Nat → Bool) : State :=
  forEach ((s.portsWith roleUpstream).filter (fun u => test (s.get (O.HOST_ID u)))) (fun u s => s.viralOn u) s

/-! ## A dropped link (R102, R104, R143, R169, R463, R468) -/

/-- Take every message out of a port's queues. -/
def State.emptyPort (s : State) (p : Nat) : List Msg × State :=
  let ks := s.qos.leaf.keys.filter (fun k => leafPort k == p && !(s.leaf k).queue.isEmpty)
  let ms := ks.flatMap (fun k => (s.leaf k).queue.map (fun m => (k, m)))
  let more := (s.egress p).bypass
  let s := forEach ms (fun x s => s.unfence x.1 x.2.tenant) s
  let s := forEach ks (fun k s => s.setLeaf k (fun l => { l with queue := [], deficit := 0 })) s
  (ms.map (fun x => x.2) ++ more, (s.setEgressOf p (fun e => { e with bypass := [] })).syncRings p)

/-- A device port has dropped: what waits for it completes as if it had been outstanding, its migrations abort, and the private
atomics that wait for it end (R102, R143, R174). -/
def State.devicePortGone (s : State) (p : Nat) : State :=
  let (ms, s) := s.emptyPort p
  let s := forEach ms (fun m s =>
    if m.type = .req then s.refusePort p m else s.leaveCell (dieOfPort p) m.cell) s
  let s := s.migAbortWhere (fun s m => s.migTouches p m) (if s.linkState p = lsRetired then stRetired else stLinkDown)
  forEach (s.dir.atomics.filter (fun a => a.port == p && a.phase == 0)) (fun a s => s.endAtomic a.die a.id cplCa 0) s

/-- A host's port has dropped (R104, R169, R205). -/
def State.hostPortGone (s : State) (p : Nat) : State :=
  let h := s.get (O.HOST_ID p)
  let d := dieOfPort p
  let mine := s.rq.waiting.filter (fun r => r.port == p)
  let late := s.rq.held.filter (fun x => x.1 == h)
  let s : State := { s with rq := { s.rq with waiting := s.rq.waiting.filter (fun r => r.port != p), held := s.rq.held.filter (fun x => x.1 != h),
                                              delivered := s.rq.delivered.filter (fun b => b.port != p) } }
  let s := forEach mine (fun r s => s.freeCell d r.cell) s
  let s := forEach (late.flatMap (fun x => s.actCells x.2)) (fun c s => s.freeCell d c) s
  let s := forEach ((s.rq.tracker.filter (fun t => t.2.busy && t.2.req.port == p)).map (fun t => t.1))
    (fun k s => s.setTracker k (fun t => { t with discard := true })) s
  let (ms, s) := s.emptyPort p
  let s := forEach ms (fun m s =>
    let s := s.leaveCell d m.cell
    match m.owner with
    | .tracker e n => s.releaseTracker (8192 * e + n) false
    | _ => s) s
  let s := (s.abortGroups (fun _ g _ => g == h) stLinkDown causeLink).hostReadsLost p
  if s.get O.DIR_STATE = 2 then
    let s : State := { s with dir := { s.dir with dropWait := s.dir.dropWait.filter (· != h) ++ [h] } }
    s.dropSweep h
  else s

/-- The link of a port has dropped. -/
def State.portGone (s : State) (p : Nat) : State :=
  let s := ((s.endDoe p).zeroize p).ioDropped p
  if s.role p = roleDownstream then s.devicePortGone p
  else if s.role p = roleUpstream then s.hostPortGone p
  else
    let (ms, s) := s.emptyPort p
    forEach ms (fun m s => s.leaveCell (dieOfPort p) m.cell) s

/-! ## The reactions -/

/-- A raise's channel is retired, a port's migrations abort (R143, R412); on a die that has entered SAFE nothing is retired (R405). -/
def State.retireOn (s : State) (ch : Nat) : State :=
  if s.dieSafe (channelDie ch) then s else
  let s := if channelKind ch = 4 then s.migAbortWhere (fun s m => s.migTouches (channelIndex ch) m) stRetired else s
  s.doRetire ch

/-- A request reaches the die of its home: a frozen one takes up apply writes alone (R206), and one whose SRAM is unpowered refuses what
needs it (R149, R182). -/
def State.comesHome (s : State) (q : HomeReq) : State :=
  if s.dieSafe q.die ∧ q.cls ≠ .applyWrite then (s.leaveCell q.die q.cell).safeEnd q.owner
  else if s.get O.DIR_STATE = 0 ∧ !q.needsNoSram then s.refuseHome q
  else s.atHome q

/-- Carry out one reaction. -/
def State.perform (s : State) (a : Act) : State :=
  match a with
  | .raise source ch addr master typ => s.doRaise source ch addr master typ true
  | .retire ch => s.retireOn ch
  | .react source sev ch stamp => s.doReact source sev ch stamp
  | .safe d cause source => s.doSafe d cause source
  | .deliver d o kind data poison synthetic cell g st n t => s.deliverOn d o kind data poison synthetic cell g st n t
  | .enqueue p m => s.arrive p m false
  | .bypass p m => s.arrive p m true
  | .home q => s.comesHome q
  | .birsp d h line answer => if s.dieSafe d then s else s.snoopAnswer d h line answer
  | .answer k type data poison cell g => s.takeAnswer k type data poison cell g
  | .stage k => s.stage k
  | .group g => s.takeGroup g
  | .admitOne => s.admitWaiting
  | .kick d line => s.kick d line
  | .serve q => s.serveAgain q
  | .hostGone h => s.dropSweep h
  | .viralFor p => s.viralWhere (fun h => s.boundHost p h || s.reachesPort p h)
  | .viralBound p => s.viralWhere (fun h => s.boundHost p h)
  | .portDropped p => s.portGone p
  | .route k => if (s.tracker k).busy && !(s.tracker k).answered then s.routeTracked k else s
  | .spec h m p r => s.specOn p h m r
  | .memory d fa vc bypass m => s.toMemory d fa vc bypass m
  | .toHome d q origin cell => s.toHome d q origin cell
  | .atomic p tc ecc m a => s.startAtomic p tc ecc m a
  | .atomicOn p m a r => s.atomicOn p m a r
  | .atomicAt p m a t => s.takePrivateAtomic p m a t
  | .biconflict d h line p hpa _ => if s.dieSafe d then s else s.conflictAtHome d h line p hpa

/-- Carry out what is owed, oldest first, at most `n` reactions. -/
def State.work : Nat → State → State
  | 0, s => s
  | n + 1, s =>
    match s.acts with
    | [] => s
    | a :: rest => State.work n (({ s with acts := rest } : State).perform a)

/-- The reactions that one command may bring. -/
def workLimit : Nat := 1048576

/-- Every die is in SAFE within 25 ft of the decision (R417). -/
def State.safeInTime (s : State) : State :=
  forEach (s.flt.safeWait.filter (fun d => decide (s.flt.safeBy.at d ≤ s.elapsed d))) (fun d s => s.enterSafe d) s

/-- What follows by itself once the reactions are done (R27, R61, R78, R110, R115, R140, R156, R216, R305, R352, R388, R417, R432). -/
def State.follow (s : State) : State :=
  ((((((((s.retryStaging.mirrorAbandon.moverGoes.sendStrays.queuesRest).sqTxAdvance).fmAdvance).noteDieHold).noteGoAck).noteDieInit).autoMode).safeInTime).giveHeld
    |>.noteVppbs.answerUnsent.unstick.serveAuto

/-- The state once a command is over. -/
def settle (s : State) : State := (State.work workLimit ((State.work workLimit s).follow)).tidy

/-- The outcome of a command that has had its effect. -/
def done (s : State) : Result := .next (settle s)

end Sys2Proof.Machine
end

