-- ==== Sys2Proof/Machine/Units.lean ====
section
/-! DEFINITION. The units of a variant (R2), how a command that names one has its effect, and the commands' effects that several
chapters share in. -/
namespace Sys2Proof.Machine

/-! ## Units -/

def State.hasDie (s : State) (d : Nat) : Bool := decide (d < s.dies)
def State.hasPort (s : State) (p : Nat) : Bool := decide (p < s.ports)
def State.hasLane (s : State) (l : Nat) : Bool := decide (l < 64 * s.dies)

/-- The ends of Invar links, and of those and the Ihlod ports 32 and 33. -/
def State.hasInvar (s : State) (l : Nat) : Bool := decide (l < 4 * s.dies)
def State.hasLink (s : State) (l : Nat) : Bool := decide (l < 4 * s.dies ∨ l = 32 ∨ l = 33)

def hasSegment (x : Nat) : Bool := decide (x < 2)
def hasTx (x : Nat) : Bool := decide (1 ≤ x ∧ x ≤ 4)
def hasHost (h : Nat) : Bool := decide (h < 64)
def hasGroup (h k : Nat) : Bool := decide (h < 64 ∧ 1 ≤ k ∧ k < 8)
def hasMig (m : Nat) : Bool := decide (m < 32)
def hasTenant (t : Nat) : Bool := decide (t < 1024)
def hasQueue (q : Nat) : Bool := decide (q < 1024)
def State.hasEngine (s : State) (d e : Nat) : Bool := decide (d < s.dies ∧ e < 4)
def State.hasChannel (s : State) (n : Nat) : Bool := decide (n < s.variant.slotChannels)
def State.hasBank (s : State) (d b : Nat) : Bool := decide (d < s.dies ∧ b < 16)
def State.hasPll (s : State) (d n : Nat) : Bool := decide (d < s.dies) && (pllsOf d).contains n
def State.hasDomain (s : State) (d i : Nat) : Bool := decide (d < s.dies) && (domainsOf d).contains i

/-- A requester interface of the package (R34). -/
def State.hasIfc (s : State) (ifc : Iface) : Bool :=
  match ifc with
  | .cicada d => s.hasDie d
  | .click n => s.seqExists n
  | .mailbox t => hasTenant t
  | .counterPage t => hasTenant t
  | _ => true

/-- A command that names a unit which the variant does not have stops; any other has its effect. -/
def onUnit (has : Bool) (s : State) : Result := if has then done s else .fault .noSuchUnit

/-- A write of one object through an interface. -/
def writeOne (ifc : Iface) (o : Obj) (v : Nat) (s : State) : Result := onUnit (s.hasIfc ifc) (s.write1 ifc o v)

/-! ## Effects that lie in several chapters -/

/-- An uncorrectable error in a die's staged copy of a READY or SCHEDULED set fails the transaction (R76). -/
def fxStagedCopyError (x : Nat) (s : State) : State := s.txFailWhere (fun _ y => y == x) stAborted

/-- A port reaches UP, while its lanes run: its credit loops start anew (R93, R217, R425). -/
def fxPortUp (p rate width protocols ldCount : Nat) (reversed : Bool) (polarity : Nat) (presets : List Nat) (s : State) : State :=
  if s.lanesRun p then
    let t := fxLinkUp p rate width protocols ldCount reversed polarity presets s
    if t.linkState p = lsUp ∧ s.linkState p ≠ lsUp then t.freshPortLoops p else t
  else s

/-- A completion timer expires: the migrations of its port abort as well (R103, R143). -/
def fxSlotTimeout (p n : Nat) (s : State) : State :=
  let t := fxCplTimeout p n s
  if (t.tagSlot p n).state = 2 ∧ (s.tagSlot p n).state = 1 then t.migAbortWhere (fun s m => s.migTouches p m) stLinkDown else t

/-- A flit is received on a port: it is counted, its FEC corrections too, and it returns credits of the rows of R217 (R105, R109,
R476). -/
def fxFlitIn (p : Nat) (badFec badIde : Bool) (lanes credits : List Nat) (s : State) : State :=
  if s.linkState p = lsUp then
    let d := dieOfPort p
    let s := s.perfCount d evRxFlits p noTenant 1
    let s := if badFec then s else s.perfCount d evFecCorrected p noTenant lanes.length
    let s := if badFec then s else
      forEach credits.zipIdx (fun x s => if x.1 ≠ 0 ∧ x.2 < 12 then s.gainCredit p x.2 x.1 else s) s
    fxFlitReceived p badFec badIde lanes s
  else s

/-- A refill tick of a die: its shapers, meters and pacing budgets; its engines go on where a budget held them (R254, R298). -/
def fxRefill (d : Nat) (s : State) : State :=
  let t := fxShaperRefill d s
  if t.qos.refilled.find d = s.qos.refilled.find d then t
  else forEach (List.range 4) (fun e s => s.engineRuns d e) (t.refillBudgets d)

/-- A tick of a die is counted (R476). -/
def fxTickCounted (d : Nat) (s : State) : State := (fxTick d s).perfCount d evTicks 0xFF noTenant 1

/-! ## A core cycle (R59, R476) -/

/-- What waits on a die in a core cycle: requests for a busy or pinned line, ports that withhold credits, a full SHARED pool, and
leaves without tokens. -/
def State.countWaits (s : State) (d : Nat) : State :=
  let s := s.perfCount d evCycles 0xFF noTenant 1
  let s := forEach (s.dir.queue.filter (fun q => q.die == d && (s.lineBusy d q.line || s.linePinned d q.line)))
    (fun q s => s.perfCount d evLineWait (s.servedBank d q.line) noTenant 1) s
  let s := forEach ((s.portsWith roleUpstream).filter (fun p => dieOfPort p == d && s.rq.waiting.any (fun r =>
      r.port == p && (s.freeTracker d (s.evictClass r)).isNone))) (fun p s => s.perfCount d evTrackerWait p noTenant 1) s
  let s := if s.poolSize d poolShared ≤ s.get (poolObj d poolShared) then s.perfCount d evSharedFull 0xFF noTenant 1 else s
  forEach (s.qos.leaf.keys.filter (fun k => dieOfPort (leafPort k) == d && !(s.leaf k).queue.isEmpty &&
      !shapePass (s.leaf k).shape (s.leaf k).tokens))
    (fun k s => s.perfCount d evShaperHeld (leafPort k) (match s.headOf k with | some m => m.tenant | none => noTenant) 1) s

/-- The block idles for one core cycle: the dies serve accesses that have waited too long (R40), and what waits is counted. -/
def fxIdle (s : State) : State :=
  let s := fxCoreCycle s
  let s := forEach (List.range s.dies) (fun d s => s.serveOldest d) s
  if s.datapathOn then forEach (List.range s.dies) (fun d s => s.countWaits d) s else s

end Sys2Proof.Machine
end

