-- ==== Sys2Proof/Machine/ExecCore.lean ====
section
/-! DEFINITION. The meanings of the commands of the spec's table: the cell buffer, capture and the high-water marks (R212 to R237, R257). -/
namespace Sys2Proof.Machine

/-- WEEVIL_EXAMINE (R221): The Weevil auditor examines one cell per core cycle against its free bit, holder and age. -/
def execWeevilExamine (d finding : Nat) (s : State) : Result := onUnit (s.hasDie d) (fxWeevilExamine d finding s)

/-- WEEVIL_PASS_END (R221): At the end of a pass the auditor compares found charges with each pool's counter. -/
def execWeevilPassEnd (d : Nat) (mismatch : Bool) (s : State) : Result := onUnit (s.hasDie d) (fxWeevilPassEnd d mismatch s)

/-- CA_AT (R223): A write of CA_AT arms or disarms a credit audit after checks. -/
def execCaAt (ifc : Iface) (v : Word) (s : State) : Result := writeOne ifc O.CA_AT v.toNat s

/-- CREDIT_AUDIT_START (R225): At the audit instant every die snapshots counters, makes checks 1–3 and sends data markers. -/
def execCreditAuditStart (s : State) : Result := done (fxCreditAuditStart s)

/-- MARKER (R225): A data marker arrives; the receiving die makes checks 4 and 5 and sends a return marker. -/
def execMarker (l c : Nat) (s : State) : Result := onUnit (s.hasInvar l && decide (c < 5)) (fxMarker l c s)

/-- RETURN_MARKER (R225): A return marker arrives at the sending die, which makes check 6. -/
def execReturnMarker (l c : Nat) (s : State) : Result := onUnit (s.hasInvar l && decide (c < 5)) (fxReturnMarker l c s)

/-- CREDIT_AUDIT_GATHER (R225): At T + 50 ft die 0 gathers outcomes and sets CA_RESULT, CA_LAST_AT and CA_STATE. -/
def execCreditAuditGather (s : State) : Result := done (fxCreditAuditGather s)

/-- CAP_ENABLE (R228): A write of CAP_ENABLE starts capture as WAITING or RUNNING, or turns it OFF. -/
def execCapEnable (ifc : Iface) (d : Nat) (b : Word) (s : State) : Result := writeOne ifc (O.CAP_ENABLE d) b.toNat s

/-- CAP_START (R228): At tick CAP_START_AT capture goes from WAITING to RUNNING. -/
def execCapStart (d : Nat) (s : State) : Result := onUnit (s.hasDie d) (fxCapStart d s)

/-- CAP_STOP (R228): At tick CAP_STOP_AT capture enters STOPPED. -/
def execCapStop (d : Nat) (s : State) : Result := onUnit (s.hasDie d) (fxCapStop d s)

/-- CAP_RECORD_WRITE (R228): A queued record is written into the ring, ending POST_TRIGGER after CAP_POST_COUNT or stopping on
a full ring in STOP mode. -/
def execCapRecordWrite (d : Nat) (s : State) : Result := onUnit (s.hasDie d) (fxCapRecordWrite d s)

/-- CAP_CLEAR (R230): A write of CAP_CLEAR empties the die's ring when capture is OFF or STOPPED. -/
def execCapClear (ifc : Iface) (d : Nat) (s : State) : Result := writeOne ifc (O.CAP_CLEAR d) 1 s

/-- CF_ENABLE (R227): A write of CF_ENABLE from 0 to 1 loads the filter's LFSR with CF_SEED. -/
def execCfEnable (ifc : Iface) (d f : Nat) (s : State) : Result := writeOne ifc (O.CF_ENABLE d f) 1 s

/-- HWM_SNAPSHOT (R258): At tick HWM_SNAP_AT every die copies live marks into snapshots, optionally clearing them. -/
def execHwmSnapshot (s : State) : Result := done (fxHwmSnapshot s)

/-- HWM_CLEAR (R258): A write of 1 to HWM_CLEAR clears every live mark. -/
def execHwmClear (ifc : Iface) (s : State) : Result := writeOne ifc O.HWM_CLEAR 1 s

end Sys2Proof.Machine
end

