-- ==== Sys2Proof/Machine/ExecDict.lean ====
section
/-! DEFINITION. The meanings of the commands of the spec's table: services of the object dictionary (R34 to R57). -/
namespace Sys2Proof.Machine

/-- READ (R42): A READ service of 1–32 consecutive member slots of one instance is checked under R39 and served member by
member. -/
def execRead (ifc : Iface) (cls inst mem n : Nat) (s : State) : Result :=
  onUnit (s.hasIfc ifc) (s.readCmd ifc ⟨cls, inst, mem⟩ n)

/-- WRITE (R42): A WRITE service to objects that have no row of their own is checked under R39 and R36 and takes effect, or is
staged when RW-T. -/
def execWrite (ifc : Iface) (cls inst mem : Nat) (vs : List Word) (s : State) : Result :=
  onUnit (s.hasIfc ifc) (s.writeCmd ifc ⟨cls, inst, mem⟩ (vs.map (fun v => v.toNat)))

/-- READ_CLEAR (R38): A read of an RC object returns its value and clears it to its default in one indivisible step. -/
def execReadClear (ifc : Iface) (cls inst mem : Nat) (s : State) : Result :=
  onUnit (s.hasIfc ifc) (s.readCmd ifc ⟨cls, inst, mem⟩ 1)

/-- WINDOW_READ (R43): An in-band window read is checked for form, served as a READ or half-slot read, and its outcome
recorded in 7F.002. -/
def execWindowRead (off len : Nat) (s : State) : Result := done (fxWindowRead off len s)

/-- WINDOW_WRITE (R43): A posted in-band window write is checked for form, served as a WRITE or 4-byte slot write, and its
outcome recorded in 7F.002. -/
def execWindowWrite (off : Nat) (data : List Byte) (s : State) : Result := done (fxWindowWrite off data s)

/-- MBX_READ (R35): MBX_OP 0x01 starts a tenant mailbox read of MBX_OBJECT and sets MBX_BUSY. -/
def execMbxRead (t : Nat) (obj : Word) (s : State) : Result := onUnit (hasTenant t) (fxMbxOp t 1 obj.toNat none s)

/-- MBX_WRITE (R35): MBX_OP 0x02 starts a tenant mailbox write of MBX_VALUE to MBX_OBJECT and sets MBX_BUSY. -/
def execMbxWrite (t : Nat) (obj val : Word) (s : State) : Result :=
  onUnit (hasTenant t) (fxMbxOp t 2 obj.toNat (some val.toNat) s)

/-- MBX_DONE (R35): The die serves a waiting mailbox access; MBX_STATUS and MBX_VALUE take its outcome and MBX_BUSY returns to
0. -/
def execMbxDone (t : Nat) (s : State) : Result := onUnit (hasTenant t) (fxMbxDone t s)

/-- ERROR_COUNT (R49): A read of ERROR_COUNT returns the refusal count, clears it and clears FIRST_ERROR_STATUS and
FIRST_ERROR_OBJECT. -/
def execErrorCount (ifc : Iface) (x : Nat) (s : State) : Result := onUnit (s.hasIfc ifc) (s.readCmd ifc (O.ERROR_COUNT x) 1)

/-- QUERY_OBJECT (R50): A write of QUERY_OBJECT forms the description in QUERY_RESULT and QUERY_DEFAULT. -/
def execQueryObject (ifc : Iface) (x : Nat) (v : Word) (s : State) : Result := writeOne ifc (O.QUERY_OBJECT x) v.toNat s

/-- DP_OP_LOAD (R53): Writing LOAD to DP_OP checks the space, offset and length and starts a LOAD, making DP_STATE ACTIVE. -/
def execDpOpLoad (ifc : Iface) (x : Nat) (s : State) : Result := writeOne ifc (O.DP_OP x) 1 s

/-- DP_OP_DUMP (R53): Writing DUMP to DP_OP checks the space, offset and length and starts a DUMP, making DP_STATE ACTIVE. -/
def execDpOpDump (ifc : Iface) (x : Nat) (s : State) : Result := writeOne ifc (O.DP_OP x) 2 s

/-- DP_OP_IDLE (R51): Writing IDLE to DP_OP while an operation is ACTIVE aborts it. -/
def execDpOpIdle (ifc : Iface) (x : Nat) (s : State) : Result := writeOne ifc (O.DP_OP x) 0 s

/-- DP_DATA_WRITE (R54): A write of DP_DATA slots during a LOAD moves burst bytes in ascending slot order and advances DP_ADDR
at slot 0x3F. -/
def execDpDataWrite (ifc : Iface) (x slot : Nat) (vs : List Word) (s : State) : Result :=
  onUnit (s.hasIfc ifc) (s.writeCmd ifc (O.DP_DATA x slot) (vs.map (fun v => v.toNat)))

/-- DP_DATA_READ (R54): A read of DP_DATA slots during a DUMP returns burst bytes in ascending slot order, possibly stalling,
and advances DP_ADDR at slot 0x3F. -/
def execDpDataRead (ifc : Iface) (x slot n : Nat) (s : State) : Result :=
  onUnit (s.hasIfc ifc) (s.readCmd ifc (O.DP_DATA x slot) n)

/-- DUMP_STALL_TIMEOUT (R55): A DUMP read whose data are not available within 10 µs is refused with TIMEOUT without advancing.
-/
def execDumpStallTimeout (x slot : Nat) (s : State) : Result := onUnit (decide (x < 3)) (fxDumpStall x slot s)

end Sys2Proof.Machine
end

