-- ==== Sys2Proof/Machine/ExecDirectory.lean ====
section
/-! DEFINITION. The meanings of the commands of the spec's table: the coherence directory (R146 to R187). -/
namespace Sys2Proof.Machine

/-- RD_S (R161): The home serves a read shared, reading memory or recalling an owner, and sends data with Cmp-S or Cmp-E. -/
def execRdS (d : Nat) (line : Word) (ecc : Nat) (s : State) : Result := onUnit (s.hasDie d) (fxRdS d line.toNat ecc s)

/-- RD_OWN (R161): The home serves a read for ownership, invalidating holders, and sends data with Cmp-E. -/
def execRdOwn (d : Nat) (line : Word) (ecc : Nat) (s : State) : Result := onUnit (s.hasDie d) (fxRdOwn d line.toNat ecc s)

/-- RD_CUR (R161): The home serves a current read, snooping an owner with BISnpCur if needed, and sends data. -/
def execRdCur (d : Nat) (line : Word) (ecc : Nat) (s : State) : Result := onUnit (s.hasDie d) (fxRdCur d line.toNat ecc s)

/-- UPGRADE (R161): The home serves an upgrade, invalidating other sharers and sending Cmp-E, or Cmp with no change. -/
def execUpgrade (d : Nat) (line : Word) (ecc : Nat) (s : State) : Result := onUnit (s.hasDie d) (fxUpgrade d line.toNat ecc s)

/-- CLEAN_EVICT (R161): The home absorbs a clean eviction at once, updates the entry and sends Cmp. -/
def execCleanEvict (d : Nat) (line : Probe) (h : Nat) (s : State) : Result :=
  onUnit (s.hasDie d && hasHost h) (fxCleanEvict d line.line.toNat line.ecc h s)

/-- WRITEBACK (R157): The home absorbs a writeback at once, buffers the data, issues the memory write and updates the entry.
-/
def execWriteback (d : Nat) (line : Probe) (h : Nat) (s : State) : Result :=
  onUnit (s.hasDie d && hasHost h) (fxWriteback d line.line.toNat line.ecc h s)

/-- ATOMIC (R172): The home performs an atomic in a region as a switch-originated transaction, leaving the line I. -/
def execAtomic (d : Nat) (line : Probe) (s : State) : Result := onUnit (s.hasDie d) (fxAtomic d line.line.toNat line.ecc s)

/-- MEMORY_WRITE_ACK (R157): The device acknowledges a home memory write; a writeback's Cmp is sent and its ABSORB cell freed.
-/
def execMemoryWriteAck (d n : Nat) (s : State) : Result := onUnit (s.hasDie d) (fxMemoryWriteAck d n s)

/-- BIRSP (R164): A host's BIRsp reaches the home, which counts answers and completes the waiting transaction at the last one.
-/
def execBirsp (p : Nat) (hpa : Word) (answer : Nat) (s : State) : Result :=
  onUnit (s.hasPort p) (fxBirsp p hpa.toNat answer s)

/-- BICONFLICT (R158): A host's BIConflict is answered at once with BIConflictAck. -/
def execBiconflict (p : Nat) (hpa : Word) (s : State) : Result := onUnit (s.hasPort p) (fxBiConflict p hpa.toNat s)

/-- BI_TIMEOUT (R168): A host that has not answered a BISnp within BI_TIMEOUT is treated as BIRspI, its owned line poisoned
and viral signalled. -/
def execBiTimeout (d h : Nat) (line : Word) (s : State) : Result :=
  onUnit (s.hasDie d && hasHost h) (fxBiTimeout d h line.toNat s)

/-- ALLOC_WAIT_EXPIRY (R176): An allocation that found all unpinned ways busy returns to its bank's queue after ALLOC_WAIT. -/
def execAllocWaitExpiry (d : Nat) (line : Word) (s : State) : Result := onUnit (s.hasDie d) (fxAllocWaitExpiry d line.toNat s)

/-- SR_RECALL (R150): A write of SR_RECALL starts a recall sweep of the masked hosts' lines in the region. -/
def execSrRecall (ifc : Iface) (r : Nat) (mask : Word) (s : State) : Result := writeOne ifc (O.SR_RECALL r) mask.toNat s

/-- SWEEP_START (R170): A queued recall, drop or bank sweep begins its walk once the previous sweep on the die has ended. -/
def execSweepStart (w : Walk) (s : State) : Result := onUnit (s.hasDie w.die) (fxSweepStart w.die w.errs s)

/-- SWEEP_END (R170): A sweep ends when its walk and every answer are done; a recall returns SR_STATE to ACTIVE and clears
SR_HELD bits. -/
def execSweepEnd (d : Nat) (s : State) : Result := onUnit (s.hasDie d) (fxSweepEnd d s)

/-- BANK_RETIRE (R179): A write of BANK_RETIRE in MAINT starts retirement of a directory bank. -/
def execBankRetire (ifc : Iface) (d : Nat) (bank : Word) (s : State) : Result := writeOne ifc (O.BANK_RETIRE d) bank.toNat s

/-- BANK_RETIRED (R181): After the bank's sweep and last answer, FOLD_MAP is updated, the bank reads retired and BANK_RETIRED
is raised. -/
def execBankRetired (d bank : Nat) (s : State) : Result := onUnit (s.hasBank d bank) (fxBankRetired d bank s)

/-- DIR_CLEARED (R182): Clearing of the directory SRAM ends and DIR_STATE goes from CLEARING to ACTIVE. -/
def execDirCleared (s : State) : Result := done (fxDirectoryCleared s)

/-- SCRUB (R178): The sweep walker reads directory entries in cycles that no sweep needs, correcting or freeing faulty ones,
and counts a completed pass in SCRUB_PASSES once per SCRUB_PERIOD. -/
def execScrub (d set way err : Nat) (last : Bool) (s : State) : Result := onUnit (s.hasDie d) (fxScrub d set way err last s)

end Sys2Proof.Machine
end

