-- ==== Sys2Proof/Machine/ExecFaults.lean ====
section
/-! DEFINITION. The meanings of the commands of the spec's table: fault collection and retirement (R401 to R423). -/
namespace Sys2Proof.Machine

/-- REACTION_START (R410): A REACTION sequencer starts from the oldest queued reaction when its previous reaction ends. -/
def execReactionStart (n : Nat) (s : State) : Result := onUnit (s.seqExists n) (fxReactionStart n s)

/-- RECOVERY_WINDOW_CLOSE (R409): FC_WINDOW after the latest RECOVER raise the window closes and FC_STATE returns to NORMAL.
-/
def execRecoveryWindowClose (s : State) : Result := done (fxRecoveryWindowClose s)

/-- COLLECTOR_UE (R411): A collector parity or logic error sends the package to SAFE in the cycle of detection. -/
def execCollectorUe (d : Nat) (s : State) : Result := onUnit (s.hasDie d) (fxCollectorUe d s)

/-- FS_CAP_VALID (R408): A write of 1 to FS_CAP_VALID clears and re-arms the source's capture. -/
def execFsCapValid (ifc : Iface) (source : Nat) (s : State) : Result := writeOne ifc (O.FS_CAP_VALID source) 1 s

/-- RET_CLEAR (R413): A write of RET_CLEAR in MAINT clears the retirement of a channel. -/
def execRetClear (ifc : Iface) (ch : Word) (s : State) : Result := writeOne ifc O.RET_CLEAR ch.toNat s

/-- FC_ENTER_SAFE (R417): A write of 1 to FC_ENTER_SAFE enters SAFE with cause COMMAND. -/
def execFcEnterSafe (ifc : Iface) (s : State) : Result := writeOne ifc O.FC_ENTER_SAFE 1 s

end Sys2Proof.Machine
end

