-- ==== Sys2Proof/Machine/ExecGroups.lean ====
section
/-! DEFINITION. The meanings of the commands of the spec's table: write groups (R188 to R211). -/
namespace Sys2Proof.Machine

/-- STAGED_WRITE (R193): A write at alias 1–7 is merged into the group's staging line, sending a mark for a new line, and may
open or abort the group. -/
def execStagedWrite (p : Nat) (full : Bool) (hpa : Word) (tag data mask : Nat) (poison : Bool) (s : State) : Result :=
  onUnit (s.hasPort p) (fxStagedWrite p full hpa.toNat tag data mask poison s)

/-- STAGED_READ (R195): A read at alias 1–7 returns the staging line or home data with staged bytes laid over it. -/
def execStagedRead (p : Nat) (hpa : LineErrs) (tag : Nat) (s : State) : Result :=
  onUnit (s.hasPort p) (fxStagedRead p hpa.line.toNat tag (hpa.errs.headD 0) s)

/-- MARK (R193): The home bank serves a mark in the line's order, records it in the staged-line table and acknowledges. -/
def execMark (d : Nat) (line : Word) (s : State) : Result := onUnit (s.hasDie d) (fxMark d line.toNat s)

/-- MARK_ACK (R193): The mark acknowledgement reaches the ingress die and the host receives Cmp for the staged write. -/
def execMarkAck (h k : Nat) (line : Word) (s : State) : Result := onUnit (hasGroup h k) (fxMarkAck h k line.toNat s)

/-- GDB_COMMIT (R200): GDB_CMD COMMIT in OPEN stamps the group, enters COMMITTING and sends claims for every staged line. -/
def execGdbCommit (p k : Nat) (gen : Nat) (s : State) : Result := onUnit (s.hasPort p) (fxGdbCommit p k gen s)

/-- GDB_ABORT (R198): GDB_CMD ABORT in OPEN or COMMITTING aborts the group with status ABORTED. -/
def execGdbAbort (p k : Nat) (gen : Nat) (s : State) : Result := onUnit (s.hasPort p) (fxGdbAbort p k gen s)

/-- GDB_RELEASE (R198): GDB_CMD RELEASE in COMMITTED or ABORTED returns the slot to IDLE. -/
def execGdbRelease (p k : Nat) (gen : Nat) (s : State) : Result := onUnit (s.hasPort p) (fxGdbRelease p k gen s)

/-- CLAIM (R200): The home bank serves a claim, returning CONFLICT or turning the mark into a stamped claimed mark. -/
def execClaim (d : Nat) (line : Word) (s : State) : Result := onUnit (s.hasDie d) (fxClaim d line.toNat s)

/-- CLAIM_RESULT (R201): A claim result reaches the ingress die; a CONFLICT aborts the group and the last OK sends pins. -/
def execClaimResult (h k : Nat) (line : Word) (s : State) : Result := onUnit (hasGroup h k) (fxClaimResult h k line.toNat s)

/-- PIN (R177): The home bank serves a pin, waiting on older claims, returning LIMIT or CONFLICT or pinning the line and
aborting other marking groups. -/
def execPin (d : Nat) (line : Probe) (s : State) : Result := onUnit (s.hasDie d) (fxPin d line.line.toNat line.ecc s)

/-- PIN_RESULT (R202): A pin result reaches the ingress die; a failure aborts the group and the last OK enters APPLYING and
sends apply writes. -/
def execPinResult (h k : Nat) (line : LineErrs) (s : State) : Result := onUnit (hasGroup h k) (fxPinResult h k line.line.toNat line.errs s)

/-- APPLY_WRITE_ACK (R202): An apply write is acknowledged; at the last one the group becomes COMMITTED and unpins are sent.
-/
def execApplyWriteAck (h k : Nat) (line : Word) (s : State) : Result :=
  onUnit (hasGroup h k) (fxApplyWriteAck h k line.toNat s)

/-- UNPIN (R177): The home clears the PIN bit and the group's marks and serves the requests waiting on the line. -/
def execUnpin (d : Nat) (line : Word) (s : State) : Result := onUnit (s.hasDie d) (fxUnpin d line.toNat s)

/-- GROUP_CANCEL (R205): A home receives an aborted group's cancel and removes its marks, claims and pins. -/
def execGroupCancel (d : Nat) (h k : Nat) (s : State) : Result := onUnit (s.hasDie d && hasGroup h k) (fxGroupCancel d h k s)

/-- GRP_COMMIT_WAIT_EXPIRY (R204): A group not APPLYING within GRP_COMMIT_WAIT of COMMIT becomes ABORTED with TIMEOUT. -/
def execGrpCommitWaitExpiry (h k : Nat) (s : State) : Result := onUnit (hasGroup h k) (fxGrpCommitWaitExpiry h k s)

/-- GRP_CTRL_ABORT (R210): GRP_CTRL ABORT aborts a group as R198 without the generation check. -/
def execGrpCtrlAbort (ifc : Iface) (h k : Nat) (s : State) : Result := writeOne ifc (O.GRP_CTRL h k) 2 s

/-- GRP_CTRL_RELEASE (R210): GRP_CTRL RELEASE releases a slot as R198 without the generation check. -/
def execGrpCtrlRelease (ifc : Iface) (h k : Nat) (s : State) : Result := writeOne ifc (O.GRP_CTRL h k) 3 s

end Sys2Proof.Machine
end

