-- ==== Sys2Proof/Machine/ExecIhlod.lean ====
section
/-! DEFINITION. The meanings of the commands of the spec's table: the Ihlod link (R342 to R356). -/
namespace Sys2Proof.Machine

/-- DICT_READ (R350): A DICT_READ frame is served as a READ and answered with values and FAIL_MASK. -/
def execDictRead (s : State) : Result := done (fxDictRead s)

/-- DICT_WRITE (R350): A DICT_WRITE frame is served as a WRITE and answered with STATUS and FAIL_MASK. -/
def execDictWrite (s : State) : Result := done (fxDictWrite s)

/-- DP_LOAD (R350): A DP_LOAD frame writes one burst through 7E.000. -/
def execDpLoad (s : State) : Result := done (fxDpLoadFrame s)

/-- DP_DUMP (R350): A DP_DUMP frame reads one burst through 7E.000. -/
def execDpDump (s : State) : Result := done (fxDpDumpFrame s)

/-- TOD (R350): A TOD frame writes TOD_LOAD, served and forwarded when broadcast. -/
def execTod (s : State) : Result := done (fxTodFrame s)

/-- RST_ARM (R352): An RST_ARM frame arms the switch for an Ihlod reset. -/
def execRstArm (s : State) : Result := done (fxRstArm s)

/-- RST_GO (R352): An RST_GO frame matching the armed REQ_ID within RST_WINDOW is answered, or refused and disarms. -/
def execRstGo (s : State) : Result := done (fxRstGo s)

/-- IHLOD_RESET_ASSERT (R352): 25 ft after the RST_GO response is acknowledged the switch asserts the Ihlod reset source. -/
def execIhlodResetAssert (s : State) : Result := done (fxIhlodReset s)

/-- ASSIGN (R347): An ASSIGN frame sets NODE_ADDR in the first unassigned switch or the addressed one. -/
def execAssign (s : State) : Result := done (fxAssign s)

/-- ECHO (R350): An ECHO frame is answered with the same payload. -/
def execEcho (s : State) : Result := done (fxEcho s)

/-- SPDM (R350): An SPDM frame carries one segment of an SPDM message to the responder. -/
def execSpdm (s : State) : Result := done (fxSpdmFrame s)

/-- SEGMENT_UP (R346): After 16 valid training sets received and sent the segment becomes UP and leaves the bypass. -/
def execSegmentUp (x peer : Nat) (s : State) : Result := onUnit (hasSegment x) (fxSegmentUp x peer s)

/-- SEGMENT_TRAIN_TIMEOUT (R346): A segment attempt not UP within 2,500 ft fails and waits IH_RETRY. -/
def execSegmentTrainTimeout (x : Nat) (s : State) : Result := onUnit (hasSegment x) (fxSegmentTrainTimeout x s)

/-- SEGMENT_RETRY (R346): After IH_RETRY a new segment training attempt starts. -/
def execSegmentRetry (x : Nat) (s : State) : Result := onUnit (hasSegment x) (fxSegmentRetry x s)

/-- SEG_CTRL_RETRAIN (R356): SEG_CTRL RETRAIN takes the segment down with cause COMMAND to retrain. -/
def execSegCtrlRetrain (ifc : Iface) (x : Nat) (s : State) : Result := writeOne ifc (O.SEG_CTRL x) 1 s

end Sys2Proof.Machine
end

