-- ==== Sys2Proof/Machine/ExecLinks.lean ====
section
/-! DEFINITION. The meanings of the commands of the spec's table: the reliable link layer and the links between dies (R314 to R341). -/
namespace Sys2Proof.Machine

/-- INVAR_FLIT (R327): A receiver takes an Invar flit, checks CRC and sequence and accepts, discards, NAKs or ACKs it. -/
def execInvarFlit (l : Nat) (ok : Bool) (s : State) : Result := onUnit (s.hasInvar l) (fxInvarFlit l ok s)

/-- IHLOD_FRAME_UNIT (R327): A receiver takes an Ihlod frame at the link layer, checks CRC and sequence and accepts, discards,
NAKs or ACKs it. -/
def execIhlodFrameUnit (x : Nat) (ok : Bool) (seq : Nat) (f : Frame) (s : State) : Result :=
  onUnit (hasSegment x) (fxIhlodFrameUnit x ok seq f s)

/-- ACK (R326): An ACK bypass message frees acknowledged replay entries and advances UNACKED. -/
def execAck (l seq : Nat) (s : State) : Result := onUnit (s.hasLink l) (fxAck l seq s)

/-- ACK_DUE (R326): 32 flit or frame times after a first unacknowledged acceptance, or 256 with no change, the receiver sends
an ACK. -/
def execAckDue (l : Nat) (s : State) : Result := onUnit (s.hasLink l) (fxAckDue l s)

/-- NAK (R327): A NAK bypass message acknowledges up to the named number and starts a replay from it. -/
def execNak (l seq : Nat) (s : State) : Result := onUnit (s.hasLink l) (fxNak l seq s)

/-- REPLAY_TIMER (R328): The replay timer expires and the sender replays from UNACKED. -/
def execReplayTimer (l : Nat) (s : State) : Result := onUnit (s.hasLink l) (fxReplayTimer l s)

/-- CREDIT (R330): A CREDIT bypass message returns cumulative credits of a channel and may carry a return marker. -/
def execCredit (l vc returned : Nat) (s : State) : Result := onUnit (s.hasLink l) (fxCredit l vc returned s)

/-- HEARTBEAT (R330): A HEARTBEAT bypass message is received from the peer. -/
def execHeartbeat (l : Nat) (s : State) : Result := onUnit (s.hasLink l) (fxHeartbeat l s)

/-- HEARTBEAT_SEND (R330): Every LL_HB_PERIOD a HEARTBEAT carrying the mode is queued. -/
def execHeartbeatSend (l : Nat) (s : State) : Result := onUnit (s.hasLink l) (fxHeartbeatSend l s)

/-- FAULT_NOTICE (R407): Die 0 receives a FAULT_NOTICE of a remote raise, handles it, or another die enters SAFE on a SAFE
notice. -/
def execFaultNotice (l : Nat) (s : State) : Result := onUnit (s.hasInvar l) (fxFaultNotice l s)

/-- FAULT_NOTICE_REPEAT (R330): An unacknowledged FAULT_NOTICE is repeated every 25 ft. -/
def execFaultNoticeRepeat (d : Nat) (s : State) : Result := onUnit (s.hasDie d) (fxFaultNoticeRepeat d s)

/-- NOTICE_ACK (R330): A NOTICE_ACK frees the sender's held notice. -/
def execNoticeAck (l : Nat) (s : State) : Result := onUnit (s.hasInvar l) (fxNoticeAck l s)

/-- HANDOVER (R337): A HANDOVER tells the peer where to resume; it resends its replay buffer over the new route and empties
it. -/
def execHandover (l : Nat) (s : State) : Result := onUnit (s.hasInvar l) (fxHandover l s)

/-- WINDOW_END (R331): At the end of an error window the sender judges it bad or not and may take the link down for
ERROR_RATE. -/
def execWindowEnd (l : Nat) (s : State) : Result := onUnit (s.hasLink l) (fxWindowEnd l s)

/-- HEARTBEAT_MISS (R332): No HEARTBEAT for LL_HB_MISS periods takes the link down. -/
def execHeartbeatMiss (l : Nat) (s : State) : Result := onUnit (s.hasLink l) (fxHeartbeatMiss l s)

/-- FRAMING_LOST (R332): 64 flit times without framing or deskew take the link down. -/
def execFramingLost (l : Nat) (s : State) : Result := onUnit (s.hasLink l) (fxFramingLost l s)

/-- LANE_TEST_END (R333): The PRBS lane test ends, failing, sparing or retiring lanes and the link under R334. -/
def execLaneTestEnd (l failed delay : Nat) (s : State) : Result := onUnit (s.hasInvar l) (fxLaneTestEnd l failed delay s)

/-- D2D_RETRAINED (R333): With maps exchanged and the LINK charge at 0, credit loops restart, replay runs and the link is UP.
-/
def execD2dRetrained (l : Nat) (s : State) : Result := onUnit (s.hasInvar l) (fxD2dRetrained l s)

/-- RETRAIN_ATTEMPT_TIMEOUT (R333): A retrain attempt that has not reached step 4 by 2,500 ft fails and is repeated, retiring
the link at the third failure. -/
def execRetrainAttemptTimeout (l : Nat) (s : State) : Result := onUnit (s.hasInvar l) (fxRetrainAttemptTimeout l s)

/-- D2D_CTRL_RETRAIN (R336): D2D_CTRL RETRAIN starts a retrain of an Invar link. -/
def execD2dCtrlRetrain (ifc : Iface) (l : Nat) (s : State) : Result := writeOne ifc (O.D2D_CTRL l) 1 s

/-- LANE_RETIRE (R336): A write of LANE_RETIRE in MAINT retires one physical lane and retrains the link. -/
def execLaneRetire (ifc : Iface) (l : Nat) (lane : Word) (s : State) : Result := writeOne ifc (O.LANE_RETIRE l) lane.toNat s

/-- FLIT_SEND (R320): In every flit or frame time the sender of a link direction packs a DATA flit from the channels R218
chooses, or sends IDLE or replays, filling the bypass slot and stalling at a full replay buffer. -/
def execFlitSend (f : FlitTime) (s : State) : Result := onUnit (s.hasLink f.link) (fxFlitSend f.link f.errs s)

end Sys2Proof.Machine
end

