-- ==== Sys2Proof/Machine/ExecMover.lean ====
section
/-! DEFINITION. The meanings of the commands of the spec's table: the Scarab mover (R287 to R313). -/
namespace Sys2Proof.Machine

/-- Q_DOORBELL (R290): A write of Q_DOORBELL sets the queue's doorbell-pending flag. -/
def execQDoorbell (ifc : Iface) (q : Nat) (v : Word) (s : State) : Result := writeOne ifc (O.Q_DOORBELL q) v.toNat s

/-- PI_READ (R290): With the flag set and fetch permitted, the die clears the flag and issues one 8-byte read of PI. -/
def execPiRead (q : Nat) (s : State) : Result := onUnit (hasQueue q) (fxPiRead q s)

/-- PI_READ_RETURN (R290): The PI value returns, is checked and Q_PI_SEEN set; the queue halts or fetches descriptors. -/
def execPiReadReturn (q : Nat) (value : Word) (st : Nat) (s : State) : Result :=
  onUnit (hasQueue q) (fxPiReadReturn q value.toNat st s)

/-- DESCRIPTOR_FETCH (R290): A fetched descriptor returns to the die and waits to start. -/
def execDescriptorFetch (q : Nat) (words : List Word) (st : Nat) (s : State) : Result :=
  onUnit (hasQueue q) (fxDescriptorFetch q (words.map (fun w => w.toNat)) st s)

/-- DESCRIPTOR_START (R299): An engine takes a ready queue and starts a descriptor after the checks of R293, or completes it
at once on a failed check. -/
def execDescriptorStart (d e : Nat) (s : State) : Result := onUnit (s.hasEngine d e) (fxDescriptorStart d e s)

/-- MOVER_LINE_DONE (R297): An engine line request completes and the descriptor continues or stops on the line's condition. -/
def execMoverLineDone (d e id : Nat) (s : State) : Result := onUnit (s.hasEngine d e) (fxMoverLineDone d e id s)

/-- DESCRIPTOR_COMPLETE (R301): After every write is acknowledged the engine writes words 1–7 of the completion record. -/
def execDescriptorComplete (q i : Nat) (s : State) : Result := onUnit (hasQueue q) (fxDescriptorComplete q i s)

/-- RECORD_WORD0 (R301): Word 0 with DONE is written after the first write; Q_CI advances and any notification entry is
posted. -/
def execRecordWord0 (q i : Nat) (s : State) : Result := onUnit (hasQueue q) (fxRecordWord0 q i s)

/-- NTF_DELAY_EXPIRY (R304): Q_NTF_DELAY after the first unsignalled notification an MSI is sent. -/
def execNtfDelayExpiry (q : Nat) (s : State) : Result := onUnit (hasQueue q) (fxNtfDelayExpiry q s)

/-- Q_NTF_ACK (R303): A write of Q_NTF_ACK records entries consumed, refused when out of range. -/
def execQNtfAck (ifc : Iface) (q : Nat) (v : Word) (s : State) : Result := writeOne ifc (O.Q_NTF_ACK q) v.toNat s

/-- Q_CTRL_ENABLE (R306): Q_CTRL ENABLE makes a DISABLED or idle HALTED queue ENABLED and clears Q_ERROR. -/
def execQCtrlEnable (ifc : Iface) (q : Nat) (s : State) : Result := writeOne ifc (O.Q_CTRL q) 1 s

/-- Q_CTRL_DISABLE (R306): Q_CTRL DISABLE makes an ENABLED or HALTED queue DRAINING. -/
def execQCtrlDisable (ifc : Iface) (q : Nat) (s : State) : Result := writeOne ifc (O.Q_CTRL q) 2 s

/-- Q_CTRL_ABORT (R306): Q_CTRL ABORT stops fetch and completes fetched and started descriptors with ABORTED. -/
def execQCtrlAbort (ifc : Iface) (q : Nat) (s : State) : Result := writeOne ifc (O.Q_CTRL q) 3 s

/-- Q_CTRL_RESET (R309): Q_CTRL RESET of an idle DISABLED or HALTED queue resets its indices and state. -/
def execQCtrlReset (ifc : Iface) (q : Nat) (s : State) : Result := writeOne ifc (O.Q_CTRL q) 4 s

/-- ENGINE_FAULT (R312): An engine's microcode detects an internal error, aborts its descriptors, resets and raises
ENGINE_FAULT. -/
def execEngineFault (d e : Nat) (s : State) : Result := onUnit (s.hasEngine d e) (fxEngineFault d e s)

end Sys2Proof.Machine
end

