-- ==== Sys2Proof/Machine/ExecPerf.lean ====
section
/-! DEFINITION. The meanings of the commands of the spec's table: performance counters (R475 to R484). -/
namespace Sys2Proof.Machine

/-- PC_SELECT (R475): A write of PC_SELECT programs a general counter, zeroing it when EVENT or QUAL changes. -/
def execPcSelect (ifc : Iface) (d n : Nat) (w : Word) (s : State) : Result := writeOne ifc (O.PC_SELECT d n) w.toNat s

/-- TC_SELECT (R475): A write of TC_SELECT programs a tenant counter, zeroing it when EVENT or QUAL changes. -/
def execTcSelect (ifc : Iface) (t k : Nat) (w : Word) (s : State) : Result := writeOne ifc (O.TC_SELECT t k) w.toNat s

/-- PC_CLEAR (R480): A write of 1 to PC_CLEAR zeroes a general counter and its overflow. -/
def execPcClear (ifc : Iface) (d n : Nat) (s : State) : Result := writeOne ifc (O.PC_CLEAR d n) 1 s

/-- TC_CLEAR (R480): TC_CLEAR bit k zeroes every die's partial of tenant counter k and its overflow. -/
def execTcClear (ifc : Iface) (t : Nat) (mask : Word) (s : State) : Result := writeOne ifc (O.TC_CLEAR t) mask.toNat s

/-- USER_READ (R481): A write of USER_READ opens or closes the counter page from the cycle it is served. -/
def execUserRead (ifc : Iface) (t : Nat) (b : Word) (s : State) : Result := writeOne ifc (O.USER_READ t) b.toNat s

/-- PARTIAL_SEND (R478): Every 25 ft each die sends its tenant counter partials to the home die. -/
def execPartialSend (d : Nat) (s : State) : Result := onUnit (s.hasDie d) (fxPartialSend d s)

/-- PC_SNAPSHOT (R479): At tick PC_SNAP_AT every die snapshots general counters and tenant partials, optionally clearing them.
-/
def execPcSnapshot (s : State) : Result := done (fxPcSnapshot s)

end Sys2Proof.Machine
end

