-- ==== Sys2Proof/Machine/ExecPorts.lean ====
section
/-! DEFINITION. The meanings of the commands of the spec's table: ports, devices and hosts' CXL.io (R86 to R115, R238). -/
namespace Sys2Proof.Machine

/-- PERST_N_ASSERT (R97): Assertion of an upstream or FM port's PERST_N input takes the link down and resets the port's CXL.io
functions. -/
def execPerstNAssert (p : Nat) (s : State) : Result := onUnit (s.hasPort p) (fxPerstAssert p s)

/-- PERST_N_DEASSERT (R92): Deassertion of an upstream or FM port's PERST_N input starts a training attempt where training is
permitted. -/
def execPerstNDeassert (p : Nat) (s : State) : Result := onUnit (s.hasPort p) (fxPerstDeassert p s)

/-- PRESENCE_DECLARED (R98): PRSNT_N low for PRESENCE_DEBOUNCE declares presence and may start the hot-plug sequence. -/
def execPresenceDeclared (pin : PinHeld) (s : State) : Result := onUnit (s.hasPort pin.port) (fxPresenceDeclared pin.port pin.ticks s)

/-- ABSENCE_DECLARED (R98): PRSNT_N high for 25 ft declares absence, asserts PERST_N, cancels ENABLEs and may cause a link
drop. -/
def execAbsenceDeclared (pin : PinHeld) (s : State) : Result := onUnit (s.hasPort pin.port) (fxAbsenceDeclared pin.port pin.ticks s)

/-- PERST_RELEASE (R99): At P + PERST_HOLD a downstream port releases PERST_N and starts the first training attempt. -/
def execPerstRelease (p : Nat) (s : State) : Result := onUnit (s.hasPort p) (fxPerstRelease p s)

/-- LINK_UP (R93): A training attempt reaches L0 with R94 and R95 met; LINK_STATE becomes UP and LINK_EPOCH increments. -/
def execLinkUp (p rate width protocols ldCount : Nat) (reversed : Bool) (polarity : Nat) (presets : List Nat) (s : State) : Result :=
  onUnit (s.hasPort p) (fxPortUp p rate width protocols ldCount reversed polarity presets s)

/-- TRAIN_TIMEOUT (R93): TRAIN_TIMEOUT elapsing fails the attempt and starts the 25,000 ft pause, or after TRAIN_RETRIES sets
FAILED. -/
def execTrainTimeout (p : Nat) (s : State) : Result := onUnit (s.hasPort p) (fxTrainTimeout p s)

/-- RETRY_PAUSE_END (R93): The end of the 25,000 ft pause after a failed attempt starts a new attempt. -/
def execRetryPauseEnd (p : Nat) (s : State) : Result := onUnit (s.hasPort p) (fxRetryPauseEnd p s)

/-- RECOVERY_ENTRY (R96): A port's LTSSM leaves L0 for Recovery, or for Detect or Disabled, which is a link drop. -/
def execRecoveryEntry (p target : Nat) (faulty : List Nat) (s : State) : Result :=
  onUnit (s.hasPort p) (fxRecoveryEntry p target faulty s)

/-- RECOVERY_EXIT (R107): A port returns from RECOVERY to UP without changing LINK_EPOCH or tag slots. -/
def execRecoveryExit (p rate width : Nat) (reversed : Bool) (s : State) : Result :=
  onUnit (s.hasPort p) (fxRecoveryExit p rate width reversed s)

/-- DROP_TIME_EXPIRY (R102): A port out of L0 for DROP_TIME declares a link drop. -/
def execDropTimeExpiry (p : Nat) (s : State) : Result := onUnit (s.hasPort p) (fxDropTimeExpiry p s)

/-- LINK_CTRL_RETRAIN (R100): LINK_CTRL RETRAIN takes the port into Recovery to retrain. -/
def execLinkCtrlRetrain (ifc : Iface) (p : Nat) (s : State) : Result := writeOne ifc (O.LINK_CTRL p) 1 s

/-- LINK_CTRL_DISABLE (R100): LINK_CTRL DISABLE of an idle port sets DISABLED and asserts a downstream PERST_N. -/
def execLinkCtrlDisable (ifc : Iface) (p : Nat) (s : State) : Result := writeOne ifc (O.LINK_CTRL p) 2 s

/-- LINK_CTRL_ENABLE (R100): LINK_CTRL ENABLE leaves DISABLED or FAILED or starts a MANUAL hot-plug sequence. -/
def execLinkCtrlEnable (ifc : Iface) (p : Nat) (s : State) : Result := writeOne ifc (O.LINK_CTRL p) 3 s

/-- LINK_CTRL_HOT_RESET (R100): LINK_CTRL HOT_RESET of an idle port sends or performs a hot reset and retrains, as a link
drop. -/
def execLinkCtrlHotReset (ifc : Iface) (p : Nat) (s : State) : Result := writeOne ifc (O.LINK_CTRL p) 4 s

/-- DEVICE_RESPONSE (R101): A response from a device completes its matching tag slot or is discarded as stale. -/
def execDeviceResponse (p tag data : Nat) (fate : Response) (s : State) : Result :=
  onUnit (s.hasPort p) (fxDeviceResponse p tag fate.status data fate.poison s)

/-- CPL_TIMEOUT (R103): A tag slot's completion timer expires and the slot is completed under DROP_POLICY and stays
quarantined. -/
def execCplTimeout (p slot : Nat) (s : State) : Result := onUnit (s.hasPort p) (fxSlotTimeout p slot s)

/-- QUARANTINE_END (R102): CPL_TIMEOUT after the port next reaches UP, quarantined slots become reusable. -/
def execQuarantineEnd (p : Nat) (s : State) : Result := onUnit (s.hasPort p) (fxQuarantineEnd p s)

/-- FLIT_RECEIVED (R105): A port receives a flit, checks FEC, CRC and IDE integrity and unpacks its messages. -/
def execFlitReceived (p : Nat) (badFec badIde : Bool) (lanes credits : List Nat) (s : State) : Result :=
  onUnit (s.hasPort p) (fxFlitIn p badFec badIde lanes credits s)

/-- MARGIN_CTRL (R109): A write of MARGIN_CTRL issues a lane margining command while the port is UP and no command is pending.
-/
def execMarginCtrl (ifc : Iface) (l : Nat) (v : Word) (s : State) : Result := writeOne ifc (O.MARGIN_CTRL l) v.toNat s

/-- MARGIN_RESPONSE (R109): The receiver completes a margining command and MARGIN_STATUS takes its response. -/
def execMarginResponse (l : Nat) (v : Word) (s : State) : Result := onUnit (s.hasLane l) (fxMarginResponse l v.toNat s)

/-- DEVICE_REQUEST (R238): A device port takes a request from a device (CXL.io request, D2H Req, or BISnp toward a host) and
forwards it, refuses it under R272 or R418, or records the BISnp for R27. -/
def execDeviceRequest (p ld : Nat) (op : DevOp) (addr : Word) (len data tag tc : Nat) (s : State) : Result :=
  onUnit (s.hasPort p) (fxDeviceRequest p ld op addr.toNat len data tag tc s)

/-- HOST_CXL_IO_REQUEST (R114): A host's CXL.io request to a vPPB or the pool endpoint (configuration, DOE, BAR access to the
group page, tenant window or counter page) is forwarded, served or completed as unmapped. -/
def execHostCxlIoRequest (p : Nat) (op : IoOp) (fn bar : Nat) (addr : Word) (len data tag tc : Nat) (s : State) : Result :=
  onUnit (s.hasPort p) (fxHostIo p op fn bar addr.toNat len data tag tc s)

end Sys2Proof.Machine
end

