-- ==== Sys2Proof/Machine/ExecRequests.lean ====
section
/-! DEFINITION. The meanings of the commands of the spec's table: hosts' requests, egress, binding and migration (R22 to R27, R110 to R145, R171 to R174, R248, R254). -/
namespace Sys2Proof.Machine

/-- HOST_REQUEST (R25): A host port accepts a CXL.mem request: allocates a tracker, meters, decodes, translates and enqueues
it, or completes it as unmapped or refused. -/
def execHostRequest (p : Nat) (op : MemOp) (md : Nat) (hpa : Word) (tag data mask : Nat) (poison : Bool) (ecc : Nat) (s : State) : Result :=
  onUnit (s.hasPort p) (fxHostRequest p op md hpa.toNat tag data mask poison ecc s)

/-- MAP_RESTORE (R127): The restore of a bad map entry from another die's copy completes, or fails and leaves the entry
INVALID. -/
def execMapRestore (d : Nat) (granule : Bool) (index : Nat) (ok : Bool) (s : State) : Result :=
  onUnit (s.hasDie d) (fxMapRestore d granule index ok s)

/-- ATOMICOP (R171): A host PCIe AtomicOp to the pool endpoint is translated or completed with Unsupported Request. -/
def execAtomicop (p : Nat) (op : AtomicReq) (size : Nat) (hpa : Word) (tag operand compare : Nat) (s : State) : Result :=
  onUnit (s.hasPort p) (fxAtomicOp p op size hpa.toNat tag operand compare s)

/-- PRIVATE_ATOMIC (R173): A private-region atomic is sent to the device or performed at the egress die holding the line busy.
-/
def execPrivateAtomic (d n : Nat) (s : State) : Result := onUnit (s.hasDie d) (fxPrivateAtomic d n s)

/-- EGRESS_SELECT (R248): When an egress port can send, it selects the next message from the bypass or the hierarchy and
charges it. -/
def execEgressSelect (p cellEcc : Nat) (descUe : Bool) (s : State) : Result :=
  onUnit (s.hasPort p) (fxEgressSelect p cellEcc descUe s)

/-- SHAPER_REFILL (R254): At every tick that is a multiple of 25 each die refills shapers, meter buckets and mover budgets and
applies pending shaper changes. -/
def execShaperRefill (d : Nat) (s : State) : Result := onUnit (s.hasDie d) (fxRefill d s)

/-- BIND_VPPB (R115): The FM-API Bind vPPB command becomes a one-object transaction on 07.002 and completes after the apply.
-/
def execBindVppb (h v port ld tenant : Nat) (s : State) : Result :=
  done (fxFmBind h v (bindWord port ld tenant) s)

/-- UNBIND_VPPB (R115): The FM-API Unbind vPPB command becomes a one-object transaction on 07.002 and completes after the
apply. -/
def execUnbindVppb (h v : Nat) (s : State) : Result := done (fxFmBind h v 0 s)

/-- GET_VIRTUAL_CXL_SWITCH_INFO (R115): The FM-API Get Virtual CXL Switch Info command reports the contents of class 20. -/
def execGetVirtualCxlSwitchInfo (h : Nat) (s : State) : Result := done (fxSwitchInfo h s)

/-- FM_API_UNSUPPORTED (R87): An FM-API command of an absent command set completes with the CXL return code Unsupported. -/
def execFmApiUnsupported (s : State) : Result := done (fxFmUnsupported s)

/-- VPPB_ADMIT (R114): A write of VPPB_ADMIT acts at once on admission, refusing a 1 while a transaction changes the binding.
-/
def execVppbAdmit (ifc : Iface) (h v : Nat) (b : Word) (s : State) : Result := writeOne ifc (O.VPPB_ADMIT h v) b.toNat s

/-- DEC_ADMIT (R121): A write of DEC_ADMIT acts at once on admission, refusing a 1 while a transaction changes the decoder. -/
def execDecAdmit (ifc : Iface) (n : Nat) (b : Word) (s : State) : Result := writeOne ifc (O.DEC_ADMIT n) b.toNat s

/-- SHADOW_DISCARD_EXTENT (R133): SHADOW_DISCARD bit 0 empties the extent staging store and clears its invalid mark. -/
def execShadowDiscardExtent (ifc : Iface) (s : State) : Result := writeOne ifc O.SHADOW_DISCARD 1 s

/-- SHADOW_DISCARD_GRANULE (R133): SHADOW_DISCARD bit 1 empties the granule staging store and clears its invalid mark. -/
def execShadowDiscardGranule (ifc : Iface) (s : State) : Result := writeOne ifc O.SHADOW_DISCARD 2 s

/-- MIG_DRAINED (R142): When DRAINED_EPOCH reaches the flip's epoch the slot becomes IDLE and releases its held range. -/
def execMigDrained (m : Nat) (s : State) : Result := onUnit (hasMig m) (fxMigDrained m s)

end Sys2Proof.Machine
end

