-- ==== Sys2Proof/Machine/ExecReset.lean ====
section
/-! DEFINITION. The meanings of the commands of the spec's table: reset, clocks and operating modes (R424 to R443). -/
namespace Sys2Proof.Machine

/-- POWER_ON (R434): The aux rails entering tolerance assert power-on, putting every domain in reset. -/
def execPowerOn (s : State) : Result := done (fxPowerOn s)

/-- POWER_ON_RELEASE (R434): 250,000 ft after power-on the source releases and the MGMT, TIME and IHLOD PLLs start. -/
def execPowerOnRelease (s : State) : Result := done (fxPowerOnRelease s)

/-- SYS_RST_N_ASSERT (R427): SYS_RST_N low for 25 ft asserts the cold reset source. -/
def execSysRstNAssert (s : State) : Result := done (fxSysRstAssert s)

/-- SYS_RST_N_RELEASE (R427): SYS_RST_N high, and 250 ft after assertion, releases the cold source. -/
def execSysRstNRelease (s : State) : Result := done (fxSysRstRelease s)

/-- MAIN_RAILS_OUT (R427): The main rails leaving tolerance assert the warm source. -/
def execMainRailsOut (s : State) : Result := done (fxMainRailsOut s)

/-- MAIN_RAILS_IN (R427): The main rails returning to tolerance release the warm source. -/
def execMainRailsIn (s : State) : Result := done (fxMainRailsIn s)

/-- AUX_RAILS_OUT (R437): The aux rails leaving tolerance take the package to OFF. -/
def execAuxRailsOut (s : State) : Result := done (fxAuxRailsOut s)

/-- PKG_RESET (R442): A write of 0xA5A5 to PKG_RESET asserts the warm source for 250 ft. -/
def execPkgReset (ifc : Iface) (s : State) : Result := writeOne ifc O.PKG_RESET 0xA5A5 s

/-- DIE_RESET (R432): A write of 0xA5A5 to DIE_RESET in AUX or CONFIG asserts die d's source for 250 ft. -/
def execDieReset (ifc : Iface) (d : Nat) (s : State) : Result := writeOne ifc (O.DIE_RESET d) 0xA5A5 s

/-- BLOCK_RESET_MOVER (R431): BLOCK_RESET bit 4 resets an idle MOVER block. -/
def execBlockResetMover (ifc : Iface) (d : Nat) (s : State) : Result := writeOne ifc (O.BLOCK_RESET d) (2 ^ 4) s

/-- BLOCK_RESET_CAPTURE (R431): BLOCK_RESET bit 5 resets an idle CAPTURE block and empties its ring. -/
def execBlockResetCapture (ifc : Iface) (d : Nat) (s : State) : Result := writeOne ifc (O.BLOCK_RESET d) (2 ^ 5) s

/-- BLOCK_RESET_AUDITOR (R431): BLOCK_RESET bit 6 resets an idle AUDITOR block and restarts the Weevil at cell 0. -/
def execBlockResetAuditor (ifc : Iface) (d : Nat) (s : State) : Result := writeOne ifc (O.BLOCK_RESET d) (2 ^ 6) s

/-- BLOCK_RESET_SEQUENCERS (R431): BLOCK_RESET bit 7 resets the die's idle Click sequencers. -/
def execBlockResetSequencers (ifc : Iface) (d : Nat) (s : State) : Result := writeOne ifc (O.BLOCK_RESET d) (2 ^ 7) s

/-- BLOCK_RESET_COUNTERS (R431): BLOCK_RESET bit 8 resets the die's performance counters. -/
def execBlockResetCounters (ifc : Iface) (d : Nat) (s : State) : Result := writeOne ifc (O.BLOCK_RESET d) (2 ^ 8) s

/-- BLOCK_RESET_TILE_SEQUENCERS (R431): BLOCK_RESET bit 9 on die 0 resets the idle tile sequencers. -/
def execBlockResetTileSequencers (ifc : Iface) (d : Nat) (s : State) : Result := writeOne ifc (O.BLOCK_RESET d) (2 ^ 9) s

/-- RESET_SOURCE_RELEASE (R427): A timed reset source reaches the end of its assertion and releases. -/
def execResetSourceRelease (code d dom : Nat) (s : State) : Result := onUnit (s.hasDie d) (fxResetSourceRelease code d dom s)

/-- DOMAIN_RELEASE (R430): A domain is released when no source covers it, the mode powers it, its step has come and its clock
is stable. -/
def execDomainRelease (d i : Nat) (s : State) : Result := onUnit (s.hasDomain d i) (fxDomainRelease d i s)

/-- PLL_LOCK (R425): A PLL holds lock for 64 reference cycles and becomes stable. -/
def execPllLock (d n : Nat) (s : State) : Result := onUnit (s.hasPll d n) (fxPllLock d n s)

/-- PLL_UNLOCK (R425): A running PLL loses lock, puts its domains in reset and raises CLOCK_UNSTABLE. -/
def execPllUnlock (d n : Nat) (s : State) : Result := onUnit (s.hasPll d n) (fxPllUnlock d n s)

/-- CLOCK_UNSTABLE (R425): A PLL not locked within 2,500 ft of starting raises CLOCK_UNSTABLE. -/
def execClockUnstable (d n : Nat) (s : State) : Result := onUnit (s.hasPll d n) (fxClockUnstable d n s)

/-- MODE_REQUEST_AUX (R436): MODE_REQUEST AUX requests a change to AUX. -/
def execModeRequestAux (ifc : Iface) (s : State) : Result := writeOne ifc O.MODE_REQUEST mAux s

/-- MODE_REQUEST_INIT (R436): MODE_REQUEST INIT requests INIT with the main rails in tolerance. -/
def execModeRequestInit (ifc : Iface) (s : State) : Result := writeOne ifc O.MODE_REQUEST mInit s

/-- MODE_REQUEST_CONFIG (R436): MODE_REQUEST CONFIG requests a change to CONFIG. -/
def execModeRequestConfig (ifc : Iface) (s : State) : Result := writeOne ifc O.MODE_REQUEST mConfig s

/-- MODE_REQUEST_LINKUP (R436): MODE_REQUEST LINKUP checks the port layout, reserves pools and requests LINKUP. -/
def execModeRequestLinkup (ifc : Iface) (s : State) : Result := writeOne ifc O.MODE_REQUEST mLinkup s

/-- MODE_REQUEST_RUN (R436): MODE_REQUEST RUN or DEGRADED requests RUN, entering DEGRADED when channels are retired. -/
def execModeRequestRun (ifc : Iface) (degraded : Bool) (s : State) : Result :=
  writeOne ifc O.MODE_REQUEST (if degraded then mDegraded else mRun) s

/-- MODE_REQUEST_RUN_NC (R436): MODE_REQUEST RUN_NC requests RUN_NC when SR_HELD of every region reads 0. -/
def execModeRequestRunNc (ifc : Iface) (s : State) : Result := writeOne ifc O.MODE_REQUEST mRunNc s

/-- MODE_REQUEST_DRAIN (R436): MODE_REQUEST DRAIN requests a change to DRAIN. -/
def execModeRequestDrain (ifc : Iface) (s : State) : Result := writeOne ifc O.MODE_REQUEST mDrain s

/-- MODE_REQUEST_MAINT (R436): MODE_REQUEST MAINT requests a change to MAINT. -/
def execModeRequestMaint (ifc : Iface) (s : State) : Result := writeOne ifc O.MODE_REQUEST mMaint s

/-- MODE_REQUEST_UPDATE (R436): MODE_REQUEST UPDATE requests a change to UPDATE. -/
def execModeRequestUpdate (ifc : Iface) (s : State) : Result := writeOne ifc O.MODE_REQUEST mUpdate s

/-- MODE_CHANGE (R436): An accepted mode change takes effect on every die at the next tick, or after a LOCKED transaction's
apply. -/
def execModeChange (s : State) : Result := done (fxModeChange s)

/-- INIT_END (R440): Every die ends INIT step 5; INIT_STATUS reads OK and the mode becomes CONFIG. -/
def execInitEnd (s : State) : Result := done (fxInitEnd s)

/-- INIT_TIMEOUT (R440): INIT not ended within INIT_LIMIT fails with TIMEOUT and returns the package to AUX. -/
def execInitTimeout (s : State) : Result := done (fxInitTimeout s)

/-- SRAM_SELF_TEST_END (R440): A die's SRAM self-test and repair ends, recording SRAM_REPAIRS and going on to clear the
directory, or failing INIT with SRAM_FAIL. -/
def execSramSelfTestEnd (d repairs : Nat) (ok : Bool) (s : State) : Result :=
  onUnit (s.hasDie d) (fxSramSelfTestEnd d repairs ok s)

end Sys2Proof.Machine
end

