-- ==== Sys2Proof/Machine/ExecSecurity.lean ====
section
/-! DEFINITION. The meanings of the commands of the spec's table: security, debug and attestation (R444 to R474). -/
namespace Sys2Proof.Machine

/-- RMA_ENTER (R445): A write of 0xA5A5 to RMA_ENTER burns the RMA fuse and destroys sessions, IDE keys and the identity key.
-/
def execRmaEnter (ifc : Iface) (s : State) : Result := writeOne ifc O.RMA_ENTER 0xA5A5 s

/-- DBG_AUTH (R447): A write of DBG_AUTH checks lockout, level, credential and signature and opens a debug level. -/
def execDbgAuth (ifc : Iface) (v : Word) (s : State) : Result := writeOne ifc O.DBG_AUTH v.toNat s

/-- DBG_CLOSE (R449): A write of 1 to DBG_CLOSE sets DBG_LEVEL to CLOSED. -/
def execDbgClose (ifc : Iface) (s : State) : Result := writeOne ifc O.DBG_CLOSE 1 s

/-- DBG_MAX_LEVEL (R449): A write of DBG_MAX_LEVEL below DBG_LEVEL lowers DBG_LEVEL in the same cycle. -/
def execDbgMaxLevel (ifc : Iface) (v : Word) (s : State) : Result := writeOne ifc O.DBG_MAX_LEVEL v.toNat s

/-- IDCODE (R451): The IDCODE TAP instruction selects the 32-bit identification register. -/
def execIdcode (s : State) : Result := done (fxIdcode s)

/-- SAMPLE_PRELOAD (R451): The SAMPLE/PRELOAD TAP instruction selects the boundary-scan register. -/
def execSamplePreload (s : State) : Result := done (s.selectIr irSample)

/-- EXTEST (R451): The EXTEST TAP instruction drives pins from the boundary-scan register where permitted. -/
def execExtest (s : State) : Result := done (s.selectIr irExtest)

/-- CLAMP (R451): The CLAMP TAP instruction holds pins and selects bypass where permitted. -/
def execClamp (s : State) : Result := done (s.selectIr irClamp)

/-- HIGHZ (R451): The HIGHZ TAP instruction floats outputs and selects bypass where permitted. -/
def execHighz (s : State) : Result := done (s.selectIr irHighz)

/-- DBG_ACCESS (R451): The DBG_ACCESS TAP instruction selects the 144-bit debug command register. -/
def execDbgAccess (s : State) : Result := done (s.selectIr irAccess)

/-- BYPASS (R451): The BYPASS TAP instruction selects the 1-bit bypass register. -/
def execBypass (s : State) : Result := done (s.selectIr irBypass)

/-- DBG_ACCESS_NOP (R451): Debug command NOP issues nothing. -/
def execDbgAccessNop (s : State) : Result := done (fxDbgNop s)

/-- DBG_ACCESS_READ (R452): Debug command READ reads 8 bytes at an internal address after the checks of R452. -/
def execDbgAccessRead (a : Word) (s : State) : Result := done (fxDbgRead a.toNat s)

/-- DBG_ACCESS_WRITE (R452): Debug command WRITE writes 8 bytes at an internal address after the checks of R452. -/
def execDbgAccessWrite (a data : Word) (s : State) : Result := done (fxDbgWrite a.toNat data.toNat s)

/-- DBG_ACCESS_HALT (R454): Debug command HALT stops a Cicada pair at an instruction boundary. -/
def execDbgAccessHalt (d : Nat) (s : State) : Result := done (fxDbgHalt d s)

/-- DBG_ACCESS_RESUME (R454): Debug command RESUME returns a halted pair to RUNNING. -/
def execDbgAccessResume (d : Nat) (s : State) : Result := done (fxDbgResume d s)

/-- DBG_ACCESS_STEP (R454): Debug command STEP executes one instruction of a halted pair and halts again. -/
def execDbgAccessStep (d : Nat) (s : State) : Result := done (fxDbgStep d s)

/-- GET_CERTIFICATE (R463): The SPDM responder returns the slot 0 chain, or UnsupportedRequest without one. -/
def execGetCertificate (via : Option Nat) (s : State) : Result :=
  onUnit (match via with | some p => s.hasPort p | none => true) (fxGetCertificate via s)

/-- CHALLENGE (R463): The SPDM responder answers a CHALLENGE with a signed response. -/
def execChallenge (via : Option Nat) (s : State) : Result :=
  onUnit (match via with | some p => s.hasPort p | none => true) (fxChallenge via s)

/-- GET_MEASUREMENTS (R464): The SPDM responder reports measurement blocks 1–5. -/
def execGetMeasurements (via : Option Nat) (signed : Bool) (s : State) : Result :=
  onUnit (match via with | some p => s.hasPort p | none => true) (fxGetMeasurements via signed s)

/-- KEY_EXCHANGE (R463): The SPDM responder opens a session, up to 8 at once. -/
def execKeyExchange (via : Option Nat) (s : State) : Result :=
  onUnit (match via with | some p => s.hasPort p | none => true) (fxKeyExchange via s)

/-- END_SESSION (R463): The SPDM responder ends a session. -/
def execEndSession (via : Option Nat) (n : Nat) (s : State) : Result :=
  onUnit (match via with | some p => s.hasPort p | none => true) (fxEndSession via n s)

/-- SPDM_REQUEST (R463): The SPDM responder answers any other supported SPDM request. -/
def execSpdmRequest (via : Option Nat) (s : State) : Result :=
  onUnit (match via with | some p => s.hasPort p | none => true) (fxSpdmRequest via s)

/-- QUERY (R466): IDE_KM QUERY in a secure session is answered. -/
def execQuery (p : Nat) (session : Option Nat) (s : State) : Result := onUnit (s.hasPort p) (fxIdeQuery p session s)

/-- KEY_PROG (R466): IDE_KM KEY_PROG programs a key of a set, direction and sub-stream. -/
def execKeyProg (p : Nat) (session : Option Nat) (stream k d sub : Nat) (s : State) : Result :=
  onUnit (s.hasPort p) (fxKeyProg p session stream k d sub s)

/-- K_SET_GO (R466): IDE_KM K_SET_GO selects a key set, making the port SECURE when complete. -/
def execKSetGo (p : Nat) (session : Option Nat) (k d : Nat) (s : State) : Result :=
  onUnit (s.hasPort p) (fxKSetGo p session k d s)

/-- K_SET_STOP (R466): IDE_KM K_SET_STOP stops a key set, zeroizing keys when every set stops. -/
def execKSetStop (p : Nat) (session : Option Nat) (k d : Nat) (s : State) : Result :=
  onUnit (s.hasPort p) (fxKSetStop p session k d s)

/-- ESTABLISH (R467): IDE_KEY_CMD ESTABLISH has firmware open a secure session with the device and record IDE_PEER_DIGEST. -/
def execEstablish (ifc : Iface) (p : Nat) (s : State) : Result := writeOne ifc (O.IDE_KEY_CMD p) 1 s

/-- APPROVE (R467): IDE_KEY_CMD APPROVE generates and programs keys at both ends and makes the port SECURE. -/
def execApprove (ifc : Iface) (p : Nat) (s : State) : Result := writeOne ifc (O.IDE_KEY_CMD p) 2 s

/-- REFRESH (R467): IDE_KEY_CMD REFRESH programs and selects the inactive key set. -/
def execRefresh (ifc : Iface) (p : Nat) (s : State) : Result := writeOne ifc (O.IDE_KEY_CMD p) 3 s

/-- STOP (R467): IDE_KEY_CMD STOP issues K_SET_STOP at both ends and returns to KEYS_PENDING. -/
def execStop (ifc : Iface) (p : Nat) (s : State) : Result := writeOne ifc (O.IDE_KEY_CMD p) 4 s

end Sys2Proof.Machine
end

