-- ==== Sys2Proof/Machine/ExecSeqs.lean ====
section
/-! DEFINITION. The meanings of the commands of the spec's table: click sequencers and Cicada pairs (R380 to R400). -/
namespace Sys2Proof.Machine

/-- SQ_CMD_START (R383): SQ_CMD START starts a GENERAL sequencer at SQ_ENTRY. -/
def execSqCmdStart (ifc : Iface) (n : Nat) (s : State) : Result := writeOne ifc (O.SQ_CMD n) 1 s

/-- SQ_CMD_STOP (R384): SQ_CMD STOP ends execution at once, aborting a held unlocked transaction. -/
def execSqCmdStop (ifc : Iface) (n : Nat) (s : State) : Result := writeOne ifc (O.SQ_CMD n) 2 s

/-- SQ_START_AT (R383): At tick SQ_START_AT an armed start starts the sequencer or is dropped with CLICK_START_MISSED. -/
def execSqStartAt (n : Nat) (s : State) : Result := onUnit (s.seqExists n) (fxSqStartAt n s)

/-- HALT (R386): Instruction HALT stops the sequencer, ending a reaction. -/
def execHalt (n : Nat) (s : State) : Result := onUnit (s.seqExists n) (fxHalt n s)

/-- LDI (R386): Instruction LDI loads an immediate into the low or high half of RD. -/
def execLdi (n : Nat) (s : State) : Result := onUnit (s.seqExists n) (fxLdi n s)

/-- ADD (R386): Instruction ADD sets RD to RA + op2. -/
def execAdd (n : Nat) (s : State) : Result := onUnit (s.seqExists n) (fxAdd n s)

/-- SUB (R386): Instruction SUB sets RD to RA − op2. -/
def execSub (n : Nat) (s : State) : Result := onUnit (s.seqExists n) (fxSub n s)

/-- AND (R386): Instruction AND sets RD to RA AND op2. -/
def execAnd (n : Nat) (s : State) : Result := onUnit (s.seqExists n) (fxAnd n s)

/-- OR (R386): Instruction OR sets RD to RA OR op2. -/
def execOr (n : Nat) (s : State) : Result := onUnit (s.seqExists n) (fxOr n s)

/-- CMP (R386): Instruction CMP sets Z, C and N from RA and op2. -/
def execCmp (n : Nat) (s : State) : Result := onUnit (s.seqExists n) (fxCmp n s)

/-- BR (R386): Instruction BR branches when its condition holds. -/
def execBr (n : Nat) (s : State) : Result := onUnit (s.seqExists n) (fxBr n s)

/-- LDO (R387): Instruction LDO reads an object through the Click interface after the MPU check. -/
def execLdo (n : Nat) (s : State) : Result := onUnit (s.seqExists n) (fxLdo n s)

/-- STO (R387): Instruction STO writes an object through the Click interface after the MPU check. -/
def execSto (n : Nat) (s : State) : Result := onUnit (s.seqExists n) (fxSto n s)

/-- WAITT (R389): Instruction WAITT starts a wait for a relative or absolute tick. -/
def execWaitt (n : Nat) (s : State) : Result := onUnit (s.seqExists n) (fxWaitt n s)

/-- WAITT_END (R389): The target tick arrives and the next instruction executes. -/
def execWaittEnd (n : Nat) (s : State) : Result := onUnit (s.seqExists n) (fxWaittEnd n s)

/-- WAITE (R390): Instruction WAITE starts a wait for masked EVT bits with an optional limit. -/
def execWaite (n : Nat) (s : State) : Result := onUnit (s.seqExists n) (fxWaite n s)

/-- WAITE_END (R390): Masked EVT bits appear, or the limit passes; RD takes and clears the bits, or 0. -/
def execWaiteEnd (n : Nat) (s : State) : Result := onUnit (s.seqExists n) (fxWaiteEnd n s)

/-- EMIT (R390): Instruction EMIT sets an EVT bit of a sequencer, or raises CLICK_USER. -/
def execEmit (n : Nat) (s : State) : Result := onUnit (s.seqExists n) (fxEmit n s)

/-- TXB (R388): Instruction TXB opens the Click transaction on 07.004. -/
def execTxb (n : Nat) (s : State) : Result := onUnit (s.seqExists n) (fxTxb n s)

/-- TXC (R388): Instruction TXC prepares and commits the Click transaction and waits for its outcome. -/
def execTxc (n : Nat) (s : State) : Result := onUnit (s.seqExists n) (fxTxc n s)

/-- TXC_END (R388): The Click transaction reaches APPLIED, FAILED or ABORTED, or a step fails, and TXC completes. -/
def execTxcEnd (n : Nat) (s : State) : Result := onUnit (s.seqExists n) (fxTxcEnd n s)

/-- CALL (R386): Instruction CALL pushes the return address and branches. -/
def execCall (n : Nat) (s : State) : Result := onUnit (s.seqExists n) (fxCall n s)

/-- RET (R386): Instruction RET pops an address and branches to it. -/
def execRet (n : Nat) (s : State) : Result := onUnit (s.seqExists n) (fxRet n s)

/-- ILLEGAL_INSTRUCTION (R391): An illegal opcode or non-zero unused field faults the sequencer with ILLEGAL. -/
def execIllegalInstruction (n : Nat) (ue : Bool) (s : State) : Result := onUnit (s.seqExists n) (fxIllegal n ue s)

/-- STEP_LIMIT (R391): SQ_STEP_LIMIT instructions without a wait fault the sequencer with STEP_LIMIT. -/
def execStepLimit (n : Nat) (s : State) : Result := onUnit (s.seqExists n) (fxStepLimit n s)

/-- CC_ACTIVATE (R396): A write of 1 to CC_ACTIVATE in UPDATE checks the staging image and restarts every Cicada pair from it.
-/
def execCcActivate (ifc : Iface) (s : State) : Result := writeOne ifc O.CC_ACTIVATE 1 s

/-- ACTIVATION_DONE (R396): Every pair runs the new image and CC_ACT_STATUS reads OK. -/
def execActivationDone (s : State) : Result := done (fxActivationDone s)

/-- CICADA_ACT_FAIL (R396): A pair not running the new image within 250,000 ft restarts from the previous image and raises
CICADA_ACT_FAIL. -/
def execCicadaActFail (d : Nat) (s : State) : Result := onUnit (s.hasDie d) (fxCicadaActFail d s)

/-- CICADA_LOCKSTEP (R397): A lockstep mismatch resets and restarts the pair and raises CICADA_LOCKSTEP. -/
def execCicadaLockstep (d : Nat) (s : State) : Result := onUnit (s.hasDie d) (fxCicadaLockstep d s)

/-- CICADA_WDT (R397): A watchdog expiry raises CICADA_WDT and asserts the Cicada watchdog reset. -/
def execCicadaWdt (d : Nat) (s : State) : Result := onUnit (s.hasDie d) (fxCicadaWdt d s)

/-- CICADA_RUNNING (R434): A Cicada pair that has booted or restarted from its image reaches RUNNING, after setting its L2 MPU
regions. -/
def execCicadaRunning (d : Nat) (regions : List (Nat × Nat × Nat × Nat)) (s : State) : Result :=
  onUnit (s.hasDie d) (fxCicadaRunning d regions s)

end Sys2Proof.Machine
end

