-- ==== Sys2Proof/Machine/ExecSlots.lean ====
section
/-! DEFINITION. The meanings of the commands of the spec's table: slot power (R357 to R379). -/
namespace Sys2Proof.Machine

/-- CHANNEL_SAMPLE (R360): Every 25 ft the tile samples each channel and evaluates its sample-driven transitions. -/
def execChannelSample (xs : List SlSample) (temp : Int) (s : State) : Result := done (fxChannelSample xs temp s)

/-- PRESENCE_EDGE (R361): A level change of SL_PRSNT_N held for 25 ft counts as a presence edge and clears INSERTED. -/
def execPresenceEdge (n : Nat) (low : Bool) (s : State) : Result := onUnit (s.hasChannel n) (fxPresenceEdge n low s)

/-- INSERTED (R361): PRESENT held for INSERT_DELAY since the latest edge sets INSERTED. -/
def execInserted (n : Nat) (s : State) : Result := onUnit (s.hasChannel n) (fxInserted n s)

/-- VIN_OK (R362): VIN within limits for VIN_SETTLE sets VIN_OK. -/
def execVinOk (n : Nat) (s : State) : Result := onUnit (s.hasChannel n) (fxVinOk n s)

/-- RAMP_START (R363): A WAITING channel enters RAMPING at the first sample where every start condition holds. -/
def execRampStart (n : Nat) (s : State) : Result := onUnit (s.hasChannel n) (fxRampStart n s)

/-- SL_POWER_GOOD (R364): VOUT within PG_MARGIN without limiting on two samples sets POWER_GOOD and ON. -/
def execSlPowerGood (n : Nat) (s : State) : Result := onUnit (s.hasChannel n) (fxSlPowerGood n s)

/-- PG_TIMEOUT (R364): No power good within PG_TIMEOUT of the start, or POWER_GOOD lost for PG_TIMEOUT, trips the channel with
cause PG. -/
def execPgTimeout (n : Nat) (s : State) : Result := onUnit (s.hasChannel n) (fxPgTimeout n s)

/-- SL_TRIP_FAST (R366): The fast comparator trips a channel at twice the current limit and turns the FET off within 1 µs. -/
def execSlTripFast (n : Nat) (s : State) : Result := onUnit (s.hasChannel n) (fxSlTripFast n s)

/-- DIODE_READING (R367): Every 2,500 ft the tile reads a present FET diode. -/
def execDiodeReading (n mv : Nat) (temp : Int) (s : State) : Result := onUnit (s.hasChannel n) (fxDiodeReading n mv temp s)

/-- COOLDOWN_DONE (R370): COOLDOWN after the trip with the temperature at or below FET_TRESUME sets COOLDOWN_DONE. -/
def execCooldownDone (n : Nat) (s : State) : Result := onUnit (s.hasChannel n) (fxCooldownDone n s)

/-- OFF_DELAY_EXPIRY (R372): OFF_DELAY after a disable from ON the gate is turned off and the channel becomes OFF. -/
def execOffDelayExpiry (n : Nat) (s : State) : Result := onUnit (s.hasChannel n) (fxOffDelayExpiry n s)

/-- SL_FET_DAMAGED (R373): VOUT at or above DAMAGE_V for 1 ms with the gate off sets the damage latch and DAMAGED. -/
def execSlFetDamaged (n : Nat) (s : State) : Result := onUnit (s.hasChannel n) (fxSlFetDamaged n s)

/-- CH_ENABLE (R371): A write of CH_ENABLE enables, disables or clears the trip latch of a channel per its state. -/
def execChEnable (ifc : Iface) (n : Nat) (v : Word) (s : State) : Result := writeOne ifc (O.CH_ENABLE n) v.toNat s

/-- CH_DAMAGE_CLEAR (R374): A write of 1 to CH_DAMAGE_CLEAR removes the damage latch. -/
def execChDamageClear (ifc : Iface) (n : Nat) (s : State) : Result := writeOne ifc (O.CH_DAMAGE_CLEAR n) 1 s

/-- TILE_LINK_LOST (R376): Die 0 not answering the tile for 250 ft makes the tile AUTONOMOUS. -/
def execTileLinkLost (s : State) : Result := done (fxTileLinkLost s)

/-- TILE_LINK_RESTORED (R376): The interface answers again and the tile returns to RUN, raising its events in order. -/
def execTileLinkRestored (s : State) : Result := done (fxTileLinkRestored s)

end Sys2Proof.Machine
end

