-- ==== Sys2Proof/Machine/ExecTenants.lean ====
section
/-! DEFINITION. The meanings of the commands of the spec's table: tenants (R265 to R286). -/
namespace Sys2Proof.Machine

/-- T_ADMIT (R272): A write of T_ADMIT acts at once on the tenant's admission, refused while FREE, FROZEN or held by a
transaction. -/
def execTAdmit (ifc : Iface) (t : Nat) (b : Word) (s : State) : Result := writeOne ifc (O.T_ADMIT t) b.toNat s

/-- FREEZE (R278): T_CMD FREEZE of a STOPPED idle tenant makes it FROZEN and forms its image. -/
def execFreeze (ifc : Iface) (t : Nat) (s : State) : Result := writeOne ifc (O.T_CMD t) 1 s

/-- THAW (R274): T_CMD THAW returns a FROZEN tenant to STOPPED and discards the formed image. -/
def execThaw (ifc : Iface) (t : Nat) (s : State) : Result := writeOne ifc (O.T_CMD t) 2 s

/-- T_CMD_RESET (R275): T_CMD RESET of a STOPPED idle tenant restores meters, leaves, queues and counters to their start. -/
def execTCmdReset (ifc : Iface) (t : Nat) (s : State) : Result := writeOne ifc (O.T_CMD t) 3 s

/-- DISCARD (R274): T_CMD DISCARD frees the tenant's image store slot. -/
def execDiscard (ifc : Iface) (t : Nat) (s : State) : Result := writeOne ifc (O.T_CMD t) 4 s

end Sys2Proof.Machine
end

