-- ==== Sys2Proof/Machine/ExecTime.lean ====
section
/-! DEFINITION. The meanings of the commands of the spec's table: fabric time (R58 to R66). -/
namespace Sys2Proof.Machine

/-- FT_SYNC_EDGE (R66): An FT_SYNC edge is checked for offset, completes an armed TOD load, or ends ACQUIRING by slew or step.
-/
def execFtSyncEdge (s : State) : Result := done (fxFtSyncEdge s)

/-- TOD_LOAD (R62): A write of TOD_LOAD checks the value and arms a load for the next qualifying FT_SYNC edge. -/
def execTodLoad (ifc : Iface) (v : Word) (s : State) : Result := writeOne ifc O.TOD_LOAD v.toNat s

/-- FT_REF_LOST (R64): No FT_REF edge for 3 nominal periods declares FT_REF lost, entering HOLDOVER and recording
HOLDOVER_START. -/
def execFtRefLost (s : State) : Result := done (fxFtRefLost s)

/-- FREQUENCY_WINDOW_END (R64): At the end of each 1,024 ft window die 0 judges FT_REF frequency, declaring loss or, after two
good windows, restoration to ACQUIRING. -/
def execFrequencyWindowEnd (edges : Bool) (ppm : Int) (s : State) : Result := done (fxFrequencyWindowEnd edges ppm s)

/-- SLEW_STEP (R65): Every 64 ft during a slew one tick is lengthened or shortened by a sub-tick, and LOCKED is entered when
the offset reaches zero. -/
def execSlewStep (s : State) : Result := done (fxSlewStep s)

/-- HOLDOVER_EXPIRED (R63): FT_NOW reaching HOLDOVER_START + HOLDOVER_LIMIT + 1 in HOLDOVER enters EXPIRED and sets
HOLDOVER_EXPIRED. -/
def execHoldoverExpired (s : State) : Result := done (fxHoldoverExpired s)

/-- FT_SYNC_MISSING (R66): No FT_SYNC edge for 27,500,000 ft in LOCKED sets SYNC_MISSING and raises FT_SYNC_MISSING. -/
def execFtSyncMissing (s : State) : Result := done (fxFtSyncMissing s)

/-- TIME_SYNC_SEND (R61): Every 25 ft die 0 sends a time-sync message to every other die along the routes of R20. -/
def execTimeSyncSend (s : State) : Result := done (fxTimeSyncSend s)

/-- TIME_SYNC (R330): A TIME_SYNC bypass message sets the receiving die's FT_NOW copy to the stamp plus LINK_DELAY, measures
skew, and is relayed with HOPS incremented. -/
def execTimeSync (l : Nat) (s : State) : Result := onUnit (s.hasInvar l) (fxTimeSync l s)

/-- SYNC_MESSAGES_MISSED (R61): A die that misses 8 consecutive sync messages raises DIE_SKEW and is flagged under R61. -/
def execSyncMessagesMissed (d : Nat) (s : State) : Result := onUnit (s.hasDie d) (fxSyncMessagesMissed d s)

/-- TICK (R59): At each FT_REF rising edge in LOCKED, or on the local reference in holdover or while a die's copy runs
unloaded, FT_NOW advances by one tick. -/
def execTick (d : Nat) (s : State) : Result := onUnit (s.hasDie d) (fxTickCounted d s)

end Sys2Proof.Machine
end

