-- ==== Sys2Proof/Machine/ExecTx.lean ====
section
/-! DEFINITION. The meanings of the commands of the spec's table: configuration transactions (R71 to R84). -/
namespace Sys2Proof.Machine

/-- TX_OPEN (R72): TX_CMD OPEN opens the interface's transaction and increments TX_SERIAL. -/
def execTxOpen (ifc : Iface) (x : Nat) (s : State) : Result := writeOne ifc (O.TX_CMD x) txcOpen s

/-- TX_PREPARE (R74): TX_CMD PREPARE starts validation of the staged set, entering PREPARING. -/
def execTxPrepare (ifc : Iface) (x : Nat) (s : State) : Result := writeOne ifc (O.TX_CMD x) txcPrepare s

/-- VALIDATION_ENDS (R74): Validation of a staged set ends, reserving resources and entering READY, or entering FAILED with
TX_STATUS, TX_FAIL_INDEX and TX_FAIL_OBJECT. -/
def execValidationEnds (x : Nat) (s : State) : Result := onUnit (hasTx x) (fxValidationEnds x s)

/-- TX_COMMIT_AT (R77): TX_CMD COMMIT_AT checks TX_INSTANT against time state, leads and the exclusion matrix and schedules
the set. -/
def execTxCommitAt (ifc : Iface) (x : Nat) (s : State) : Result := writeOne ifc (O.TX_CMD x) txcCommitAt s

/-- TX_ABORT (R72): TX_CMD ABORT discards the staged set and reservations and enters ABORTED. -/
def execTxAbort (ifc : Iface) (x : Nat) (s : State) : Result := writeOne ifc (O.TX_CMD x) txcAbort s

/-- TX_CANCEL (R72): TX_CMD CANCEL returns a SCHEDULED transaction to READY, keeping set and reservations and restarting the
READY timeout. -/
def execTxCancel (ifc : Iface) (x : Nat) (s : State) : Result := writeOne ifc (O.TX_CMD x) txcCancel s

/-- READY_TIMEOUT (R76): A transaction that stays READY longer than its TX_READY_LIMIT fails with TIMEOUT and releases
reservations. -/
def execReadyTimeout (x : Nat) (s : State) : Result := onUnit (hasTx x) (fxReadyTimeout x s)

/-- LOCK_POINT (R78): At tick TX_INSTANT − TX_LOCK_LEAD every die confirms its staged copy and the transaction becomes LOCKED.
-/
def execLockPoint (x : Nat) (s : State) : Result := onUnit (hasTx x) (fxLockPoint x s)

/-- APPLY (R79): At the first core cycle of TX_INSTANT every die applies the whole set in one core cycle. -/
def execApply (s : State) : Result := done (fxApply s)

/-- STAGED_COPY_ERROR (R76): An uncorrectable error is found in a die's staged copy of a READY or SCHEDULED transaction's set,
failing it with ABORTED and releasing its reservations. -/
def execStagedCopyError (x : Nat) (s : State) : Result := onUnit (hasTx x) (fxStagedCopyError x s)

end Sys2Proof.Machine
end

