-- ==== Sys2Proof/Machine/Dispatch.lean ====
section
/-! DEFINITION. Each command of the table and its meaning. -/
namespace Sys2Proof.Machine

/-- The effect of a command on everything but the queue of waiting commands. -/
def exec (i : Instr) (s : State) : Host.Outcome State Fault Refusal :=
  match i with
  | .read ifc cls inst mem n => Sys2Proof.Machine.execRead ifc cls inst mem n s
  | .write ifc cls inst mem vs => Sys2Proof.Machine.execWrite ifc cls inst mem vs s
  | .readClear ifc cls inst mem => Sys2Proof.Machine.execReadClear ifc cls inst mem s
  | .windowRead off len => Sys2Proof.Machine.execWindowRead off len s
  | .windowWrite off data => Sys2Proof.Machine.execWindowWrite off data s
  | .mbxRead t obj => Sys2Proof.Machine.execMbxRead t obj s
  | .mbxWrite t obj val => Sys2Proof.Machine.execMbxWrite t obj val s
  | .mbxDone t => Sys2Proof.Machine.execMbxDone t s
  | .errorCount ifc x => Sys2Proof.Machine.execErrorCount ifc x s
  | .queryObject ifc x v => Sys2Proof.Machine.execQueryObject ifc x v s
  | .dpOpLoad ifc x => Sys2Proof.Machine.execDpOpLoad ifc x s
  | .dpOpDump ifc x => Sys2Proof.Machine.execDpOpDump ifc x s
  | .dpOpIdle ifc x => Sys2Proof.Machine.execDpOpIdle ifc x s
  | .dpDataWrite ifc x slot vs => Sys2Proof.Machine.execDpDataWrite ifc x slot vs s
  | .dpDataRead ifc x slot n => Sys2Proof.Machine.execDpDataRead ifc x slot n s
  | .dumpStallTimeout x slot => Sys2Proof.Machine.execDumpStallTimeout x slot s
  | .todLoad ifc v => Sys2Proof.Machine.execTodLoad ifc v s
  | .frequencyWindowEnd edges ppm => Sys2Proof.Machine.execFrequencyWindowEnd edges ppm s
  | .timeSync l => Sys2Proof.Machine.execTimeSync l s
  | .syncMessagesMissed d => Sys2Proof.Machine.execSyncMessagesMissed d s
  | .txOpen ifc x => Sys2Proof.Machine.execTxOpen ifc x s
  | .txPrepare ifc x => Sys2Proof.Machine.execTxPrepare ifc x s
  | .validationEnds x => Sys2Proof.Machine.execValidationEnds x s
  | .txCommitAt ifc x => Sys2Proof.Machine.execTxCommitAt ifc x s
  | .txAbort ifc x => Sys2Proof.Machine.execTxAbort ifc x s
  | .txCancel ifc x => Sys2Proof.Machine.execTxCancel ifc x s
  | .readyTimeout x => Sys2Proof.Machine.execReadyTimeout x s
  | .lockPoint x => Sys2Proof.Machine.execLockPoint x s
  | .perstNAssert p => Sys2Proof.Machine.execPerstNAssert p s
  | .perstNDeassert p => Sys2Proof.Machine.execPerstNDeassert p s
  | .presenceDeclared pin => Sys2Proof.Machine.execPresenceDeclared pin s
  | .absenceDeclared pin => Sys2Proof.Machine.execAbsenceDeclared pin s
  | .perstRelease p => Sys2Proof.Machine.execPerstRelease p s
  | .linkUp p rate width protocols ldCount reversed polarity presets => Sys2Proof.Machine.execLinkUp p rate width protocols ldCount reversed polarity presets s
  | .trainTimeout p => Sys2Proof.Machine.execTrainTimeout p s
  | .retryPauseEnd p => Sys2Proof.Machine.execRetryPauseEnd p s
  | .recoveryEntry p target faulty => Sys2Proof.Machine.execRecoveryEntry p target faulty s
  | .recoveryExit p rate width reversed => Sys2Proof.Machine.execRecoveryExit p rate width reversed s
  | .dropTimeExpiry p => Sys2Proof.Machine.execDropTimeExpiry p s
  | .linkCtrlRetrain ifc p => Sys2Proof.Machine.execLinkCtrlRetrain ifc p s
  | .linkCtrlDisable ifc p => Sys2Proof.Machine.execLinkCtrlDisable ifc p s
  | .linkCtrlEnable ifc p => Sys2Proof.Machine.execLinkCtrlEnable ifc p s
  | .linkCtrlHotReset ifc p => Sys2Proof.Machine.execLinkCtrlHotReset ifc p s
  | .deviceResponse p tag data fate => Sys2Proof.Machine.execDeviceResponse p tag data fate s
  | .cplTimeout p slot => Sys2Proof.Machine.execCplTimeout p slot s
  | .quarantineEnd p => Sys2Proof.Machine.execQuarantineEnd p s
  | .flitReceived p badFec badIde lanes credits => Sys2Proof.Machine.execFlitReceived p badFec badIde lanes credits s
  | .marginCtrl ifc l v => Sys2Proof.Machine.execMarginCtrl ifc l v s
  | .marginResponse l v => Sys2Proof.Machine.execMarginResponse l v s
  | .hostRequest p op md hpa tag data mask poison ecc => Sys2Proof.Machine.execHostRequest p op md hpa tag data mask poison ecc s
  | .mapRestore d granule index ok => Sys2Proof.Machine.execMapRestore d granule index ok s
  | .atomicop p op size hpa tag operand compare => Sys2Proof.Machine.execAtomicop p op size hpa tag operand compare s
  | .privateAtomic d n => Sys2Proof.Machine.execPrivateAtomic d n s
  | .egressSelect p cellEcc descUe => Sys2Proof.Machine.execEgressSelect p cellEcc descUe s
  | .shaperRefill d => Sys2Proof.Machine.execShaperRefill d s
  | .bindVppb h v port ld tenant => Sys2Proof.Machine.execBindVppb h v port ld tenant s
  | .unbindVppb h v => Sys2Proof.Machine.execUnbindVppb h v s
  | .getVirtualCxlSwitchInfo h => Sys2Proof.Machine.execGetVirtualCxlSwitchInfo h s
  | .vppbAdmit ifc h v b => Sys2Proof.Machine.execVppbAdmit ifc h v b s
  | .decAdmit ifc n b => Sys2Proof.Machine.execDecAdmit ifc n b s
  | .migDrained m => Sys2Proof.Machine.execMigDrained m s
  | .rdS d line ecc => Sys2Proof.Machine.execRdS d line ecc s
  | .rdOwn d line ecc => Sys2Proof.Machine.execRdOwn d line ecc s
  | .rdCur d line ecc => Sys2Proof.Machine.execRdCur d line ecc s
  | .upgrade d line ecc => Sys2Proof.Machine.execUpgrade d line ecc s
  | .cleanEvict d line h => Sys2Proof.Machine.execCleanEvict d line h s
  | .writeback d line h => Sys2Proof.Machine.execWriteback d line h s
  | .atomic d line => Sys2Proof.Machine.execAtomic d line s
  | .memoryWriteAck d n => Sys2Proof.Machine.execMemoryWriteAck d n s
  | .birsp p hpa answer => Sys2Proof.Machine.execBirsp p hpa answer s
  | .biconflict p hpa => Sys2Proof.Machine.execBiconflict p hpa s
  | .biTimeout d h line => Sys2Proof.Machine.execBiTimeout d h line s
  | .allocWaitExpiry d line => Sys2Proof.Machine.execAllocWaitExpiry d line s
  | .srRecall ifc r mask => Sys2Proof.Machine.execSrRecall ifc r mask s
  | .sweepStart w => Sys2Proof.Machine.execSweepStart w s
  | .sweepEnd d => Sys2Proof.Machine.execSweepEnd d s
  | .bankRetire ifc d bank => Sys2Proof.Machine.execBankRetire ifc d bank s
  | .bankRetired d bank => Sys2Proof.Machine.execBankRetired d bank s
  | .stagedWrite p full hpa tag data mask poison => Sys2Proof.Machine.execStagedWrite p full hpa tag data mask poison s
  | .stagedRead p hpa tag => Sys2Proof.Machine.execStagedRead p hpa tag s
  | .mark d line => Sys2Proof.Machine.execMark d line s
  | .markAck h k line => Sys2Proof.Machine.execMarkAck h k line s
  | .gdbCommit p k gen => Sys2Proof.Machine.execGdbCommit p k gen s
  | .gdbAbort p k gen => Sys2Proof.Machine.execGdbAbort p k gen s
  | .gdbRelease p k gen => Sys2Proof.Machine.execGdbRelease p k gen s
  | .claim d line => Sys2Proof.Machine.execClaim d line s
  | .claimResult h k line => Sys2Proof.Machine.execClaimResult h k line s
  | .pin d line => Sys2Proof.Machine.execPin d line s
  | .pinResult h k line => Sys2Proof.Machine.execPinResult h k line s
  | .applyWriteAck h k line => Sys2Proof.Machine.execApplyWriteAck h k line s
  | .unpin d line => Sys2Proof.Machine.execUnpin d line s
  | .groupCancel d h k => Sys2Proof.Machine.execGroupCancel d h k s
  | .grpCommitWaitExpiry h k => Sys2Proof.Machine.execGrpCommitWaitExpiry h k s
  | .grpCtrlAbort ifc h k => Sys2Proof.Machine.execGrpCtrlAbort ifc h k s
  | .grpCtrlRelease ifc h k => Sys2Proof.Machine.execGrpCtrlRelease ifc h k s
  | .weevilExamine d finding => Sys2Proof.Machine.execWeevilExamine d finding s
  | .weevilPassEnd d mismatch => Sys2Proof.Machine.execWeevilPassEnd d mismatch s
  | .caAt ifc v => Sys2Proof.Machine.execCaAt ifc v s
  | .marker l c => Sys2Proof.Machine.execMarker l c s
  | .returnMarker l c => Sys2Proof.Machine.execReturnMarker l c s
  | .capEnable ifc d b => Sys2Proof.Machine.execCapEnable ifc d b s
  | .capStart d => Sys2Proof.Machine.execCapStart d s
  | .capStop d => Sys2Proof.Machine.execCapStop d s
  | .capRecordWrite d => Sys2Proof.Machine.execCapRecordWrite d s
  | .capClear ifc d => Sys2Proof.Machine.execCapClear ifc d s
  | .cfEnable ifc d f => Sys2Proof.Machine.execCfEnable ifc d f s
  | .tAdmit ifc t b => Sys2Proof.Machine.execTAdmit ifc t b s
  | .freeze ifc t => Sys2Proof.Machine.execFreeze ifc t s
  | .thaw ifc t => Sys2Proof.Machine.execThaw ifc t s
  | .tCmdReset ifc t => Sys2Proof.Machine.execTCmdReset ifc t s
  | .discard ifc t => Sys2Proof.Machine.execDiscard ifc t s
  | .qDoorbell ifc q v => Sys2Proof.Machine.execQDoorbell ifc q v s
  | .piRead q => Sys2Proof.Machine.execPiRead q s
  | .piReadReturn q value st => Sys2Proof.Machine.execPiReadReturn q value st s
  | .descriptorFetch q words st => Sys2Proof.Machine.execDescriptorFetch q words st s
  | .descriptorStart d e => Sys2Proof.Machine.execDescriptorStart d e s
  | .moverLineDone d e id => Sys2Proof.Machine.execMoverLineDone d e id s
  | .descriptorComplete q n => Sys2Proof.Machine.execDescriptorComplete q n s
  | .recordWord0 q n => Sys2Proof.Machine.execRecordWord0 q n s
  | .ntfDelayExpiry q => Sys2Proof.Machine.execNtfDelayExpiry q s
  | .qNtfAck ifc q v => Sys2Proof.Machine.execQNtfAck ifc q v s
  | .qCtrlEnable ifc q => Sys2Proof.Machine.execQCtrlEnable ifc q s
  | .qCtrlDisable ifc q => Sys2Proof.Machine.execQCtrlDisable ifc q s
  | .qCtrlAbort ifc q => Sys2Proof.Machine.execQCtrlAbort ifc q s
  | .qCtrlReset ifc q => Sys2Proof.Machine.execQCtrlReset ifc q s
  | .engineFault d e => Sys2Proof.Machine.execEngineFault d e s
  | .invarFlit l ok => Sys2Proof.Machine.execInvarFlit l ok s
  | .ihlodFrameUnit x ok seq f => Sys2Proof.Machine.execIhlodFrameUnit x ok seq f s
  | .ack l seq => Sys2Proof.Machine.execAck l seq s
  | .ackDue l => Sys2Proof.Machine.execAckDue l s
  | .nak l seq => Sys2Proof.Machine.execNak l seq s
  | .replayTimer l => Sys2Proof.Machine.execReplayTimer l s
  | .credit l vc returned => Sys2Proof.Machine.execCredit l vc returned s
  | .heartbeat l => Sys2Proof.Machine.execHeartbeat l s
  | .heartbeatSend l => Sys2Proof.Machine.execHeartbeatSend l s
  | .faultNotice l => Sys2Proof.Machine.execFaultNotice l s
  | .faultNoticeRepeat d => Sys2Proof.Machine.execFaultNoticeRepeat d s
  | .noticeAck l => Sys2Proof.Machine.execNoticeAck l s
  | .handover l => Sys2Proof.Machine.execHandover l s
  | .windowEnd l => Sys2Proof.Machine.execWindowEnd l s
  | .heartbeatMiss l => Sys2Proof.Machine.execHeartbeatMiss l s
  | .framingLost l => Sys2Proof.Machine.execFramingLost l s
  | .laneTestEnd l failed delay => Sys2Proof.Machine.execLaneTestEnd l failed delay s
  | .d2dRetrained l => Sys2Proof.Machine.execD2dRetrained l s
  | .retrainAttemptTimeout l => Sys2Proof.Machine.execRetrainAttemptTimeout l s
  | .d2dCtrlRetrain ifc l => Sys2Proof.Machine.execD2dCtrlRetrain ifc l s
  | .laneRetire ifc l lane => Sys2Proof.Machine.execLaneRetire ifc l lane s
  | .segmentUp x peer => Sys2Proof.Machine.execSegmentUp x peer s
  | .segmentTrainTimeout x => Sys2Proof.Machine.execSegmentTrainTimeout x s
  | .segmentRetry x => Sys2Proof.Machine.execSegmentRetry x s
  | .segCtrlRetrain ifc x => Sys2Proof.Machine.execSegCtrlRetrain ifc x s
  | .channelSample xs temp => Sys2Proof.Machine.execChannelSample xs temp s
  | .presenceEdge n low => Sys2Proof.Machine.execPresenceEdge n low s
  | .inserted n => Sys2Proof.Machine.execInserted n s
  | .vinOk n => Sys2Proof.Machine.execVinOk n s
  | .rampStart n => Sys2Proof.Machine.execRampStart n s
  | .slPowerGood n => Sys2Proof.Machine.execSlPowerGood n s
  | .pgTimeout n => Sys2Proof.Machine.execPgTimeout n s
  | .slTripFast n => Sys2Proof.Machine.execSlTripFast n s
  | .diodeReading n mv temp => Sys2Proof.Machine.execDiodeReading n mv temp s
  | .cooldownDone n => Sys2Proof.Machine.execCooldownDone n s
  | .offDelayExpiry n => Sys2Proof.Machine.execOffDelayExpiry n s
  | .slFetDamaged n => Sys2Proof.Machine.execSlFetDamaged n s
  | .chEnable ifc n v => Sys2Proof.Machine.execChEnable ifc n v s
  | .chDamageClear ifc n => Sys2Proof.Machine.execChDamageClear ifc n s
  | .sqCmdStart ifc n => Sys2Proof.Machine.execSqCmdStart ifc n s
  | .sqCmdStop ifc n => Sys2Proof.Machine.execSqCmdStop ifc n s
  | .sqStartAt n => Sys2Proof.Machine.execSqStartAt n s
  | .halt n => Sys2Proof.Machine.execHalt n s
  | .ldi n => Sys2Proof.Machine.execLdi n s
  | .add n => Sys2Proof.Machine.execAdd n s
  | .sub n => Sys2Proof.Machine.execSub n s
  | .and n => Sys2Proof.Machine.execAnd n s
  | .or n => Sys2Proof.Machine.execOr n s
  | .cmp n => Sys2Proof.Machine.execCmp n s
  | .br n => Sys2Proof.Machine.execBr n s
  | .ldo n => Sys2Proof.Machine.execLdo n s
  | .sto n => Sys2Proof.Machine.execSto n s
  | .waitt n => Sys2Proof.Machine.execWaitt n s
  | .waittEnd n => Sys2Proof.Machine.execWaittEnd n s
  | .waite n => Sys2Proof.Machine.execWaite n s
  | .waiteEnd n => Sys2Proof.Machine.execWaiteEnd n s
  | .emit n => Sys2Proof.Machine.execEmit n s
  | .txb n => Sys2Proof.Machine.execTxb n s
  | .txc n => Sys2Proof.Machine.execTxc n s
  | .txcEnd n => Sys2Proof.Machine.execTxcEnd n s
  | .call n => Sys2Proof.Machine.execCall n s
  | .ret n => Sys2Proof.Machine.execRet n s
  | .illegalInstruction n ue => Sys2Proof.Machine.execIllegalInstruction n ue s
  | .stepLimit n => Sys2Proof.Machine.execStepLimit n s
  | .cicadaActFail d => Sys2Proof.Machine.execCicadaActFail d s
  | .cicadaLockstep d => Sys2Proof.Machine.execCicadaLockstep d s
  | .cicadaWdt d => Sys2Proof.Machine.execCicadaWdt d s
  | .reactionStart n => Sys2Proof.Machine.execReactionStart n s
  | .collectorUe d => Sys2Proof.Machine.execCollectorUe d s
  | .fsCapValid ifc source => Sys2Proof.Machine.execFsCapValid ifc source s
  | .retClear ifc ch => Sys2Proof.Machine.execRetClear ifc ch s
  | .dieReset ifc d => Sys2Proof.Machine.execDieReset ifc d s
  | .blockResetMover ifc d => Sys2Proof.Machine.execBlockResetMover ifc d s
  | .blockResetCapture ifc d => Sys2Proof.Machine.execBlockResetCapture ifc d s
  | .blockResetAuditor ifc d => Sys2Proof.Machine.execBlockResetAuditor ifc d s
  | .blockResetSequencers ifc d => Sys2Proof.Machine.execBlockResetSequencers ifc d s
  | .blockResetCounters ifc d => Sys2Proof.Machine.execBlockResetCounters ifc d s
  | .blockResetTileSequencers ifc d => Sys2Proof.Machine.execBlockResetTileSequencers ifc d s
  | .resetSourceRelease code d dom => Sys2Proof.Machine.execResetSourceRelease code d dom s
  | .domainRelease d n => Sys2Proof.Machine.execDomainRelease d n s
  | .pllLock d n => Sys2Proof.Machine.execPllLock d n s
  | .pllUnlock d n => Sys2Proof.Machine.execPllUnlock d n s
  | .clockUnstable d n => Sys2Proof.Machine.execClockUnstable d n s
  | .modeRequestRun ifc degraded => Sys2Proof.Machine.execModeRequestRun ifc degraded s
  | .dbgAuth ifc v => Sys2Proof.Machine.execDbgAuth ifc v s
  | .dbgMaxLevel ifc v => Sys2Proof.Machine.execDbgMaxLevel ifc v s
  | .dbgAccessRead a => Sys2Proof.Machine.execDbgAccessRead a s
  | .dbgAccessWrite a data => Sys2Proof.Machine.execDbgAccessWrite a data s
  | .dbgAccessHalt d => Sys2Proof.Machine.execDbgAccessHalt d s
  | .dbgAccessResume d => Sys2Proof.Machine.execDbgAccessResume d s
  | .dbgAccessStep d => Sys2Proof.Machine.execDbgAccessStep d s
  | .getCertificate via => Sys2Proof.Machine.execGetCertificate via s
  | .challenge via => Sys2Proof.Machine.execChallenge via s
  | .getMeasurements via signed => Sys2Proof.Machine.execGetMeasurements via signed s
  | .keyExchange via => Sys2Proof.Machine.execKeyExchange via s
  | .endSession via n => Sys2Proof.Machine.execEndSession via n s
  | .spdmRequest via => Sys2Proof.Machine.execSpdmRequest via s
  | .query p session => Sys2Proof.Machine.execQuery p session s
  | .keyProg p session stream k d sub => Sys2Proof.Machine.execKeyProg p session stream k d sub s
  | .kSetGo p session k d => Sys2Proof.Machine.execKSetGo p session k d s
  | .kSetStop p session k d => Sys2Proof.Machine.execKSetStop p session k d s
  | .establish ifc p => Sys2Proof.Machine.execEstablish ifc p s
  | .approve ifc p => Sys2Proof.Machine.execApprove ifc p s
  | .refresh ifc p => Sys2Proof.Machine.execRefresh ifc p s
  | .stop ifc p => Sys2Proof.Machine.execStop ifc p s
  | .pcSelect ifc d n w => Sys2Proof.Machine.execPcSelect ifc d n w s
  | .tcSelect ifc t k w => Sys2Proof.Machine.execTcSelect ifc t k w s
  | .pcClear ifc d n => Sys2Proof.Machine.execPcClear ifc d n s
  | .tcClear ifc t mask => Sys2Proof.Machine.execTcClear ifc t mask s
  | .userRead ifc t b => Sys2Proof.Machine.execUserRead ifc t b s
  | .partialSend d => Sys2Proof.Machine.execPartialSend d s
  | .tick d => Sys2Proof.Machine.execTick d s
  | .stagedCopyError x => Sys2Proof.Machine.execStagedCopyError x s
  | .flitSend f => Sys2Proof.Machine.execFlitSend f s
  | .deviceRequest p ld op addr len data tag tc => Sys2Proof.Machine.execDeviceRequest p ld op addr len data tag tc s
  | .hostCxlIoRequest p op fn bar addr len data tag tc => Sys2Proof.Machine.execHostCxlIoRequest p op fn bar addr len data tag tc s
  | .scrub d set way err last => Sys2Proof.Machine.execScrub d set way err last s
  | .sramSelfTestEnd d repairs ok => Sys2Proof.Machine.execSramSelfTestEnd d repairs ok s
  | .cicadaRunning d regions => Sys2Proof.Machine.execCicadaRunning d regions s
  | .shadowDiscardExtent ifc => Sys2Proof.Machine.execShadowDiscardExtent ifc s
  | .shadowDiscardGranule ifc => Sys2Proof.Machine.execShadowDiscardGranule ifc s
  | .hwmClear ifc => Sys2Proof.Machine.execHwmClear ifc s
  | .ccActivate ifc => Sys2Proof.Machine.execCcActivate ifc s
  | .fcEnterSafe ifc => Sys2Proof.Machine.execFcEnterSafe ifc s
  | .pkgReset ifc => Sys2Proof.Machine.execPkgReset ifc s
  | .modeRequestAux ifc => Sys2Proof.Machine.execModeRequestAux ifc s
  | .modeRequestInit ifc => Sys2Proof.Machine.execModeRequestInit ifc s
  | .modeRequestConfig ifc => Sys2Proof.Machine.execModeRequestConfig ifc s
  | .modeRequestLinkup ifc => Sys2Proof.Machine.execModeRequestLinkup ifc s
  | .modeRequestRunNc ifc => Sys2Proof.Machine.execModeRequestRunNc ifc s
  | .modeRequestDrain ifc => Sys2Proof.Machine.execModeRequestDrain ifc s
  | .modeRequestMaint ifc => Sys2Proof.Machine.execModeRequestMaint ifc s
  | .modeRequestUpdate ifc => Sys2Proof.Machine.execModeRequestUpdate ifc s
  | .rmaEnter ifc => Sys2Proof.Machine.execRmaEnter ifc s
  | .dbgClose ifc => Sys2Proof.Machine.execDbgClose ifc s
  | .ftSyncEdge => Sys2Proof.Machine.execFtSyncEdge s
  | .ftRefLost => Sys2Proof.Machine.execFtRefLost s
  | .slewStep => Sys2Proof.Machine.execSlewStep s
  | .holdoverExpired => Sys2Proof.Machine.execHoldoverExpired s
  | .ftSyncMissing => Sys2Proof.Machine.execFtSyncMissing s
  | .timeSyncSend => Sys2Proof.Machine.execTimeSyncSend s
  | .apply => Sys2Proof.Machine.execApply s
  | .fmApiUnsupported => Sys2Proof.Machine.execFmApiUnsupported s
  | .dirCleared => Sys2Proof.Machine.execDirCleared s
  | .creditAuditStart => Sys2Proof.Machine.execCreditAuditStart s
  | .creditAuditGather => Sys2Proof.Machine.execCreditAuditGather s
  | .hwmSnapshot => Sys2Proof.Machine.execHwmSnapshot s
  | .dictRead => Sys2Proof.Machine.execDictRead s
  | .dictWrite => Sys2Proof.Machine.execDictWrite s
  | .dpLoad => Sys2Proof.Machine.execDpLoad s
  | .dpDump => Sys2Proof.Machine.execDpDump s
  | .tod => Sys2Proof.Machine.execTod s
  | .rstArm => Sys2Proof.Machine.execRstArm s
  | .rstGo => Sys2Proof.Machine.execRstGo s
  | .ihlodResetAssert => Sys2Proof.Machine.execIhlodResetAssert s
  | .assign => Sys2Proof.Machine.execAssign s
  | .echo => Sys2Proof.Machine.execEcho s
  | .spdm => Sys2Proof.Machine.execSpdm s
  | .tileLinkLost => Sys2Proof.Machine.execTileLinkLost s
  | .tileLinkRestored => Sys2Proof.Machine.execTileLinkRestored s
  | .activationDone => Sys2Proof.Machine.execActivationDone s
  | .recoveryWindowClose => Sys2Proof.Machine.execRecoveryWindowClose s
  | .powerOn => Sys2Proof.Machine.execPowerOn s
  | .powerOnRelease => Sys2Proof.Machine.execPowerOnRelease s
  | .sysRstNAssert => Sys2Proof.Machine.execSysRstNAssert s
  | .sysRstNRelease => Sys2Proof.Machine.execSysRstNRelease s
  | .mainRailsOut => Sys2Proof.Machine.execMainRailsOut s
  | .mainRailsIn => Sys2Proof.Machine.execMainRailsIn s
  | .auxRailsOut => Sys2Proof.Machine.execAuxRailsOut s
  | .modeChange => Sys2Proof.Machine.execModeChange s
  | .initEnd => Sys2Proof.Machine.execInitEnd s
  | .initTimeout => Sys2Proof.Machine.execInitTimeout s
  | .idcode => Sys2Proof.Machine.execIdcode s
  | .samplePreload => Sys2Proof.Machine.execSamplePreload s
  | .extest => Sys2Proof.Machine.execExtest s
  | .clamp => Sys2Proof.Machine.execClamp s
  | .highz => Sys2Proof.Machine.execHighz s
  | .dbgAccess => Sys2Proof.Machine.execDbgAccess s
  | .bypass => Sys2Proof.Machine.execBypass s
  | .dbgAccessNop => Sys2Proof.Machine.execDbgAccessNop s
  | .pcSnapshot => Sys2Proof.Machine.execPcSnapshot s

end Sys2Proof.Machine
end

