-- ==== Sys2Proof/WellFormed.lean ====
section
/-! DEFINITION. Well-formed commands: a command is well formed on a variant if every unit that it names is one the variant has
(R2, R15, R33). What else its operands carry, the host and vPPB that an FM-API message names among them (R86), is checked where the
spec has the device check it, and so is the die that a debug command names (R452). -/
namespace Sys2Proof

/-! ## Units by variant -/

def Variant.hasDie (part : Variant) (d : Nat) : Bool := decide (d < part.dies)
def Variant.hasPort (part : Variant) (p : Nat) : Bool := decide (p < 16 * part.dies)
def Variant.hasLane (part : Variant) (l : Nat) : Bool := decide (l < 64 * part.dies)
def Variant.hasChannel (part : Variant) (n : Nat) : Bool := decide (n < 8 * part.dies)
def Variant.hasInvar (part : Variant) (l : Nat) : Bool := decide (l < 4 * part.dies)
def Variant.hasEngine (part : Variant) (d e : Nat) : Bool := decide (d < part.dies ∧ e < 4)
def Variant.hasBank (part : Variant) (d b : Nat) : Bool := decide (d < part.dies ∧ b < 16)

/-- The end of an Invar link, or Ihlod port A or B (R340). -/
def Variant.hasLink (part : Variant) (l : Nat) : Bool := decide (l < 4 * part.dies ∨ l = 32 ∨ l = 33)

/-- A Click sequencer: eight on each die, and four of the tile (R381). -/
def Variant.hasSeq (part : Variant) (n : Nat) : Bool := decide (n < 8 * part.dies ∨ 64 ≤ n ∧ n < 68)

/-- A PLL: MGMT, CORE, PHY and the four of the Invar links on every die, TIME and IHLOD on die 0 (R425). -/
def Variant.hasPll (part : Variant) (d n : Nat) : Bool :=
  decide (d < part.dies ∧ (n ≤ 2 ∨ 8 ≤ n ∧ n < 12 ∨ d = 0 ∧ (n = 4 ∨ n = 5)))

/-- A reset domain: nine on every die, the tile's sequencers on die 0 (R426). -/
def Variant.hasDomain (part : Variant) (d i : Nat) : Bool := decide (d < part.dies ∧ (i < 9 ∨ d = 0 ∧ i = 9))

/-! ## Units that every variant has -/

def hostId (h : Nat) : Bool := decide (h < 64)
def groupSlot (h k : Nat) : Bool := decide (h < 64 ∧ 1 ≤ k ∧ k < 8)
def migrationSlot (m : Nat) : Bool := decide (m < 32)
def tenantId (t : Nat) : Bool := decide (t < 1024)
def queueId (q : Nat) : Bool := decide (q < 1024)
def segmentId (x : Nat) : Bool := decide (x < 2)
def txInstance (x : Nat) : Bool := decide (1 ≤ x ∧ x ≤ 4)
def dataPort (x : Nat) : Bool := decide (x < 3)

/-- A requester interface of the package (R34). -/
def Variant.hasIfc (part : Variant) : Iface → Bool
  | .ihlod | .inband | .debug => true
  | .cicada d => part.hasDie d
  | .click n => part.hasSeq n
  | .mailbox t | .counterPage t => tenantId t

/-- Who carries an SPDM message: a port's DOE, or the Ihlod link (R463). -/
def Variant.hasVia (part : Variant) : Option Nat → Bool
  | some p => part.hasPort p
  | none => true

/-- Every unit that a command names is one the variant has. -/
def Instr.wf (part : Variant) : Instr → Bool
  | .read ifc _ _ _ _ | .write ifc _ _ _ _ | .readClear ifc _ _ _ | .errorCount ifc _ | .queryObject ifc _ _
  | .dpOpLoad ifc _ | .dpOpDump ifc _ | .dpOpIdle ifc _ | .dpDataWrite ifc _ _ _ | .dpDataRead ifc _ _ _ | .todLoad ifc _
  | .txOpen ifc _ | .txPrepare ifc _ | .txCommitAt ifc _ | .txAbort ifc _ | .txCancel ifc _ | .linkCtrlRetrain ifc _
  | .linkCtrlDisable ifc _ | .linkCtrlEnable ifc _ | .linkCtrlHotReset ifc _ | .marginCtrl ifc _ _ | .vppbAdmit ifc _ _ _
  | .decAdmit ifc _ _ | .shadowDiscardExtent ifc | .shadowDiscardGranule ifc | .srRecall ifc _ _ | .bankRetire ifc _ _
  | .grpCtrlAbort ifc _ _ | .grpCtrlRelease ifc _ _ | .caAt ifc _ | .capEnable ifc _ _ | .capClear ifc _
  | .cfEnable ifc _ _ | .hwmClear ifc | .tAdmit ifc _ _ | .freeze ifc _ | .thaw ifc _ | .tCmdReset ifc _ | .discard ifc _
  | .qDoorbell ifc _ _ | .qNtfAck ifc _ _ | .qCtrlEnable ifc _ | .qCtrlDisable ifc _ | .qCtrlAbort ifc _
  | .qCtrlReset ifc _ | .d2dCtrlRetrain ifc _ | .laneRetire ifc _ _ | .segCtrlRetrain ifc _ | .chEnable ifc _ _
  | .chDamageClear ifc _ | .sqCmdStart ifc _ | .sqCmdStop ifc _ | .ccActivate ifc | .fsCapValid ifc _ | .retClear ifc _
  | .fcEnterSafe ifc | .pkgReset ifc | .dieReset ifc _ | .blockResetMover ifc _ | .blockResetCapture ifc _
  | .blockResetAuditor ifc _ | .blockResetSequencers ifc _ | .blockResetCounters ifc _ | .blockResetTileSequencers ifc _
  | .modeRequestAux ifc | .modeRequestInit ifc | .modeRequestConfig ifc | .modeRequestLinkup ifc | .modeRequestRun ifc _
  | .modeRequestRunNc ifc | .modeRequestDrain ifc | .modeRequestMaint ifc | .modeRequestUpdate ifc | .rmaEnter ifc
  | .dbgAuth ifc _ | .dbgClose ifc | .dbgMaxLevel ifc _ | .establish ifc _ | .approve ifc _ | .refresh ifc _ | .stop ifc _
  | .pcSelect ifc _ _ _ | .tcSelect ifc _ _ _ | .pcClear ifc _ _ | .tcClear ifc _ _ | .userRead ifc _ _ => part.hasIfc ifc
  | .windowRead _ _ | .windowWrite _ _ | .ftSyncEdge | .ftRefLost | .frequencyWindowEnd _ _ | .slewStep | .holdoverExpired
  | .ftSyncMissing | .timeSyncSend | .apply | .fmApiUnsupported | .dirCleared | .creditAuditStart | .creditAuditGather
  | .hwmSnapshot | .dictRead | .dictWrite | .dpLoad | .dpDump | .tod | .rstArm | .rstGo | .ihlodResetAssert | .assign
  | .echo | .spdm | .channelSample _ _ | .tileLinkLost | .tileLinkRestored | .activationDone | .recoveryWindowClose
  | .powerOn | .powerOnRelease | .sysRstNAssert | .sysRstNRelease | .mainRailsOut | .mainRailsIn | .auxRailsOut
  | .modeChange | .initEnd | .initTimeout | .idcode | .samplePreload | .extest | .clamp | .highz | .dbgAccess | .bypass
  | .dbgAccessNop | .dbgAccessRead _ | .dbgAccessWrite _ _ | .pcSnapshot
  | .dbgAccessHalt _ | .dbgAccessResume _ | .dbgAccessStep _
  | .bindVppb _ _ _ _ _ | .unbindVppb _ _ | .getVirtualCxlSwitchInfo _ => true
  | .mbxRead t _ | .mbxWrite t _ _ | .mbxDone t => tenantId t
  | .dumpStallTimeout x _ => dataPort x
  | .timeSync l | .invarFlit l _ | .faultNotice l | .noticeAck l | .handover l | .laneTestEnd l _ _ | .d2dRetrained l
  | .retrainAttemptTimeout l => part.hasInvar l
  | .syncMessagesMissed d | .tick d | .mapRestore d _ _ _ | .privateAtomic d _ | .shaperRefill d | .rdS d _ _
  | .rdOwn d _ _ | .rdCur d _ _ | .upgrade d _ _ | .atomic d _ | .memoryWriteAck d _ | .allocWaitExpiry d _
  | .sweepEnd d | .scrub d _ _ _ _ | .mark d _ | .claim d _ | .pin d _ | .unpin d _ | .weevilExamine d _
  | .weevilPassEnd d _ | .capStart d | .capStop d | .capRecordWrite d | .faultNoticeRepeat d | .cicadaActFail d
  | .cicadaLockstep d | .cicadaWdt d | .cicadaRunning d _ | .collectorUe d | .resetSourceRelease _ d _
  | .sramSelfTestEnd d _ _ | .partialSend d => part.hasDie d
  | .validationEnds x | .readyTimeout x | .lockPoint x | .stagedCopyError x => txInstance x
  | .presenceDeclared x | .absenceDeclared x => part.hasPort x.port
  | .flitSend f => part.hasLink f.link
  | .sweepStart w => part.hasDie w.die
  | .perstNAssert p | .perstNDeassert p | .perstRelease p
  | .linkUp p _ _ _ _ _ _ _ | .trainTimeout p | .retryPauseEnd p | .recoveryEntry p _ _ | .recoveryExit p _ _ _
  | .dropTimeExpiry p | .deviceResponse p _ _ _ | .cplTimeout p _ | .quarantineEnd p | .flitReceived p _ _ _ _
  | .deviceRequest p _ _ _ _ _ _ _ | .hostCxlIoRequest p _ _ _ _ _ _ _ _ | .hostRequest p _ _ _ _ _ _ _ _
  | .atomicop p _ _ _ _ _ _ | .egressSelect p _ _ | .birsp p _ _ | .biconflict p _ | .stagedWrite p _ _ _ _ _ _
  | .stagedRead p _ _ | .gdbCommit p _ _ | .gdbAbort p _ _ | .gdbRelease p _ _ | .query p _ | .keyProg p _ _ _ _ _
  | .kSetGo p _ _ _ | .kSetStop p _ _ _ => part.hasPort p
  | .marginResponse l _ => part.hasLane l
  | .migDrained m => migrationSlot m
  | .cleanEvict d _ h | .writeback d _ h | .biTimeout d h _ => part.hasDie d && hostId h
  | .bankRetired d bank => part.hasBank d bank
  | .markAck h k _ | .claimResult h k _ | .pinResult h k _ | .applyWriteAck h k _ | .grpCommitWaitExpiry h k => groupSlot h k
  | .groupCancel d h k => part.hasDie d && groupSlot h k
  | .marker l c | .returnMarker l c => part.hasInvar l && decide (c < 5)
  | .piRead q | .piReadReturn q _ _ | .descriptorFetch q _ _ | .descriptorComplete q _ | .recordWord0 q _
  | .ntfDelayExpiry q => queueId q
  | .descriptorStart d e | .moverLineDone d e _ | .engineFault d e => part.hasEngine d e
  | .ihlodFrameUnit x _ _ _ | .segmentUp x _ | .segmentTrainTimeout x | .segmentRetry x => segmentId x
  | .ack l _ | .ackDue l | .nak l _ | .replayTimer l | .credit l _ _ | .heartbeat l | .heartbeatSend l | .windowEnd l
  | .heartbeatMiss l | .framingLost l => part.hasLink l
  | .presenceEdge n _ | .inserted n | .vinOk n | .rampStart n | .slPowerGood n | .pgTimeout n | .slTripFast n
  | .diodeReading n _ _ | .cooldownDone n | .offDelayExpiry n | .slFetDamaged n => part.hasChannel n
  | .sqStartAt n | .halt n | .ldi n | .add n | .sub n | .and n | .or n | .cmp n | .br n | .ldo n | .sto n | .waitt n
  | .waittEnd n | .waite n | .waiteEnd n | .emit n | .txb n | .txc n | .txcEnd n | .call n | .ret n
  | .illegalInstruction n _ | .stepLimit n | .reactionStart n => part.hasSeq n
  | .domainRelease d i => part.hasDomain d i
  | .pllLock d n | .pllUnlock d n | .clockUnstable d n => part.hasPll d n
  | .getCertificate via | .challenge via | .getMeasurements via _ | .keyExchange via | .endSession via _ | .spdmRequest via
    => part.hasVia via

end Sys2Proof
end

