-- ==== Sys2Proof/Safety.lean ====
section
/-! DEFINITION. What counts as a safe run of the block, in the terms that statements use: the canonical form of the state's stores,
the state in which nothing is owed, and the conditions under which a write through an interface is served. -/
namespace Sys2Proof.Machine

/-- The object store lists keys in rising order, no object at its default (R6), and no value beyond the width of its object's type (R36). -/
def State.regsWf (s : State) : Bool :=
  Table.wfBy (fun k => BitVec.ofNat 64 (defaultOf s.variant (Obj.ofKey k))) s.regs &&
    s.regs.all (fun c => heldBy s.variant (Obj.ofKey c.1) c.2 == c.2)

/-- The invariant of every step: the object store and the addressed memories (R455) are in their canonical form. -/
abbrev State.Canonical (s : State) : Prop := s.regsWf = true ∧ Memory.wf s.ram = true

/-- Nothing is owed, and nothing follows by itself: the state is what the command made of it. -/
abbrev State.Quiet (s : State) : Prop := s.acts = [] ∧ s.follow = s

/-- A write of one object that acts at once passes what comes before its owner's check: the interface exists, no MPU and no step of the
debug port refuses it, the range is well formed, and checks 1 to 6 of R39 pass. -/
def State.reachesOwner (s : State) (ifc : Iface) (o : Obj) (v : Nat) : Bool :=
  s.hasIfc ifc && (s.ifcRefused ifc o 1 true).isNone && !s.malformed o 1 && !isWindow o &&
  s.ifcGate ifc o true == stOk && s.writeCheck ifc o true [v] == stOk &&
  (match rowOf s.variant o with
   | some r => r.acc != .rwt && r.slots == 1
   | none => false)

/-- A write of one object that acts at once is served: its owner accepts it too (check 7 of R39). -/
def State.servesWrite (s : State) (ifc : Iface) (o : Obj) (v : Nat) : Bool :=
  s.reachesOwner ifc o v && (s.ownerStatus ifc o v).1 == stOk

/-- A read of one slot is served: the interface exists, no MPU and no step of the debug port refuses it, the range is well formed, and
checks 1 to 4 of R39 pass. -/
def State.servesRead (s : State) (ifc : Iface) (o : Obj) : Bool :=
  s.hasIfc ifc && (s.ifcRefused ifc o 1 false).isNone && !s.malformed o 1 && !isWindow o &&
  s.ifcGate ifc o false == stOk && s.readStatus ifc (s.baseOf o) == stOk

/-- The object is RC: a read of it clears it (R38). -/
def State.clearsOnRead (s : State) (o : Obj) : Bool :=
  match rowOf s.variant (s.baseOf o) with
  | some r => r.acc == .rc
  | none => false

/-- What an access of one object leaves: its outcome in the interface's error record (R49), and the answer to its requester; the in-band
window posts its writes (R44). -/
def State.answersWith (s : State) (ifc : Iface) (o : Obj) (st : Nat) : State :=
  let t := s.logAccess ifc o st
  if ifc = .inband then t else t.send (.status ifc st)

/-- What a served access leaves. -/
abbrev State.acknowledged (s : State) (ifc : Iface) (o : Obj) : State := s.answersWith ifc o stOk

/-- A request of a class is the next of its line at a home, once the waiting absorbs of its bank are done, and the home can serve it
(R155, R157, R158). -/
abbrev State.homeReady (s : State) (d line : Nat) (cls : HomeClass) (q : HomeReq) : Prop :=
  (s.absorbFirst d (lineOf line)).nextOf d (lineOf line) = some q ∧ q.cls = cls ∧ (s.absorbFirst d (lineOf line)).canServe q = true

/-- The state in which a home has served that request. -/
def State.homeServed (s : State) (d line : Nat) (q : HomeReq) (ecc : Nat) : State :=
  ((s.absorbFirst d (lineOf line)).unqueue q).serve q ecc

/-- The node serves the request that it has held longest, of a type and laid out as R350 says: `t` is the state without the request, to
which no answer is kept, while no SPDM message waits (R351). -/
abbrev State.servesFrame (s t : State) (type : Nat) (f : Frame) : Prop :=
  s.ihl.held.head? = some f ∧ f.type = type ∧ s.sec.waiting = none ∧
  t = s.setIhl (fun i => { i with held := i.held.tail, heldAt := i.heldAt.tail, servedAt := i.heldAt.headD (s.mono 0) }) ∧
  t.keptAnswer f = none ∧ badLayout f = false

/-- A run that ends in a next state. A command that names a unit which the package does not have ends in a fault and is no part of
a safe run (R2). -/
def Safe (r : Result) : Prop := ∃ t, r = .next t

end Sys2Proof.Machine
end

