-- ==== Sys2Proof/Certificates/Slice0/Obligations.lean ====
section
/-! DEFINITION. The statements about the model. An effect is named by the definition that the command's meaning calls, with what the
effect leaves in the objects that the rule speaks of; what is owed and follows at once is done by settle. -/
open Sys2Proof Sys2Proof.Machine

/-- Every step keeps the stores in their canonical form. From every state whose object store and memory are in canonical form, a
step that answers a next state answers one whose stores are in canonical form: keys rise, nothing is listed that an unlisted
key reads as, and no object holds more than its type's width, an S32 its sign alone above bit 31. The form is the model's own (log 2); the
objects, their types and the addresses it stores are the spec's. -/
def Obligations.EveryStepKeepsCanonicalForm : Prop :=
  ∀ s t : State, s.Canonical → step s = .next t → t.Canonical

/-- The reset state is in canonical form and nothing waits in it. The stores of the reset state are in canonical form, its queue
is empty, and nothing is owed in it. -/
def Obligations.ResetIsCanonical : Prop :=
  State.reset.Canonical ∧ State.reset.pending = [] ∧ State.reset.acts = []

/-- What reset leaves. In the reset state every object that the variant has reads its default, but for the members that follow
the tile's wakefulness; the mode is AUX, no port is up, no group is open and no queue of the mover runs. The state is the one
after a cold start of an SHF-8180 (the model's choice of variant and moment, log 3). -/
def Obligations.ResetValues : Prop :=
  ((∀ o : Obj, o.key ≠ (⟨0x51, 0, 0⟩ : Obj).key → State.reset.get o = defaultOf .shf8180 o % 2 ^ 64)) ∧
  (State.reset.mode = mAux ∧ State.reset.dies = 8 ∧ State.reset.ports = 128) ∧
  ((∀ p, p < 128 → State.reset.linkState p ≠ lsUp))

/-- A step runs the command at the front of the queue. The block takes the waiting commands first in, first out: a step with a
command at the front is that command's effect on the state with the rest of the queue, and a step with none waiting is one idle
core cycle (the model's choice, log 1). -/
def Obligations.FrontCommandRuns : Prop :=
  ((∀ (s : State) (c : Instr) (rest : List Instr), step { s with pending := c :: rest } = exec c { s with pending := rest })) ∧
  ((∀ s : State, s.pending = [] → step s = .next (settle (fxIdle s))))

/-- A command completes exactly where its units exist. For every command and state, a command whose operands name units of the
package ends in a next state; one that names a unit which the package does not have ends in the fault noSuchUnit, and no command
ends otherwise (the fault is the model's choice, log 4). -/
def Obligations.UnitsThatExist : Prop :=
  ((∀ (c : Instr) (s : State), c.wf s.variant = true → ∃ t, exec c s = .next t)) ∧
  ((∀ (c : Instr) (s : State), c.wf s.variant = false → exec c s = .fault .noSuchUnit))

/-- A refused access changes nothing but its record. A WRITE of one member that fails a check before the owner's, and a READ that fails one,
leave the state as it was but for the record of the access and the answer, which holds the first status that failed. A WRITE or a READ of
1 to 32 slots that is a malformed range, whichever slots it names, a READ_CLEAR of one slot of such a range, a window read and a window write of
8-byte slots that are one, read and write nothing: each slot is recorded and answered BAD_OBJECT, an in-band write with no answer and a
window read with all-ones. -/
def Obligations.RefusedAccessChangesNothing : Prop :=
  (∀ (s : State) (ifc : Iface) (c i m : Nat) (v : Word) (r : Row), s.hasIfc ifc = true → ifc ≠ .inband → (s.ifcRefused ifc ⟨c, i, m⟩ 1 true) = none →
      s.malformed ⟨c, i, m⟩ 1 = false → isWindow ⟨c, i, m⟩ = false → rowOf s.variant ⟨c, i, m⟩ = some r → r.slots = 1 →
      s.ifcGate ifc ⟨c, i, m⟩ true = stOk → s.writeCheck ifc ⟨c, i, m⟩ true [v.toNat] ≠ stOk →
      exec (.write ifc c i m [v]) s = .next (settle ((s.logAccess ifc ⟨c, i, m⟩ (s.writeCheck ifc ⟨c, i, m⟩ true [v.toNat])).send
        (.status ifc (s.writeCheck ifc ⟨c, i, m⟩ true [v.toNat]))))) ∧
  (∀ (s : State) (ifc : Iface) (c i m : Nat) (vs : List Word), s.hasIfc ifc = true → 1 ≤ vs.length → vs.length ≤ 32 →
      (s.ifcRefused ifc ⟨c, i, m⟩ vs.length true) = none → s.malformed ⟨c, i, m⟩ vs.length = true →
      exec (.write ifc c i m vs) s = .next (settle (if ifc = .inband then s.logSlots ifc ⟨c, i, m⟩ vs.length stBadObject else
        forEach (List.replicate vs.length stBadObject) (fun st a => a.send (.status ifc st)) (s.logSlots ifc ⟨c, i, m⟩ vs.length stBadObject)))) ∧
  (∀ (s : State) (ifc : Iface) (c i m n : Nat), s.hasIfc ifc = true → 1 ≤ n → n ≤ 32 → (s.ifcRefused ifc ⟨c, i, m⟩ n false) = none →
      s.malformed ⟨c, i, m⟩ n = true →
      exec (.read ifc c i m n) s = .next (settle (forEach (List.replicate n (stBadObject, 0)) (fun r a => a.send (.value ifc r.1 r.2))
        (s.logSlots ifc ⟨c, i, m⟩ n stBadObject)))) ∧
  (∀ (s : State) (ifc : Iface) (c i m : Nat), s.hasIfc ifc = true → (s.ifcRefused ifc ⟨c, i, m⟩ 1 false) = none → s.malformed ⟨c, i, m⟩ 1 = true →
      exec (.readClear ifc c i m) s = .next (settle ((s.logAccess ifc ⟨c, i, m⟩ stBadObject).send (.value ifc stBadObject 0)))) ∧
  (∀ (s : State) (off len : Nat), windowForm off len = true → len ≠ 4 → s.malformed (slotAt off) (len / 8) = true →
      exec (.windowRead off len) s = .next (settle ((s.logSlots .inband (slotAt off) (len / 8) stBadObject).send
        (.bytes .inband (List.replicate len 255))))) ∧
  (∀ (s : State) (off : Nat) (data : List Byte), windowForm off data.length = true → data.length ≠ 4 →
      s.malformed (slotAt off) (data.length / 8) = true →
      exec (.windowWrite off data) s = .next (settle (s.logSlots .inband (slotAt off) (data.length / 8) stBadObject))) ∧
  (∀ (s : State) (ifc : Iface) (c i m : Nat), s.hasIfc ifc = true → (s.ifcRefused ifc ⟨c, i, m⟩ 1 false) = none →
      s.malformed ⟨c, i, m⟩ 1 = false → isWindow ⟨c, i, m⟩ = false → s.ifcGate ifc ⟨c, i, m⟩ false = stOk →
      s.readStatus ifc (s.baseOf ⟨c, i, m⟩) ≠ stOk →
      exec (.read ifc c i m 1) s = .next (settle ((s.logAccess ifc ⟨c, i, m⟩ (s.readStatus ifc (s.baseOf ⟨c, i, m⟩))).send
        (.value ifc (s.readStatus ifc (s.baseOf ⟨c, i, m⟩)) 0))))

/-- What SAFE accepts. In SAFE a write with its right to an object that the dictionary serves is not refused for the mode where
the object is of the listed classes or W1C, and every other such write is refused with BUSY and is no write; a LOAD start whose
space, offset and length are good is refused with BUSY. -/
def Obligations.SafeModeWrites : Prop :=
  (∀ (s : State) (ifc : Iface) (o : Obj) (r : Row) (form : Bool) (vs : List Nat), s.mode = mSafe → rowOf s.variant o = some r → 2 ≤ s.rightTo ifc o r →
      s.writeAllowed ifc o r = stOk → s.ifcGate ifc o true = stOk →
      o.cls ∉ [0x02, 0x03, 0x05, 0x14, 0x40, 0x41, 0x50, 0x51, 0x7F, 0x7E] → r.acc ≠ .w1c → s.writeObj ifc o form vs = (stBusy, s)) ∧
  (∀ (s : State) (ifc : Iface) (o : Obj) (r : Row), s.mode = mSafe → rowOf s.variant o = some r → 2 ≤ s.rightTo ifc o r →
      s.writeAllowed ifc o r = stOk → s.servesObj o = true → r.config = false → s.objRetired o = false →
      (o.cls ∈ [0x02, 0x03, 0x05, 0x14, 0x40, 0x41, 0x50, 0x51, 0x7F, 0x7E] ∨ r.acc = .w1c) → s.writeStatus ifc o = stOk) ∧
  (∀ (s : State) (x size : Nat), s.mode = mSafe → s.spaceSize (s.get (O.DP_ADDR x) / 2 ^ 56) = some size →
      spacePermits (s.get (O.DP_ADDR x) / 2 ^ 56) dpLoad = true → s.get (O.DP_ADDR x) % 256 = 0 → s.get (O.DP_LENGTH x) ≠ 0 →
      s.get (O.DP_LENGTH x) % 8 = 0 → s.get (O.DP_ADDR x) % 2 ^ 56 + s.get (O.DP_LENGTH x) ≤ size →
      (s.get (O.DP_ADDR x) / 2 ^ 56 ≠ 0x21 ∨
        (unitsIn 0x1000 (s.get (O.DP_ADDR x) % 2 ^ 56) (s.get (O.DP_LENGTH x))).any (fun n => !s.seqExists n) = false) →
      (s.dpStartStatus x dpLoad).1 = stBusy)

/-- The credentials that each state permits. A request of level l with credential c (0 NONE, 1 OWNER, 2 MAELLIS) that is not
locked out and asks for no more than DBG_MAX_LEVEL: MANUFACTURE permits NONE at any level, with no signature checked, and
refuses the others; SECURED refuses NONE, permits OWNER at every level to FULL and MAELLIS to OBSERVE; RMA permits MAELLIS
alone, to FULL. A permitted credential of SECURED or RMA opens the level exactly when its proof is good. -/
def Obligations.PermittedCredentials : Prop :=
  (∀ (s : State) (l c : Nat), 1 ≤ l → l ≤ 3 → c ≤ 2 → l ≤ s.get O.DBG_MAX_LEVEL → s.get O.DBG_LOCKOUT_UNTIL ≤ s.now 0 →
      s.get O.SEC_STATE = secManufacture → s.authStatus (l + 256 * c) = if c = 0 then stOk else stDenied) ∧
  (∀ (s : State) (l c : Nat), 1 ≤ l → l ≤ 3 → c ≤ 2 → l ≤ s.get O.DBG_MAX_LEVEL → s.get O.DBG_LOCKOUT_UNTIL ≤ s.now 0 →
      s.get O.SEC_STATE = secSecured → s.authStatus (l + 256 * c) =
        if c = 1 ∨ (c = 2 ∧ l = 1) then (if s.debugProof l c = true then stOk else stProtection) else stDenied) ∧
  (∀ (s : State) (l c : Nat), 1 ≤ l → l ≤ 3 → c ≤ 2 → l ≤ s.get O.DBG_MAX_LEVEL → s.get O.DBG_LOCKOUT_UNTIL ≤ s.now 0 →
      s.get O.SEC_STATE = secRma → s.authStatus (l + 256 * c) =
        if c = 2 then (if s.debugProof l c = true then stOk else stProtection) else stDenied)

/-- The wait of a group's commit. A group that is still COMMITTING when GRP_COMMIT_WAIT has passed since its COMMIT was served
becomes ABORTED with TIMEOUT. -/
def Obligations.GroupCommitWait : Prop :=
  ∀ (s : State) (h k : Nat), s.Canonical → hasGroup h k = true → s.grpState h k = grpCommitting →
      (s.group h k).commitAt + s.get O.GRP_COMMIT_WAIT ≤ s.elapsed (s.hostDie h) →
      exec (.grpCommitWaitExpiry h k) s = .next (settle (s.groupAbort h k stTimeout causeTimeout)) ∧
      (s.groupAbort h k stTimeout causeTimeout).get (O.GRP_STATE h k) = grpAborted ∧
      (s.groupAbort h k stTimeout causeTimeout).get (O.GRP_STATUS h k) = stTimeout

/-- A write of a W1C object clears the bits written as 1. A served write of a W1C object other than FS_CAP_VALID leaves each bit
that was written as 0 and clears each bit that was written as 1. -/
def Obligations.ClearedBits : Prop :=
  ∀ (s : State) (ifc : Iface) (c i m : Nat) (v : Word) (r : Row), s.Canonical → s.servesWrite ifc ⟨c, i, m⟩ v.toNat = true →
      rowOf s.variant ⟨c, i, m⟩ = some r → r.acc = .w1c → ¬ (c = 0x40 ∧ m = 0x05) → (s.ownerStatus ifc ⟨c, i, m⟩ v.toNat).2 = s →
      exec (.write ifc c i m [v]) s = .next (settle ((s.put ⟨c, i, m⟩ (maskWithout (s.get ⟨c, i, m⟩) v.toNat)).acknowledged ifc ⟨c, i, m⟩)) ∧
      (∀ j, j < 64 → ((s.put ⟨c, i, m⟩ (maskWithout (s.get ⟨c, i, m⟩) v.toNat)).get ⟨c, i, m⟩).testBit j =
        ((s.get ⟨c, i, m⟩).testBit j && !v.toNat.testBit j))

/-- What commands that write objects leave unchanged. Closing debug, opening the counter page, closing the recovery window, and
the Click arithmetic of a sequencer change no object but theirs, beside the interface's error record in class 7F, and no byte of
memory: where nothing else is owed, the next state is the one stated, and every other object and every byte reads as before. -/
def Obligations.ObjectFrames : Prop :=
  (∀ (s : State) (ifc : Iface), s.Canonical → s.servesWrite ifc O.DBG_CLOSE 1 = true → ((s.put O.DBG_LEVEL 0).acknowledged ifc O.DBG_CLOSE).Quiet →
      ∃ t, exec (.dbgClose ifc) s = .next t ∧ t.get O.DBG_LEVEL = 0 ∧ (∀ a, t.readByte a = s.readByte a) ∧
        (∀ o : Obj, o.cls < 256 → o.mem < 256 → o.cls ≠ 0x7F → o ≠ O.DBG_LEVEL → t.get o = s.get o)) ∧
  (∀ (s : State) (ifc : Iface) (n : Nat) (b : Word), s.Canonical → n < 1024 → s.servesWrite ifc (O.USER_READ n) b.toNat = true →
      ((s.put (O.USER_READ n) b.toNat).acknowledged ifc (O.USER_READ n)).Quiet →
      ∃ t, exec (.userRead ifc n b) s = .next t ∧ t.get (O.USER_READ n) = b.toNat ∧ (∀ a, t.readByte a = s.readByte a) ∧
        (∀ o : Obj, o.cls < 256 → o.mem < 256 → o.cls ≠ 0x7F → o ≠ O.USER_READ n → t.get o = s.get o)) ∧
  (∀ s : State, s.Canonical → (s.put O.FC_STATE 0).Quiet → s.get O.FC_STATE = 1 → s.flt.windowTick + s.get O.FC_WINDOW ≤ s.now 0 →
      ∃ t, exec .recoveryWindowClose s = .next t ∧ t.get O.FC_STATE = 0 ∧ (∀ a, t.readByte a = s.readByte a) ∧
        (∀ o : Obj, o.cls < 256 → o.mem < 256 → o ≠ O.FC_STATE → t.get o = s.get o)) ∧
  (∀ (s : State) (n : Nat) (x : SqIns), s.Canonical → s.seqExists n = true → s.sqNext n opAdd = some x → s.get (O.SQ_PC n) < 1023 → (fxAdd n s).Quiet →
      ∃ t, exec (.add n) s = .next t ∧ t.sqReg n x.rd = (s.sqReg n x.ra + s.sqOp2 n x) % 2 ^ 32 ∧ (∀ a, t.readByte a = s.readByte a) ∧
        (∀ o : Obj, o.cls < 256 → o.mem < 256 → o ≠ O.SQ_REG n x.rd → o ≠ O.SQ_PC n → t.get o = s.get o)) ∧
  (∀ (s : State) (n : Nat) (x : SqIns), s.Canonical → s.seqExists n = true → s.sqNext n opLdi = some x → s.get (O.SQ_PC n) < 1023 → (fxLdi n s).Quiet →
      ∃ t, exec (.ldi n) s = .next t ∧ t.sqReg n x.rd = (if x.h then x.imm * 65536 + s.sqReg n x.rd % 65536 else x.imm) % 2 ^ 32 ∧ (∀ a, t.readByte a = s.readByte a) ∧
        (∀ o : Obj, o.cls < 256 → o.mem < 256 → o ≠ O.SQ_REG n x.rd → o ≠ O.SQ_PC n → t.get o = s.get o)) ∧
  (∀ (s : State) (n : Nat) (x : SqIns), s.Canonical → s.seqExists n = true → s.sqNext n opSub = some x → s.get (O.SQ_PC n) < 1023 → (fxSub n s).Quiet →
      ∃ t, exec (.sub n) s = .next t ∧ t.sqReg n x.rd = (s.sqReg n x.ra + 2 ^ 32 - s.sqOp2 n x) % 2 ^ 32 ∧ (∀ a, t.readByte a = s.readByte a) ∧
        (∀ o : Obj, o.cls < 256 → o.mem < 256 → o ≠ O.SQ_REG n x.rd → o ≠ O.SQ_PC n → t.get o = s.get o)) ∧
  (∀ (s : State) (n : Nat) (x : SqIns), s.Canonical → s.seqExists n = true → s.sqNext n opAnd = some x → s.get (O.SQ_PC n) < 1023 → (fxAnd n s).Quiet →
      ∃ t, exec (.and n) s = .next t ∧ t.sqReg n x.rd = Nat.land (s.sqReg n x.ra) (s.sqOp2 n x) % 2 ^ 32 ∧ (∀ a, t.readByte a = s.readByte a) ∧
        (∀ o : Obj, o.cls < 256 → o.mem < 256 → o ≠ O.SQ_REG n x.rd → o ≠ O.SQ_PC n → t.get o = s.get o)) ∧
  (∀ (s : State) (n : Nat) (x : SqIns), s.Canonical → s.seqExists n = true → s.sqNext n opOr = some x → s.get (O.SQ_PC n) < 1023 → (fxOr n s).Quiet →
      ∃ t, exec (.or n) s = .next t ∧ t.sqReg n x.rd = Nat.lor (s.sqReg n x.ra) (s.sqOp2 n x) % 2 ^ 32 ∧ (∀ a, t.readByte a = s.readByte a) ∧
        (∀ o : Obj, o.cls < 256 → o.mem < 256 → o ≠ O.SQ_REG n x.rd → o ≠ O.SQ_PC n → t.get o = s.get o)) ∧
  (∀ (s : State) (n : Nat) (x : SqIns), s.Canonical → s.seqExists n = true → s.sqNext n opCmp = some x → s.get (O.SQ_PC n) < 1023 → (fxCmp n s).Quiet →
      ∃ t, exec (.cmp n) s = .next t ∧ (∀ a, t.readByte a = s.readByte a) ∧
        (∀ o : Obj, o.cls < 256 → o.mem < 256 → o ≠ O.SQ_FLAGS n → o ≠ O.SQ_PC n → t.get o = s.get o))

/-- What a debug write to memory stores, and what it leaves. A debug WRITE of 8 bytes that passes its checks stores its data,
least significant byte first, at the address that its operand names, and leaves every other byte of memory and every object as
they were; a debug READ that passes its checks leaves every byte and every object as they were. -/
def Obligations.MemoryFrames : Prop :=
  (∀ (s : State) (a v : Word), s.Canonical → s.debugReady = true → a.toNat % 8 = 0 → s.debugStatus a.toNat true = stOk → spaceOf a.toNat ≠ spDict →
      spaceOf a.toNat ≠ spFabric → ((s.writeBytes (debugMemory a.toNat) (bytesOf v.toNat 8)).debugDone stOk 0).Quiet →
      ∃ t, exec (.dbgAccessWrite a v) s = .next t ∧
        (∀ k, k < 8 → t.readByte (debugMemory a.toNat + k) = BitVec.ofNat 8 (v.toNat / 2 ^ (8 * k))) ∧
        (∀ b, (b < debugMemory a.toNat ∨ debugMemory a.toNat + 8 ≤ b) → t.readByte b = s.readByte b) ∧ (∀ o, t.get o = s.get o)) ∧
  (∀ (s : State) (a : Word), s.Canonical → s.debugReady = true → a.toNat % 8 = 0 → s.debugStatus a.toNat false = stOk → spaceOf a.toNat ≠ spDict →
      spaceOf a.toNat ≠ spFabric → (s.debugDone stOk (ofBytes (s.readBytes (debugMemory a.toNat) 8))).Quiet →
      ∃ t, exec (.dbgAccessRead a) s = .next t ∧ (∀ b, t.readByte b = s.readByte b) ∧ (∀ o, t.get o = s.get o))

/-- Served reads of the dictionary. A served read of one member answers its value with OK and changes nothing but the error
record; a served read of an RC object clears it; a read of ERROR_COUNT clears the first error too; an 8-byte read through the
window answers the member's bytes and one of a form that no window access has answers all-ones and is recorded; a mailbox read
that the host's port and its POOL vPPB let through waits with MBX_BUSY set, from the core cycle in which it came, and ends in its turn with
the value and OK. -/
def Obligations.DictionaryReads : Prop :=
  (∀ (s : State) (ifc : Iface) (c i m : Nat), s.servesRead ifc ⟨c, i, m⟩ = true → s.clearsOnRead ⟨c, i, m⟩ = false →
      exec (.read ifc c i m 1) s = .next (settle ((s.logAccess ifc ⟨c, i, m⟩ stOk).send (.value ifc stOk (s.readObj ⟨c, i, m⟩))))) ∧
  (∀ (s : State) (ifc : Iface) (c i m : Nat), s.servesRead ifc ⟨c, i, m⟩ = true → s.clearsOnRead ⟨c, i, m⟩ = true → c ≠ 0x7F →
      exec (.readClear ifc c i m) s =
        .next (settle (((s.clear ⟨c, i, m⟩).logAccess ifc ⟨c, i, m⟩ stOk).send (.value ifc stOk (s.readObj ⟨c, i, m⟩))))) ∧
  (∀ (s : State) (ifc : Iface) (x : Nat), s.servesRead ifc (O.ERROR_COUNT x) = true → s.clearsOnRead (O.ERROR_COUNT x) = true →
      exec (.errorCount ifc x) s =
        .next (settle (((((s.clear (O.ERROR_COUNT x)).clear (O.FIRST_ERROR_STATUS x)).clear (O.FIRST_ERROR_OBJECT x)).logAccess ifc
          (O.ERROR_COUNT x) stOk).send (.value ifc stOk (s.readObj (O.ERROR_COUNT x)))))) ∧
  (∀ (s : State) (off : Nat), windowForm off 8 = true → s.servesRead .inband (slotAt off) = true → s.clearsOnRead (slotAt off) = false →
      exec (.windowRead off 8) s = .next (settle ((s.logAccess .inband (slotAt off) stOk).send
        (.bytes .inband (bytesOf (s.readObj (slotAt off)) 8))))) ∧
  (∀ (s : State) (off len : Nat), windowForm off len = false →
      exec (.windowRead off len) s = .next (settle ((s.logAccess .inband (slotAt off) stBadValue).send
        (.bytes .inband (List.replicate len 255))))) ∧
  (∀ (s u : State) (t p w : Nat) (obj : Word), t < 1024 → s.windowWay t = some (p, w) → s.get (O.VPPB_ADMIT (s.tenantHost t) w) ≠ 0 →
      (s.dict.mailbox.at t).busy = false →
      u = s.setMailbox t (fun m => { m with object := obj.toNat % 2 ^ 28, op := 1, busy := true }) →
      exec (.mbxRead t obj) s = .next (settle (u.setMailbox t (fun m => { m with since := u.mono (u.mbxDie t) })))) ∧
  (∀ (s : State) (t : Nat) (m : Mailbox), t < 1024 → s.dict.mailbox.at t = m → m.busy = true → m.op = 1 → s.mbxNext t = true →
      s.servesRead (.mailbox t) (Obj.ofNumber m.object) = true → s.clearsOnRead (Obj.ofNumber m.object) = false →
      exec (.mbxDone t) s = .next (settle (s.setMailbox t (fun m =>
        { m with busy := false, op := 0, status := stOk, value := s.readObj (Obj.ofNumber m.object) }))))

/-- Served writes of the dictionary. Under the conditions of its clause: a WRITE of an object that acts at once has the effect that
State.effect gives the object, is recorded OK and is answered OK; a WRITE of an RW-T object by an interface whose transaction has
staged nothing stages it as the transaction's one write; a WINDOW_WRITE of 8 bytes has the same effect and is posted, and one whose
form no window access has is recorded BAD_VALUE; an MBX_WRITE that the host's port and its POOL vPPB let through to an idle mailbox holds its object and
value and sets MBX_BUSY from this cycle on; a QUERY_OBJECT writes the description and the default of the object that it names to
QUERY_RESULT and QUERY_DEFAULT. -/
def Obligations.DictionaryWrites : Prop :=
  (∀ (s : State) (ifc : Iface) (c i m : Nat) (v : Word) (r : Row), s.servesWrite ifc ⟨c, i, m⟩ v.toNat = true → rowOf s.variant ⟨c, i, m⟩ = some r →
      exec (.write ifc c i m [v]) s = .next (settle (((s.ownerStatus ifc ⟨c, i, m⟩ v.toNat).2.effect ⟨c, i, m⟩ r v.toNat).acknowledged ifc ⟨c, i, m⟩))) ∧
  (∀ (s : State) (ifc : Iface) (c i m x : Nat) (v : Word) (r : Row), s.hasIfc ifc = true → s.ifcRefused ifc ⟨c, i, m⟩ 1 true = none →
      s.malformed ⟨c, i, m⟩ 1 = false → isWindow ⟨c, i, m⟩ = false → rowOf s.variant ⟨c, i, m⟩ = some r → r.slots = 1 → r.acc = .rwt →
      s.ifcGate ifc ⟨c, i, m⟩ true = stOk → ifcTx ifc = some x → s.writeCheck ifc ⟨c, i, m⟩ true [v.toNat] = stOk → (s.tx.at x).staged = [] →
      exec (.write ifc c i m [v]) s = .next (settle ((s.setTx x (fun t => { t with staged := t.staged ++ [⟨Obj.number ⟨c, i, m⟩, [v.toNat]⟩] })).acknowledged
        ifc ⟨c, i, m⟩))) ∧
  (∀ (s : State) (data : List Byte) (off : Nat) (r : Row), data.length = 8 → windowForm off 8 = true →
      s.servesWrite .inband (slotAt off) (ofBytes data) = true → rowOf s.variant (slotAt off) = some r →
      exec (.windowWrite off data) s = .next (settle (((s.ownerStatus .inband (slotAt off) (ofBytes data)).2.effect (slotAt off) r
        (ofBytes data)).acknowledged .inband (slotAt off)))) ∧
  (∀ (s : State) (data : List Byte) (off : Nat), windowForm off data.length = false →
      exec (.windowWrite off data) s = .next (settle (s.logAccess .inband (slotAt off) stBadValue))) ∧
  (∀ (s u : State) (t p w : Nat) (obj v : Word), t < 1024 → s.windowWay t = some (p, w) → s.get (O.VPPB_ADMIT (s.tenantHost t) w) ≠ 0 →
      (s.dict.mailbox.at t).busy = false →
      u = s.setMailbox t (fun m => { m with object := obj.toNat % 2 ^ 28, value := v.toNat, op := 2, busy := true }) →
      exec (.mbxWrite t obj v) s = .next (settle (u.setMailbox t (fun m => { m with since := u.mono (u.mbxDie t) })))) ∧
  (∀ (s : State) (ifc : Iface) (x : Nat) (v : Word), s.servesWrite ifc (O.QUERY_OBJECT x) v.toNat = true →
      exec (.queryObject ifc x v) s = .next (settle ((((s.put (O.QUERY_OBJECT x) v.toNat).put (O.QUERY_RESULT x)
        (s.describe (Obj.ofNumber v.toNat)).1).put (O.QUERY_DEFAULT x) (s.describe (Obj.ofNumber v.toNat)).2).acknowledged ifc (O.QUERY_OBJECT x))))

/-- The data port's operations and its window. Under the conditions of its clause: DP_OP_LOAD and DP_OP_DUMP leave DP_STATE ACTIVE,
DP_STATUS OK, DP_COUNT 0 and DP_CRC 0 and note where the operation starts, and a LOAD does to the units of spaces 18, 20 and 21 what
its clause gives; DP_OP_IDLE of an operation that is ACTIVE ends it FAILED with ABORTED; DUMP_STALL_TIMEOUT of a slot that nothing
of the Ihlod link waits for, of another space than the capture ring's, is recorded and answered TIMEOUT (all-ones through the window; that instance 2 answers die 0's pair is the model's choice, log 80) and leaves
everything else; a DP_DATA_WRITE
of one slot that the burst takes leaves what State.dpWrite gives and is answered OK; a DP_DATA_READ of one slot that the burst serves is
answered OK with the value of State.dpRead. -/
def Obligations.DataPort : Prop :=
  (∀ (s t : State) (ifc : Iface) (x : Nat), s.servesWrite ifc (O.DP_OP x) 1 = true →
      t = (((((s.put (O.DP_OP x) 1).put (O.DP_STATE x) dpActive).put (O.DP_STATUS x) stOk).put (O.DP_COUNT x) 0).put (O.DP_CRC x) 0).setPort7E x
        (fun _ => { start := s.get (O.DP_ADDR x) % 2 ^ 56, slot := 0, crc := crcStart }) →
      exec (.dpOpLoad ifc x) s = .next (settle ((
        if s.get (O.DP_ADDR x) / 2 ^ 56 = 0x18 then
          forEach (unitsIn 0x10000 (s.get (O.DP_ADDR x) % 2 ^ 56) (s.get (O.DP_LENGTH x))) (fun u a => a.imageLoading u) t
        else if s.get (O.DP_ADDR x) / 2 ^ 56 = 0x20 then t.noteStaging false
        else if s.get (O.DP_ADDR x) / 2 ^ 56 = 0x21 then
          forEach (unitsIn 0x1000 (s.get (O.DP_ADDR x) % 2 ^ 56) (s.get (O.DP_LENGTH x))) (fun n a => a.put (O.SQ_VALID n) 0) t
        else t).acknowledged ifc (O.DP_OP x)))) ∧
  (∀ (s : State) (ifc : Iface) (x : Nat), s.servesWrite ifc (O.DP_OP x) 2 = true →
      exec (.dpOpDump ifc x) s = .next (settle (((((((s.put (O.DP_OP x) 2).put (O.DP_STATE x) dpActive).put (O.DP_STATUS x) stOk).put
        (O.DP_COUNT x) 0).put (O.DP_CRC x) 0).setPort7E x
        (fun _ => { start := s.get (O.DP_ADDR x) % 2 ^ 56, slot := 0, crc := crcStart })).acknowledged ifc (O.DP_OP x)))) ∧
  (∀ (s : State) (ifc : Iface) (x : Nat), s.servesWrite ifc (O.DP_OP x) 0 = true → s.get (O.DP_STATE x) = dpActive →
      exec (.dpOpIdle ifc x) s = .next (settle (((((s.dpSpoil x).put (O.DP_STATE x) 3).put (O.DP_STATUS x) stAborted).put (O.DP_OP x) 0).acknowledged
        ifc (O.DP_OP x)))) ∧
  (∀ (s : State) (x slot : Nat), x < 3 → slot < 32 → s.windowOpen x dpDump = true → s.get (O.DP_STATE x) = dpActive →
      s.get (O.DP_ADDR x) / 2 ^ 56 ≠ 0x10 →
      s.readStatus (portIfc x) ⟨0x7E, x, 0x20⟩ = stOk → s.burstStatus x dpDump slot = (stOk, s) → (x = 0 → s.frameReads slot = none) →
      exec (.dumpStallTimeout x slot) s = .next (settle ((s.logAccess (portIfc x) (O.DP_DATA x slot) stTimeout).send
        (if x = 1 then .bytes .inband (List.replicate 8 255) else .value (portIfc x) stTimeout 0)))) ∧
  (∀ (s : State) (ifc : Iface) (x slot : Nat) (v : Word), s.hasIfc ifc = true → ifc ≠ .inband → x < 3 → slot < 32 →
      s.ifcRefused ifc (O.DP_DATA x slot) 1 true = none → s.malformed (O.DP_DATA x slot) 1 = false → s.ifcGate ifc (O.DP_DATA x slot) true = stOk →
      s.writeStatus ifc ⟨0x7E, x, 0x20⟩ = stOk → (s.dpWrite x slot [v.toNat]).1 = stOk →
      exec (.dpDataWrite ifc x slot [v]) s = .next (settle (((s.dpWrite x slot [v.toNat]).2.logAccess ifc (O.DP_DATA x slot) stOk).send (.status ifc stOk)))) ∧
  (∀ (s : State) (ifc : Iface) (x slot w : Nat) (t : State), s.hasIfc ifc = true → x < 3 → slot < 32 →
      s.ifcRefused ifc (O.DP_DATA x slot) 1 false = none → s.malformed (O.DP_DATA x slot) 1 = false → s.ifcGate ifc (O.DP_DATA x slot) false = stOk →
      s.readStatus ifc ⟨0x7E, x, 0x20⟩ = stOk → s.dpRead x slot 1 = (stOk, [w], t) →
      exec (.dpDataRead ifc x slot 1) s = .next (settle ((t.logAccess ifc (O.DP_DATA x slot) stOk).send (.value ifc stOk w))))

/-- The reference, FT_SYNC, a slew, holdover and TOD_LOAD. Under the conditions of its clause: FT_REF_LOST in LOCKED leaves FT_STATE HOLDOVER
with HOLDOVER_START the count, FT_FLAGS bit 0 set and the loss raised; FREQUENCY_WINDOW_END, 1,024 ft after the
window before, without edges loses a good reference, the next window then counting whole, and as the
second good window in HOLDOVER leaves ACQUIRING; FT_SYNC_EDGE in LOCKED with offset 0 records it, and with another offset records it, sets
FT_FLAGS bit 2 and raises SYNC_ERROR; SLEW_STEP with two sub-ticks left leaves one; HOLDOVER_EXPIRED leaves EXPIRED, sets FT_FLAGS bit 4 and
raises its source; FT_SYNC_MISSING sets FT_FLAGS bit 1 and raises its source; a served TOD_LOAD holds its value and arms the load. -/
def Obligations.TimeReference : Prop :=
  (∀ s : State, s.Canonical → s.clk.refEdges = true → s.ftState = ftLocked →
      exec .ftRefLost s = .next (settle (s.loseRef false)) ∧ (s.loseRef false).clk.refGood = false ∧ (s.loseRef false).ftState = ftHoldover ∧
      (s.loseRef false).get O.HOLDOVER_START = s.now 0 % 2 ^ 64 ∧ (s.loseRef false).bit O.FT_FLAGS 0 = true ∧
      Act.raise F.FT_REF_LOST 0 0 0xFFFF 0 ∈ (s.loseRef false).acts) ∧
  (∀ (s : State) (ppm : Int), s.now 0 % 1024 = 0 → s.windowEnds = true → s.clk.refGood = true →
      exec (.frequencyWindowEnd false ppm) s =
        .next (settle ((({ s with clk := { s.clk with refEdges := false, windowSpoilt := false, windowAt := s.elapsed 0 } } : State).loseRef false).newWindow))) ∧
  (∀ (s : State) (ppm : Int), s.now 0 % 1024 = 0 → s.windowEnds = true → s.clk.refEdges = true → s.clk.windowSpoilt = false → s.clk.refGood = false →
      ppm.natAbs ≤ 200 → s.clk.goodWindows = 1 → s.ftState = ftHoldover →
      exec (.frequencyWindowEnd true ppm) s = .next (settle (({ s with clk := { s.clk with
        refEdges := true, windowSpoilt := false, windowAt := s.elapsed 0, goodWindows := 2, refGood := true, acquiringFrom := ftHoldover } } : State).put O.FT_STATE ftAcquiring))) ∧
  (∀ s : State, s.clk.refEdges = true → s.ftState = ftLocked → s.syncOffset = 0 →
      ({ s with clk := { s.clk with syncSeen := s.elapsed 0, syncMissed := false } } : State).todDue = false →
      exec .ftSyncEdge s = .next (settle (({ s with clk := { s.clk with syncSeen := s.elapsed 0, syncMissed := false } } : State).put
        O.SYNC_OFFSET 0))) ∧
  (∀ s : State, s.Canonical → s.clk.refEdges = true → s.ftState = ftLocked → s.syncOffset ≠ 0 →
      ({ s with clk := { s.clk with syncSeen := s.elapsed 0, syncMissed := false } } : State).todDue = false →
      exec .ftSyncEdge s = .next (settle (((({ s with clk := { s.clk with syncSeen := s.elapsed 0, syncMissed := false } } : State).put
        O.SYNC_OFFSET (ofS32 s.syncOffset)).setBit O.FT_FLAGS 2 true).raiseDie 0 F.SYNC_ERROR))) ∧
  (∀ s : State, s.ftState = ftAcquiring → s.clk.slewLeft = 2 → s.clk.slewAt + 64 ≤ s.elapsed 0 →
      exec .slewStep s = .next (settle { s with clk := { s.clk with slewLeft := 1, slewAt := s.elapsed 0 } })) ∧
  (∀ s : State, s.ftState = ftHoldover → s.get O.HOLDOVER_START + s.get O.HOLDOVER_LIMIT + 1 ≤ s.now 0 →
      exec .holdoverExpired s =
        .next (settle (((s.put O.FT_STATE ftExpired).setBit O.FT_FLAGS 4 true).raiseDie 0 F.HOLDOVER_EXPIRED))) ∧
  (∀ s : State, s.ftState = ftLocked → s.clk.syncMissed = false → s.clk.syncSeen + 27500000 ≤ s.elapsed 0 →
      exec .ftSyncMissing s = .next (settle ((({ s with clk := { s.clk with syncMissed := true } } : State).setBit O.FT_FLAGS 1 true).raiseDie 0
        F.FT_SYNC_MISSING))) ∧
  (∀ (s : State) (ifc : Iface) (v : Word), s.servesWrite ifc O.TOD_LOAD v.toNat = true →
      exec (.todLoad ifc v) s = .next (settle (((({ s with clk := { s.clk with todValue := v.toNat, todAt := s.elapsed 0 } } : State).put
        O.TOD_LOAD v.toNat).put O.TOD_ARMED 1).acknowledged ifc O.TOD_LOAD)))

/-- The ticks and the dies' copies of time. Under the conditions of its clause: a TICK of a die whose counter runs adds one to its FT_NOW
and to its elapsed ticks and makes its sub-ticks 0; TIME_SYNC_SEND in a 25th tick of die 0 sends a message to each die that die 0 sends to
by itself; SYNC_MESSAGES_MISSED flags a loaded die that has seen none for 200 ticks, sets FT_FLAGS bit 5 and raises DIE_SKEW; a TIME_SYNC
for another die goes on towards it with one hop more; one for this die, whose copy is unloaded, loads the copy with its stamp and the link's
delay, and goes on likewise to the dies that die 0 reaches through this one. -/
def Obligations.DieTime : Prop :=
  (∀ (s : State) (d : Nat), d < s.dies → s.counting d = true → s.now d + 1 < 2 ^ 64 →
      exec (.tick d) s = .next (settle (fxTickCounted d s)) ∧ (fxTickCounted d s).now d = s.now d + 1 ∧
      (fxTickCounted d s).elapsed d = s.elapsed d + 1 ∧ ((fxTickCounted d s).time d).sub = 0) ∧
  (∀ s : State, s.now 0 % 25 = 0 →
      exec .timeSyncSend s = .next (settle (forEach s.syncNeighbours (fun d s => s.sendBypass 0 d bTimeSync [0]) s))) ∧
  (∀ (s : State) (d : Nat), s.Canonical → 0 < d → d < s.dies → (s.time d).loaded = true → (s.time d).flagged = false →
      (s.time d).lastSync + 200 ≤ s.elapsed d →
      exec (.syncMessagesMissed d) s = .next (settle (s.flagDie d)) ∧ ((s.flagDie d).time d).flagged = true ∧
      (s.flagDie d).bit O.FT_FLAGS 5 = true ∧ Act.raise (d * 512 + F.DIE_SKEW) 0 0 0xFFFF 0 ∈ (s.flagDie d).acts) ∧
  (∀ (s t : State) (l : Nat) (b : Bypass), l < 4 * s.dies → 4 ≤ l → s.takeBypass (s.peerLink l) bTimeSync = some (b, t) → b.dst ≠ l / 4 →
      exec (.timeSync l) s = .next (settle (t.sendBypass (l / 4) b.dst bTimeSync [(b.args.getD 2 0 + 1) % 4]))) ∧
  (∀ (s t u : State) (l stamp : Nat) (b : Bypass), l < 4 * s.dies → 4 ≤ l → s.takeBypass (s.peerLink l) bTimeSync = some (b, t) → b.dst = l / 4 →
      (t.time (l / 4)).loaded = false → stamp = b.args.getD 0 0 * 64 + b.args.getD 1 0 + t.get (O.LINK_DELAY l) →
      u = t.setTime (l / 4) (fun x => { x with now := stamp / 64 % 2 ^ 64, sub := stamp % 64, loaded := true, lastSync := t.elapsed (l / 4) }) →
      exec (.timeSync l) s = .next (settle (forEach ((List.range u.dies).filter (fun e => e != 0 && !(u.syncNeighbours.contains e) &&
        u.syncVia e == some (l / 4))) (fun e s => s.sendBypass (l / 4) e bTimeSync [(b.args.getD 2 0 + 1) % 4]) u)))

/-- Opening and ending a configuration transaction. A served write of TX_CMD is answered OK and makes its transition: TX_OPEN discards the
old set, clears TX_FAIL_INDEX and TX_FAIL_OBJECT (the model's inference, log 14) and leaves TX_STATE OPEN, TX_STATUS OK and TX_SERIAL one more; TX_PREPARE leaves PREPARING; TX_COMMIT_AT leaves SCHEDULED;
TX_ABORT discards the set and leaves ABORTED with status ABORTED, counted in FAILED_COUNT; TX_CANCEL leaves READY with TX_READY_AT the
count and the limit of TX_READY_LIMIT. -/
def Obligations.TransactionCommands : Prop :=
  (∀ (s : State) (ifc : Iface) (x : Nat), s.servesWrite ifc (O.TX_CMD x) txcOpen = true →
      exec (.txOpen ifc x) s = .next (settle (((((((({ s with tx := s.tx.drop x } : State).put (O.TX_STATE x) txOpenSt).wrap32 (O.TX_SERIAL x)).put
        (O.TX_STATUS x) stOk).clear (O.TX_FAIL_INDEX x)).clear (O.TX_FAIL_OBJECT x)).acknowledged ifc (O.TX_CMD x))))) ∧
  (∀ (s : State) (ifc : Iface) (x : Nat), s.servesWrite ifc (O.TX_CMD x) txcPrepare = true →
      exec (.txPrepare ifc x) s = .next (settle (((s.put (O.TX_STATE x) txPreparing).setTx x (fun t => { t with prepareAt := s.elapsed 0 })).acknowledged
        ifc (O.TX_CMD x)))) ∧
  (∀ (s : State) (ifc : Iface) (x : Nat), s.servesWrite ifc (O.TX_CMD x) txcCommitAt = true →
      exec (.txCommitAt ifc x) s = .next (settle ((s.put (O.TX_STATE x) txScheduled).acknowledged ifc (O.TX_CMD x)))) ∧
  (∀ (s : State) (ifc : Iface) (x : Nat), s.servesWrite ifc (O.TX_CMD x) txcAbort = true →
      exec (.txAbort ifc x) s = .next (settle (((((s.put (O.TX_STATE x) txAborted).put (O.TX_STATUS x) stAborted).count32 O.FAILED_COUNT).txDiscard
        x).acknowledged ifc (O.TX_CMD x)))) ∧
  (∀ (s : State) (ifc : Iface) (x : Nat), s.servesWrite ifc (O.TX_CMD x) txcCancel = true →
      exec (.txCancel ifc x) s = .next (settle ((((s.put (O.TX_STATE x) txReady).put (O.TX_READY_AT x) (s.now 0)).setTx x
        (fun t => { t with readyLimit := s.get O.TX_READY_LIMIT })).acknowledged ifc (O.TX_CMD x))))

/-- Validation, the lock point, the apply and the ways a transaction fails. Under the conditions of its clause: VALIDATION_ENDS of a set that
passes leaves READY with the read set of its validation, and of one that does not leaves FAILED with the status, index and object that
State.validate gives; READY_TIMEOUT leaves FAILED with TIMEOUT; LOCK_POINT leaves LOCKED; STAGED_COPY_ERROR of a SCHEDULED set leaves it
FAILED with ABORTED; APPLY of the one LOCKED set that is due, and is no bind epoch, lays its writes (State.applyOne), leaves APPLIED with
status OK and TX_APPLIED_AT its instant, and forms the images again. That the validation is carried out at the command, and that images are
formed again at the apply, are the model's choices (logs 16 and 46). -/
def Obligations.TransactionEvents : Prop :=
  (∀ (s : State) (x : Nat), hasTx x = true → s.get (O.TX_STATE x) = txPreparing → (s.validate x).status = stOk →
      exec (.validationEnds x) s = .next (settle (((s.setTx x (fun t => { t with readSet := (s.validate x).reads, implicit :=
        (((s.setWrites x).filter (fun w => w.implicit)).map (fun w => w.obj.number)).eraseDups })).put (O.TX_STATUS x) stOk).enterReady x))) ∧
  (∀ (s : State) (x : Nat), hasTx x = true → s.get (O.TX_STATE x) = txPreparing → (s.validate x).status ≠ stOk →
      exec (.validationEnds x) s =
        .next (settle (s.txFail x (s.validate x).status (s.validate x).index (s.validate x).object))) ∧
  (∀ (s : State) (x : Nat), s.Canonical → hasTx x = true → s.get (O.TX_STATE x) = txReady →
      s.get (O.TX_READY_AT x) + (s.tx.at x).readyLimit < s.now 0 →
      exec (.readyTimeout x) s = .next (settle (s.txFail x stTimeout 0xFFFF 0)) ∧
      (s.txFail x stTimeout 0xFFFF 0).get (O.TX_STATE x) = txFailed ∧ (s.txFail x stTimeout 0xFFFF 0).get (O.TX_STATUS x) = stTimeout) ∧
  (∀ (s : State) (x : Nat), hasTx x = true → s.get (O.TX_STATE x) = txScheduled →
      s.get (O.TX_INSTANT x) ≤ s.now 0 + s.get O.TX_LOCK_LEAD →
      exec (.lockPoint x) s = .next (settle (s.put (O.TX_STATE x) txLocked))) ∧
  (∀ (s : State) (x : Nat), s.Canonical → hasTx x = true → s.get (O.TX_STATE x) = txScheduled →
      exec (.stagedCopyError x) s = .next (settle (s.txFail x stAborted 0xFFFF 0)) ∧
      (s.txFail x stAborted 0xFFFF 0).get (O.TX_STATE x) = txFailed ∧ (s.txFail x stAborted 0xFFFF 0).get (O.TX_STATUS x) = stAborted) ∧
  (∀ (s u : State) (x : Nat), s.Canonical → hasTx x = true → s.get (O.TX_STATE x) = txLocked →
      txInstances.all (fun y => y == x || s.get (O.TX_STATE y) != txLocked) = true → s.get (O.TX_INSTANT x) ≤ s.now 0 →
      s.isBindEpoch x = false →
      u = (((((((s.applyOne x (s.get O.BIND_EPOCH)).put (O.TX_STATE x) txApplied).put (O.TX_STATUS x) stOk).put
        (O.TX_APPLIED_AT x) (s.get (O.TX_INSTANT x))).put O.LAST_APPLIED_AT (s.get (O.TX_INSTANT x))).count32 O.APPLIED_COUNT).txRelease
        x).raiseDie 0 F.TX_APPLIED →
      exec .apply s = .next (settle (u.reformImages s)))

/-- Training, its failure, its retry, and Recovery. Under the conditions of its clause: LINK_UP of a port whose lanes run leaves it UP with the rate, the width,
the protocols and the next epoch that it has negotiated, and its credit loops fresh; TRAIN_TIMEOUT leaves FAILED, with PORT_EVENTS bit 3
set and TRAIN_FAIL raised, where TRAIN_RETRIES attempts have failed, and DETECT with PERST_N asserted and the pause begun where fewer have;
RETRY_PAUSE_END and PERST_RELEASE release PERST_N and start an attempt; RECOVERY_ENTRY of an UP port leaves RECOVERY with LINK_RATE and
LINK_WIDTH 0; RECOVERY_EXIT leaves UP with its rate and width; DROP_TIME_EXPIRY drops the link (State.linkDrop), which sets PORT_EVENTS
bit 1 and leaves LINK_RATE and LINK_WIDTH 0. That LINK_STATE reads DETECT in the pause is the model's choice (log 92). -/
def Obligations.PortTraining : Prop :=
  (∀ (s : State) (p rate width protocols ld pol : Nat) (rev : Bool) (ps : List Nat), s.Canonical → p < s.ports →
      s.lanesRun p = true → s.linkState p = lsTraining → (s.port p).attemptAt.isSome = true →
      s.rateOk p rate = true → s.widthOk p width rev = true → ((s.protocolsOf p protocols).testBit 4 = true → ld ≤ 16) →
      exec (.linkUp p rate width protocols ld rev pol ps) s =
        .next (settle ((fxLinkUp p rate width protocols ld rev pol ps s).freshPortLoops p)) ∧
      (fxLinkUp p rate width protocols ld rev pol ps s).linkState p = lsUp ∧
      (fxLinkUp p rate width protocols ld rev pol ps s).get (O.LINK_RATE p) = rate ∧
      (fxLinkUp p rate width protocols ld rev pol ps s).get (O.LINK_WIDTH p) = width ∧
      (fxLinkUp p rate width protocols ld rev pol ps s).get (O.PROTOCOLS p) = s.protocolsOf p protocols ∧
      (fxLinkUp p rate width protocols ld rev pol ps s).get (O.LINK_EPOCH p) = (s.get (O.LINK_EPOCH p) + 1) % 16) ∧
  (∀ (s : State) (p t : Nat), s.Canonical → p < s.ports → (s.port p).attemptAt = some t → s.linkState p = lsTraining →
      t + s.get (O.TRAIN_TIMEOUT p) ≤ s.portClock p → s.get (O.TRAIN_RETRIES p) ≤ (s.port p).fails + 1 →
      exec (.trainTimeout p) s = .next (settle (((((s.put (O.LINK_STATE p) lsFailed).setPort p
        (fun r => { r with attemptAt := none, fails := 0, ltssm := 0, seqAt := none })).setBit (O.PORT_EVENTS p) 3 true).raisePort p F.TRAIN_FAIL 0 0xFFFF 0)))) ∧
  (∀ (s : State) (p t : Nat), s.Canonical → p < s.ports → (s.port p).attemptAt = some t → s.linkState p = lsTraining →
      t + s.get (O.TRAIN_TIMEOUT p) ≤ s.portClock p → (s.port p).fails + 1 < s.get (O.TRAIN_RETRIES p) →
      exec (.trainTimeout p) s = .next (settle (((s.put (O.LINK_STATE p) lsDetect).setPort p (fun r =>
        { r with attemptAt := none, fails := (s.port p).fails + 1, pauseAt := some (s.portClock p), ltssm := 0 })).drivePerst p true))) ∧
  (∀ (s : State) (p t : Nat), p < s.ports → (s.port p).pauseAt = some t → t + 25000 ≤ s.portClock p → s.trainMode = true →
      (s.role p = roleDownstream → s.slotPowerOk p = true) → (s.setPort p (fun r => { r with pauseAt := none })).mayTrain p = true →
      exec (.retryPauseEnd p) s =
        .next (settle (((s.setPort p (fun r => { r with pauseAt := none })).drivePerst p false).startAttempt p))) ∧
  (∀ (s : State) (p t : Nat), p < s.ports → (s.port p).seqAt = some t → t + s.get (O.PERST_HOLD p) ≤ s.portClock p →
      s.mayTrain p = true →
      exec (.perstRelease p) s =
        .next (settle (((s.drivePerst p false).setPort p (fun r => { r with seqAt := none })).startAttempt p))) ∧
  (∀ (s : State) (p : Nat), s.Canonical → p < s.ports → s.linkState p = lsUp →
      exec (.recoveryEntry p 0 []) s = .next (settle (s.enterRecovery p [])) ∧
      (s.enterRecovery p []).linkState p = lsRecovery ∧ (s.enterRecovery p []).get (O.LINK_RATE p) = 0 ∧
      (s.enterRecovery p []).get (O.LINK_WIDTH p) = 0) ∧
  (∀ (s : State) (p rate width : Nat) (rev : Bool), s.Canonical → p < s.ports → s.linkState p = lsRecovery →
      s.rateOk p rate = true → s.widthOk p width rev = true →
      exec (.recoveryExit p rate width rev) s = .next (settle (fxRecoveryExit p rate width rev s)) ∧
      (fxRecoveryExit p rate width rev s).linkState p = lsUp ∧ (fxRecoveryExit p rate width rev s).get (O.LINK_RATE p) = rate ∧
      (fxRecoveryExit p rate width rev s).get (O.LINK_WIDTH p) = width) ∧
  (∀ (s : State) (p t : Nat), s.Canonical → p < s.ports → (s.port p).outSince = some t → s.linkState p = lsRecovery →
      t + s.get (O.DROP_TIME p) ≤ s.portClock p → exec (.dropTimeExpiry p) s = .next (settle (s.linkDrop p lsTraining)) ∧
      (s.linkDrop p lsTraining).bit (O.PORT_EVENTS p) 1 = true ∧ (s.linkDrop p lsTraining).get (O.LINK_RATE p) = 0 ∧
      (s.linkDrop p lsTraining).get (O.LINK_WIDTH p) = 0)

/-- The sideband of a port and presence in a slot. Under the conditions of its clause: PERST_N_ASSERT of an upstream or FM port drops its live
link, and the port's LINK_STATE is then DETECT (the model's inference, log 25); PERST_N_DEASSERT of one in DETECT that may train starts an attempt; PRESENCE_DECLARED, once
PRSNT_N has been low for PRESENCE_DEBOUNCE, declares the device present, and where AUTO begins the hot-plug sequence at once notes the
sequence's first instant as now; ABSENCE_DECLARED, once it has been high for 25 ticks, leaves a downstream port that was UP in DETECT. -/
def Obligations.PortSideband : Prop :=
  (∀ (s : State) (p : Nat), s.Canonical → p < s.ports → s.role p = roleUpstream ∨ s.role p = roleFm → s.linkAlive p = true →
      exec (.perstNAssert p) s = .next (settle (((s.setPort p (fun r => { r with perstIn := true })).resetFunctions p).linkDrop p lsDetect)) ∧
      (((s.setPort p (fun r => { r with perstIn := true })).resetFunctions p).linkDrop p lsDetect).linkState p = lsDetect) ∧
  (∀ (s : State) (p : Nat), p < s.ports → s.role p = roleUpstream ∨ s.role p = roleFm → (s.port p).perstIn = true →
      s.linkState p = lsDetect →
      (s.setPort p (fun r => { r with perstIn := false })).mayTrain p = true →
      ((s.setPort p (fun r => { r with perstIn := false })).port p).pauseAt = none →
      exec (.perstNDeassert p) s = .next (settle ((s.setPort p (fun r => { r with perstIn := false })).startAttempt p))) ∧
  (∀ (s : State) (p n : Nat), p < s.ports → (s.port p).present = false → s.get (O.PRESENCE_DEBOUNCE p) ≤ n →
      exec (.presenceDeclared ⟨p, n⟩) s = .next (settle (fxPresenceDeclared p n s)) ∧
      ((fxPresenceDeclared p n s).port p).present = true) ∧
  (∀ (s : State) (p n : Nat), s.Canonical → p < s.ports → (s.port p).present = false → s.get (O.PRESENCE_DEBOUNCE p) ≤ n →
      s.role p = roleDownstream → s.linkState p = lsDetect → s.get (O.HOTPLUG_CTRL p) = 0 → (s.port p).cmdDisabled = false →
      s.trainMode = true → (s.port p).seqAt = none → s.slotPowerOk p = true →
      exec (.presenceDeclared ⟨p, n⟩) s = .next (settle (fxPresenceDeclared p n s)) ∧
      ((fxPresenceDeclared p n s).port p).seqAt = some (s.portClock p) ∧ (fxPresenceDeclared p n s).linkState p = lsDetect) ∧
  (∀ (s : State) (p n : Nat), s.Canonical → p < s.ports → (s.port p).present = true → 25 ≤ n → s.role p = roleDownstream → s.linkState p = lsUp →
      exec (.absenceDeclared ⟨p, n⟩) s = .next (settle (fxAbsenceDeclared p n s)) ∧ (fxAbsenceDeclared p n s).linkState p = lsDetect)

/-- LINK_CTRL. A served write of LINK_CTRL is answered OK and carries out its command: RETRAIN takes an UP port to Recovery in an attempt with the
settings of now (log 113), takes a FAILED one to an attempt where it may train and its device has power and to DETECT where not, starts an attempt of one
in DETECT or TRAINING that may begin one, and leaves any other as it is (log 27, the model's inference); DISABLE leaves the port DISABLED until ENABLE, its
LTSSM disabled, or held in Detect.Quiet where PORT_ROLE is DISABLED, and of a live link declares the drop in PORT_EVENTS; ENABLE of a DISABLED or FAILED
port leaves DETECT, starts an attempt of an upstream or FM port that may train, and asserts PERST_N of a downstream one and begins the
hot-plug sequence where it may; HOT_RESET of a port whose link is alive or training resets what is behind the port, the functions of an upstream
one, and drops the link, which then retrains where it may (log 25, the model's inference); of another downstream port it resets the device, records the drop, times
out its tags, signals viral and owes the aborts that a drop brings, and starts an attempt only of one in DETECT that may begin one (log 27). -/
def Obligations.PortCommands : Prop :=
  (∀ (s : State) (ifc : Iface) (p : Nat), s.servesWrite ifc (O.LINK_CTRL p) 1 = true → s.linkState p = lsUp →
      exec (.linkCtrlRetrain ifc p) s = .next (settle (((s.enterRecovery p []).beginAttempt p).acknowledged ifc (O.LINK_CTRL p)))) ∧
  (∀ (s t : State) (ifc : Iface) (p : Nat), s.servesWrite ifc (O.LINK_CTRL p) 1 = true → s.linkState p = lsFailed →
      t = s.setPort p (fun r => { r with fails := 0 }) → t.mayTrain p = true →
      (t.role p = roleDownstream → (t.port p).present = true ∧ t.slotPowerOk p = true) →
      exec (.linkCtrlRetrain ifc p) s = .next (settle (((t.drivePerst p false).startAttempt p).acknowledged ifc (O.LINK_CTRL p)))) ∧
  (∀ (s t : State) (ifc : Iface) (p : Nat), s.servesWrite ifc (O.LINK_CTRL p) 1 = true → s.linkState p = lsFailed →
      t = s.setPort p (fun r => { r with fails := 0 }) →
      (t.mayTrain p = false ∨ (t.role p = roleDownstream ∧ ((t.port p).present = false ∨ t.slotPowerOk p = false))) →
      exec (.linkCtrlRetrain ifc p) s = .next (settle (((t.put (O.LINK_STATE p) lsDetect).setPort p (fun r =>
        { r with want := r.want || r.present })).acknowledged ifc (O.LINK_CTRL p)))) ∧
  (∀ (s : State) (ifc : Iface) (p : Nat), s.servesWrite ifc (O.LINK_CTRL p) 1 = true → s.linkState p = lsDetect ∨ s.linkState p = lsTraining →
      (s.port p).pauseAt = none → s.canAttempt p = true →
      exec (.linkCtrlRetrain ifc p) s = .next (settle ((s.startAttempt p).acknowledged ifc (O.LINK_CTRL p)))) ∧
  (∀ (s : State) (ifc : Iface) (p : Nat), s.servesWrite ifc (O.LINK_CTRL p) 1 = true → s.linkState p ≠ lsUp → s.linkState p ≠ lsFailed →
      ((s.linkState p = lsDetect ∨ s.linkState p = lsTraining) → (s.port p).pauseAt = none → s.canAttempt p = false) →
      exec (.linkCtrlRetrain ifc p) s = .next (settle (s.acknowledged ifc (O.LINK_CTRL p)))) ∧
  (∀ (s : State) (ifc : Iface) (p : Nat), s.Canonical → s.servesWrite ifc (O.LINK_CTRL p) 2 = true →
      exec (.linkCtrlDisable ifc p) s = .next (settle ((fxDisable p s).acknowledged ifc (O.LINK_CTRL p))) ∧
      (fxDisable p s).linkState p = lsDisabled ∧ ((fxDisable p s).port p).cmdDisabled = true ∧ ((fxDisable p s).port p).attemptAt = none ∧
      ((fxDisable p s).port p).ltssm = (if s.role p = roleDisabled then 0 else 0x14) ∧
      (s.linkAlive p = true → (fxDisable p s).bit (O.PORT_EVENTS p) 1 = true)) ∧
  (∀ (s t : State) (ifc : Iface) (p : Nat), s.servesWrite ifc (O.LINK_CTRL p) 3 = true → s.role p ≠ roleDownstream →
      s.linkState p = lsDisabled ∨ s.linkState p = lsFailed →
      t = ((s.setPort p (fun r => { r with cmdDisabled := false, enabled := true })).put (O.LINK_STATE p) lsDetect).setPort p
        (fun r => { r with fails := 0, ltssm := 0 }) →
      exec (.linkCtrlEnable ifc p) s = .next (settle ((if t.mayTrain p then t.startAttempt p else t).acknowledged ifc (O.LINK_CTRL p)))) ∧
  (∀ (s : State) (ifc : Iface) (p : Nat), s.servesWrite ifc (O.LINK_CTRL p) 3 = true → s.role p = roleDownstream →
      s.linkState p = lsDisabled ∨ s.linkState p = lsFailed →
      exec (.linkCtrlEnable ifc p) s = .next (settle ((((((s.setPort p (fun r => { r with cmdDisabled := false, enabled := true })).put
        (O.LINK_STATE p) lsDetect).setPort p (fun r => { r with want := true, fails := 0, ltssm := 0 })).drivePerst p true).tryHotplug p).acknowledged
        ifc (O.LINK_CTRL p)))) ∧
  (∀ (s t : State) (ifc : Iface) (p : Nat), s.servesWrite ifc (O.LINK_CTRL p) 4 = true →
      t = (if s.role p = roleDownstream then s.send (.hotReset p) else s.resetFunctions p) →
      (t.linkAlive p = true ∨ s.linkState p = lsTraining) →
      exec (.linkCtrlHotReset ifc p) s = .next (settle ((t.linkDrop p lsTraining).acknowledged ifc (O.LINK_CTRL p)))) ∧
  (∀ (s t : State) (ifc : Iface) (p : Nat), s.servesWrite ifc (O.LINK_CTRL p) 4 = true → s.role p = roleDownstream →
      s.Canonical → s.linkAlive p = false → s.linkState p ≠ lsTraining →
      t = (((((s.send (.hotReset p)).noteDrop p).dropSlots p).dropViral p).setPort p (fun r => { r with drops := r.drops + 1 })).owe (.portDropped p) →
      exec (.linkCtrlHotReset ifc p) s = .next (settle ((if s.linkState p = lsDetect ∧ (t.port p).pauseAt = none ∧ t.canAttempt p = true then
        t.startAttempt p else t).acknowledged ifc (O.LINK_CTRL p))))

/-- Responses, timers, flits and margining. Under the conditions of its clause: a DEVICE_RESPONSE on a downstream port that carries data takes a
cell, is observed, and where its tag names the epoch and an outstanding slot is taken by that slot (State.takeResponse), which frees the slot
and owes the delivery of the answer, and any other is stale: it frees its cell, counts in STALE_RSP_COUNT, sets PORT_EVENTS bit 5 and raises
STALE_RSP, and frees a slot that its timer quarantined under its epoch; CPL_TIMEOUT drops and quarantines the slot, counts it in TIMEOUT_COUNT, sets
PORT_EVENTS bit 4, raises CPL_TIMEOUT with no address, signals the viral of R502 and aborts the migrations of the port; QUARANTINE_END frees the one
slot that is due; FLIT_RECEIVED is counted, and of a good flit returns its credits to their loops and counts a corrected symbol, of an uncorrectable one
counts in SYMBOL_ERRORS and UNCORRECTED of its lane, and of one that fails IDE's check on a secured port sets PORT_EVENTS bit 7, raises IDE_CHECK and
drops the link; a served MARGIN_CTRL sends its command on the lane; MARGIN_RESPONSE of a lane that awaits
one leaves it in MARGIN_STATUS. -/
def Obligations.PortTraffic : Prop :=
  (∀ (s u v : State) (p tag data cell : Nat) (fate : Response) (m : Msg), p < s.ports → s.role p = roleDownstream → s.carries p = true →
      m = (s.tagSlot p (tag % 4096)).msg.response tag fate.status data fate.poison (s.stamp (dieOfPort p)) →
      s.receiveCell p m = (cell, u) → v = u.observe p 0 m → tag / 4096 % 16 = v.get (O.LINK_EPOCH p) → (s.tagSlot p (tag % 4096)).state = 1 →
      exec (.deviceResponse p tag data fate) s = .next (settle (v.takeResponse p tag fate.status m.data fate.poison cell m.len))) ∧
  (∀ (s : State) (p tag status data cell len : Nat) (poison : Bool), tag / 4096 % 16 = s.get (O.LINK_EPOCH p) → (s.tagSlot p (tag % 4096)).state = 1 →
      s.takeResponse p tag status data poison cell len = ((s.setTag p (tag % 4096) (fun _ => {})).countSlots p).owe
        (.deliver (dieOfPort p) (s.tagSlot p (tag % 4096)).msg.owner (s.tagSlot p (tag % 4096)).msg.kind data poison false cell
          (some (s.stamp (dieOfPort p))) status len (s.tagSlot p (tag % 4096)).msg.tenant)) ∧
  (∀ (s v : State) (p tag data cell : Nat) (fate : Response), p < s.ports → s.role p = roleDownstream → s.carries p = true →
      v = (s.receiveCell p ((s.tagSlot p (tag % 4096)).msg.response tag fate.status data fate.poison (s.stamp (dieOfPort p)))).2.observe p 0
        ((s.tagSlot p (tag % 4096)).msg.response tag fate.status data fate.poison (s.stamp (dieOfPort p))) →
      cell = (s.receiveCell p ((s.tagSlot p (tag % 4096)).msg.response tag fate.status data fate.poison (s.stamp (dieOfPort p)))).1 →
      (tag / 4096 % 16 ≠ v.get (O.LINK_EPOCH p) ∨ (s.tagSlot p (tag % 4096)).state ≠ 1) → (v.tagSlot p (tag % 4096)) = s.tagSlot p (tag % 4096) →
      ((s.tagSlot p (tag % 4096)).state = 2 → (s.tagSlot p (tag % 4096)).held = true → tag / 4096 % 16 ≠ (s.tagSlot p (tag % 4096)).epoch) →
      exec (.deviceResponse p tag data fate) s = .next (settle ((((v.count32 (O.STALE_RSP_COUNT p)).setBit (O.PORT_EVENTS p) 5 true).raisePort p
        F.STALE_RSP 0 (0x100 + p) 0).freeCell (dieOfPort p) cell))) ∧
  (∀ (s : State) (p tag status data cell len : Nat) (poison : Bool), (s.tagSlot p (tag % 4096)).state = 2 → (s.tagSlot p (tag % 4096)).held = true →
      tag / 4096 % 16 = (s.tagSlot p (tag % 4096)).epoch →
      s.takeResponse p tag status data poison cell len = ((s.setTag p (tag % 4096) (fun _ => {})).countSlots p).staleResponse p) ∧
  (∀ (s : State) (p n : Nat), p < s.ports → (s.tagSlot p n).state = 1 → (s.tagSlot p n).sentAt + s.get (O.CPL_TIMEOUT p) ≤ s.portClock p →
      exec (.cplTimeout p n) s = .next (settle ((((((((s.dropSlot p n true).countSlots p).count32 (O.TIMEOUT_COUNT p)).setBit (O.PORT_EVENTS p) 4 true).raisePort p
        F.CPL_TIMEOUT 0 ((s.tagSlot p n).msg.master (dieOfPort p)) (s.tagSlot p n).msg.kind.accessType).dropViral p).migAbortWhere
        (fun s m => s.migTouches p m) stLinkDown)))) ∧
  (∀ (s : State) (p n t : Nat), p < s.ports → s.slotsOf p = [n] → (s.tagSlot p n).state = 2 → (s.tagSlot p n).upAt = some t →
      t + s.get (O.CPL_TIMEOUT p) ≤ s.portClock p →
      exec (.quarantineEnd p) s = .next (settle ((s.setTag p n (fun _ => {})).countSlots p))) ∧
  (∀ (s : State) (p l : Nat), p < s.ports → s.linkState p = lsUp → l / 4 = p →
      exec (.flitReceived p true false [l] []) s = .next (settle ((((s.perfCount (dieOfPort p) evRxFlits p noTenant 1).count32
        (O.SYMBOL_ERRORS l)).count32 (O.UNCORRECTED l)).setPort p (fun r => { r with uncorr := (r.uncorr ++ [l]).eraseDups })))) ∧
  (∀ (s : State) (p l : Nat) (credits : List Nat), s.Canonical → p < s.ports → s.linkState p = lsUp → l / 4 = p →
      exec (.flitReceived p false false [l] credits) s = .next (settle ((forEach credits.zipIdx (fun x a =>
        if x.1 ≠ 0 ∧ x.2 < 12 then a.gainCredit p x.2 x.1 else a) ((s.perfCount (dieOfPort p) evRxFlits p noTenant 1).perfCount (dieOfPort p)
        evFecCorrected p noTenant 1)).count32 (O.SYMBOL_ERRORS l)))) ∧
  (∀ (s : State) (p row n : Nat), ((s.gainCredit p row n).sendLoop p row).available = (s.sendLoop p row).available + n) ∧
  (∀ (s : State) (p : Nat), s.Canonical → p < s.ports → s.linkState p = lsUp →
      (s.perfCount (dieOfPort p) evRxFlits p noTenant 1).get (O.IDE_STATE p) = 2 →
      exec (.flitReceived p false true [] []) s = .next (settle ((((s.perfCount (dieOfPort p) evRxFlits p noTenant 1).setBit (O.PORT_EVENTS p) 7 true).raisePort
        p F.IDE_CHECK 0 0xFFFF 7).linkDrop p lsTraining))) ∧
  (∀ (s : State) (ifc : Iface) (l : Nat) (v : Word), s.servesWrite ifc (O.MARGIN_CTRL l) v.toNat = true →
      exec (.marginCtrl ifc l v) s = .next (settle ((({ s with prt := { s.prt with margin := l :: s.prt.margin } }.put
        (O.MARGIN_CTRL l) v.toNat).send (.margin l v.toNat)).acknowledged ifc (O.MARGIN_CTRL l)))) ∧
  (∀ (s : State) (l : Nat) (v : Word), l < 64 * s.dies → l ∈ s.prt.margin →
      exec (.marginResponse l v) s = .next (settle ({ s with prt := { s.prt with margin := s.prt.margin.erase l } }.put
        (O.MARGIN_STATUS l) (v.toNat % 2 ^ 32))))

/-- Requests of hosts and what routes them. Under the conditions of its clause: a HOST_REQUEST other than MemSpecRd on an upstream port that
carries CXL.mem takes a cell and, where a tracker of its class is free and no older one waits, is admitted with that tracker
(State.admitReq), and where none is free waits in its cell; MAP_RESTORE of a bad entry that holds nothing makes it good, or INVALID where
the restore failed; an ATOMICOP, of both operands where it is a CAS, takes a cell and starts (State.startAtomic) on a die that is not in SAFE; a PRIVATE_ATOMIC whose turn it is
ends with Completer Abort where its port has no live link, goes to the device where that performs atomics, and else reads its line. -/
def Obligations.HostRequests : Prop :=
  (∀ (s u : State) (r : HostReq) (p md tag data mask ecc cell k : Nat) (op : MemOp) (hpa : Word) (poison : Bool),
      p < s.ports → s.carries p = true → s.role p = roleUpstream → s.speaks p 1 = true → op ≠ .memSpecRd →
      r = { hostReqOf p op md hpa.toNat tag data mask poison 0 with
              origin := s.stamp (dieOfPort p), evict := s.evictClass (hostReqOf p op md hpa.toNat tag data mask poison 0) } →
      s.receiveCell p (r.toMsg (s.get (O.HOST_ID p))) r.evict = (cell, u) → u.dieSafe (dieOfPort p) = false →
      u.admissible { r with cell := cell } = some k → u.rq.waiting.any (fun w => w.port == p && w.evict == r.evict) = false →
      exec (.hostRequest p op md hpa tag data mask poison ecc) s = .next (settle (u.admitReq { r with cell := cell } k ecc))) ∧
  (∀ (s u : State) (r : HostReq) (p md tag data mask ecc cell : Nat) (op : MemOp) (hpa : Word) (poison : Bool),
      p < s.ports → s.carries p = true → s.role p = roleUpstream → s.speaks p 1 = true → op ≠ .memSpecRd →
      r = { hostReqOf p op md hpa.toNat tag data mask poison 0 with
              origin := s.stamp (dieOfPort p), evict := s.evictClass (hostReqOf p op md hpa.toNat tag data mask poison 0) } →
      s.receiveCell p (r.toMsg (s.get (O.HOST_ID p))) r.evict = (cell, u) → u.dieSafe (dieOfPort p) = false →
      u.admissible { r with cell := cell } = none →
      exec (.hostRequest p op md hpa tag data mask poison ecc) s =
        .next (settle { u with rq := { u.rq with waiting := u.rq.waiting ++ [{ r with cell := cell }] } })) ∧
  (∀ (s : State) (d index : Nat) (granule ok : Bool), d < s.dies → s.mapBad d granule index = true → s.map.hold = [] →
      exec (.mapRestore d granule index ok) s = .next (settle (
        if ok then { s with map := { s.map with bad := s.map.bad.filter (fun b => !(b.die == d && b.granule == granule && b.index == index)), hold := [] } }
        else ({ s with map := { s.map with bad := s.map.bad.filter (fun b => !(b.die == d && b.granule == granule && b.index == index)), hold := [] } } :
          State).put (if granule then O.GRN_ENTRY index else O.EXT_ENTRY index) 0))) ∧
  (∀ (s u : State) (p size tag operand compare cell : Nat) (x : AtomicReq) (hpa : Word) (m : Msg), p < s.ports → s.carries p = true →
      s.role p = roleUpstream →
      m = { type := .req, kind := .atomic, channel := 7, host := s.get (O.HOST_ID p), hpa := hpa.toNat, tag := tag,
            data := if x.op % 4 = 2 then compare % 256 ^ size + operand % 256 ^ size * 256 ^ size else operand % 256 ^ size,
            len := if x.op % 4 = 2 then 2 * size else size, opcode := 0x4C + x.op % 4,
            owner := .host (s.get (O.HOST_ID p)) tag, origin := s.stamp (dieOfPort p) } →
      s.receiveCell p m = (cell, u) → u.dieSafe (dieOfPort p) = false →
      exec (.atomicop p x size hpa tag operand compare) s = .next (settle (u.startAtomic p x.tc x.ecc { m with cell := cell }
        { op := x.op % 4, size := size, operand := operand % 256 ^ size, compare := compare % 256 ^ size }))) ∧
  (∀ (s : State) (d n : Nat) (a : PrivAtomic), d < s.dies → s.dir.atomics.find? (fun a => a.die == d && a.id == n) = some a → a.phase = 0 →
      s.atomicBlocked a = false → s.linkAlive a.port = false →
      exec (.privateAtomic d n) s = .next (settle (s.endAtomic d n cplCa 0))) ∧
  (∀ (s : State) (d n at_ : Nat) (a : PrivAtomic), d < s.dies → s.dir.atomics.find? (fun a => a.die == d && a.id == n) = some a → a.phase = 0 →
      s.atomicBlocked a = false → s.linkAlive a.port = true → a.msg.device = some at_ →
      exec (.privateAtomic d n) s = .next (settle ((s.setAtomic d n (fun a => { a with phase := 3, msg := { a.msg with cell := 0 } })).arrive a.port
        { a.msg with dpa := at_, hasFa := false, owner := .atomicWrite d n } false))) ∧
  (∀ (s : State) (d n : Nat) (a : PrivAtomic), d < s.dies → s.dir.atomics.find? (fun a => a.die == d && a.id == n) = some a → a.phase = 0 →
      s.atomicBlocked a = false → s.linkAlive a.port = true → a.msg.device = none → s.holdsCell d a.msg.cell = false →
      exec (.privateAtomic d n) s = .next (settle ((s.setAtomic d n (fun a => { a with phase := 1 })).arrive a.port
        { a.msg with kind := .read, channel := 0, opcode := 1, owner := .atomicRead d n, dpa := lineOf a.msg.dpa,
                     fa := lineOf a.msg.fa, data := 0, mask := 0, len := 0 } false)))

/-- What leaves a port, and the refill tick. Under the conditions of its clause: EGRESS_SELECT of an UP port with IDE off or SECURE, whose
scheduler chooses a message that is no metered request and has its tag to be had, and whose cell reads without error, spends the message's
credit, observes it, leaves its cell and sends it out of the port; SHAPER_REFILL of a die in its 25th tick, with nothing due to be applied,
refills the die's shapers and meters (fxShaperRefill) and its pacing budgets and lets its four engines go on, and the die is marked as
refilled at this tick. One message a select and one refill in a tick are the model's choice (log 45). -/
def Obligations.EgressAndShapers : Prop :=
  (∀ (s t u : State) (p : Nat) (m : Msg), p < s.ports → s.linkState p = lsUp → s.get (O.IDE_STATE p) = 0 ∨ s.get (O.IDE_STATE p) = 2 →
      s.selectMsg p = some (m, t) → (m.needsTag && s.role p == roleDownstream && (s.freeTag p).isNone) = false → (m.type = .req → m.metered = false) →
      t.readOut (dieOfPort p) m.cell (beatsOf m.payload) 0 = (false, u) →
      exec (.egressSelect p 0 false) s =
        .next (settle ((((u.spendCredit p m).observe p 1 (u.tagged p m)).leaveCell (dieOfPort p) m.cell).sendOut p m))) ∧
  (∀ (s : State) (d : Nat), d < s.dies → s.datapathOn = true → s.applyDue = false → s.now d % 25 = 0 → s.qos.refilled.find d ≠ some (s.elapsed d) →
      exec (.shaperRefill d) s = .next (settle (forEach (List.range 4) (fun e s => s.engineRuns d e) ((fxShaperRefill d s).refillBudgets d))) ∧
      (fxShaperRefill d s).qos.refilled.find d = some (s.elapsed d))

/-- CXL.io of hosts and requests of devices. Under the conditions of its clause: a HOST_CXL_IO_REQUEST of an upstream port that carries data takes
a cell; where the port's die is in SAFE it is completed at the port with Unsupported Request (a posted one is dropped); one to a function below 16
is counted and goes on through that vPPB (State.ioThrough); a configuration read of another function is answered with that function's
configuration word, and a configuration write is written there and completed; the host's completion of a device's request is carried to the device's port with the
device's tag, and one that answers none is discarded; CXL.cache responses and data go to the device's port. A DEVICE_REQUEST that reads, from a device under no
binding, is turned away at its port with Unsupported Request (the model's choice, log 139); one from a bound device that its tenant and its host's port
let through goes on toward that port (State.deviceForward); and a BISnp of a device whose host's port has negotiated back-invalidate takes a cell and is carried to
that port. -/
def Obligations.HostAndDeviceIo : Prop :=
  (∀ (s u : State) (p fn bar len data tag tc cell : Nat) (op : IoOp) (addr : Word), p < s.ports → s.role p = roleUpstream → s.carries p = true →
      op = .cfgRead ∨ op = .cfgWrite ∨ op = .memRead ∨ op = .memWrite →
      s.receiveCell p (s.ioMsg p (s.get (O.HOST_ID p)) op addr.toNat len data tag) = (cell, u) → u.dieSafe (dieOfPort p) = false → fn < 16 →
      exec (.hostCxlIoRequest p op fn bar addr len data tag tc) s = .next (settle ((u.perfCount (dieOfPort p) evWrBytes p (u.vppbTenant (s.get (O.HOST_ID p)) fn) (ioWrites op len)).ioThrough p (s.get (O.HOST_ID p)) fn op bar addr.toNat len data
        tag tc { s.ioMsg p (s.get (O.HOST_ID p)) op addr.toNat len data tag with cell := cell }))) ∧
  (∀ (s u v : State) (p fn bar len data tag tc cell w : Nat) (addr : Word), p < s.ports → s.role p = roleUpstream → s.carries p = true →
      s.receiveCell p (s.ioMsg p (s.get (O.HOST_ID p)) .cfgRead addr.toNat len data tag) = (cell, u) → u.dieSafe (dieOfPort p) = false → 16 ≤ fn →
      ((u.observe p 0 (s.ioMsg p (s.get (O.HOST_ID p)) .cfgRead addr.toNat len data tag)).freeCell (dieOfPort p) cell).cfgIn p (s.get (O.HOST_ID p)) fn (addr.toNat / 4) = (w, v) →
      exec (.hostCxlIoRequest p .cfgRead fn bar addr len data tag tc) s =
        .next (settle (v.ioData (dieOfPort p) (s.get (O.HOST_ID p)) tag w 4 false))) ∧
  (∀ (s u : State) (p fn bar len data tag tc cell : Nat) (op : IoOp) (addr : Word), p < s.ports → s.role p = roleUpstream → s.carries p = true →
      op = .cfgRead ∨ op = .cfgWrite ∨ op = .memRead ∨ op = .memWrite →
      s.receiveCell p (s.ioMsg p (s.get (O.HOST_ID p)) op addr.toNat len data tag) = (cell, u) → u.dieSafe (dieOfPort p) = true →
      exec (.hostCxlIoRequest p op fn bar addr len data tag tc) s = .next (settle ((((u.observe p 0 (s.ioMsg p (s.get (O.HOST_ID p)) op addr.toNat
        len data tag)).freeCell (dieOfPort p) cell).perfCount (dieOfPort p) evSynthCpl p (if fn < 16 then u.vppbTenant (s.get (O.HOST_ID p)) fn else noTenant)
        (if op = .memWrite then 0 else 1)).ioDone (dieOfPort p) (s.get (O.HOST_ID p)) tag op cplUr))) ∧
  (∀ (s u : State) (p fn bar len data tag tc cell : Nat) (addr : Word), p < s.ports → s.role p = roleUpstream → s.carries p = true →
      s.receiveCell p (s.ioMsg p (s.get (O.HOST_ID p)) .cfgWrite addr.toNat len data tag) = (cell, u) → u.dieSafe (dieOfPort p) = false → 16 ≤ fn →
      exec (.hostCxlIoRequest p .cfgWrite fn bar addr len data tag tc) s = .next (settle (((((u.perfCount (dieOfPort p) evWrBytes p noTenant len).observe p 0
        (s.ioMsg p (s.get (O.HOST_ID p)) .cfgWrite addr.toNat len data tag)).freeCell (dieOfPort p) cell).cfgOut p (s.get (O.HOST_ID p)) fn
        (addr.toNat / 4) data).ioDone (dieOfPort p) (s.get (O.HOST_ID p)) tag .cfgWrite cplOk))) ∧
  (∀ (s v : State) (p fn bar len data tag tc status cell : Nat) (addr : Word) (m : Msg), p < s.ports → s.role p = roleUpstream → s.carries p = true →
      s.io.up.find? (fun u => u.port == p && u.tag == tag && u.kind == 0) = none →
      m = { type := .ioCpl status, kind := .ioNp, channel := 7, tag := tag, data := data, len := len, opcode := if len = 0 then 0x0A else 0x4A,
            host := s.get (O.HOST_ID p), charge := ioCharge len, origin := s.stamp (dieOfPort p) } →
      s.receiveCell p m = (cell, v) →
      exec (.hostCxlIoRequest p (.completion status) fn bar addr len data tag tc) s =
        .next (settle ((v.observe p 0 { m with cell := cell }).freeCell (dieOfPort p) cell))) ∧
  (∀ (s t v : State) (p fn bar len data tag tc status cell : Nat) (addr : Word) (u : UpReq) (m : Msg), p < s.ports → s.role p = roleUpstream →
      s.carries p = true → s.io.up.find? (fun u => u.port == p && u.tag == tag && u.kind == 0) = some u →
      t = { s with io := { s.io with up := s.io.up.filter (fun (x : UpReq) => !(x.port == p && x.tag == tag)) } } →
      m = { type := .ioCpl status, kind := .ioNp, channel := 7, ld := u.ld, tag := u.devTag, data := data, len := len,
            opcode := if len = 0 then 0x0A else 0x4A, host := s.get (O.HOST_ID p), tenant := u.tenant, charge := ioCharge len,
            origin := s.stamp (dieOfPort p) } →
      t.receiveCell p m = (cell, v) →
      exec (.hostCxlIoRequest p (.completion status) fn bar addr len data tag tc) s = .next (settle ((v.observe p 0 { m with cell := cell }).carry
        (dieOfPort p) (dieOfPort u.device) u.devTag vcRsp (dataSize len) true m.origin cell (.bypass u.device { m with cell := cell })))) ∧
  (∀ (s : State) (p fn bar len data tag tc kind code : Nat) (addr : Word), p < s.ports → s.role p = roleUpstream → s.carries p = true →
      s.speaks p 2 = true → exec (.hostCxlIoRequest p (.cache kind code) fn bar addr len data tag tc) s =
        .next (settle (s.cacheToDevice p (s.get (O.HOST_ID p)) fn kind code addr.toNat len data tag))) ∧
  (∀ (s u : State) (p ld h v w hp cell : Nat) (addr : Word) (op : DevOp) (len data tag tc : Nat), p < s.ports → s.role p = roleDownstream → s.carries p = true →
      s.speaksFor p op = true → s.receiveCell p (s.devMsg p ld op addr.toNat len data tag) = (cell, u) → (s.devMsg p ld op addr.toNat len data tag).type = .req →
      u.boundTo p ld = some (h, v, w) → u.dieSafe (dieOfPort p) = false → u.hostPort h = some hp → u.tenantRefuses (bindTenant w) = false →
      u.speaksFor hp op = true →
      exec (.deviceRequest p ld op addr len data tag tc) s = .next (settle (u.deviceForward p ld h (bindTenant w) hp tc op
        { s.devMsg p ld op addr.toNat len data tag with cell := cell }))) ∧
  (∀ (s u : State) (p ld cell : Nat) (addr : Word) (len data tag tc : Nat), p < s.ports → s.role p = roleDownstream → s.carries p = true →
      s.speaksFor p .ioRead = true → s.receiveCell p (s.devMsg p ld .ioRead addr.toNat len data tag) = (cell, u) → u.boundTo p ld = none →
      u.dieSafe (dieOfPort p) = false →
      exec (.deviceRequest p ld .ioRead addr len data tag tc) s = .next (settle (
        ((u.observe p 0 { s.devMsg p ld .ioRead addr.toNat len data tag with cell := cell }).freeCell (dieOfPort p) cell).deviceRefused p ld tag .ioRead))) ∧
  (∀ (s u : State) (p ld h v w hp snoop cell : Nat) (addr : Word) (len data tag tc : Nat), p < s.ports → s.role p = roleDownstream → s.carries p = true →
      s.speaksFor p (.bisnp snoop) = true → s.receiveCell p (s.devMsg p ld (.bisnp snoop) addr.toNat len data tag) = (cell, u) →
      u.boundTo p ld = some (h, v, w) → u.dieSafe (dieOfPort p) = false → u.hostPort h = some hp → u.speaksFor hp (.bisnp snoop) = true →
      exec (.deviceRequest p ld (.bisnp snoop) addr len data tag tc) s = .next (settle (
        (u.observe p 0 { s.devMsg p ld (.bisnp snoop) addr.toNat len data tag with host := h, cell := cell }).carry (dieOfPort p) (dieOfPort hp) (hostKey h)
          vcSnp 0 false (s.stamp (dieOfPort p)) cell (.bypass hp { s.devMsg p ld (.bisnp snoop) addr.toNat len data tag with host := h, cell := cell }))))

/-- Bindings, admissions and the maps' staging stores. Under the conditions of its clause: BIND_VPPB and UNBIND_VPPB open the FM-API's transaction,
stage one VPPB_BIND in it, start its validation and note FT_NOW + 500 as its instant; GET_VIRTUAL_CXL_SWITCH_INFO answers the objects of
the host's class 20 instance; FM_API_UNSUPPORTED is answered Unsupported; a served VPPB_ADMIT or DEC_ADMIT holds its value;
SHADOW_DISCARD_EXTENT and SHADOW_DISCARD_GRANULE each empty their staging store and drop its invalid ranges; MIG_DRAINED leaves a DRAINING
slot whose epoch has drained IDLE, with MIG_GRANULE and MIG_DEST at their defaults. -/
def Obligations.Bindings : Prop :=
  (∀ (s : State) (h v port ld tenant : Nat), h < 64 → v < 16 → port < 128 → ld < 16 → tenant < 1024 → s.fmReady = true → s.txCmdStatus txFm txcOpen = stOk →
      (fxTxOpen txFm s).writeCheck .inband (O.VPPB_BIND h v) true [2 ^ 30 + tenant * 2 ^ 16 + ld * 2 ^ 8 + port] = stOk →
      exec (.bindVppb h v port ld tenant) s = .next (settle ((fxTxPrepare txFm ((fxTxOpen txFm s).stageObj txFm (O.VPPB_BIND h v)
        [2 ^ 30 + tenant * 2 ^ 16 + ld * 2 ^ 8 + port]).2).setFmBind (some (s.now 0 + 500))))) ∧
  (∀ (s : State) (h v : Nat), h < 64 → v < 16 → s.fmReady = true → s.txCmdStatus txFm txcOpen = stOk →
      (fxTxOpen txFm s).writeCheck .inband (O.VPPB_BIND h v) true [0] = stOk →
      exec (.unbindVppb h v) s = .next (settle ((fxTxPrepare txFm ((fxTxOpen txFm s).stageObj txFm (O.VPPB_BIND h v) [0]).2).setFmBind
        (some (s.now 0 + 500))))) ∧
  (∀ (s : State) (h : Nat), h < 64 → s.fmReady = true →
      exec (.getVirtualCxlSwitchInfo h) s = .next (settle (s.send (.switchInfo h (((List.range 256).filter (fun m =>
        (rowOf s.variant ⟨0x20, h, m⟩).isSome)).map (fun m => s.readObj ⟨0x20, h, m⟩)))))) ∧
  (∀ s : State, s.fmReady = true → exec .fmApiUnsupported s = .next (settle (s.send (.fmApi fmUnsupported)))) ∧
  (∀ (s : State) (ifc : Iface) (h v : Nat) (b : Word), v < 16 → s.servesWrite ifc (O.VPPB_ADMIT h v) b.toNat = true →
      exec (.vppbAdmit ifc h v b) s = .next (settle ((s.put (O.VPPB_ADMIT h v) b.toNat).acknowledged ifc (O.VPPB_ADMIT h v)))) ∧
  (∀ (s : State) (ifc : Iface) (n : Nat) (b : Word), s.servesWrite ifc (O.DEC_ADMIT n) b.toNat = true →
      exec (.decAdmit ifc n b) s = .next (settle ((s.put (O.DEC_ADMIT n) b.toNat).acknowledged ifc (O.DEC_ADMIT n)))) ∧
  (∀ (s : State) (ifc : Iface), s.servesWrite ifc O.SHADOW_DISCARD 1 = true →
      exec (.shadowDiscardExtent ifc) s = .next (settle (({ s with
        map := { s.map with extStage := [] }, dict := { s.dict with invalid := s.dict.invalid.filter (fun r => !(r.space == 1)) } } : State).acknowledged ifc O.SHADOW_DISCARD))) ∧
  (∀ (s : State) (ifc : Iface), s.servesWrite ifc O.SHADOW_DISCARD 2 = true →
      exec (.shadowDiscardGranule ifc) s = .next (settle (({ s with
        map := { s.map with grnStage := [] }, dict := { s.dict with invalid := s.dict.invalid.filter (fun r => !(r.space == 2)) } } : State).acknowledged ifc O.SHADOW_DISCARD))) ∧
  (∀ (s : State) (m : Nat), hasMig m = true → s.get (O.MIG_STATE m) = migDraining →
      (s.get O.BIND_EPOCH + 2 ^ 32 - s.drainedEpoch) % 2 ^ 32 ≤ (s.get O.BIND_EPOCH + 2 ^ 32 - (s.migSlot m).epoch) % 2 ^ 32 →
      exec (.migDrained m) s =
        .next (settle ((((s.put (O.MIG_STATE m) migIdle).clear (O.MIG_GRANULE m)).clear (O.MIG_DEST m)).setMig m (fun r => { lines := r.lines }))))

/-- A home serves the next request of a line. Where a request of the command's class is the next of its line once the waiting absorbs of
its bank are done, and the bank can take it (State.homeReady): RD_S, RD_OWN, RD_CUR, UPGRADE, ATOMIC and PIN take it out of the queue and
serve it with its lookup (State.serve); MARK records a mark of the group on the line and answers the group OK (State.tellGroup); CLAIM of a
line that is not pinned, and on which no older claim of another group stands, notes the claim in the group's marks and answers OK; UNPIN takes
the PIN bit and the group's marks of the line away and owes the line's next service. -/
def Obligations.HomeServes : Prop :=
  (∀ (s : State) (d : Nat) (line : Word) (ecc : Nat) (q : HomeReq), d < s.dies → s.homeReady d line.toNat .rdS q →
      exec (.rdS d line ecc) s = .next (settle (s.homeServed d line.toNat q ecc))) ∧
  (∀ (s : State) (d : Nat) (line : Word) (ecc : Nat) (q : HomeReq), d < s.dies → s.homeReady d line.toNat .rdOwn q →
      exec (.rdOwn d line ecc) s = .next (settle (s.homeServed d line.toNat q ecc))) ∧
  (∀ (s : State) (d : Nat) (line : Word) (ecc : Nat) (q : HomeReq), d < s.dies → s.homeReady d line.toNat .rdCur q →
      exec (.rdCur d line ecc) s = .next (settle (s.homeServed d line.toNat q ecc))) ∧
  (∀ (s : State) (d : Nat) (line : Word) (ecc : Nat) (q : HomeReq), d < s.dies → s.homeReady d line.toNat .upgrade q →
      exec (.upgrade d line ecc) s = .next (settle (s.homeServed d line.toNat q ecc))) ∧
  (∀ (s : State) (d : Nat) (line : Word) (ecc : Nat) (q : HomeReq), d < s.dies → s.homeReady d line.toNat .atomic q →
      exec (.atomic d ⟨line, ecc⟩) s = .next (settle (s.homeServed d line.toNat q ecc))) ∧
  (∀ (s : State) (d : Nat) (line : Word) (ecc : Nat) (q : HomeReq), d < s.dies → s.homeReady d line.toNat .pin q →
      exec (.pin d ⟨line, ecc⟩) s = .next (settle (s.homeServed d line.toNat q ecc))) ∧
  (∀ (s u : State) (d : Nat) (line : Word) (q : HomeReq), d < s.dies → s.homeReady d line.toNat .mark q →
      u = (s.absorbFirst d (lineOf line.toNat)).unqueue q →
      exec (.mark d line) s = .next (settle ((({ u with grp := { u.grp with mark := u.grp.mark ++ [{ die := q.die, line := q.line, host := q.host, slot := q.slot, gen := q.gen, claimed := false, stamp := 0, pinned := false }] } } : State).notePeak q.die).tellGroup
          q.die 0 q.host q.slot q.line stOk q.gen))) ∧
  (∀ (s u : State) (d : Nat) (line : Word) (q : HomeReq), d < s.dies → s.homeReady d line.toNat .claim q →
      u = (s.absorbFirst d (lineOf line.toNat)).unqueue q → u.linePinned q.die q.line = false → u.olderClaims q = [] →
      exec (.claim d line) s = .next (settle ((u.setMarks q.die q.line q.host q.slot (fun m =>
        { m with claimed := true, stamp := q.stamp })).tellGroup q.die 1 q.host q.slot q.line stOk q.gen))) ∧
  (∀ (s u v : State) (d : Nat) (line : Word) (q : HomeReq), d < s.dies → s.homeReady d line.toNat .unpin q →
      u = (s.absorbFirst d (lineOf line.toNat)).unqueue q →
      v = (u.updEntry q.die q.line (fun e => if e.pin.testBit (lineNo q.line) then { e with pin := e.pin - 2 ^ lineNo q.line } else e)).notePeak q.die →
      exec (.unpin d line) s = .next (settle (({ v with grp := { v.grp with mark := v.grp.mark.filter (fun m =>
        !(m.die == q.die && m.line == q.line && m.host == q.host && m.slot == q.slot)) } } : State).owe (.kick q.die q.line))))

/-- Evictions, writebacks and the answers of hosts and devices. Under the conditions of its clause: CLEAN_EVICT takes a waiting clean eviction
of the host out of the queue and serves it, whatever its line does; WRITEBACK takes a waiting writeback out of the queue, looks its entry up,
absorbs it (State.absorb) and owes the line's next service; MEMORY_WRITE_ACK of a writeback's memory write, where its host owes no answer for
the line, frees its cell and answers the host Cmp; BIRSP and BICONFLICT of a line whose BISnp a home sent take a cell, are observed, and go to
that home, and where a device sent the BISnp they go to the device's port; a BIConflict that reaches a home while a BISnp to its host for the
line is unanswered is answered with BIConflictAck, which holds no cell and keeps the order of the
home's messages to the host (the model's choices, logs 115 and 114); BI_TIMEOUT, after what waits at the bank is absorbed,
writes a line that its host owned to memory with poison and notes the loss in
the transaction that waits for it, signals viral on the host's port, counts and raises BI_TIMEOUT, and treats the host as having answered
BIRspI (State.snoopAnswer), and the host's late answer is discarded (the model's inference, log 38); ALLOC_WAIT_EXPIRY of an
allocation that has not been returned 15 times is counted in ALLOC_RETRIES and puts the request back into its bank's queue. -/
def Obligations.HomeAbsorbs : Prop :=
  (∀ (s : State) (d h ecc : Nat) (line : Word) (q : HomeReq), d < s.dies → hasHost h = true → s.get O.DIR_STATE = 2 →
      s.dir.queue.find? (fun q => q.die == d && q.line == lineOf line.toNat && q.host == h && q.cls == .cleanEvict) = some q →
      exec (.cleanEvict d ⟨line, ecc⟩ h) s = .next (settle ((s.unqueue q).serve q ecc))) ∧
  (∀ (s : State) (d h ecc : Nat) (line : Word) (q : HomeReq), d < s.dies → hasHost h = true → s.get O.DIR_STATE = 2 →
      s.dir.queue.find? (fun q => q.die == d && q.line == lineOf line.toNat && q.host == h && s.isWriteback q) = some q →
      exec (.writeback d ⟨line, ecc⟩ h) s = .next (settle ((((s.unqueue q).lookupEntry q ecc).absorb q).owe (.kick q.die q.line)))) ∧
  (∀ (s t : State) (d n : Nat) (w : WriteBack), d < s.dies → s.dir.wb = [w] → w.die = d → w.id = n → w.acked = 1 →
      s.snoopOpen d w.host w.line = false →
      t = (({ s with dir := { s.dir with wb := [] } } : State).freeCell d w.cell).reply d
        { die := d, line := w.line, host := w.host, owner := w.owner } (.cmp 0) 0 false 0 → t.homeTxn d n = none →
      exec (.memoryWriteAck d n) s = .next (settle t)) ∧
  (∀ (s u v : State) (p answer fa cell : Nat) (hpa : Word) (m : Msg) (b : Delivered), p < s.ports → s.carries p = true → s.role p = roleUpstream →
      s.speaks p 3 = true →
      m = { type := .birsp answer, kind := .other, channel := 2, opcode := answer, host := s.get (O.HOST_ID p), hpa := hpa.toNat, origin := s.stamp (dieOfPort p) } →
      s.receiveCell p m = (cell, u) → s.faOf (s.get (O.HOST_ID p)) hpa.toNat = some fa → v = u.observe p 0 { m with fa := fa, hasFa := true } →
      v.rq.delivered.find? (fun b => b.port == p && lineOf b.hpa == lineOf hpa.toNat) = some b → b.fromDevice = false →
      exec (.birsp p hpa answer) s = .next (settle (({ v with rq := { v.rq with delivered := v.rq.delivered.erase b } } : State).carry (dieOfPort p)
        (v.homeDie fa) (faKey fa) vcRsp 0 false m.origin cell (.birsp (v.homeDie fa) (s.get (O.HOST_ID p)) (lineOf fa) answer)))) ∧
  (∀ (s u v : State) (p answer fa cell : Nat) (hpa : Word) (m : Msg) (b : Delivered), p < s.ports → s.carries p = true → s.role p = roleUpstream →
      s.speaks p 3 = true →
      m = { type := .birsp answer, kind := .other, channel := 2, opcode := answer, host := s.get (O.HOST_ID p), hpa := hpa.toNat, origin := s.stamp (dieOfPort p) } →
      s.receiveCell p m = (cell, u) → s.faOf (s.get (O.HOST_ID p)) hpa.toNat = some fa → v = u.observe p 0 { m with fa := fa, hasFa := true } →
      v.rq.delivered.find? (fun b => b.port == p && lineOf b.hpa == lineOf hpa.toNat) = some b → b.fromDevice = true →
      exec (.birsp p hpa answer) s = .next (settle (({ v with rq := { v.rq with delivered := v.rq.delivered.erase b } } : State).carry (dieOfPort p)
        (dieOfPort b.device) (devKey b.device 0 hpa.toNat) vcRsp 0 false m.origin cell (.bypass b.device { m with cell := cell, drops := b.drops })))) ∧
  (∀ (s u v : State) (p fa cell : Nat) (hpa : Word) (m : Msg), p < s.ports → s.carries p = true → s.role p = roleUpstream →
      s.speaks p 3 = true →
      m = { type := .biConflict, kind := .other, channel := 1, opcode := 4, host := s.get (O.HOST_ID p), hpa := hpa.toNat, origin := s.stamp (dieOfPort p) } →
      s.receiveCell p m = (cell, u) → s.faOf (s.get (O.HOST_ID p)) hpa.toNat = some fa → v = u.observe p 0 { m with fa := fa, hasFa := true } →
      v.rq.delivered.find? (fun b => b.port == p && lineOf b.hpa == lineOf hpa.toNat) = none →
      exec (.biconflict p hpa) s = .next (settle (v.carry (dieOfPort p) (v.homeDie fa) (faKey fa) vcRsp 0 false m.origin cell
        (.biconflict (v.homeDie fa) (s.get (O.HOST_ID p)) (lineOf fa) p hpa.toNat m.origin)))) ∧
  (∀ (s : State) (d h line : Nat) (p hpa : Nat) , s.snoopOpen d h line = true →
      s.conflictAtHome d h line p hpa = s.carry d (dieOfPort p) (hostKey h) vcRsp 0 false (s.stamp d) 0
        (.bypass p { type := .conflictAck, kind := .other, channel := 3, opcode := 4, host := h, fa := line, hasFa := true, hpa := hpa, origin := s.stamp d, home := d + 1 })
        [homeStream d h]) ∧
  (∀ (s a u : State) (d h : Nat) (line : Word) (b : Snoop), d < s.dies → hasHost h = true →
      (s.dir.snoop.find? (fun b => b.die == d && b.host == h && b.line == lineOf line.toNat && b.sent &&
        decide (b.since + s.get O.BI_TIMEOUT ≤ s.elapsed d))).isSome = true →
      a = s.absorbFirst d (lineOf line.toNat) →
      a.dir.snoop.find? (fun b => b.die == d && b.host == h && b.line == lineOf line.toNat && b.sent &&
        decide (b.since + a.get O.BI_TIMEOUT ≤ a.elapsed d)) = some b →
      u = (((if (a.entryAt d (lineOf line.toNat)).line (lineNo (lineOf line.toNat)) = lineE ∧ (a.entryAt d (lineOf line.toNat)).owner = h then
        (a.poisonLine d (lineOf line.toNat)).setTxn d b.txn (fun t => if t.source = some h ∧ t.req.line = lineOf line.toNat then { t with lost := true } else t)
        else a).viralHost h).count32 (O.BI_TIMEOUT_COUNT d)).dirEvent d F.BI_TIMEOUT 2 16 (lineOf line.toNat) h 4 →
      exec (.biTimeout d h line) s = .next (settle (({ u with dir := { u.dir with late := u.dir.late ++ [(h, lineOf line.toNat)] } } : State).snoopAnswer d h
        (lineOf line.toNat) 0))) ∧
  (∀ (s : State) (d : Nat) (line : Word) (t : Stalled), d < s.dies → t.req.returns ≠ 15 →
      s.dir.stalled.find? (fun t => t.req.die == d && t.req.line == lineOf line.toNat && t.since != 0 &&
        decide (t.since - 1 + s.get O.ALLOC_WAIT ≤ s.elapsed d)) = some t →
      exec (.allocWaitExpiry d line) s = .next (settle ((({ s with dir := { s.dir with stalled := s.dir.stalled.erase t } } : State).count32
        (O.ALLOC_RETRIES d)).queueHome { t.req with returns := t.req.returns + 1 })))

/-- Sweeps, the walker and banks. Under the conditions of its clause: a served SR_RECALL makes SR_STATE RECALLING, adds a recall on every die
and tells the groups of the masked hosts with marks in the region of the conflict; a served BANK_RETIRE sets the bank's sweeping bit and adds
its sweep; SWEEP_START of the first sweep of a die marks it started, finds the ECC events of its walk (State.walkErrs) and queues one request
for each line it wants (State.recallReqs); SWEEP_END, where the die's home serves, of a sweep of 256 ticks or more that has no request queued or in service, and of a bank's retirement
whose bank has none either and holds no line, is done (State.finishSweep); BANK_RETIRED of a bank whose sweep is done, on a die that is not frozen in SAFE, puts the bank's fold target in its places of FOLD_MAP, makes the bank read
retired, owes the channel's retirement and the service of what waits, and raises BANK_RETIRED; DIR_CLEARED leaves DIR_STATE ACTIVE, in INIT
once every die has been tested; SCRUB of an entry with a corrected error counts and raises DIR_CE, and at the end of a pass that is due
SCRUB_PASSES is counted. -/
def Obligations.Sweeps : Prop :=
  (∀ (s u : State) (ifc : Iface) (r : Nat) (mask : Word), s.servesWrite ifc (O.SR_RECALL r) mask.toNat = true →
      u = (s.put (O.SR_STATE r) 2).addSweeps 0 r mask.toNat (List.range s.dies) →
      exec (.srRecall ifc r mask) s = .next (settle ((forEach (u.grp.mark.filter (fun m => mask.toNat.testBit m.host && u.inRegion r m.line)) (fun m s =>
        s.owe (.group { kind := 4, host := m.host, slot := m.slot, line := m.line, status := stConflict, gen := m.gen })) u).acknowledged ifc (O.SR_RECALL r)))) ∧
  (∀ (s : State) (ifc : Iface) (d : Nat) (bank : Word), s.servesWrite ifc (O.BANK_RETIRE d) bank.toNat = true →
      exec (.bankRetire ifc d bank) s = .next (settle (((s.setBit (O.BANK_STATE d) (16 + bank.toNat) true).addSweeps 2 bank.toNat 0 [d]).acknowledged ifc
        (O.BANK_RETIRE d)))) ∧
  (∀ (s u : State) (d : Nat) (errs : List Nat) (w : Sweep) (ws : List Sweep), d < s.dies →
      s.dir.sweep.filter (fun w => w.die == d && !w.done) = w :: ws → w.started = false → s.get O.DIR_STATE = 2 →
      u = ({ s with dir := { s.dir with sweep := s.dir.sweep.map (fun (x : Sweep) =>
        if x.die = d ∧ x.serial = w.serial then { x with started := true, since := s.elapsed d } else x) } } : State).walkErrs d errs →
      exec (.sweepStart ⟨d, errs⟩) s = .next (settle (forEach (u.recallReqs w) (fun q s => s.queueHome q) u))) ∧
  (∀ (s : State) (d : Nat) (w : Sweep), d < s.dies → s.homeServes d = true →
      s.dir.sweep.find? (fun w => w.die == d && w.started && !w.done) = some w →
      s.dir.queue.any (fun q => q.cls == .sweep && !q.isVictim && q.die == d && q.slot == w.serial) = false →
      (w.kind = 2 → s.recallReqs w = [] ∧ s.dir.txn.any (fun t => t.req.die == d && s.servedBank d t.req.line == w.arg) = false ∧
        s.dir.stalled.any (fun t => t.req.die == d && s.servedBank d t.req.line == w.arg) = false) →
      s.dir.txn.any (fun t => t.req.cls == .sweep && !t.req.isVictim && t.req.die == d && t.req.slot == w.serial) = false →
      w.since + 256 ≤ s.elapsed d →
      exec (.sweepEnd d) s = .next (settle (({ s with dir := { s.dir with sweep := s.dir.sweep.map (fun (x : Sweep) =>
        if x.die = d ∧ x.serial = w.serial then { x with done := true } else x) } } : State).finishSweep w))) ∧
  (∀ (s u : State) (d b t : Nat) (w : Sweep), d < s.dies → b < 16 → (s.get O.DIR_STATE ≠ 3 ∨ s.dieSafe d = false) →
      s.dir.sweep.find? (fun w => w.die == d && w.kind == 2 && w.arg == b && w.done) = some w → s.foldTarget d b = some t →
      u = ((((({ s with dir := { s.dir with sweep := s.dir.sweep.erase w } } : State).put (O.FOLD_MAP d) ((List.range 16).foldl (fun m k =>
        if m / 16 ^ k % 16 = b then m - b * 16 ^ k + t * 16 ^ k else m) (s.get (O.FOLD_MAP d)))).setBit (O.BANK_STATE d) (16 + b) false).setBit
        (O.BANK_STATE d) b true).owe (.retire (channelId 5 (16 * d + b)))) →
      exec (.bankRetired d b) s = .next (settle ((forEach (u.dir.queue.filter (fun q => q.die == d)) (fun q s => s.owe (.kick d q.line)) u).dirEvent d
        F.BANK_RETIRED 5 b 0 (0x700 + d) 0))) ∧
  (∀ s : State, (List.range s.dies).all (fun d => s.domainOn d dDirectory) = true → s.mode ≠ mInit → s.get O.DIR_STATE = 1 →
      exec .dirCleared s = .next (settle ((({ s with dir := { s.dir with clearing := [] } } : State).put O.DIR_STATE 2).setRst (fun r =>
        { r with initCleared := r.initTested })))) ∧
  (∀ s : State, (List.range s.dies).all (fun d => s.domainOn d dDirectory) = true → s.mode = mInit →
      (List.range s.dies).all (fun d => s.rst.initTested.at d) = true → s.get O.DIR_STATE = 1 →
      exec .dirCleared s = .next (settle ((({ s with dir := { s.dir with clearing := [] } } : State).put O.DIR_STATE 2).setRst (fun r =>
        { r with initCleared := (List.range s.dies).map (fun d => (d, true)) })))) ∧
  (∀ (s : State) (d set way : Nat), d < s.dies → s.get O.DIR_STATE = 2 → s.dir.sweep.any (fun w => w.die == d && w.started && !w.done) = false →
      exec (.scrub d set way 1 false) s = .next (settle ((s.count32 (O.DIR_CE_COUNT d)).dirEvent d F.DIR_CE 0 (set % 16) 0 (0x700 + d) 0))) ∧
  (∀ (s : State) (d set way t : Nat), d < s.dies → s.get O.DIR_STATE = 2 → s.dir.sweep.any (fun w => w.die == d && w.started && !w.done) = false →
      s.dir.lastScrub.find d = some t → t + s.get O.SCRUB_PERIOD ≤ s.elapsed d →
      exec (.scrub d set way 0 true) s = .next (settle (({ s with dir := { s.dir with lastScrub := s.dir.lastScrub.place d (s.elapsed d) } } : State).wrap32
        (O.SCRUB_PASSES d))))

/-- Staged accesses and the commands of the doorbell page. Under the conditions of its clause: STAGED_WRITE and STAGED_READ at an alias of 1–7
take a cell and are admitted with a tracker as every CXL.mem request is (State.admitReq); once its write is received (State.gdbReceive), GDB_COMMIT of an OPEN slot with its generation gives
LAST_CMD OK, makes the slot COMMITTING with its stamp, and sends a claim of every staged line to its home; GDB_ABORT of an OPEN or COMMITTING
slot gives LAST_CMD OK and aborts it with status ABORTED (State.groupAbort); GDB_RELEASE of a COMMITTED or ABORTED slot gives LAST_CMD OK and
makes it IDLE; a command with another generation changes LAST_CMD alone, to CONFLICT; one while the pool endpoint's vPPB is not admitted is
counted as an unmapped access; served writes of GRP_CTRL abort and release likewise; an abort of a slot without staged lines makes it ABORTED,
and gives it its status and GRP_DONE_AT. -/
def Obligations.GroupRequests : Prop :=
  (∀ (s u : State) (r : HostReq) (p tag data mask cell k : Nat) (full : Bool) (hpa : Word) (poison : Bool),
      p < s.ports → 0 < aliasOf s p hpa.toNat → s.carries p = true → s.role p = roleUpstream → s.speaks p 1 = true →
      r = { hostReqOf p (if full then .memWr else .memWrPtl) metaI hpa.toNat tag data mask poison 0 with
            origin := s.stamp (dieOfPort p),
            evict := s.evictClass (hostReqOf p (if full then .memWr else .memWrPtl) metaI hpa.toNat tag data mask poison 0) } →
      s.receiveCell p (r.toMsg (s.get (O.HOST_ID p))) r.evict = (cell, u) → u.dieSafe (dieOfPort p) = false →
      u.admissible { r with cell := cell } = some k → u.rq.waiting.any (fun w => w.port == p && w.evict == r.evict) = false →
      exec (.stagedWrite p full hpa tag data mask poison) s = .next (settle (u.admitReq { r with cell := cell } k 0))) ∧
  (∀ (s u : State) (r : HostReq) (p tag cell k e : Nat) (errs : List Nat) (hpa : Word),
      p < s.ports → 0 < aliasOf s p hpa.toNat → s.carries p = true → s.role p = roleUpstream → s.speaks p 1 = true →
      r = { hostReqOf p .memRd metaI hpa.toNat tag 0 0 false e with
            origin := s.stamp (dieOfPort p),
            evict := s.evictClass (hostReqOf p .memRd metaI hpa.toNat tag 0 0 false e) } →
      s.receiveCell p (r.toMsg (s.get (O.HOST_ID p))) r.evict = (cell, u) → u.dieSafe (dieOfPort p) = false →
      u.admissible { r with cell := cell } = some k → u.rq.waiting.any (fun w => w.port == p && w.evict == r.evict) = false →
      exec (.stagedRead p ⟨hpa, e :: errs⟩ tag) s = .next (settle (u.admitReq { r with cell := cell } k 0))) ∧
  (∀ (s r t u v : State) (p k h gen : Nat), p < s.ports → 1 ≤ k → k ≤ 7 → h = s.get (O.HOST_ID p) → s.role p = roleUpstream → s.carries p = true →
      (s.poolVppb h).isSome = true → r = s.gdbReceive p k gen 1 → r.poolOpen h = true → r.dieSafe (dieOfPort p) = false →
      r.judgedState h k = grpOpen → r.grpState h k = grpOpen → gen < 2 ^ 32 → r.get (O.GRP_GEN h k) = gen →
      t = r.setGroup h k (fun g => { g with lastCmd := stOk }) →
      u = (t.setGrpState h k grpCommitting).put (O.GRP_COMMIT_STAMP h k) (t.stamp (t.hostDie h)) →
      v = u.setGroup h k (fun g => { g with commitAt := u.elapsed (t.hostDie h) }) →
      exec (.gdbCommit p k gen) s =
        .next (settle (forEach (v.group h k).lines (fun l s => s.groupToHome h k l.line .claim id) v))) ∧
  (∀ (s r : State) (p k h gen : Nat), p < s.ports → 1 ≤ k → k ≤ 7 → h = s.get (O.HOST_ID p) → s.role p = roleUpstream → s.carries p = true →
      (s.poolVppb h).isSome = true → r = s.gdbReceive p k gen 2 → r.poolOpen h = true → r.dieSafe (dieOfPort p) = false →
      r.judgedState h k = grpOpen ∨ r.judgedState h k = grpCommitting → gen < 2 ^ 32 → r.get (O.GRP_GEN h k) = gen →
      exec (.gdbAbort p k gen) s = .next (settle ((r.setGroup h k (fun g => { g with lastCmd := stOk })).groupAbort h k stAborted
        causeCommand))) ∧
  (∀ (s r : State) (p k h gen : Nat), p < s.ports → 1 ≤ k → k ≤ 7 → h = s.get (O.HOST_ID p) → s.role p = roleUpstream → s.carries p = true →
      (s.poolVppb h).isSome = true → r = s.gdbReceive p k gen 3 → r.poolOpen h = true → r.dieSafe (dieOfPort p) = false →
      r.judgedState h k = grpCommitted ∨ r.judgedState h k = grpAborted → r.grpState h k = grpCommitted ∨ r.grpState h k = grpAborted →
      gen < 2 ^ 32 → r.get (O.GRP_GEN h k) = gen →
      exec (.gdbRelease p k gen) s = .next (settle (((((r.setGroup h k (fun g => { g with lastCmd := stOk })).setGrpState h k
        grpIdle).setGroup h k (fun g => { lastCmd := g.lastCmd, cycleAt := g.cycleAt, startState := g.startState })).put
        (O.GRP_LINES h k) 0).put (O.GRP_TENANT h k) 0xFFFF))) ∧
  (∀ (s r : State) (p k gen h : Nat), p < s.ports → 1 ≤ k → k ≤ 7 → h = s.get (O.HOST_ID p) → s.role p = roleUpstream → s.carries p = true →
      (s.poolVppb h).isSome = true → r = s.gdbReceive p k gen 1 → r.poolOpen h = true → r.dieSafe (dieOfPort p) = false → gen < 2 ^ 32 →
      gen ≠ r.get (O.GRP_GEN h k) →
      exec (.gdbCommit p k gen) s = .next (settle (r.setGroup h k (fun g => { g with lastCmd := stConflict })))) ∧
  (∀ (s r : State) (p k gen h : Nat), p < s.ports → 1 ≤ k → k ≤ 7 → h = s.get (O.HOST_ID p) → s.role p = roleUpstream → s.carries p = true →
      (s.poolVppb h).isSome = true → r = s.gdbReceive p k gen 1 → r.poolOpen h = false → r.dieSafe (dieOfPort p) = false →
      exec (.gdbCommit p k gen) s = .next (settle (r.countUnmapped p h (k * 0x40) noTenant 2))) ∧
  (∀ (s : State) (ifc : Iface) (h k : Nat), 1 ≤ k → k < 8 → s.servesWrite ifc (O.GRP_CTRL h k) 2 = true →
      exec (.grpCtrlAbort ifc h k) s = .next (settle ((s.groupAbort h k stAborted causeCommand).acknowledged ifc (O.GRP_CTRL h k)))) ∧
  (∀ (s : State) (ifc : Iface) (h k : Nat), 1 ≤ k → k < 8 → s.servesWrite ifc (O.GRP_CTRL h k) 3 = true →
      s.grpState h k = grpCommitted ∨ s.grpState h k = grpAborted →
      exec (.grpCtrlRelease ifc h k) s = .next (settle (((((s.setGrpState h k grpIdle).setGroup h k (fun g =>
        { lastCmd := g.lastCmd, cycleAt := g.cycleAt, startState := g.startState })).put (O.GRP_LINES h k) 0).put (O.GRP_TENANT h k) 0xFFFF).acknowledged
        ifc (O.GRP_CTRL h k)))) ∧
  (∀ (s t u : State) (h k status rank : Nat), s.grpState h k = grpOpen ∨ s.grpState h k = grpCommitting → (s.group h k).lines = [] → status ≠ stConflict →
      t = (s.freeStaging h k).setGroup h k (fun g =>
        { g with abortAt := s.cycleOf (s.hostDie h), rank := rank, counted := decide (s.get (O.GRP_CONFLICTS h) < 2 ^ 32 - 1) }) →
      u = ((t.setGrpState h k grpAborted).put (O.GRP_STATUS h k) status).put (O.GRP_DONE_AT h k) (t.now (s.hostDie h)) →
      s.groupAbort h k status rank = (u.count32 (O.GRP_ABORTS h)).perfCount (s.hostDie h) evGrpAbort 0xFF (u.grpTenant h k) 1)

/-- What homes answer, and what a cancel clears. Under the conditions of its clause: MARK_ACK of the slot's generation marks the line and
answers Cmp to the write that waited for it; CLAIM_RESULT other than OK aborts the group with CONFLICT, and the last OK sends a pin of every
line; PIN_RESULT LIMIT aborts the group with LIMIT, another failure with CONFLICT, and the last OK makes the group APPLYING and sends the apply
write of every line; APPLY_WRITE_ACK that is not the last notes its line as written, and the last one, of a group that lost no write, sends an
unpin of every line, frees the staging, makes the group COMMITTED with its status and GRP_DONE_AT and counts it in GRP_COMMITS; GROUP_CANCEL of
one line takes the group's marks, claims and pins of the line and generation out of the table and the queue and owes the line's next
service. -/
def Obligations.GroupAnswers : Prop :=
  (∀ (s t : State) (h k : Nat) (line : Word) (a : GroupAnswer), hasGroup h k = true → s.takeGroupAnswer 0 h k (lineOf line.toNat) = some (a, t) →
      a.gen = t.get (O.GRP_GEN h k) →
      exec (.markAck h k line) s = .next (settle (forEach (((t.group h k).lines.filter (fun l => l.line == lineOf line.toNat)).map (fun l =>
        l.waiting)).flatten (fun o s => match o with | .tracker e n => s.owe (.answer (8192 * e + n) (.cmp 0) 0 false 0) | _ => s)
        (t.setStaging h k (lineOf line.toNat) (fun l => { l with marked := true, waiting := [] }))))) ∧
  (∀ (s t : State) (h k : Nat) (line : Word) (a : GroupAnswer), hasGroup h k = true → s.takeGroupAnswer 1 h k (lineOf line.toNat) = some (a, t) →
      a.gen = t.get (O.GRP_GEN h k) → t.grpState h k = grpCommitting → a.status ≠ stOk →
      exec (.claimResult h k line) s = .next (settle (t.groupAbort h k stConflict (causeConflict + 1)))) ∧
  (∀ (s t u : State) (h k : Nat) (line : Word) (a : GroupAnswer), hasGroup h k = true → s.takeGroupAnswer 1 h k (lineOf line.toNat) = some (a, t) →
      a.gen = t.get (O.GRP_GEN h k) → t.grpState h k = grpCommitting → a.status = stOk →
      u = t.setStaging h k (lineOf line.toNat) (fun l => { l with claimed := true }) → u.allLines h k (fun l => l.claimed) = true →
      exec (.claimResult h k line) s = .next (settle (forEach (u.group h k).lines (fun l s => s.groupToHome h k l.line .pin id) u))) ∧
  (∀ (s t : State) (h k : Nat) (line : Word) (errs : List Nat) (a : GroupAnswer), hasGroup h k = true → s.takeGroupAnswer 2 h k (lineOf line.toNat) = some (a, t) →
      a.gen = t.get (O.GRP_GEN h k) → t.grpState h k = grpCommitting → a.status = stLimit →
      exec (.pinResult h k ⟨line, errs⟩) s = .next (settle (t.groupAbort h k stLimit (causeLimit + 1)))) ∧
  (∀ (s t : State) (h k : Nat) (line : Word) (errs : List Nat) (a : GroupAnswer), hasGroup h k = true → s.takeGroupAnswer 2 h k (lineOf line.toNat) = some (a, t) →
      a.gen = t.get (O.GRP_GEN h k) → t.grpState h k = grpCommitting → a.status ≠ stLimit → a.status ≠ stOk →
      exec (.pinResult h k ⟨line, errs⟩) s = .next (settle (t.groupAbort h k stConflict (causeConflict + 1)))) ∧
  (∀ (s t u : State) (h k : Nat) (line : Word) (errs : List Nat) (a : GroupAnswer), hasGroup h k = true →
      s.takeGroupAnswer 2 h k (lineOf line.toNat) = some (a, t) →
      a.gen = t.get (O.GRP_GEN h k) → t.grpState h k = grpCommitting → a.status = stOk →
      u = t.setStaging h k (lineOf line.toNat) (fun l => { l with pinned := true }) → u.allLines h k (fun l => l.pinned) = true →
      exec (.pinResult h k ⟨line, errs⟩) s = .next (settle (forEach (((u.setGrpState h k grpApplying).group h k).lines.zip
        (errs ++ List.replicate ((u.setGrpState h k grpApplying).group h k).lines.length 0)) (fun x s => s.applyLine h k x.1 x.2)
        (u.setGrpState h k grpApplying)))) ∧
  (∀ (s t u : State) (h k : Nat) (line : Word) (a : GroupAnswer), hasGroup h k = true → s.takeGroupAnswer 3 h k (lineOf line.toNat) = some (a, t) →
      t.grpState h k = grpApplying →
      u = (t.setStaging h k (lineOf line.toNat) (fun l => { l with written := true })).setGroup h k (fun g => { g with lost := g.lost || a.status != stOk }) →
      u.allLines h k (fun l => l.written) = false →
      exec (.applyWriteAck h k line) s = .next (settle u)) ∧
  (∀ (s t u v w : State) (h k : Nat) (line : Word) (a : GroupAnswer), hasGroup h k = true → s.takeGroupAnswer 3 h k (lineOf line.toNat) = some (a, t) →
      t.grpState h k = grpApplying →
      u = (t.setStaging h k (lineOf line.toNat) (fun l => { l with written := true })).setGroup h k (fun g => { g with lost := g.lost || a.status != stOk }) →
      u.allLines h k (fun l => l.written) = true → (u.group h k).lost = false →
      v = (forEach (u.group h k).lines (fun l s => s.groupToHome h k l.line .unpin id) u).freeStaging h k →
      w = ((v.setGrpState h k grpCommitted).put (O.GRP_STATUS h k) (if (u.group h k).bad then stPoison else stOk)).put (O.GRP_DONE_AT h k) (v.now (u.hostDie h)) →
      exec (.applyWriteAck h k line) s = .next (settle ((w.count32 (O.GRP_COMMITS h)).perfCount (u.hostDie h) evGrpCommit 0xFF (w.grpTenant h k) 1))) ∧
  (∀ (s u : State) (d h k : Nat) (c : HomeReq), d < s.dies → hasGroup h k = true →
      s.dir.queue.filter (fun q => q.die == d && q.cls == .cancel && q.host == h && q.slot == k) = [c] →
      s.grp.mark.any (fun m => (m.die == d && m.line == c.line && m.host == h && m.slot == k && m.gen == c.gen) && m.holds) = false →
      u = (s.unqueue c).notePeak d →
      exec (.groupCancel d h k) s = .next (settle (({ u with
        dir := { u.dir with
          queue := u.dir.queue.filter (fun q => !(q.die == d && q.line == c.line && q.host == h && q.slot == k && q.gen == c.gen &&
            (q.cls == .mark || q.cls == .claim || q.cls == .pin))),
          stalled := u.dir.stalled.filter (fun t => !(t.req.die == d && t.req.line == c.line && t.req.host == h && t.req.slot == k && t.req.gen == c.gen &&
            (t.req.cls == .mark || t.req.cls == .claim || t.req.cls == .pin))) },
        grp := { u.grp with
          mark := u.grp.mark.filter (fun m => !(m.die == d && m.line == c.line && m.host == h && m.slot == k && m.gen == c.gen)) } } : State).owe (.kick d c.line))))

/-- The Weevil auditor and the credit audit. Under the conditions of its clause: WEEVIL_EXAMINE, whose finding of check 1 is an
operand (the model's choice, log 42), counts the cell in its pool and goes on to the
next, quarantines a cell whose records disagree, suspects a charged cell that nothing names, and counts and raises the leak of one it
suspected; WEEVIL_PASS_END counts the pass and starts anew, and raises POOL_MISMATCH where a pool's cells and its counter differ; a served
CA_AT arms or disarms the audit; CREDIT_AUDIT_START at its instant makes CA_STATE RUNNING, puts CA_LOOPS, and makes each die's checks
(State.auditDie) and each link end's (State.auditLink); MARKER whose checks 4 and 5 hold asks for its return marker with the next CREDIT,
and one whose check 4 fails fails that check; RETURN_MARKER is awaited no longer, and fails check 6 where the count it carries lies outside those of its CREDIT and of the one
before (log 90); CREDIT_AUDIT_GATHER of an audit without a failure and without an awaited marker leaves CA_RESULT OK and counts the run, and of one with one
failed check leaves CONFLICT with its loop and check. -/
def Obligations.BufferAuditors : Prop :=
  (∀ (s : State) (d n : Nat), d < s.dies → s.datapathOn = true → s.domainOn d dAuditor = true → s.get O.WEEVIL_ENABLE = 1 → (s.dieCore d).weevil = n → 0 < n → n < cellsPerDie →
      (s.cellAt d n).pool = 0 →
      exec (.weevilExamine d 0) s = .next (settle (s.setDieCore d (fun k => { k with weevil := n + 1, found := k.found.upd 0 (· + 1) })))) ∧
  (∀ (s u : State) (d n : Nat), d < s.dies → s.datapathOn = true → s.domainOn d dAuditor = true → s.get O.WEEVIL_ENABLE = 1 → (s.dieCore d).weevil = n → 0 < n → n < cellsPerDie →
      u = s.quarantine d n →
      exec (.weevilExamine d 1) s = .next (settle (u.setDieCore d (fun k => { k with weevil := n + 1, found := k.found.upd (u.cellAt d n).pool (· + 1) })))) ∧
  (∀ (s u : State) (d n : Nat), d < s.dies → s.datapathOn = true → s.domainOn d dAuditor = true → s.get O.WEEVIL_ENABLE = 1 → (s.dieCore d).weevil = n → 0 < n → n < cellsPerDie →
      (s.cellAt d n).pool ≠ 0 → (s.cellAt d n).pool ≠ poolQuarantine → s.namedCells.contains (cellName n (s.cellAt d n).gen) = false →
      (s.cellAt d n).suspect = false → u = s.setCell d n (fun c => { c with suspect := true }) → u.elapsed d < (s.cellAt d n).since + u.get O.WEEVIL_AGE_LIMIT →
      exec (.weevilExamine d 0) s = .next (settle (u.setDieCore d (fun k => { k with weevil := n + 1, found := k.found.upd (u.cellAt d n).pool (· + 1) })))) ∧
  (∀ (s u : State) (d n : Nat), d < s.dies → s.datapathOn = true → s.domainOn d dAuditor = true → s.get O.WEEVIL_ENABLE = 1 → (s.dieCore d).weevil = n → 0 < n → n < cellsPerDie →
      (s.cellAt d n).pool ≠ 0 → (s.cellAt d n).pool ≠ poolQuarantine → s.namedCells.contains (cellName n (s.cellAt d n).gen) = false →
      (s.cellAt d n).suspect = true → (s.count32 (O.LEAKS_FOUND d)).get (O.FIRST_LEAK_CELL d) = 0xFFFFFFFF →
      u = ((s.count32 (O.LEAKS_FOUND d)).put (O.FIRST_LEAK_CELL d) n).bufEvent d F.CELL_LEAK 0 n → u.get O.WEEVIL_RECLAIM = 0 →
      u.elapsed d < (s.cellAt d n).since + u.get O.WEEVIL_AGE_LIMIT →
      exec (.weevilExamine d 0) s = .next (settle (u.setDieCore d (fun k => { k with weevil := n + 1, found := k.found.upd (u.cellAt d n).pool (· + 1) })))) ∧
  (∀ (s : State) (d : Nat), d < s.dies → cellsPerDie ≤ (s.dieCore d).weevil →
      [1, 2, 3, 4, 5, 6, 7].any (fun p => (s.dieCore d).found.at p != s.get (poolObj d p)) = false →
      exec (.weevilPassEnd d false) s =
        .next (settle ((s.setDieCore d (fun k => { k with weevil := 0, found := [] })).wrap32 (O.WEEVIL_PASSES d)))) ∧
  (∀ (s : State) (d : Nat), d < s.dies → cellsPerDie ≤ (s.dieCore d).weevil →
      [1, 2, 3, 4, 5, 6, 7].any (fun p => (s.dieCore d).found.at p != s.get (poolObj d p)) = true →
      exec (.weevilPassEnd d false) s =
        .next (settle (((s.setDieCore d (fun k => { k with weevil := 0, found := [] })).wrap32 (O.WEEVIL_PASSES d)).bufEvent d F.POOL_MISMATCH 3 0))) ∧
  (∀ (s : State) (ifc : Iface) (v : Word), s.servesWrite ifc O.CA_AT v.toNat = true →
      exec (.caAt ifc v) s =
        .next (settle (((s.put O.CA_AT v.toNat).put O.CA_STATE (if v.toNat = 0 then 0 else 1)).acknowledged ifc O.CA_AT))) ∧
  (∀ s u v w x : State, s.datapathOn = true → s.domainOn 0 dAuditor = true → s.get O.CA_STATE = 1 → s.get O.CA_AT ≠ 0 → s.get O.CA_AT ≤ s.now 0 →
      u = { s with core := { s.core with failed := [], awaited := [], auditAt := s.elapsed 0, auditT := s.get O.CA_AT } } →
      v = (u.put O.CA_STATE 2).put O.CA_AT (if u.get O.CA_PERIOD = 0 then 0 else s.get O.CA_AT + u.get O.CA_PERIOD) →
      w = forEach (List.range v.dies) (fun d s => s.put (O.CA_LOOPS d) (s.auditedLoops d)) v →
      x = forEach (List.range w.dies) (fun d s => s.auditDie d) w →
      exec .creditAuditStart s = .next (settle (forEach (List.range (4 * x.dies)) (fun l s => s.auditLink l) x))) ∧
  (∀ (s u : State) (l c serial received charged : Nat), l < 4 * s.dies → c < 5 →
      (s.link l).markers.find? (fun m => m.1 == c) = some (c, serial, received, charged) →
      u = s.setLink l (fun k => { k with markers := k.markers.filter (fun m => m.1 != c) }) →
      (received + 2 ^ 32 - (u.linkLoop l c).marker) % 2 ^ 32 = charged → received = (u.linkLoop (u.peerLink l) c).snapConsumed →
      exec (.marker l c) s = .next (settle ((u.setLink l (fun k => { k with markOut := k.markOut.set c (serial + 1, (u.linkLoop l c).returnedTx) })).sendCredit
        l c))) ∧
  (∀ (s u v : State) (l c serial received charged : Nat), l < 4 * s.dies → c < 5 →
      (s.link l).markers.find? (fun m => m.1 == c) = some (c, serial, received, charged) →
      u = s.setLink l (fun k => { k with markers := k.markers.filter (fun m => m.1 != c) }) →
      (received + 2 ^ 32 - (u.linkLoop l c).marker) % 2 ^ 32 ≠ charged →
      v = u.auditFail (l / 4) (auditCode 3 (u.peerLink l / 4) (u.peerLink l % 4) c) 4 → received = (v.linkLoop (u.peerLink l) c).snapConsumed →
      exec (.marker l c) s = .next (settle ((v.setLink l (fun k => { k with markOut := k.markOut.set c (serial + 1, (u.linkLoop l c).returnedTx) })).sendCredit
        l c))) ∧
  (∀ (s u : State) (l c before mark now : Nat), l < 4 * s.dies → c < 5 →
      (s.link l).returns.find? (fun m => m.1 == c) = some (c, before, mark, now) →
      u = s.setLink l (fun k => { k with returns := k.returns.filter (fun m => m.1 != c) }) →
      (mark + 2 ^ 32 - before) % 2 ^ 32 ≤ (now + 2 ^ 32 - before) % 2 ^ 32 →
      exec (.returnMarker l c) s = .next (settle { u with core := { u.core with awaited := u.core.awaited.filter (· != 8 * l + c) } })) ∧
  (∀ (s u : State) (l c before mark now : Nat), l < 4 * s.dies → c < 5 →
      (s.link l).returns.find? (fun m => m.1 == c) = some (c, before, mark, now) →
      u = (s.setLink l (fun k => { k with returns := k.returns.filter (fun m => m.1 != c) })).auditFail (l / 4) (auditCode 3 (l / 4) (l % 4) c) 6 →
      (now + 2 ^ 32 - before) % 2 ^ 32 < (mark + 2 ^ 32 - before) % 2 ^ 32 →
      exec (.returnMarker l c) s = .next (settle { u with core := { u.core with awaited := u.core.awaited.filter (· != 8 * l + c) } })) ∧
  (∀ s u : State, s.get O.CA_STATE = 2 → s.core.auditAt + 50 ≤ s.elapsed 0 → s.core.awaited = [] → s.core.failed = [] →
      u = (((((s.put O.CA_RESULT stOk).put O.CA_LAST_AT s.core.auditT).put O.CA_FAIL_LOOP 0).put O.CA_FAIL_CHECK 0).wrap32 O.CA_RUNS) →
      exec .creditAuditGather s = .next (settle (({ u with core := { u.core with awaited := [], failed := [] } } : State).put O.CA_STATE
        (if u.get O.CA_AT = 0 then 0 else 1)))) ∧
  (∀ (s u : State) (code check : Nat), s.get O.CA_STATE = 2 → s.core.auditAt + 50 ≤ s.elapsed 0 → s.core.awaited = [] →
      s.core.failed = [(code, check)] → check ≠ 0 →
      u = ((((((s.put O.CA_RESULT stConflict).put O.CA_LAST_AT s.core.auditT).put O.CA_FAIL_LOOP code).put O.CA_FAIL_CHECK check).count32
        (O.CA_LOOP_FAILS (code / 2 ^ 16 % 256))).wrap32 O.CA_RUNS).count32 O.CA_FAILS →
      exec .creditAuditGather s = .next (settle (({ u with core := { u.core with awaited := [], failed := [] } } : State).put O.CA_STATE
        (if u.get O.CA_AT = 0 then 0 else 1))))

/-- Capture and the high-water marks. Under the conditions of its clause: a served CAP_ENABLE of 0 turns the unit off and empties its queue, and
of 1 starts a capture that runs at once or waits for CAP_START_AT; CAP_START and CAP_STOP at their ticks leave the unit running, and stopped with its queue empty (that a
stop empties the queue is the model's inference, log 43);
CAP_RECORD_WRITE moves the first queued record into the ring, counts it and advances CAP_WRITE_INDEX, stops the unit at the last record after a
trigger, and at the ring's last index goes on at index 0 with CAP_WRAPS one more in CAP_MODE WRAP and stops with the ring full in STOP
(State.captureFull); CAP_CLEAR erases the ring and its index and wraps; CF_ENABLE
going from 0 to 1 gives the filter's LFSR its seed; HWM_SNAPSHOT at its tick copies the live marks, notes the tick, counts it and sets the next;
HWM_CLEAR clears the live marks. -/
def Obligations.CaptureAndMarks : Prop :=
  (∀ (s : State) (ifc : Iface) (d : Nat) (b : Word), d < s.dies → s.servesWrite ifc (O.CAP_ENABLE d) b.toNat = true → b.toNat = 0 →
      exec (.capEnable ifc d b) s = .next (settle ((((s.put (O.CAP_ENABLE d) 0).put (O.CAP_STATE d) capOff).setCapture d (fun u =>
        { u with queue := [], counting := false })).acknowledged ifc (O.CAP_ENABLE d)))) ∧
  (∀ (s u : State) (ifc : Iface) (d : Nat) (b : Word), d < s.dies → s.servesWrite ifc (O.CAP_ENABLE d) b.toNat = true → b.toNat ≠ 0 →
      s.get (O.CAP_ENABLE d) ≠ 1 →
      u = ((s.put (O.CAP_ENABLE d) b.toNat).put (O.CAP_RECORDS d) 0).setCapture d (fun u => { u with queue := [], post := 0, counting := false }) →
      exec (.capEnable ifc d b) s = .next (settle ((u.put (O.CAP_STATE d) (if u.get (O.CAP_START_AT d) = 0 then capRunning else capWaiting)).acknowledged
        ifc (O.CAP_ENABLE d)))) ∧
  (∀ (s : State) (d : Nat), d < s.dies → s.get (O.CAP_STATE d) = capWaiting → s.get (O.CAP_START_AT d) ≤ s.now d →
      exec (.capStart d) s = .next (settle (s.put (O.CAP_STATE d) capRunning))) ∧
  (∀ (s : State) (d : Nat), d < s.dies → s.get (O.CAP_STATE d) = capRunning ∨ s.get (O.CAP_STATE d) = capPost → s.get (O.CAP_STOP_AT d) ≠ 0 →
      s.get (O.CAP_STOP_AT d) ≤ s.now d → exec (.capStop d) s = .next (settle ((s.put (O.CAP_STATE d) capStopped).setCapture d (fun u => { u with queue := [] })))) ∧
  (∀ (s u : State) (d i w0 w1 w2 w3 : Nat) (q : List (List Nat)), d < s.dies → (s.capture d).queue = [w0, w1, w2, w3] :: q → i = s.get (O.CAP_WRITE_INDEX d) →
      i + 1 < 8192 → (s.get (O.CAP_MODE d) = 1 → s.get (O.CAP_WRAPS d) = 0) →
      u = (((s.writeBytes (captureAddr d (32 * i)) (bytesOf w0 8 ++ bytesOf w1 8 ++ bytesOf (w2 + min (s.capture d).lost 63 * 2 ^ 56) 8 ++ bytesOf w3 8)).setCapture d
        (fun c => { c with queue := q, lost := 0, counting := c.counting || (w1 / 2 ^ 60 = 2),
                           post := if c.counting then c.post + 1 else c.post })).wrap32 (O.CAP_RECORDS d)).put (O.CAP_WRITE_INDEX d) (i + 1) →
      u.get (O.CAP_STATE d) ≠ capPost →
      exec (.capRecordWrite d) s = .next (settle u)) ∧
  (∀ (s u : State) (d i w0 w1 w2 w3 : Nat) (q : List (List Nat)), d < s.dies → (s.capture d).queue = [w0, w1, w2, w3] :: q → i = s.get (O.CAP_WRITE_INDEX d) →
      i + 1 < 8192 → (s.get (O.CAP_MODE d) = 1 → s.get (O.CAP_WRAPS d) = 0) →
      u = (((s.writeBytes (captureAddr d (32 * i)) (bytesOf w0 8 ++ bytesOf w1 8 ++ bytesOf (w2 + min (s.capture d).lost 63 * 2 ^ 56) 8 ++ bytesOf w3 8)).setCapture d
        (fun c => { c with queue := q, lost := 0, counting := c.counting || (w1 / 2 ^ 60 = 2),
                           post := if c.counting then c.post + 1 else c.post })).wrap32 (O.CAP_RECORDS d)).put (O.CAP_WRITE_INDEX d) (i + 1) →
      u.get (O.CAP_STATE d) = capPost → (u.capture d).counting = true → u.get (O.CAP_POST_COUNT d) ≤ (u.capture d).post →
      exec (.capRecordWrite d) s = .next (settle ((u.put (O.CAP_STATE d) capStopped).setCapture d (fun u => { u with queue := [] })))) ∧
  (∀ (s u : State) (d w0 w1 w2 w3 : Nat) (q : List (List Nat)), d < s.dies → (s.capture d).queue = [w0, w1, w2, w3] :: q → s.get (O.CAP_WRITE_INDEX d) = 8191 →
      s.get (O.CAP_MODE d) = 1 → s.get (O.CAP_WRAPS d) = 0 →
      u = ((((s.writeBytes (captureAddr d (32 * 8191)) (bytesOf w0 8 ++ bytesOf w1 8 ++ bytesOf (w2 + min (s.capture d).lost 63 * 2 ^ 56) 8 ++ bytesOf w3 8)).setCapture d
        (fun c => { c with queue := q, lost := 0, counting := c.counting || (w1 / 2 ^ 60 = 2),
                           post := if c.counting then c.post + 1 else c.post })).wrap32 (O.CAP_RECORDS d)).put (O.CAP_WRITE_INDEX d) 0).wrap32 (O.CAP_WRAPS d) →
      u.get (O.CAP_STATE d) ≠ capPost → u.get (O.CAP_MODE d) = 1 →
      exec (.capRecordWrite d) s = .next (settle (u.captureFull d))) ∧
  (∀ (s u : State) (d w0 w1 w2 w3 : Nat) (q : List (List Nat)), d < s.dies → (s.capture d).queue = [w0, w1, w2, w3] :: q → s.get (O.CAP_WRITE_INDEX d) = 8191 →
      s.get (O.CAP_MODE d) = 0 →
      u = ((((s.writeBytes (captureAddr d (32 * 8191)) (bytesOf w0 8 ++ bytesOf w1 8 ++ bytesOf (w2 + min (s.capture d).lost 63 * 2 ^ 56) 8 ++ bytesOf w3 8)).setCapture d
        (fun c => { c with queue := q, lost := 0, counting := c.counting || (w1 / 2 ^ 60 = 2),
                           post := if c.counting then c.post + 1 else c.post })).wrap32 (O.CAP_RECORDS d)).put (O.CAP_WRITE_INDEX d) 0).wrap32 (O.CAP_WRAPS d) →
      u.get (O.CAP_STATE d) ≠ capPost → u.get (O.CAP_MODE d) = 0 →
      exec (.capRecordWrite d) s = .next (settle u)) ∧
  (∀ (s : State) (ifc : Iface) (d : Nat), d < s.dies → s.servesWrite ifc (O.CAP_CLEAR d) 1 = true →
      exec (.capClear ifc d) s = .next (settle ((((s.eraseRange (captureAddr d 0) 0x40000).put (O.CAP_WRITE_INDEX d) 0).put (O.CAP_WRAPS d) 0).acknowledged ifc
        (O.CAP_CLEAR d))) ∧
      (∀ a, captureAddr d 0 ≤ a → a < captureAddr d 0 + 0x40000 → (s.eraseRange (captureAddr d 0) 0x40000).readByte a = ramDefault)) ∧
  (∀ (s : State) (ifc : Iface) (d f : Nat), d < s.dies → f < 8 → s.servesWrite ifc (O.CF_ENABLE d f) 1 = true → s.get (O.CF_ENABLE d f) = 0 →
      exec (.cfEnable ifc d f) s = .next (settle (((s.put (O.CF_ENABLE d f) 1).setCapture d (fun u =>
        { u with lfsr := setEight u.lfsr f ((s.put (O.CF_ENABLE d f) 1).get (O.CF_SEED d f)) })).acknowledged ifc (O.CF_ENABLE d f)))) ∧
  (∀ s u v : State, s.get O.HWM_SNAP_AT ≠ 0 → s.get O.HWM_SNAP_AT ≤ s.now 0 →
      u = forEach (s.regs.filter (fun e => isLiveMark (Obj.ofKey e.1))) (fun e s =>
        s.put ⟨(Obj.ofKey e.1).cls, (Obj.ofKey e.1).inst, (Obj.ofKey e.1).mem + 0x80⟩ e.2.toNat)
        (s.clearWhere (fun o => o.cls == 0x33 && decide (0x100 ≤ o.inst) && decide (0x80 ≤ o.mem))) →
      v = (if u.get O.HWM_SNAP_CLEAR = 1 then u.clearWhere isLiveMark else u) →
      exec .hwmSnapshot s = .next (settle (((v.put O.HWM_LAST_SNAP_AT (s.get O.HWM_SNAP_AT)).wrap32 O.HWM_SNAP_COUNT).put O.HWM_SNAP_AT
        (if v.get O.HWM_SNAP_PERIOD = 0 then 0 else s.get O.HWM_SNAP_AT + v.get O.HWM_SNAP_PERIOD)))) ∧
  (∀ (s : State) (ifc : Iface), s.servesWrite ifc O.HWM_CLEAR 1 = true →
      exec (.hwmClear ifc) s = .next (settle ((s.clearWhere isLiveMark).acknowledged ifc O.HWM_CLEAR)))

/-- Admission, freezing, thawing and reset of a tenant. Under the conditions of its clause: a served T_ADMIT of 0 holds it, and of 1 holds it
and lets the tenant's queues fetch again; FREEZE makes the tenant frozen with T_FROZEN_AT at FT_NOW, forms its image, and fails with FROZEN
the transactions that write what it holds without removing or restoring it; THAW ends the freeze and drops the formed image; RESET fills the
tenant's meters, empties its leaves, resets its queues, clears its counters of every class, and leaves T_REFUSED 0; DISCARD erases the loaded
image, frees its store slot and leaves T_IMAGE NONE. -/
def Obligations.TenantCommands : Prop :=
  (∀ (s : State) (ifc : Iface) (t : Nat) (b : Word), t < 0x400 → s.servesWrite ifc (O.T_ADMIT t) b.toNat = true → b.toNat = 0 →
      exec (.tAdmit ifc t b) s = .next (settle ((s.put (O.T_ADMIT t) 0).acknowledged ifc (O.T_ADMIT t)))) ∧
  (∀ (s : State) (ifc : Iface) (t : Nat) (b : Word), t < 0x400 → s.servesWrite ifc (O.T_ADMIT t) b.toNat = true → b.toNat = 1 →
      exec (.tAdmit ifc t b) s = .next (settle ((forEach ((s.put (O.T_ADMIT t) 1).tenantQueues t) (fun q s => s.fetchMore q 16)
        (s.put (O.T_ADMIT t) 1)).acknowledged ifc (O.T_ADMIT t)))) ∧
  (∀ (s u : State) (ifc : Iface) (t : Nat), s.servesWrite ifc (O.T_CMD t) 1 = true →
      u = ({ s with ten := { s.ten with frozen := s.ten.frozen ++ [t] } } : State).put (O.T_FROZEN_AT t) (s.now 0) →
      exec (.freeze ifc t) s = .next (settle ((({ u with ten := { u.ten with formed := u.ten.formed.set t (u.formImage t) } } : State).txFailWhere
        (fun s x => s.txTouches x t) stFrozen).acknowledged ifc (O.T_CMD t)))) ∧
  (∀ (s : State) (ifc : Iface) (t : Nat), s.servesWrite ifc (O.T_CMD t) 2 = true →
      exec (.thaw ifc t) s = .next (settle (({ s with ten := { s.ten with frozen := s.ten.frozen.erase t, formed := s.ten.formed.drop t } } : State).acknowledged
        ifc (O.T_CMD t)))) ∧
  (∀ (s u v : State) (ifc : Iface) (t : Nat), s.servesWrite ifc (O.T_CMD t) 3 = true →
      u = forEach (s.tenantLeaves t) (fun k s => s.freshLeaf k) (s.fillMeters t) →
      v = forEach (u.tenantQueues t) (fun q s => s.resetQueue q) u →
      exec (.tCmdReset ifc t) s = .next (settle (((forEach (List.range 8) (fun k s => s.tcClear t k) v).put (O.T_REFUSED t) 0).acknowledged ifc (O.T_CMD t)))) ∧
  (∀ (s : State) (ifc : Iface) (t : Nat), s.servesWrite ifc (O.T_CMD t) 4 = true →
      exec (.discard ifc t) s = .next (settle (((({ s with ten := { s.ten with store := s.ten.store.erase t } } : State).eraseRange (imageAddr t) 0x10000).put
        (O.T_IMAGE t) imgNone).acknowledged ifc (O.T_CMD t))))

/-- Queues of the mover. Under the conditions of its clause: a served Q_DOORBELL sets the queue's flag; Q_CTRL ENABLE of a queue that is not
ENABLED makes it ENABLED with Q_ERROR 0, and its PI is read anew; DISABLE of an ENABLED or HALTED queue makes it DRAINING, and DISABLED where
nothing of it is left (State.queueRest); ABORT takes up its acknowledged lines, ends its other descriptors with ABORTED, and leaves the queue
as DISABLE does; RESET clears its objects, forgets its descriptors and makes it DISABLED; a served Q_NTF_ACK holds its value; PI_READ clears the
flag and reads PI (State.queueRead); NTF_DELAY_EXPIRY of a queue whose vector MSI lets go, with a MOVER cell to be had,
sends the interrupt and counts anew. -/
def Obligations.MoverQueues : Prop :=
  (∀ (s : State) (ifc : Iface) (q : Nat) (v : Word), s.servesWrite ifc (O.Q_DOORBELL q) v.toNat = true →
      exec (.qDoorbell ifc q v) s = .next (settle ((s.setQueue q (fun r => { r with bell := true })).acknowledged ifc (O.Q_DOORBELL q)))) ∧
  (∀ (s : State) (ifc : Iface) (q : Nat), s.servesWrite ifc (O.Q_CTRL q) 1 = true → s.get (O.Q_STATE q) ≠ qEnabled →
      exec (.qCtrlEnable ifc q) s = .next (settle ((((s.put (O.Q_STATE q) qEnabled).put (O.Q_ERROR q) 0).setQueue q (fun r =>
        { r with live := false })).acknowledged ifc (O.Q_CTRL q)))) ∧
  (∀ (s : State) (ifc : Iface) (q : Nat), s.servesWrite ifc (O.Q_CTRL q) 2 = true → s.get (O.Q_STATE q) = qEnabled ∨ s.get (O.Q_STATE q) = qHalted →
      exec (.qCtrlDisable ifc q) s = .next (settle (((s.put (O.Q_STATE q) qDraining).queueRest q).acknowledged ifc (O.Q_CTRL q)))) ∧
  (∀ (s u : State) (ifc : Iface) (q : Nat), s.servesWrite ifc (O.Q_CTRL q) 3 = true →
      u = ((s.takeAcked q).abortUnstarted q).abortStarted (fun x => x.queue == q) → u.get (O.Q_STATE q) ≠ qDisabled →
      exec (.qCtrlAbort ifc q) s = .next (settle (((u.put (O.Q_STATE q) qDraining).queueRest q).acknowledged ifc (O.Q_CTRL q)))) ∧
  (∀ (s u : State) (ifc : Iface) (q : Nat), s.servesWrite ifc (O.Q_CTRL q) 4 = true →
      u = (((((((s.put (O.Q_FETCH q) 0).put (O.Q_CI q) 0).put (O.Q_PI_SEEN q) 0).put (O.Q_NTF_PI q) 0).put (O.Q_NTF_ACK q) 0).put (O.Q_NTF_STATUS q) 0).put
        (O.Q_ERROR q) 0).put (O.Q_STATE q) qDisabled →
      exec (.qCtrlReset ifc q) s = .next (settle (({ u with mv := { u.mv with queue := u.mv.queue.drop q, desc := u.mv.desc.filter (fun x => x.queue != q) } } :
        State).acknowledged ifc (O.Q_CTRL q)))) ∧
  (∀ (s : State) (q : Nat), s.get (O.Q_STATE q) = qDraining → s.queueIdle q = true → s.queueRest q = s.put (O.Q_STATE q) qDisabled) ∧
  (∀ (s : State) (ifc : Iface) (q : Nat) (v : Word), s.servesWrite ifc (O.Q_NTF_ACK q) v.toNat = true →
      exec (.qNtfAck ifc q v) s = .next (settle ((s.put (O.Q_NTF_ACK q) v.toNat).acknowledged ifc (O.Q_NTF_ACK q)))) ∧
  (∀ (s : State) (q : Nat), hasQueue q = true → (s.queue q).bell = true → s.mayFetch q = true → s.queueRoom q (s.get (O.Q_PI_ADDR q)) 1 = true →
      s.mv.req.all (fun r => r.queue != q || r.kind != 1) = true →
      exec (.piRead q) s =
        .next (settle ((s.setQueue q (fun r => { r with bell := false })).queueRead q 1 0 (s.get (O.Q_PI_ADDR q)) 8))) ∧
  (∀ (s : State) (q t p : Nat), hasQueue q = true → 0 < (s.queue q).notes → (s.queue q).noteAt + s.get (O.Q_NTF_DELAY q) ≤ s.elapsed (s.queueDie q) →
      s.queueTenant q = some t → s.hostPort (s.tenantHost t) = some p → s.get (O.Q_MSI_VEC q) ≠ 0xFF → s.carries p = true →
      (s.poolVppb (s.tenantHost t)).isSome = true → s.msiReady p (s.get (O.Q_MSI_VEC q)) = true → s.moverRoom (s.queueDie q) 0 1 = true →
      exec (.ntfDelayExpiry q) s =
        .next (settle ((s.setQueue q (fun r => { r with notes := 0, owed := false })).msiUpstream q p (s.get (O.Q_MSI_VEC q)))))

/-- Descriptors and engines of the mover. Under the conditions of its clause: a host's answer takes a cell and is observed (State.hostAnswers); PI_READ_RETURN that
fails halts its queue, and one with an index in range notes it and fetches on; DESCRIPTOR_FETCH that fails halts its queue, and one that succeeds holds the descriptor, not started;
DESCRIPTOR_START of an engine without a descriptor takes a queue and starts its next descriptor (State.startDesc); MOVER_LINE_DONE of a written
line counts its bytes, and of a line read for a copy keeps its data for
its write, which the engine issues in its turn (State.engineRuns); DESCRIPTOR_COMPLETE notes the time and writes words 1 to 7 of the record,
and where that write is stopped the descriptor completes with the status; RECORD_WORD0 writes word 0 and completes the descriptor
(State.completeDesc); ENGINE_FAULT ends what the engine had started with ABORTED, empties the engine but for the cells that its lines in flight hold, counts it in E_FAULTS and raises
ENGINE_FAULT. -/
def Obligations.MoverDescriptors : Prop :=
  (∀ (s u : State) (q st e v : Nat) (value : Word) (r : MvReq) (ue : Bool), hasQueue q = true → s.readBack q 1 value.toNat st = some (r, v, e) → e ≠ stOk →
      (s.hostAnswers q value.toNat st 8).readIn r.die r.cell = (ue, u) →
      exec (.piReadReturn q value st) s = .next (settle (((u.freeCell r.die r.cell).dropReq r.id).haltQueue q e 2))) ∧
  (∀ (s b t u : State) (q st v pi : Nat) (value : Word) (r : MvReq), hasQueue q = true → s.readBack q 1 value.toNat st = some (r, v, stOk) →
      (s.hostAnswers q value.toNat st 8).readIn r.die r.cell = (false, b) → t = (b.freeCell r.die r.cell).dropReq r.id →
      pi = (if t.get (O.Q_SPACE q) = 1 then v else lineGet v (t.get (O.Q_PI_ADDR q) % 64) 8) % 2 ^ 32 →
      u = (t.put (O.Q_PI_SEEN q) pi).setQueue q (fun r => { r with live := true }) →
      u.indexAge q pi ≤ u.get (O.Q_RING_SIZE q) → u.indexAge q (u.get (O.Q_FETCH q)) ≤ u.indexAge q pi →
      exec (.piReadReturn q value st) s = .next (settle (u.fetchMore q 16))) ∧
  (∀ (s u : State) (q st e v : Nat) (words : List Word) (r : MvReq) (ue : Bool), hasQueue q = true →
      s.readBack q 2 ((List.range 8).foldl (fun a k => a + (words.map (fun w => w.toNat)).getD k 0 % 2 ^ 64 * 2 ^ (64 * k)) 0) st = some (r, v, e) →
      e ≠ stOk → (s.hostAnswers q ((List.range 8).foldl (fun a k => a + (words.map (fun w => w.toNat)).getD k 0 % 2 ^ 64 * 2 ^ (64 * k)) 0) st 64).readIn r.die r.cell = (ue, u) →
      exec (.descriptorFetch q words st) s = .next (settle (((u.freeCell r.die r.cell).dropReq r.id).haltQueue q e 3))) ∧
  (∀ (s b t : State) (q st v : Nat) (words : List Word) (r : MvReq), hasQueue q = true →
      s.readBack q 2 ((List.range 8).foldl (fun a k => a + (words.map (fun w => w.toNat)).getD k 0 % 2 ^ 64 * 2 ^ (64 * k)) 0) st = some (r, v, stOk) →
      r.drop = false → (s.hostAnswers q ((List.range 8).foldl (fun a k => a + (words.map (fun w => w.toNat)).getD k 0 % 2 ^ 64 * 2 ^ (64 * k)) 0) st 64).readIn r.die r.cell = (false, b) → t = (b.freeCell r.die r.cell).dropReq r.id →
      exec (.descriptorFetch q words st) s = .next (settle { t with mv := { t.mv with desc := t.mv.desc ++
        [{ queue := q, index := r.index, words := (List.range 8).map (fun k => v / 2 ^ (64 * k) % 2 ^ 64), phase := 0, engine := 0,
           next := 0, total := 0, fail := none, poisonSeen := false, stop := false, status := stOk, crc := crcStart, crcNext := 0,
           crcPend := [], startedAt := 0, doneAt := 0 }] } })) ∧
  (∀ (s t : State) (d e q : Nat) (x : MvDesc), d < s.dies → e < 4 → ((s.fetchDie d).engine d e).current = none → t = (s.fetchDie d).takeQueue d e →
      (t.engine d e).queue = some q → t.startable q = some x →
      exec (.descriptorStart d e) s = .next (settle (t.startDesc d e x))) ∧
  (∀ (s t u : State) (d e id v : Nat) (r : MvReq) (x y : MvDesc) (p : Bool), d < s.dies → e < 4 →
      s.mv.req.find? (fun r => r.id == id && r.kind == 0 && r.die == d && r.engine == e) = some r →
      r.result = some (v, p, stOk) → s.desc r.queue r.index = some x → r.write = true → t = s.dropReq id →
      u = ((t.addSat (O.Q_BYTES r.queue) 64 (2 ^ 64 - 1)).addSat (O.E_BYTES d e) 64 (2 ^ 64 - 1)).perfCount d evMvBytes e
        (((t.addSat (O.Q_BYTES r.queue) 64 (2 ^ 64 - 1)).addSat (O.E_BYTES d e) 64 (2 ^ 64 - 1)).mvTenant r.queue) 64 →
      u.desc r.queue r.index = some y →
      exec (.moverLineDone d e id) s = .next (settle (((if y.stop = true then u.dropUnwritten y else u).engineRuns d e).finishDesc r.queue r.index))) ∧
  (∀ (s u : State) (d e id v : Nat) (r : MvReq) (x : MvDesc), d < s.dies → e < 4 →
      s.mv.req.find? (fun r => r.id == id && r.kind == 0 && r.die == d && r.engine == e) = some r →
      r.result = some (v, false, stOk) → s.desc r.queue r.index = some x → r.write = false → x.opcode = opCopy →
      u = { s with mv := { s.mv with req := s.mv.req.map (fun (y : MvReq) => if y.id = id then { y with result := none, ready := some (v, false) } else y) } } →
      exec (.moverLineDone d e id) s = .next (settle (((if x.stop = true then u.dropUnwritten x else u).engineRuns d e).finishDesc r.queue r.index))) ∧
  (∀ (s t u : State) (q i : Nat) (x : MvDesc), hasQueue q = true → s.desc q i = some x → x.phase = 2 → s.queueRoom q (s.slotAddr q i) 2 x.engine = true →
      t = s.setDesc q i (fun x => { x with doneAt := s.stamp (s.queueDie q) }) →
      t.queueWrite q x.engine 3 i (t.slotAddr q i + 8) 56 ((List.range 7).foldl (fun a k => a + (t.recordWords { x with doneAt := t.stamp (t.queueDie q) }).getD
        (k + 1) 0 * 2 ^ (64 * k)) 0) = (stOk, u) →
      exec (.descriptorComplete q i) s = .next (settle (u.setDesc q i (fun x => { x with phase := 3 })))) ∧
  (∀ (s t u : State) (q i st : Nat) (x : MvDesc), hasQueue q = true → s.desc q i = some x → x.phase = 2 → s.queueRoom q (s.slotAddr q i) 2 x.engine = true →
      t = s.setDesc q i (fun x => { x with doneAt := s.stamp (s.queueDie q) }) →
      t.queueWrite q x.engine 3 i (t.slotAddr q i + 8) 56 ((List.range 7).foldl (fun a k => a + (t.recordWords { x with doneAt := t.stamp (t.queueDie q) }).getD
        (k + 1) 0 * 2 ^ (64 * k)) 0) = (st, u) → st ≠ stOk →
      exec (.descriptorComplete q i) s = .next (settle (u.completeDesc { x with phase := 3 } st))) ∧
  (∀ (s : State) (q i : Nat) (x : MvDesc), hasQueue q = true → s.desc q i = some x → x.phase = 3 → s.queueRoom q (s.slotAddr q i) 2 x.engine = true →
      s.mv.req.find? (fun r => r.kind == 3 && r.queue == q && r.index == i) = none →
      exec (.recordWord0 q i) s =
        .next (settle ((s.queueWrite q x.engine 4 i (s.slotAddr q i) 8 ((s.recordWords x).getD 0 0)).2.completeDesc x
          (s.queueWrite q x.engine 4 i (s.slotAddr q i) 8 ((s.recordWords x).getD 0 0)).1))) ∧
  (∀ (s : State) (d e : Nat), d < s.dies → e < 4 →
      exec (.engineFault d e) s = .next (settle ((((((s.abortStarted (fun x => s.queueDie x.queue == d && x.engine == e)).setEngine d e (fun r => { cells := r.cells })).count32
        (O.E_FAULTS d e)).setBit O.MV_EVENTS 2 true).raise (d * 512 + F.ENGINE_FAULT) (channelId 9 (4 * d + e)) 0 (0x200 + 4 * d + e) 0))))

/-- Flits, frames, acknowledgements and replays. Under the conditions of its clause: INVAR_FLIT of a flit that fails its check loses its bypass
message (State.loseBypass) and is counted (State.crcBad), of the expected number is accepted with its messages, and of a number behind is counted in DUPLICATES and
acknowledged; IHLOD_FRAME_UNIT that fails its check is counted, and of the expected number is accepted, returns its credit and goes on to the
ring (State.frameIn); ACK frees what it acknowledges; ACK_DUE sends an ACK; NAK frees what it acknowledges and replays from its number;
REPLAY_TIMER replays from UNACKED; FLIT_SEND of an UP Invar end sends the unit of its time, or an IDLE, and fills the bypass slot, and of an UP
Ihlod end sends its frame likewise. -/
def Obligations.LinkUnits : Prop :=
  (∀ (s u : State) (l : Nat) (f : Flit) (rest : List Flit), l < 4 * s.dies → (s.link (s.peerLink l)).wire = f :: rest →
      u = s.setLink (s.peerLink l) (fun r => { r with wire := rest }) → u.linkIsUp l = true →
      exec (.invarFlit l false) s = .next (settle ((u.loseBypass (s.peerLink l) (fun b => b.serial == f.serial)).crcBad l))) ∧
  (∀ (s u : State) (l n : Nat) (f : Flit) (rest : List Flit), l < 4 * s.dies → (s.link (s.peerLink l)).wire = f :: rest → f.seq = some n →
      u = s.setLink (s.peerLink l) (fun r => { r with wire := rest }) → u.linkIsUp l = true → u.classify l n = 0 →
      exec (.invarFlit l true) s = .next (settle ((u.acceptUnit l).takeMsgs l f.msgs))) ∧
  (∀ (s u : State) (l n : Nat) (f : Flit) (rest : List Flit), l < 4 * s.dies → (s.link (s.peerLink l)).wire = f :: rest → f.seq = some n →
      u = s.setLink (s.peerLink l) (fun r => { r with wire := rest }) → u.linkIsUp l = true → u.classify l n = 2 →
      exec (.invarFlit l true) s = .next (settle ((u.count32 (O.DUPLICATES l)).ackNow l))) ∧
  (∀ (s : State) (x seq : Nat) (f : Frame), hasSegment x = true → s.linkIsUp (32 + x) = true →
      exec (.ihlodFrameUnit x false seq f) s = .next (settle (s.crcBad (32 + x)))) ∧
  (∀ (s u : State) (x seq : Nat) (f : Frame), hasSegment x = true → s.linkIsUp (32 + x) = true → frameSized f = true →
      s.classify (32 + x) seq = 0 →
      u = (s.acceptUnit (32 + x)).setLinkLoop (32 + x) 0 (fun k =>
        { k with received := (k.received + 1) % 2 ^ 32, returnedTx := (k.returnedTx + 1) % 2 ^ 32 }) →
      exec (.ihlodFrameUnit x true seq f) s = .next (settle ((u.pushBypass (32 + x) bCredit 0 [0, (u.linkLoop (32 + x) 0).returnedTx, 0, 0]).frameIn x (frameRead f)))) ∧
  (∀ (s t : State) (l seq n d : Nat) (a : List Nat), s.hasLink l = true → s.arrived l bAck [seq] = some (n :: a, t) →
      d = (n + 1 + 1024 - t.get (O.UNACKED l)) % 1024 → 1 ≤ d → d ≤ t.get (O.LL_OUTSTANDING l) →
      exec (.ack l seq) s = .next (settle (t.freeAcked l d))) ∧
  (∀ (s : State) (l : Nat), s.hasLink l = true → s.linkIsUp l = true → (s.link l).ackAt + 256 ≤ (s.link l).flits →
      exec (.ackDue l) s = .next (settle (s.ackNow l))) ∧
  (∀ (s t : State) (l seq n : Nat) (a : List Nat), s.hasLink l = true → s.arrived l bNak [seq] = some (n :: a, t) → t.timeoutMode l = false →
      n = t.get (O.UNACKED l) → n < 1024 → n ≠ t.get (O.NEXT_TX l) →
      exec (.nak l seq) s = .next (settle (t.replayFrom l n))) ∧
  (∀ (s t : State) (l seq n d : Nat) (a : List Nat), s.hasLink l = true → s.arrived l bNak [seq] = some (n :: a, t) → t.timeoutMode l = false →
      d = (n + 1024 - t.get (O.UNACKED l)) % 1024 → 1 ≤ d → d ≤ t.get (O.LL_OUTSTANDING l) → n ≠ (t.freeAcked l d).get (O.NEXT_TX l) →
      exec (.nak l seq) s = .next (settle ((t.freeAcked l d).replayFrom l n))) ∧
  (∀ (s : State) (l : Nat), s.hasLink l = true → s.linkIsUp l = true → 0 < s.get (O.LL_OUTSTANDING l) →
      (s.link l).restart + nsToSub (s.get (O.LL_TIMEOUT (llSet l))) ≤ s.mono (linkDie l) →
      exec (.replayTimer l) s = .next (settle (s.replayFrom l (s.get (O.UNACKED l))))) ∧
  (∀ (s u v : State) (l : Nat) (errs : List Nat) (f : Flit), l < 4 * s.dies → s.linkIsUp l = true → l < 32 →
      u = s.setLink l (fun r => { r with flits := r.flits + 1, serial := r.serial + 1, slots := r.slots + 1 }) → u.creditWait l = false →
      (u.dueCredits l).nextUnit l errs = (some f, v) → f.frame = none →
      exec (.flitSend ⟨l, errs⟩) s = .next (settle (((v.perfCount (l / 4) evD2dData (l % 4) noTenant 1).setLink l (fun r =>
        { r with wire := r.wire ++ [f] })).fillBypass l))) ∧
  (∀ (s u v : State) (l : Nat) (errs : List Nat), l < 4 * s.dies → s.linkIsUp l = true → l < 32 →
      u = s.setLink l (fun r => { r with flits := r.flits + 1, serial := r.serial + 1, slots := r.slots + 1 }) → u.creditWait l = false →
      (u.dueCredits l).nextUnit l errs = (none, v) →
      exec (.flitSend ⟨l, errs⟩) s = .next (settle (((v.perfCount (l / 4) evD2dIdle (l % 4) noTenant 1).setLink l (fun r =>
        { r with wire := r.wire ++ [({ serial := r.serial } : Flit)] })).fillBypass l))) ∧
  (∀ (s u v : State) (x : Nat) (errs : List Nat) (f : Flit) (y : Frame), hasSegment x = true → s.linkIsUp (32 + x) = true →
      u = s.setLink (32 + x) (fun r => { r with flits := r.flits + 1, serial := r.serial + 1 }) →
      (u.dueCredits (32 + x)).nextUnit (32 + x) errs = (some f, v) → f.frame = some y →
      exec (.flitSend ⟨32 + x, errs⟩) s = .next (settle ((((v.perfCount (linkDie (32 + x)) evD2dData ((32 + x) % 4) noTenant 0).send (.frame x (frameBytes y (f.seq.getD 0) f.again))).setLink
        (32 + x) (fun r => { r with slots := r.slots + 1 })).fillBypass (32 + x))))

/-- Credits, heartbeats, notices and handover on a link. Under the conditions of its clause: CREDIT sets what the far end has returned and the
credits available, and one with a new mark is noted as the return marker, with the counts of this CREDIT and of the one before; HEARTBEAT notes when it came, and HEARTBEAT_SEND in its period sends
one with the mode; FAULT_NOTICE for another die goes on towards it, and at its own die is acknowledged, and handled once: a raise by die 0
(State.atDie0), a SAFE notice by entry into SAFE (State.enterSafe); FAULT_NOTICE_REPEAT sends again the notices of 25 ticks or more; NOTICE_ACK
frees the notice and sends what waited; HANDOVER for another die goes on towards it, and at its own die empties the link end and carries what it
had not delivered over the new route. -/
def Obligations.LinkBypass : Prop :=
  (∀ (s t u : State) (l vc returned v n m : Nat) (a : List Nat), s.hasLink l = true →
      s.arrived l bCredit [vc, returned, 0, 0] = some (v :: n :: m :: a, t) →
      u = t.setLinkLoop l v (fun k => { k with returnedRx := n, available := k.limit - (k.consumed + 2 ^ 32 - n) % 2 ^ 32 }) →
      m = (u.link l).markSeen.at v →
      exec (.credit l vc returned) s = .next (settle u)) ∧
  (∀ (s t u : State) (l vc returned v n m : Nat) (a : List Nat), s.hasLink l = true →
      s.arrived l bCredit [vc, returned, 0, 0] = some (v :: n :: m :: a, t) →
      u = t.setLinkLoop l v (fun k => { k with returnedRx := n, available := k.limit - (k.consumed + 2 ^ 32 - n) % 2 ^ 32 }) →
      m ≠ (u.link l).markSeen.at v →
      exec (.credit l vc returned) s = .next (settle (u.setLink l (fun r =>
        { r with markSeen := r.markSeen.set v m, returns := r.returns.filter (fun x => x.1 != v) ++ [(v, (t.linkLoop l v).returnedRx, a.headD 0, n)] })))) ∧
  (∀ (s t : State) (l : Nat) (a : List Nat), s.hasLink l = true → s.arrived l bHeartbeat [] = some (a, t) →
      exec (.heartbeat l) s = .next (settle (t.setLink l (fun r => { r with hbSeenAt := t.elapsed (linkDie l) })))) ∧
  (∀ (s u : State) (l : Nat), s.hasLink l = true → s.linkIsUp l = true → (s.link l).hbSentAt + s.get (O.LL_HB_PERIOD (llSet l)) ≤ s.elapsed (linkDie l) →
      u = s.setLink l (fun r => { r with hbSentAt := s.elapsed (linkDie l), hbCount := (r.hbCount + 1) % 65536 }) →
      exec (.heartbeatSend l) s = .next (settle (u.pushBypass l bHeartbeat 0 [linkDie l, u.mode, (u.link l).hbCount]))) ∧
  (∀ (s t : State) (l : Nat) (b : Bypass), l < 4 * s.dies → s.takeBypass (s.peerLink l) bFaultNotice = some (b, t) → b.dst ≠ l / 4 →
      exec (.faultNotice l) s = .next (settle (t.sendBypass (l / 4) b.dst bFaultNotice b.args))) ∧
  (∀ (s t u : State) (l serial from_ source sev x y : Nat) (b : Bypass), l < 4 * s.dies →
      s.takeBypass (s.peerLink l) bFaultNotice = some (b, t) → b.dst = l / 4 → b.args = [serial, from_, source, sev, x, y] →
      u = (t.setCollector from_ (fun c => { c with notices := c.notices.map (fun (n : Notice) =>
        if (n.serial == serial && n.dst == l / 4 && !n.handled) = true then { n with handled := true } else n) })).sendBypass (l / 4) from_ bNoticeAck [serial, l / 4] →
      (t.collector from_).notices.any (fun n => n.serial == serial && n.dst == l / 4 && !n.handled) = false →
      exec (.faultNotice l) s = .next (settle u)) ∧
  (∀ (s t u : State) (l serial from_ source sev x y : Nat) (b : Bypass), l < 4 * s.dies →
      s.takeBypass (s.peerLink l) bFaultNotice = some (b, t) → b.dst = l / 4 → b.args = [serial, from_, source, sev, x, y] →
      u = (t.setCollector from_ (fun c => { c with notices := c.notices.map (fun (n : Notice) =>
        if (n.serial == serial && n.dst == l / 4 && !n.handled) = true then { n with handled := true } else n) })).sendBypass (l / 4) from_ bNoticeAck [serial, l / 4] →
      (t.collector from_).notices.any (fun n => n.serial == serial && n.dst == l / 4 && !n.handled) = true →
      l / 4 = 0 → source < 0x1000 → sev ≠ sevSafe →
      exec (.faultNotice l) s = .next (settle (u.atDie0 source sev x y))) ∧
  (∀ (s t u : State) (l serial from_ source x y : Nat) (b : Bypass), l < 4 * s.dies →
      s.takeBypass (s.peerLink l) bFaultNotice = some (b, t) → b.dst = l / 4 → b.args = [serial, from_, source, sevSafe, x, y] →
      u = (t.setCollector from_ (fun c => { c with notices := c.notices.map (fun (n : Notice) =>
        if (n.serial == serial && n.dst == l / 4 && !n.handled) = true then { n with handled := true } else n) })).sendBypass (l / 4) from_ bNoticeAck [serial, l / 4] →
      (t.collector from_).notices.any (fun n => n.serial == serial && n.dst == l / 4 && !n.handled) = true →
      l / 4 ≠ 0 → u.flt.safeWait.contains (l / 4) = true →
      exec (.faultNotice l) s = .next (settle (u.enterSafe (l / 4)))) ∧
  (∀ (s : State) (d : Nat), d < s.dies →
      exec (.faultNoticeRepeat d) s = .next (settle (forEach ((s.collector d).notices.filter (fun n =>
        match n.sentAt with | some t => decide (t + 25 ≤ s.elapsed d) | none => false)) (fun n s => s.sendNotice d n) s))) ∧
  (∀ (s t : State) (l : Nat) (b : Bypass), l < 4 * s.dies → s.takeBypass (s.peerLink l) bNoticeAck = some (b, t) → b.dst = l / 4 →
      exec (.noticeAck l) s = .next (settle ((t.setCollector (l / 4) (fun c => { c with notices := c.notices.filter (fun (n : Notice) =>
        !(n.serial == b.args.getD 0 0 && n.dst == b.args.getD 1 0)) })).sendWaiting (l / 4)))) ∧
  (∀ (s t : State) (l : Nat) (b : Bypass), l < 4 * s.dies → s.takeBypass (s.peerLink l) bHandover = some (b, t) → b.dst ≠ l / 4 →
      exec (.handover l) s = .next (settle (t.sendBypass (l / 4) b.dst bHandover b.args))) ∧
  (∀ (s t u : State) (l e : Nat) (b : Bypass), l < 4 * s.dies → s.takeBypass (s.peerLink l) bHandover = some (b, t) → b.dst = l / 4 →
      e = t.peerLink (linkNo (b.args.getD 0 0) (b.args.getD 1 0)) →
      u = (((t.setLink e (fun r => { r with replay := [], queue := [], handing := false })).put (O.UNACKED e) ((t.setLink e (fun r =>
        { r with replay := [], queue := [], handing := false })).get (O.NEXT_TX e))).put (O.LL_OUTSTANDING e) 0) →
      exec (.handover l) s = .next (settle (forEach
        (((((t.link e).replay.drop ((b.args.getD 2 0 + 1024 - t.get (O.UNACKED e)) % 1024)).map (fun f => f.msgs)).flatten ++ (t.link e).queue).filter
          (fun m => m.marker.isNone))
        (fun m s => s.spread (l / 4) (if (t.link e).queue.contains m then m else { m with cell := 0 })) u)))

/-- Windows, losses, retraining and lanes of a link. Under the conditions of its clause: WINDOW_END within the window's limit leaves BAD_RUN 0 and
opens the next window, and of a bad window counts it in BAD_RUN, raises BAD_WINDOW, and at the limit of bad windows takes the link down;
HEARTBEAT_MISS and FRAMING_LOST raise their sources and take the link down; where the link's PLL is stable, LANE_TEST_END of a first training without a failed lane leaves the
link tested with its spares and delay, and of a permanent retrain without one retires the link; D2D_RETRAINED of two ends that are tested and
hold no charge brings both UP (State.endUp); RETRAIN_ATTEMPT_TIMEOUT fails the attempt (State.failAttempt); a served D2D_CTRL RETRAIN takes the
link down to retrain, and a served LANE_RETIRE retires the lane and does so too; a link that goes down to retrain reads RETRAINING with its
cause, and what waits on its bypass goes another way (State.relayBypass). -/
def Obligations.LinkHealth : Prop :=
  (∀ (s u : State) (l : Nat), s.hasLink l = true → s.linkIsUp l = true → (s.windowSet l).1 ≤ (s.link l).slots →
      s.get (O.WIN_REPLAYS l) ≤ (s.windowSet l).2.1 → u = (s.mark (O.WORST_WINDOW l) (s.get (O.WIN_REPLAYS l))).put (O.BAD_RUN l) 0 →
      u.get (O.BAD_RUN l) < (s.windowSet l).2.2 →
      exec (.windowEnd l) s = .next (settle (u.openWindow l))) ∧
  (∀ (s t u : State) (l : Nat), s.hasLink l = true → s.linkIsUp l = true → (s.windowSet l).1 ≤ (s.link l).slots →
      (s.windowSet l).2.1 < s.get (O.WIN_REPLAYS l) → t = s.mark (O.WORST_WINDOW l) (s.get (O.WIN_REPLAYS l)) →
      u = (t.put (O.BAD_RUN l) (t.get (O.BAD_RUN l) + 1)).llEvent l F.BAD_WINDOW 1 →
      exec (.windowEnd l) s = .next (settle ((if (s.windowSet l).2.2 ≤ u.get (O.BAD_RUN l) then u.linkGoesDown l 1 else u).openWindow l))) ∧
  (∀ (s : State) (l : Nat), s.hasLink l = true → s.linkIsUp l = true →
      (s.link l).hbSeenAt + s.get (O.LL_HB_MISS (llSet l)) * s.get (O.LL_HB_PERIOD (llSet l)) ≤ s.elapsed (linkDie l) →
      exec (.heartbeatMiss l) s = .next (settle ((s.llEvent l F.HEARTBEAT_MISS 3).linkGoesDown l 2))) ∧
  (∀ (s : State) (l : Nat), s.hasLink l = true → s.linkIsUp l = true →
      exec (.framingLost l) s = .next (settle ((s.llEvent l F.FRAMING_LOST 4).linkGoesDown l 3))) ∧
  (∀ (s u : State) (l delay : Nat), l < 4 * s.dies → s.get (O.D2D_STATE l) = d2dTraining → (s.link l).tested = false →
      s.domainOn (l / 4) dDatapath = true → s.linkClocked l = true → u = (s.putLanes O.LANE_FAILED l 0).setLink l (fun r => { r with permanent := false }) →
      128 ≤ 136 - (lanesIn (u.laneSet O.LANE_RETIRED l)).length →
      exec (.laneTestEnd l 0 delay) s = .next (settle (((u.put (O.SPARES_USED l) (sparesUsed (u.laneSet O.LANE_RETIRED l))).put (O.LINK_DELAY l)
        (delay % 65536)).setLink l (fun r => { r with tested := true })))) ∧
  (∀ (s : State) (l delay : Nat), l < 4 * s.dies → s.get (O.D2D_STATE l) = d2dRetraining → (s.link l).tested = false →
      s.domainOn (l / 4) dDatapath = true → s.linkClocked l = true → (s.link l).permanent = true →
      exec (.laneTestEnd l 0 delay) s = .next (settle (((s.putLanes O.LANE_FAILED l 0).setLink l (fun r => { r with permanent := false })).owe
        (.retire (channelId 3 l))))) ∧
  (∀ (s : State) (l : Nat), l < 4 * s.dies → s.get (O.D2D_STATE l) = d2dTraining ∨ s.get (O.D2D_STATE l) = d2dRetraining →
      s.get (O.D2D_STATE (s.peerLink l)) = d2dTraining ∨ s.get (O.D2D_STATE (s.peerLink l)) = d2dRetraining →
      (s.link l).tested = true → (s.link (s.peerLink l)).tested = true → s.linkCharge l = 0 → s.linkCharge (s.peerLink l) = 0 →
      s.linkClocked l = true → s.linkClocked (s.peerLink l) = true →
      exec (.d2dRetrained l) s = .next (settle ((s.endUp l).endUp (s.peerLink l)))) ∧
  (∀ (s : State) (l : Nat), l < 4 * s.dies → s.get (O.D2D_STATE l) = d2dTraining ∨ s.get (O.D2D_STATE l) = d2dRetraining →
      (s.link l).tested = false → s.domainOn (l / 4) dDatapath = true → (s.link l).attemptAt + 2500 ≤ s.elapsed (l / 4) →
      exec (.retrainAttemptTimeout l) s = .next (settle (s.failAttempt l))) ∧
  (∀ (s : State) (ifc : Iface) (l : Nat), s.servesWrite ifc (O.D2D_CTRL l) 1 = true →
      exec (.d2dCtrlRetrain ifc l) s = .next (settle ((s.d2dDown l 4).acknowledged ifc (O.D2D_CTRL l)))) ∧
  (∀ (s : State) (ifc : Iface) (l : Nat) (lane : Word), s.servesWrite ifc (O.LANE_RETIRE l) lane.toNat = true →
      exec (.laneRetire ifc l lane) s = .next (settle (((s.retireD2dLane l lane.toNat).d2dDown l 5).acknowledged ifc (O.LANE_RETIRE l)))) ∧
  (∀ (s t u : State) (l cause : Nat), s.get (O.D2D_STATE l) = d2dUp → t = (s.put (O.D2D_STATE l) d2dRetraining).put (O.DOWN_CAUSE l) cause →
      u = (((t.count32 (O.RETRAINS l)).put (O.LAST_RETRAIN_AT l) (t.now (l / 4))).countRetrain l cause) →
      s.d2dDown l cause = ((((u.setLink l (fun r =>
        { r with downAt := u.elapsed (l / 4), attemptAt := u.elapsed (l / 4), fails := 0, tested := false, rpos := none })).relayBypass l).auditSkip l).llEvent
        l F.LL_LINK_DOWN 2))

/-- The services of the Ihlod node. Where the request that the node has held longest is of the command's type and can be served
(State.servesFrame), under the conditions of its clause, it is served as follows, and then goes on round the ring where it is broadcast: DICT_READ
and DICT_WRITE of 1 to 32 slots, where no mailbox access of the die goes first, make the accesses and answer with the first
refusal, the mask of refusals, and a read's values; DP_LOAD, in its turn likewise, and DP_DUMP make one burst through the data port and answer with its address; TOD,
in its turn likewise, writes TOD_LOAD; RST_ARM notes the request and when it came, and is DENIED while IHLOD_RESET is 0; RST_GO of the
armed request within RST_WINDOW, while IHLOD_RESET reads 1, is answered OK, and any other disarms and is answered BUSY (while IHLOD_RESET is 0
this is log 133); IHLOD_RESET_ASSERT 25 ticks after that answer was acknowledged asserts the reset while IHLOD_RESET reads 1; ASSIGN sets NODE_ADDR, and a broadcast one goes on to the new address; ECHO returns its payload; SPDM holds a
segment that is not the last and answers it OK, and with the last one the message waits for the responder. -/
def Obligations.IhlodServices : Prop :=
  (∀ (s t u : State) (f : Frame) (rs : List (Nat × Nat)), s.servesFrame t tDictRead f → s.frameWaits = false → 1 ≤ f.count → f.count ≤ 32 →
      t.dictRead .ihlod (Obj.ofNumber f.object) f.count = (rs, u) →
      exec .dictRead s = .next (settle ((u.answered { frameAnswer f u.nodeAddr (firstRefusal (rs.map (fun r => r.1))) with
        value := failMask (rs.map (fun r => r.1)) * 2 ^ 32, payload := rs.flatMap (fun r => bytesOf (if r.1 = stOk then r.2 else 0) 8) }).passOn f))) ∧
  (∀ (s t u : State) (f : Frame) (sts : List Nat), s.servesFrame t tDictWrite f → s.frameWaits = false → 1 ≤ f.count → f.count ≤ 32 →
      t.dictWrite .ihlod (Obj.ofNumber f.object) true (wordsOf f.payload f.count) = (sts, u) →
      exec .dictWrite s = .next (settle ((u.answered { frameAnswer f u.nodeAddr (firstRefusal sts) with value := failMask sts * 2 ^ 32 }).passOn f))) ∧
  (∀ (s t u : State) (f : Frame) (sts : List Nat), s.servesFrame t tDpLoad f → s.frameWaits = false →
      t.dictWrite .ihlod (O.DP_DATA 0 0) true (wordsOf f.payload 32) = (sts, u) →
      exec .dpLoad s = .next (settle ((u.answered { frameAnswer f u.nodeAddr (firstRefusal sts) with value := t.get (O.DP_ADDR 0) }).passOn f))) ∧
  (∀ (s t u : State) (f : Frame) (rs : List (Nat × Nat)), s.servesFrame t tDpDump f →
      t.dictRead .ihlod (O.DP_DATA 0 0) 32 = (rs, u) →
      exec .dpDump s = .next (settle ((u.answered { frameAnswer f u.nodeAddr (firstRefusal (rs.map (fun r => r.1))) with
        value := t.get (O.DP_ADDR 0),
        payload := if firstRefusal (rs.map (fun r => r.1)) = stOk then rs.flatMap (fun r => bytesOf r.2 8) else [] }).passOn f))) ∧
  (∀ (s t u : State) (f : Frame) (sts : List Nat), s.servesFrame t tTod f → s.frameWaits = false → t.dictWrite .ihlod O.TOD_LOAD true [f.value] = (sts, u) →
      exec .tod s = .next (settle ((u.answered (frameAnswer f u.nodeAddr (firstRefusal sts))).passOn f))) ∧
  (∀ (s t : State) (f : Frame), s.servesFrame t tRstArm f → t.get O.IHLOD_RESET ≠ 0 →
      exec .rstArm s = .next (settle (((t.setIhl (fun i => { i with armedId := some f.reqId, armedAt := i.servedAt })).answered (frameAnswer f t.nodeAddr stOk)).passOn f))) ∧
  (∀ (s t : State) (f : Frame), s.servesFrame t tRstArm f → t.get O.IHLOD_RESET = 0 →
      exec .rstArm s = .next (settle ((t.answered (frameAnswer f t.nodeAddr stDenied)).passOn f))) ∧
  (∀ (s t : State) (f : Frame), s.servesFrame t tRstGo f → t.ihl.armedId = some f.value → t.ihl.servedAt ≤ t.ihl.armedAt + 64 * t.get O.RST_WINDOW → t.get O.IHLOD_RESET = 1 →
      exec .rstGo s = .next (settle (((t.setIhl (fun i => { i with armedId := none, goReq := some (frameAnswer f t.nodeAddr stOk), goAcked := none })).answered
        (frameAnswer f t.nodeAddr stOk)).passOn f))) ∧
  (∀ (s t : State) (f : Frame), s.servesFrame t tRstGo f → t.ihl.armedId ≠ some f.value ∨ t.ihl.armedAt + 64 * t.get O.RST_WINDOW < t.ihl.servedAt ∨ t.get O.IHLOD_RESET ≠ 1 →
      exec .rstGo s = .next (settle (((t.setIhl (fun i => { i with armedId := none })).answered (frameAnswer f t.nodeAddr stBusy)).passOn f))) ∧
  (∀ (s : State) (t : Nat), s.ihl.goAcked = some t → t + 25 ≤ s.elapsed 0 → s.get O.IHLOD_RESET = 1 →
      exec .ihlodResetAssert s = .next (settle (((s.setIhl (fun i => { i with goAcked := none, goReq := none })).assertSource rIhlod 0 0).coldReach false))) ∧
  (∀ (s t u : State) (f : Frame), s.servesFrame t tAssign f → 1 ≤ f.value → f.value ≤ 31 → f.bcast = false →
      u = ((t.put O.NODE_ADDR (f.value % 32)).setBit O.IH_EVENTS 2 true).raiseDie 0 F.IH_ADDR_ASSIGNED →
      exec .assign s = .next (settle ((u.answered { frameAnswer f u.ownSrc stOk with payload := u.serialBytes }).releaseEvents))) ∧
  (∀ (s t u : State) (f : Frame), s.servesFrame t tAssign f → 1 ≤ f.value → f.value ≤ 31 → f.bcast = true → t.nodeAddr = noNode →
      u = ((t.put O.NODE_ADDR (f.value % 32)).setBit O.IH_EVENTS 2 true).raiseDie 0 F.IH_ADDR_ASSIGNED →
      exec .assign s = .next (settle ((u.answered { frameAnswer f u.ownSrc stOk with payload := u.serialBytes }).releaseEvents.forward
        { f with bcast := false, dst := f.value % 32 }))) ∧
  (∀ (s t : State) (f : Frame), s.servesFrame t tEcho f →
      exec .echo s = .next (settle ((t.answered { frameAnswer f t.nodeAddr stOk with payload := f.payload }).passOn f))) ∧
  (∀ (s t : State) (f : Frame), s.servesFrame t tSpdm f → f.count = t.sec.segNext → f.count < 16 → 0 < f.aux → f.aux ≤ 256 → f.aux ≤ f.payload.length →
      8 ≤ f.payload.length → f.more = true →
      exec .spdm s = .next (settle ((({ t with sec := { t.sec with segments := (if f.count = 0 then [] else t.sec.segments) ++ f.payload.take f.aux,
                                                                   segNext := f.count + 1 } } : State).answered
        { frameAnswer f t.nodeAddr stOk with count := f.count }).passOn f))) ∧
  (∀ (s t : State) (f : Frame), s.servesFrame t tSpdm f → f.count = t.sec.segNext → f.count < 16 → 0 < f.aux → f.aux ≤ 256 → f.aux ≤ f.payload.length →
      8 ≤ f.payload.length → f.more = false →
      exec .spdm s = .next (settle (({ t with sec := { t.sec with segments := (if f.count = 0 then [] else t.sec.segments) ++ f.payload.take f.aux,
                                                                  segNext := 0, waiting := some f } } : State).passOn f)))

/-- The segments of the Ihlod ring. Under the conditions of its clause: SEGMENT_UP of a segment in training leaves it UP with its peer, with
fresh loops and numbers from 0, an open window and an empty replay buffer, and port A takes over what port B had to send in the primary direction, and leaves
it what port A's secondary direction relayed; SEGMENT_TRAIN_TIMEOUT
of an attempt of 2,500 ticks begins the wait of IH_RETRY, after which SEGMENT_RETRY starts the next attempt
and sends its training set; a served SEG_CTRL RETRAIN takes the
segment down (State.segDown). -/
def Obligations.IhlodSegments : Prop :=
  (∀ (s t u : State) (peer : Nat), s.segTraining 1 = true →
      t = (((((((s.put (O.SEG_STATE 1) 1).put (O.SEG_PEER 1) (peer % 256)).freshLinkLoops 33).put (O.NEXT_TX 33) 0).put (O.UNACKED 33) 0).put
        (O.NEXT_RX 33) 0).put (O.LL_OUTSTANDING 33) 0) →
      u = (t.openWindow 33).put (O.BAD_RUN 33) 0 →
      exec (.segmentUp 1 peer) s = .next (settle ((u.setLink 33 (fun r =>
        { r with replay := [], rpos := none, bypass := [], hbSeenAt := s.elapsed 0, hbSentAt := s.elapsed 0,
                 restart := t.mono 0, nakPending := false, accFirst := none, accCount := 0, ackAt := r.flits, stalled := false })).ringState))) ∧
  (∀ (s t u v : State) (peer : Nat), s.segTraining 0 = true →
      t = (((((((s.put (O.SEG_STATE 0) 1).put (O.SEG_PEER 0) (peer % 256)).freshLinkLoops 32).put (O.NEXT_TX 32) 0).put (O.UNACKED 32) 0).put
        (O.NEXT_RX 32) 0).put (O.LL_OUTSTANDING 32) 0) →
      u = (t.openWindow 32).put (O.BAD_RUN 32) 0 →
      v = u.setLink 32 (fun r =>
        { r with replay := [], rpos := none, bypass := [], hbSeenAt := s.elapsed 0, hbSentAt := s.elapsed 0,
                 restart := t.mono 0, nakPending := false, accFirst := none, accCount := 0, ackAt := r.flits, stalled := false }) →
      exec (.segmentUp 0 peer) s = .next (settle ((((v.setLink ihlodB (fun r =>
        { r with frames := (v.link ihlodB).frames.filter (fun f => f.way == 2) })).setLink ihlodA (fun r =>
          { r with frames := r.frames ++ (v.link ihlodB).frames.filter (fun f => !(f.way == 2)) })).ringState)))) ∧
  (∀ (s : State) (x : Nat), hasSegment x = true → s.segTraining x = true → s.ihl.segTry.at x + 2500 ≤ s.elapsed 0 →
      exec (.segmentTrainTimeout x) s = .next (settle (s.setIhl (fun i => { i with segWait := i.segWait.set x (s.elapsed 0 + 1) })))) ∧
  (∀ (s : State) (x : Nat), hasSegment x = true → s.ihl.segWait.at x ≠ 0 → s.get (O.SEG_STATE x) ≠ 1 →
      s.ihl.segWait.at x + s.get O.IH_RETRY ≤ s.elapsed 0 + 1 →
      exec (.segmentRetry x) s =
        .next (settle ((s.setIhl (fun i => { i with segWait := i.segWait.set x 0, segTry := i.segTry.set x (s.elapsed 0) })).send
          (.trainingSet x (trainingSet s.nodeAddr x))))) ∧
  (∀ (s : State) (ifc : Iface) (x : Nat), s.servesWrite ifc (O.SEG_CTRL x) 1 = true →
      exec (.segCtrlRetrain ifc x) s = .next (settle ((s.segDown x).acknowledged ifc (O.SEG_CTRL x))))

/-- A slot channel's way to ON. Under the conditions of its clause: CHANNEL_SAMPLE that is due (State.sampleDue) notes TILE_TEMP and takes each channel's sample
with the transitions that it brings; PRESENCE_EDGE notes the presence, clears the insertion and dates the edge 25 ticks back; INSERTED and VIN_OK
at a sample set their conditions when they have settled; RAMP_START at a sample of the lowest ready channel, while a ramp is free, leaves it
RAMPING, counted, with its PG timer, and its gate driven at CH_SLEW under the limit in force; SL_POWER_GOOD at a sample of a RAMPING channel with two good samples leaves it ON with POWER_GOOD and
CH_STATUS OK, and a port of the channel may begin the hot-plug sequence; a served CH_ENABLE of 1 holds it and an OFF channel waits, and of 0
returns a waiting or a ramping channel to OFF, the ramping one's gate off, stops one that is ON, and clears the latch of one that is TRIPPED and
has cooled; in the other states it is held alone; CH_ENABLE is refused with COOLDOWN in TRIPPED before the cool-down's end, and
CH_ENABLE of 1 with BUSY in TRIPPED after it and in STOPPING, and with PROTECTION in DAMAGED, and nothing but the record changes. -/
def Obligations.SlotStart : Prop :=
  (∀ (s t : State) (xs : List SlSample) (temp : Int), s.sampleDue = true → temp < 125000 →
      t = ({ s with slt := { s.slt with sampled := some (s.elapsed 0) } } : State).put O.TILE_TEMP (ofS32 temp) →
      exec (.channelSample xs temp) s = .next (settle (forEach (List.range t.variant.slotChannels) (fun n s =>
        (s.takeSample n (xs.getD n {})).sampleTransitions n (xs.getD n {})) t))) ∧
  (∀ (s : State) (n : Nat) (low : Bool), s.hasChannel n = true → s.get O.TILE_STATE ≠ 0 → s.cond n cPresent ≠ low →
      exec (.presenceEdge n low) s = .next (settle ((((s.setCond n cPresent low).setCond n cInserted false).put (O.CH_PRES_EDGE_AT n) (s.tileNow - 25)).setChan n
        (fun c => { c with edgeAt := s.elapsed 0 - 25 })))) ∧
  (∀ (s : State) (n : Nat), s.hasChannel n = true → s.atSample = true → s.cond n cPresent = true → (s.chan n).edgeAt + s.get O.INSERT_DELAY ≤ s.elapsed 0 →
      exec (.inserted n) s = .next (settle (s.setCond n cInserted true))) ∧
  (∀ (s : State) (n t : Nat), s.hasChannel n = true → s.atSample = true → (s.chan n).vinSince = some t → t + s.get O.VIN_SETTLE ≤ s.elapsed 0 →
      exec (.vinOk n) s = .next (settle (s.setCond n cVinOk true))) ∧
  (∀ (s t u : State) (n : Nat), s.hasChannel n = true → s.atSample = true → s.startReady n = true → s.ramping < s.get O.RAMP_MAX →
      (List.range n).all (fun m => !s.startReady m) = true → s.get O.TILE_STATE = tileRun →
      t = (s.put (O.CH_STATE n) chRamping).count32 (O.CH_STARTS n) →
      u = t.setChan n (fun c => { c with pgDue := some (t.elapsed 0 + t.get O.PG_TIMEOUT), pgRun := min 1 c.pgRun, damageSince := none,
                                         slew := t.get (O.CH_SLEW n) }) →
      exec (.rampStart n) s = .next (settle ((u.send (.shuntLimit n ((u.chan n).ilim * 50 * u.get (O.CH_SHUNT n))
        (2 * ((u.chan n).ilim * 50 * u.get (O.CH_SHUNT n))))).send (.gate n (u.get (O.CH_SLEW n)))))) ∧
  (∀ (s t : State) (n : Nat), s.hasChannel n = true → s.atSample = true → s.chState n = chRamping → 2 ≤ (s.chan n).pgRun →
      t = ((((s.put (O.CH_STATE n) chOn).setCond n cPowerGood true).put (O.CH_STATUS n) stOk).setChan n (fun c => { c with pgDue := none })).chEvent n
        (F.SL_POWER_GOOD n) 7 →
      exec (.slPowerGood n) s = .next (settle (if t.get (O.CH_PORT n) < t.ports then t.tryHotplug (t.get (O.CH_PORT n)) else t))) ∧
  (∀ (s : State) (ifc : Iface) (n : Nat) (v : Word), n < 64 → s.servesWrite ifc (O.CH_ENABLE n) v.toNat = true → s.chState n = chOff → v.toNat = 1 →
      exec (.chEnable ifc n v) s = .next (settle (((((s.put (O.CH_ENABLE n) 1).put (O.CH_STATE n) chWaiting).setChan n (fun c =>
        { c with checked := false })).chWritten n).acknowledged ifc (O.CH_ENABLE n)))) ∧
  (∀ (s : State) (ifc : Iface) (n : Nat) (v : Word), n < 64 → s.servesWrite ifc (O.CH_ENABLE n) v.toNat = true → s.chState n = chWaiting → v.toNat = 0 →
      exec (.chEnable ifc n v) s = .next (settle (((s.put (O.CH_ENABLE n) 0).put (O.CH_STATE n) chOff).acknowledged ifc (O.CH_ENABLE n)))) ∧
  (∀ (s : State) (ifc : Iface) (n : Nat) (v : Word), n < 64 → s.servesWrite ifc (O.CH_ENABLE n) v.toNat = true → s.chState n = chOn → v.toNat = 0 →
      exec (.chEnable ifc n v) s = .next (settle ((((((s.put (O.CH_ENABLE n) 0).put (O.CH_STATE n) chStopping).setChan n (fun c =>
        { c with stopAt := s.elapsed 0 })).chWritten n).chPortOff n).acknowledged ifc (O.CH_ENABLE n)))) ∧
  (∀ (s : State) (ifc : Iface) (n : Nat) (v : Word), n < 64 → s.servesWrite ifc (O.CH_ENABLE n) v.toNat = true → s.chState n = chRamping → v.toNat = 0 →
      exec (.chEnable ifc n v) s = .next (settle ((((s.put (O.CH_ENABLE n) 0).chGateOff n chOff).put (O.CH_STATUS n) stOk).acknowledged ifc (O.CH_ENABLE n)))) ∧
  (∀ (s : State) (ifc : Iface) (n : Nat) (v : Word), n < 64 → s.servesWrite ifc (O.CH_ENABLE n) v.toNat = true → s.chState n = chTripped →
      s.cond n cCooldownDone = true → v.toNat = 0 →
      exec (.chEnable ifc n v) s = .next (settle (((((s.put (O.CH_ENABLE n) 0).put (O.CH_STATE n) chOff).setCond n cTripLatch false).setCond n cCooldownDone
        false).acknowledged ifc (O.CH_ENABLE n)))) ∧
  (∀ (s : State) (ifc : Iface) (n : Nat) (v : Word), n < 64 → s.servesWrite ifc (O.CH_ENABLE n) v.toNat = true →
      v.toNat = 0 ∧ (s.chState n = chOff ∨ s.chState n = chStopping ∨ s.chState n = chDamaged) ∨
        v.toNat = 1 ∧ (s.chState n = chWaiting ∨ s.chState n = chRamping ∨ s.chState n = chOn) →
      exec (.chEnable ifc n v) s = .next (settle ((s.put (O.CH_ENABLE n) v.toNat).acknowledged ifc (O.CH_ENABLE n)))) ∧
  (∀ (s : State) (ifc : Iface) (n : Nat) (v : Word) (st : Nat), n < 64 → s.reachesOwner ifc (O.CH_ENABLE n) v.toNat = true →
      s.chState n = chTripped ∧ s.cond n cCooldownDone = false ∧ st = stCooldown ∨
        v.toNat = 1 ∧ (s.chState n = chTripped ∧ s.cond n cCooldownDone = true ∧ st = stBusy ∨ s.chState n = chStopping ∧ st = stBusy ∨
          s.chState n = chDamaged ∧ st = stProtection) →
      exec (.chEnable ifc n v) s = .next (settle (s.answersWith ifc (O.CH_ENABLE n) st)))

/-- Trips, cooling, damage and the tile's link. Under the conditions of its clause: SL_TRIP_FAST of a channel whose gate conducts trips it with
cause FAST, and PG_TIMEOUT at a sample of a channel whose PG timer has run out with cause PG; a trip of a conducting channel leaves it TRIPPED
with its tick, cause and status and counts it; DIODE_READING that is due (State.diodeDue) and in range is held, dated, and makes the
check of the next start where that was to be made; one that is out of range is dated alike and ends a diode that was present, with
SL_DIODE_FAULT where it protected the channel, which under AUTO goes on under the model from the last good reading and else trips with cause
SOA at a sample; a sample of the tile at 125 degrees or more that it was not at before raises TILE_OVERTEMP; COOLDOWN_DONE at a sample of a channel that has cooled sets its
condition; OFF_DELAY_EXPIRY at a sample leaves a stopping channel OFF with CH_STATUS OK; SL_FET_DAMAGED at a sample of a channel found damaged
leaves it DAMAGED, not enabled, with CH_STATUS PROTECTION; a served CH_DAMAGE_CLEAR takes it out of DAMAGED; TILE_LINK_LOST leaves the tile
AUTONOMOUS on the time it had, and TILE_LINK_RESTORED leaves it in RUN and raises what waited, in order. -/
def Obligations.SlotProtection : Prop :=
  (∀ (s : State) (n : Nat), s.hasChannel n = true → s.gateOn n = true → exec (.slTripFast n) s = .next (settle (s.chTrip n 1))) ∧
  (∀ (s t u : State) (n cause : Nat), s.gateOn n = true → t = s.chEvent n (tripSource cause) (cause - 1) →
      u = (t.chGateOff n chTripped).setChan n (fun c => { c with tripAt := t.elapsed 0, coolLimit := t.get O.COOLDOWN, causes := 2 ^ cause }) →
      s.chTrip n cause = (((((u.put (O.CH_TRIP_AT n) u.tileNow).put (O.CH_TRIP_CAUSE n) cause).put (O.CH_STATUS n) (tripStatus cause)).setCond n cTripLatch
        true).setCond n cCooldownDone false).count32 (O.CH_TRIPS n)) ∧
  (∀ (s : State) (n t : Nat), s.hasChannel n = true → s.atSample = true → s.chState n = chRamping → (s.chan n).pgRun < 2 → (s.chan n).pgDue = some t →
      t ≤ s.elapsed 0 →
      exec (.pgTimeout n) s = .next (settle (s.chTrip n 3))) ∧
  (∀ (s : State) (n t : Nat), s.hasChannel n = true → s.atSample = true → s.chState n = chOn ∨ s.chState n = chStopping → (s.chan n).pgDue = some t →
      t ≤ s.elapsed 0 →
      exec (.pgTimeout n) s = .next (settle (s.chTrip n 3))) ∧
  (∀ (s : State) (n mv : Nat) (temp : Int), s.hasChannel n = true → 200 ≤ mv → mv ≤ 900 → s.diodeDue n = true →
      exec (.diodeReading n mv temp) s = .next (settle ((s.setChan n (fun c => { c with checked := c.checked || s.diodeCheck n, diodeAt := s.elapsed 0 })).setChan
        n (fun c => { c with diode := true, diodeTemp := temp })))) ∧
  (∀ (s t : State) (n mv : Nat) (temp : Int), s.hasChannel n = true → mv < 200 ∨ 900 < mv → s.diodeDue n = true →
      t = s.setChan n (fun c => { c with checked := c.checked || s.diodeCheck n, diodeAt := s.elapsed 0 }) →
      ((s.chan n).diode = false → exec (.diodeReading n mv temp) s = .next (settle t)) ∧
      ((s.chan n).diode = true → s.tempUsed n ≠ 1 → exec (.diodeReading n mv temp) s = .next (settle (t.setChan n (fun c => { c with diode := false })))) ∧
      ((s.chan n).diode = true → s.tempUsed n = 1 → s.get (O.CH_TEMP_SRC n) = 0 →
        exec (.diodeReading n mv temp) s = .next (settle ((t.setChan n (fun c =>
          { c with diode := false, tj := (s.chan n).diodeTemp * 1000 })).chEvent n F.SL_DIODE_FAULT 6))) ∧
      ((s.chan n).diode = true → s.tempUsed n = 1 → s.get (O.CH_TEMP_SRC n) ≠ 0 → s.atSample = true →
        exec (.diodeReading n mv temp) s = .next (settle (((t.setChan n (fun c => { c with diode := false })).chEvent n F.SL_DIODE_FAULT 6).chTrip n 2))) ∧
      ((s.chan n).diode = true → s.tempUsed n = 1 → s.get (O.CH_TEMP_SRC n) ≠ 0 → s.atSample = false →
        exec (.diodeReading n mv temp) s = .next (settle ((t.setChan n (fun c => { c with diode := false })).chEvent n F.SL_DIODE_FAULT 6)))) ∧
  (∀ (s t : State) (xs : List SlSample) (temp : Int), s.sampleDue = true → 125000 ≤ temp →
      t = ({ s with slt := { s.slt with sampled := some (s.elapsed 0) } } : State).put O.TILE_TEMP (ofS32 temp) →
      exec (.channelSample xs temp) s = .next (settle (forEach (List.range t.variant.slotChannels) (fun n s =>
        (s.takeSample n (xs.getD n {})).sampleTransitions n (xs.getD n {}))
          (if toS32 (s.get O.TILE_TEMP) < 125000 then (t.setBit O.TILE_EVENTS 1 true).tileRaise F.TILE_OVERTEMP 0 0 0xFFFF else t)))) ∧
  (∀ (s : State) (n : Nat), s.hasChannel n = true → s.atSample = true → s.cond n cTripLatch = true → s.protectTemp n = none →
      (s.chan n).tripAt + (s.chan n).coolLimit ≤ s.elapsed 0 →
      exec (.cooldownDone n) s = .next (settle (s.setCond n cCooldownDone true))) ∧
  (∀ (s : State) (n : Nat) (x : Int), s.hasChannel n = true → s.atSample = true → s.cond n cTripLatch = true → s.protectTemp n = some x →
      x ≤ Int.ofNat (s.get O.FET_TRESUME * 1000) → (s.chan n).tripAt + (s.chan n).coolLimit ≤ s.elapsed 0 →
      exec (.cooldownDone n) s = .next (settle (s.setCond n cCooldownDone true))) ∧
  (∀ (s : State) (n : Nat), s.hasChannel n = true → s.atSample = true → s.chLate n = false → s.chState n = chStopping → (s.chan n).stopAt + s.get O.OFF_DELAY ≤ s.elapsed 0 →
      exec (.offDelayExpiry n) s = .next (settle ((s.chGateOff n chOff).put (O.CH_STATUS n) stOk))) ∧
  (∀ (s : State) (n t : Nat), s.hasChannel n = true → (s.chan n).damageSince = some t → s.atSample = true → s.chState n ≠ chDamaged → s.gateOn n = false →
      t + 25000 ≤ s.elapsed 0 →
      exec (.slFetDamaged n) s = .next (settle (((((s.put (O.CH_STATE n) chDamaged).setCond n cDamageLatch true).put (O.CH_ENABLE n) 0).put (O.CH_STATUS n)
        stProtection).chEvent n F.SL_FET_DAMAGED 3))) ∧
  (∀ (s : State) (ifc : Iface) (n : Nat), s.servesWrite ifc (O.CH_DAMAGE_CLEAR n) 1 = true → s.chState n = chDamaged →
      exec (.chDamageClear ifc n) s = .next (settle (((s.setCond n cDamageLatch false).put (O.CH_STATE n)
        (if s.cond n cTripLatch then chTripped else chOff)).acknowledged ifc (O.CH_DAMAGE_CLEAR n)))) ∧
  (∀ s : State, s.get O.TILE_STATE = tileRun →
      exec .tileLinkLost s = .next (settle (((({ s with slt := { s.slt with base := (s.now 0, s.elapsed 0) } } : State).setBit O.TILE_EVENTS 0 true).put
        O.TILE_STATE tileAutonomous).raise F.TILE_LINK_LOST 0 0 0xFFFF 0))) ∧
  (∀ s : State, s.get O.TILE_STATE = tileAutonomous →
      exec .tileLinkRestored s = .next (settle (forEach s.slt.waiting (fun e s => s.raise e.1 e.2.1 e.2.2.1 e.2.2.2 0)
        (({ s with slt := { s.slt with waiting := [] } } : State).put O.TILE_STATE tileRun))))

/-- Click arithmetic. Under the conditions of its clause, the sequencer existing and its next instruction (State.sqNext) the one named:
LDI writes to RD the immediate, or the immediate over RD's low half; ADD, SUB, AND and OR write their result modulo 2^32; CMP writes Z, C
and N; each counts as a step, writes no other register, and goes on (State.sqGoOn), which adds one to SQ_PC unless SQ_PC is 1,023, where
the program faults with PC_END. -/
def Obligations.ClickArithmetic : Prop :=
  (∀ (s : State) (n : Nat) (x : SqIns), s.seqExists n = true → s.sqNext n opLdi = some x → x.h = false →
      exec (.ldi n) s = .next (settle (((s.sqStep n).put (O.SQ_REG n x.rd) (x.imm % 2 ^ 32)).sqGoOn n))) ∧
  (∀ (s : State) (n : Nat) (x : SqIns), s.seqExists n = true → s.sqNext n opLdi = some x → x.h = true →
      exec (.ldi n) s = .next (settle (((s.sqStep n).put (O.SQ_REG n x.rd) ((x.imm * 65536 + s.sqReg n x.rd % 65536) % 2 ^ 32)).sqGoOn n))) ∧
  (∀ (s : State) (n : Nat) (x : SqIns), s.seqExists n = true → s.sqNext n opAdd = some x →
      exec (.add n) s = .next (settle (((s.sqStep n).put (O.SQ_REG n x.rd) ((s.sqReg n x.ra + s.sqOp2 n x) % 2 ^ 32)).sqGoOn n))) ∧
  (∀ (s : State) (n : Nat) (x : SqIns), s.seqExists n = true → s.sqNext n opSub = some x →
      exec (.sub n) s = .next (settle (((s.sqStep n).put (O.SQ_REG n x.rd) ((s.sqReg n x.ra + 2 ^ 32 - s.sqOp2 n x) % 2 ^ 32)).sqGoOn n))) ∧
  (∀ (s : State) (n : Nat) (x : SqIns), s.seqExists n = true → s.sqNext n opAnd = some x →
      exec (.and n) s = .next (settle (((s.sqStep n).put (O.SQ_REG n x.rd) (Nat.land (s.sqReg n x.ra) (s.sqOp2 n x) % 2 ^ 32)).sqGoOn n))) ∧
  (∀ (s : State) (n : Nat) (x : SqIns), s.seqExists n = true → s.sqNext n opOr = some x →
      exec (.or n) s = .next (settle (((s.sqStep n).put (O.SQ_REG n x.rd) (Nat.lor (s.sqReg n x.ra) (s.sqOp2 n x) % 2 ^ 32)).sqGoOn n))) ∧
  (∀ (s : State) (n : Nat) (x : SqIns), s.seqExists n = true → s.sqNext n opCmp = some x →
      exec (.cmp n) s = .next (settle (((((s.sqStep n).setBit (O.SQ_FLAGS n) 0 (s.sqReg n x.ra == s.sqOp2 n x)).setBit (O.SQ_FLAGS n) 1
        (decide (s.sqReg n x.ra < s.sqOp2 n x))).setBit (O.SQ_FLAGS n) 2 (decide (toS32 (s.sqReg n x.ra) < toS32 (s.sqOp2 n x)))).sqGoOn n))) ∧
  (∀ (s : State) (n : Nat), s.get (O.SQ_PC n) ≠ 1023 → s.sqGoOn n = s.put (O.SQ_PC n) (s.get (O.SQ_PC n) + 1)) ∧
  (∀ (s : State) (n : Nat), s.get (O.SQ_PC n) = 1023 → s.sqGoOn n = s.sqFault n fPcEnd)

/-- Control flow and waits of Click programs. Under the conditions of its clause, the sequencer existing and its next instruction
(State.sqNext) the one named: HALT leaves it STOPPED with no wait (State.haltSeq) and its reaction ended OK; BR writes its target to SQ_PC
where its condition holds, and goes on where it does not; CALL pushes the address after it, shows the depth and branches, and with a full
stack faults with STACK; RET pops its address, shows the depth and branches, and with an empty stack faults with STACK; WAITT in its relative
form waits for its tick, or goes on where it names 0 ticks, and in its absolute form waits for a tick that has not come; WAITT_END goes on when the tick has come; WAITE takes the EVT bits that its
mask names and goes on, or waits with its limit; WAITE_END takes them, or writes 0 to RD at the limit; ILLEGAL_INSTRUCTION at an illegal word
faults with ILLEGAL, and at a word with an uncorrectable error with PROG_UE; STEP_LIMIT at the limit faults with STEP_LIMIT; a fault leaves
the sequencer FAULTED with its cause, counts it, raises CLICK_FAULT and ends a reaction as a failed one. -/
def Obligations.ClickControl : Prop :=
  (∀ (s : State) (n : Nat) (x : SqIns), s.seqExists n = true → s.sqNext n opHalt = some x →
      exec (.halt n) s = .next (settle (((s.sqStep n).haltSeq n sqStopped).endReaction n false))) ∧
  (∀ (s : State) (n st : Nat), s.haltSeq n st =
      ((s.dropClickTx n).put (O.SQ_STATE n) st).setSeq n (fun q => { q with wait := none })) ∧
  (∀ (s : State) (n : Nat) (x : SqIns), s.seqExists n = true → s.sqNext n opBr = some x → brHolds (s.get (O.SQ_FLAGS n)) x.rd = true →
      exec (.br n) s = .next (settle ((s.sqStep n).put (O.SQ_PC n) x.imm))) ∧
  (∀ (s : State) (n : Nat) (x : SqIns), s.seqExists n = true → s.sqNext n opBr = some x → brHolds (s.get (O.SQ_FLAGS n)) x.rd = false →
      exec (.br n) s = .next (settle ((s.sqStep n).sqGoOn n))) ∧
  (∀ (s : State) (n : Nat) (x : SqIns), s.seqExists n = true → s.sqNext n opCall = some x → (s.seq n).stack.length < 8 →
      exec (.call n) s = .next (settle ((((s.sqStep n).setSeq n (fun (q : Seq) => { q with stack := (s.get (O.SQ_PC n) + 1) :: q.stack })).showDepth
        n).put (O.SQ_PC n) (x.imm % 1024)))) ∧
  (∀ (s : State) (n : Nat) (x : SqIns), s.seqExists n = true → s.sqNext n opCall = some x → (s.seq n).stack.length = 8 →
      exec (.call n) s = .next (settle ((s.sqStep n).sqFault n fStack))) ∧
  (∀ (s : State) (n a : Nat) (r : List Nat) (x : SqIns), s.seqExists n = true → s.sqNext n opRet = some x → (s.seq n).stack = a :: r → a < 1024 →
      exec (.ret n) s = .next (settle ((((s.sqStep n).setSeq n (fun q => { q with stack := r })).showDepth n).put (O.SQ_PC n) a))) ∧
  (∀ (s : State) (n : Nat) (x : SqIns), s.seqExists n = true → s.sqNext n opRet = some x → (s.seq n).stack = [] →
      exec (.ret n) s = .next (settle ((s.sqStep n).sqFault n fStack))) ∧
  (∀ (s : State) (n : Nat) (x : SqIns), s.seqExists n = true → s.sqNext n opWaitt = some x → x.h = false → s.sqOp2 n x ≠ 0 →
      exec (.waitt n) s = .next (settle ((s.sqStep n).sqWait n ⟨1, s.seqNow n + s.sqOp2 n x, 0, 0⟩))) ∧
  (∀ (s : State) (n : Nat) (x : SqIns), s.seqExists n = true → s.sqNext n opWaitt = some x → x.h = false → s.sqOp2 n x = 0 →
      exec (.waitt n) s = .next (settle ((s.sqStep n).sqResume n))) ∧
  (∀ (s : State) (n : Nat) (x : SqIns), s.seqExists n = true → s.sqNext n opWaitt = some x → x.h = true →
      s.sqTickDue n ⟨2, s.sqReg n x.ra, 0, 0⟩ = false →
      exec (.waitt n) s = .next (settle ((s.sqStep n).sqWait n ⟨2, s.sqReg n x.ra, 0, 0⟩))) ∧
  (∀ (s : State) (n : Nat) (w : SqWait), s.seqExists n = true → (s.seq n).wait = some w → w.kind = 1 → w.target ≤ s.seqNow n →
      exec (.waittEnd n) s = .next (settle (s.sqResume n))) ∧
  (∀ (s : State) (n : Nat) (x : SqIns), s.seqExists n = true → s.sqNext n opWaite = some x →
      Nat.land (s.get (O.SQ_EVT n)) (s.sqReg n x.ra) ≠ 0 →
      exec (.waite n) s = .next (settle (((s.sqStep n).takeEvt n x.rd (s.sqReg n x.ra)).sqResume n))) ∧
  (∀ (s : State) (n : Nat) (x : SqIns), s.seqExists n = true → s.sqNext n opWaite = some x →
      Nat.land (s.get (O.SQ_EVT n)) (s.sqReg n x.ra) = 0 → s.sqOp2 n x ≠ 0 →
      exec (.waite n) s = .next (settle ((s.sqStep n).sqWait n ⟨3, s.seqNow n + s.sqOp2 n x, s.sqReg n x.ra, x.rd⟩))) ∧
  (∀ (s : State) (n : Nat) (w : SqWait), s.seqExists n = true → (s.seq n).wait = some w → w.kind = 3 → Nat.land (s.get (O.SQ_EVT n)) w.mask ≠ 0 →
      exec (.waiteEnd n) s = .next (settle ((s.takeEvt n w.rd w.mask).sqResume n))) ∧
  (∀ (s : State) (n : Nat) (w : SqWait), s.seqExists n = true → (s.seq n).wait = some w → w.kind = 3 → Nat.land (s.get (O.SQ_EVT n)) w.mask = 0 →
      w.target ≠ 0 → w.target ≤ s.seqNow n →
      exec (.waiteEnd n) s = .next (settle ((s.put (O.SQ_REG n w.rd) 0).sqResume n))) ∧
  (∀ (s : State) (n : Nat), s.seqExists n = true → s.sqState n = sqRunning → (s.seq n).steps < s.get (O.SQ_STEP_LIMIT n) →
      (sqFields (s.sqWord n)).legal = false → exec (.illegalInstruction n false) s = .next (settle (s.sqFault n fIllegal))) ∧
  (∀ (s : State) (n : Nat), s.seqExists n = true → s.sqState n = sqRunning → (s.seq n).steps < s.get (O.SQ_STEP_LIMIT n) →
      exec (.illegalInstruction n true) s = .next (settle (s.sqFault n fProgUe))) ∧
  (∀ (s : State) (n : Nat), s.seqExists n = true → s.sqState n = sqRunning → s.get (O.SQ_STEP_LIMIT n) ≤ (s.seq n).steps →
      exec (.stepLimit n) s = .next (settle (s.sqFault n fStepLimit))) ∧
  (∀ (s : State) (n cause : Nat), s.sqFault n cause =
      ((((s.haltSeq n sqFaulted).put (O.SQ_FAULT n) cause).count32 (O.SQ_FAULTS n)).raiseSeq n F.CLICK_FAULT 0).endReaction n true)

/-- Accesses, events and the transaction of Click programs. Under the conditions of its clause, the sequencer existing and, where an
instruction is named, its next one (State.sqNext): LDO reads the object that RA and the immediate name, and where it is answered OK takes its
low or high half into RD; STO writes it with RD, and with RB above it where I is 0; each reports the status and goes on unless the access
ended the program; EMIT to a sequencer that exists sets its event bit and reports OK; TXB with nobody as holder and an open that is OK opens
the Click transaction, becomes its holder, reports OK and goes on; TXC of the holder with a PREPARE that is OK prepares it and waits;
TXC_END of a refused commit releases the transaction, reports its status and goes on, and of one that has ended reports TX_STATUS; a served
SQ_CMD START starts the program at SQ_ENTRY (State.startSeq) and a served STOP leaves it STOPPED with a reaction ended as a failed one;
SQ_START_AT at its tick starts a program that can start; State.startSeq writes SQ_ENTRY to SQ_PC and 0 to SQ_FAULT, SQ_FLAGS and the eight
registers, empties the stack, leaves RUNNING and counts the run. -/
def Obligations.ClickAccess : Prop :=
  (∀ (s t : State) (n v : Nat) (x : SqIns), s.seqExists n = true → s.sqNext n opLdo = some x → (s.sqStep n).sqRead n (s.sqObject n x) = (stOk, v, t) →
      exec (.ldo n) s = .next (settle ((((t.put (O.SQ_REG n x.rd) ((if x.h then v / 2 ^ 32 else v % 2 ^ 32) % 2 ^ 32)).sqStatus n stOk).sqAfter n)))) ∧
  (∀ (s t : State) (n st v : Nat) (x : SqIns), s.seqExists n = true → s.sqNext n opLdo = some x →
      (s.sqStep n).sqRead n (s.sqObject n x) = (st, v, t) → st ≠ stOk →
      exec (.ldo n) s = .next (settle ((t.sqStatus n st).sqAfter n))) ∧
  (∀ (s t : State) (n st : Nat) (x : SqIns), s.seqExists n = true → s.sqNext n opSto = some x →
      (s.sqStep n).sqWrite n (s.sqObject n x) (s.sqReg n x.rd % 2 ^ 32 + (if x.i then 0 else s.sqReg n x.rb % 2 ^ 32 * 2 ^ 32)) = (st, t) →
      exec (.sto n) s = .next (settle ((t.sqStatus n st).sqAfter n))) ∧
  (∀ (s : State) (n st : Nat), s.sqStatus n st = (s.put (O.SQ_LAST_STATUS n) st).setBit (O.SQ_FLAGS n) 0 (st == stOk)) ∧
  (∀ (s : State) (n t : Nat) (x : SqIns), s.seqExists n = true → s.sqNext n opEmit = some x → t = s.sqReg n x.ra % 128 → t ≠ 127 →
      s.seqExists t = true → s.cutOff n = false →
      exec (.emit n) s = .next (settle ((((s.sqStep n).setBit (O.SQ_EVT t) (x.imm % 16) true).sqStatus n stOk).sqGoOn n))) ∧
  (∀ (s : State) (n : Nat) (x : SqIns), s.seqExists n = true → s.sqNext n opTxb = some x → (s.sqStep n).cutOff n = false →
      (s.sqStep n).get (O.TX_HOLDER txClick) = noHolder → (s.sqStep n).txCmdStatus txClick txcOpen = stOk →
      exec (.txb n) s = .next (settle ((((fxTxOpen txClick (s.sqStep n)).put (O.TX_HOLDER txClick) n).sqStatus n stOk).sqGoOn n))) ∧
  (∀ (s : State) (n : Nat) (x : SqIns), s.seqExists n = true → s.sqNext n opTxc = some x → (s.sqStep n).get (O.TX_HOLDER txClick) = n →
      (s.sqStep n).txCmdStatus txClick txcPrepare = stOk →
      exec (.txc n) s = .next (settle ((fxTxPrepare txClick (s.sqStep n)).sqWait n ⟨4, s.sqOp2 n x, 0, 0⟩))) ∧
  (∀ (s : State) (n : Nat) (w : SqWait), s.seqExists n = true → (s.seq n).wait = some w → w.kind = 6 →
      exec (.txcEnd n) s = .next (settle (((s.sqRelease n).sqStatus n w.target).sqResume n))) ∧
  (∀ (s : State) (n : Nat) (w : SqWait), s.seqExists n = true → (s.seq n).wait = some w → w.kind = 5 → s.get (O.TX_STATE txClick) = txApplied →
      exec (.txcEnd n) s = .next (settle (((s.sqRelease n).sqStatus n (s.get (O.TX_STATUS txClick))).sqResume n))) ∧
  (∀ (s : State) (ifc : Iface) (n : Nat), s.seqExists n = true → s.servesWrite ifc (O.SQ_CMD n) 1 = true →
      exec (.sqCmdStart ifc n) s = .next (settle ((s.startSeq n).acknowledged ifc (O.SQ_CMD n)))) ∧
  (∀ (s : State) (ifc : Iface) (n : Nat), s.seqExists n = true → s.servesWrite ifc (O.SQ_CMD n) 2 = true → s.sqState n ≠ sqRetired →
      exec (.sqCmdStop ifc n) s = .next (settle (((s.haltSeq n sqStopped).endReaction n true).acknowledged ifc (O.SQ_CMD n)))) ∧
  (∀ (s : State) (n : Nat), s.seqExists n = true → s.get (O.SQ_START_AT n) ≠ 0 → s.get (O.SQ_START_AT n) ≤ s.seqNow n →
      (s.put (O.SQ_START_AT n) 0).startable' n = true →
      exec (.sqStartAt n) s = .next (settle ((s.put (O.SQ_START_AT n) 0).startSeq n))) ∧
  (∀ (s : State) (n : Nat), s.startSeq n = (((forEach (List.range 8) (fun r s => s.put (O.SQ_REG n r) 0)
      (((s.put (O.SQ_PC n) (s.get (O.SQ_ENTRY n))).put (O.SQ_FAULT n) 0).put (O.SQ_FLAGS n) 0)).setSeq n
        (fun q => { q with stack := [], steps := 0, wait := none })).put (O.SQ_STATE n) sqRunning).count32 (O.SQ_RUNS n))

/-- Cicada pairs and the activation of their firmware. Under the conditions of its clause: a served CC_ACTIVATE keeps the running image as
the previous one, makes the staging image the running one and awaits every pair, with CC_ACT_STATUS RESTARTING and each CC_STATE RESTARTING;
ACTIVATION_DONE with none awaited leaves CC_ACT_STATUS OK; CICADA_ACT_FAIL of a pair awaited for 250,000 ticks takes it to the previous image,
leaves CC_ACT_STATUS FAILED and its CC_STATE RESTARTING, or RESET where its domain is in reset, sets its bit of CC_EVENTS and raises its source; CICADA_LOCKSTEP of a pair that runs
or stands halted leaves it RESTARTING, counts it and raises its source; CICADA_WDT of a pair that has run for CC_WDT_PERIOD counts, raises its source and resets the
pair by its watchdog; CICADA_RUNNING of a pair in RESET or RESTARTING with its domain on leaves it RUNNING from now on,
no longer awaited, and with no step and no bus error of an earlier run. -/
def Obligations.CicadaPairs : Prop :=
  (∀ (s : State) (ifc : Iface), s.servesWrite ifc O.CC_ACTIVATE 1 = true →
      exec (.ccActivate ifc) s = .next (settle ((forEach (List.range s.dies) (fun d s => s.put (O.CC_STATE d) ccRestarting)
        ((s.setCic (fun c => { c with previous := c.running, running := some s.stagingImage, actAt := s.elapsed 0, await := List.range s.dies,
                                      old := [] })).put O.CC_ACT_STATUS actRestarting)).acknowledged ifc O.CC_ACTIVATE))) ∧
  (∀ s : State, s.get O.CC_ACT_STATUS = actRestarting → s.sqs.cic.await = [] →
      exec .activationDone s = .next (settle (s.put O.CC_ACT_STATUS actOk))) ∧
  (∀ (s : State) (d : Nat), d < s.dies → s.sqs.cic.await.contains d = true → s.sqs.cic.actAt + 250000 ≤ s.elapsed 0 →
      exec (.cicadaActFail d) s = .next (settle (((((s.setCic (fun c => { c with await := c.await.filter (· != d), old := d :: c.old })).put
        O.CC_ACT_STATUS actFailed).put (O.CC_STATE d) (if s.domainOn d dCicada then ccRestarting else ccReset)).setBit O.CC_EVENTS 2 true).raiseDie d F.CICADA_ACT_FAIL))) ∧
  (∀ (s : State) (d : Nat), d < s.dies → s.pairAlive d = true →
      exec (.cicadaLockstep d) s = .next (settle ((((s.put (O.CC_STATE d) ccRestarting).count32 (O.CC_LOCKSTEP_ERRORS d)).setBit
        O.CC_EVENTS 0 true).raiseDie d F.CICADA_LOCKSTEP))) ∧
  (∀ (s : State) (d : Nat), d < s.dies → s.get (O.CC_STATE d) = ccRunning →
      s.sqs.cic.watch.at d + s.get O.CC_WDT_PERIOD ≤ s.elapsed d →
      exec (.cicadaWdt d) s = .next (settle ((((s.count32 (O.CC_WDT_EXPIRIES d)).setBit O.CC_EVENTS 1 true).raiseDie d
        F.CICADA_WDT).watchdogReset d))) ∧
  (∀ (s : State) (d : Nat), d < s.dies → s.get (O.CC_STATE d) = ccReset ∨ s.get (O.CC_STATE d) = ccRestarting → s.domainOn d dCicada = true →
      exec (.cicadaRunning d []) s = .next (settle ((s.put (O.CC_STATE d) ccRunning).setCic (fun c =>
        { c with await := c.await.filter (· != d), watch := c.watch.set d (s.elapsed d),
                 stepped := c.stepped.filter (· != d), busError := c.busError.filter (· != d) }))))

/-- Reactions, the recovery window, captures, retirements and SAFE. Under the conditions of its clause: REACTION_START takes the oldest
reaction queued for a sequencer that is not executing, and begins it on a REACTION sequencer with a valid program that stands STOPPED or
FAULTED on a die that is not in SAFE (State.beginReaction, which starts the program with the source and the severity in registers 0 and 1),
and where the sequencer is no REACTION one raises REACTION_FAILED with the source; RECOVERY_WINDOW_CLOSE at the window's end leaves FC_STATE
NORMAL; COLLECTOR_UE decides SAFE with cause COLLECTOR (State.doSafe) and raises its source with nothing captured; a served FS_CAP_VALID
returns the source's eight capture objects to their defaults; a served RET_CLEAR of a lane, a port or a sequencer forgets the channel's pairs,
recoveries and retirement and leaves LANE_STATE 0, LINK_STATE DISABLED or SQ_STATE STOPPED, with the retired channels counted anew, and one
of an Invar lane takes its bit out of LANE_RETIRED and its link to RETRAINING; a served
FC_ENTER_SAFE owes the entry to SAFE with cause COMMAND. -/
def Obligations.FaultCollection : Prop :=
  (∀ (s : State) (n : Nat) (r : Reaction), s.seqExists n = true →
      (s.collector (seqDie n)).queue.find? (fun x => x.seq == n) = some r → s.sqState n = sqStopped ∨ s.sqState n = sqFaulted →
      s.get (O.SQ_ROLE n) = 1 → s.get (O.SQ_VALID n) = 1 → s.dieSafe (seqDie n) = false →
      exec (.reactionStart n) s = .next (settle ((s.setCollector (seqDie n) (fun c => { c with queue := c.queue.erase r })).beginReaction n r))) ∧
  (∀ (s : State) (n : Nat) (r : Reaction), s.beginReaction n r =
      (((s.startSeq n).put (O.SQ_REG n 0) (r.source % 2 ^ 32)).put (O.SQ_REG n 1) (r.severity % 2 ^ 32)).setSeq n
        (fun q => { q with reaction := some r })) ∧
  (∀ (s : State) (n : Nat) (r : Reaction), s.seqExists n = true →
      (s.collector (seqDie n)).queue.find? (fun x => x.seq == n) = some r → s.sqState n ≠ sqRunning → s.sqState n ≠ sqWaiting →
      s.get (O.SQ_ROLE n) ≠ 1 →
      exec (.reactionStart n) s = .next (settle ((s.setCollector (seqDie n) (fun c => { c with queue := c.queue.erase r })).raise
        (seqDie n * 512 + F.REACTION_FAILED) (channelId 6 n) r.source (0x300 + n) 0))) ∧
  (∀ s : State, s.get O.FC_STATE = 1 → s.flt.windowTick + s.get O.FC_WINDOW ≤ s.now 0 →
      exec .recoveryWindowClose s = .next (settle (s.put O.FC_STATE 0))) ∧
  (∀ (s : State) (d : Nat), d < s.dies →
      exec (.collectorUe d) s = .next (settle ((s.doSafe d causeCollector (d * 512 + F.COLLECTOR_UE)).doRaise
        (d * 512 + F.COLLECTOR_UE) 0 0 0xFFFF 0 false))) ∧
  (∀ (s : State) (ifc : Iface) (k : Nat), s.servesWrite ifc (O.FS_CAP_VALID k) 1 = true →
      exec (.fsCapValid ifc k) s = .next (settle (((((((((s.clear (O.FS_CAP_VALID k)).clear (O.FS_CAP_ADDR k)).clear (O.FS_CAP_MASTER k)).clear
        (O.FS_CAP_TYPE k)).clear (O.FS_CAP_STAMP k)).clear (O.FS_CAP_CHANNEL k)).clear (O.FS_CAP_SEVERITY k)).clear (O.FS_LATER k)).acknowledged
        ifc (O.FS_CAP_VALID k)))) ∧
  (∀ (s t : State) (ifc : Iface) (ch : Word), s.servesWrite ifc O.RET_CLEAR ch.toNat = true → channelKind ch.toNat = 1 →
      t = forEach (List.range s.dies) (fun d s => s.setCollector d (fun c => { c with
        pairs := c.pairs.filter (fun x => x.channel != ch.toNat), recover := c.recover.filter (fun x => x.channel != ch.toNat) })) s →
      exec (.retClear ifc ch) s = .next (settle (((({ t with flt := { t.flt with retired := t.flt.retired.filter (· != ch.toNat) } } : State).put
        (O.LANE_STATE (channelIndex ch.toNat)) 0).countRetired).acknowledged ifc O.RET_CLEAR))) ∧
  (∀ (s t : State) (ifc : Iface) (ch : Word), s.servesWrite ifc O.RET_CLEAR ch.toNat = true → channelKind ch.toNat = 4 →
      t = forEach (List.range s.dies) (fun d s => s.setCollector d (fun c => { c with
        pairs := c.pairs.filter (fun x => x.channel != ch.toNat), recover := c.recover.filter (fun x => x.channel != ch.toNat) })) s →
      exec (.retClear ifc ch) s = .next (settle ((((({ t with flt := { t.flt with retired := t.flt.retired.filter (· != ch.toNat) } } : State).put
        (O.LINK_STATE (channelIndex ch.toNat)) lsDisabled).setPort (channelIndex ch.toNat) (fun r => { r with cmdDisabled := true
        })).countRetired).acknowledged ifc O.RET_CLEAR))) ∧
  (∀ (s t u : State) (ifc : Iface) (ch : Word) (l : Nat), s.servesWrite ifc O.RET_CLEAR ch.toNat = true → channelKind ch.toNat = 2 →
      l = channelIndex ch.toNat / 256 →
      t = forEach (List.range s.dies) (fun d s => s.setCollector d (fun c => { c with
        pairs := c.pairs.filter (fun x => x.channel != ch.toNat), recover := c.recover.filter (fun x => x.channel != ch.toNat) })) s →
      u = { t with flt := { t.flt with retired := t.flt.retired.filter (· != ch.toNat) } } →
      exec (.retClear ifc ch) s = .next (settle ((((if (u.laneSet O.LANE_RETIRED l).testBit (channelIndex ch.toNat % 256) = true then
          u.putLanes O.LANE_RETIRED l (u.laneSet O.LANE_RETIRED l - 2 ^ (channelIndex ch.toNat % 256)) else u).d2dDown l 4).countRetired).acknowledged
        ifc O.RET_CLEAR))) ∧
  (∀ (s t : State) (ifc : Iface) (ch : Word), s.servesWrite ifc O.RET_CLEAR ch.toNat = true → channelKind ch.toNat = 6 →
      t = forEach (List.range s.dies) (fun d s => s.setCollector d (fun c => { c with
        pairs := c.pairs.filter (fun x => x.channel != ch.toNat), recover := c.recover.filter (fun x => x.channel != ch.toNat) })) s →
      exec (.retClear ifc ch) s = .next (settle (((({ t with flt := { t.flt with retired := t.flt.retired.filter (· != ch.toNat) } } : State).put
        (O.SQ_STATE (channelIndex ch.toNat)) sqStopped).countRetired).acknowledged ifc O.RET_CLEAR))) ∧
  (∀ (s : State) (ifc : Iface), s.servesWrite ifc O.FC_ENTER_SAFE 1 = true →
      exec (.fcEnterSafe ifc) s = .next (settle ((s.owe (.safe 0 causeCommanded 0xFFFF)).acknowledged ifc O.FC_ENTER_SAFE)))

/-- The sources of reset, the supplies and the release of domains, each with its own effect. Under the conditions of its clause: POWER_ON
leaves the aux rails in and the power-on source asserted from this tick, then takes the cold reach (State.coldReach), starts the tile and writes LAST_RESET;
SYS_RST_N_ASSERT leaves its source asserted from this tick and takes the cold reach that leaves power-on's objects; MAIN_RAILS_OUT leaves the main rails out, with
the main source asserted and the warm reach (State.warmReach) taken where the aux rails are in; AUX_RAILS_OUT leaves no source, no episode and no change waiting,
sets mode OFF and resets the tile and the TAP (the TAP's reset with the supply is the model's choice, log 125); POWER_ON_RELEASE after 250,000 ticks,
SYS_RST_N_RELEASE after 250, MAIN_RAILS_IN and RESET_SOURCE_RELEASE of a timed source at its length leave their source not asserted and then bring the PLLs and domains,
the tile and the episode's end into line (State.releaseSource); DOMAIN_RELEASE leaves the domain running from this tick, and with it starts the training of the two
segments, each with its training set (MGMT of die 0), the die's count at zero and not loaded (another MGMT), or the die's four link attempts and its ports
(DATAPATH). -/
def Obligations.ResetSources : Prop :=
  (∀ s u : State, s.rst.auxRails = false → u = (s.setRst (fun r => { r with auxRails := true })).assertSource rPowerOn 0 0 →
      u.rst.auxRails = true ∧ ({ code := rPowerOn, die := 0, dom := 0, since := s.elapsed 0 } : ResetSource) ∈ u.rst.sources ∧
      exec .powerOn s = .next (settle ((u.coldReach true).startTile.put O.LAST_RESET rPowerOn))) ∧
  (∀ s u : State, s.sourceDue rPowerOn 250000 = true →
      u = s.setRst (fun r => { r with sources := r.sources.filter (fun x => !(x.code == rPowerOn)) }) →
      u.sourceOn (· == rPowerOn) = false ∧ exec .powerOnRelease s = .next (settle u.syncReset.tileAgain.endEpisode)) ∧
  (∀ s u : State, s.rst.auxRails = true → s.sourceOn (· == rSysRst) = false → u = s.assertSource rSysRst 0 0 →
      ({ code := rSysRst, die := 0, dom := 0, since := s.elapsed 0 } : ResetSource) ∈ u.rst.sources ∧
      exec .sysRstNAssert s = .next (settle (u.coldReach false))) ∧
  (∀ s u : State, s.sourceDue rSysRst 250 = true →
      u = s.setRst (fun r => { r with sources := r.sources.filter (fun x => !(x.code == rSysRst)) }) →
      u.sourceOn (· == rSysRst) = false ∧ exec .sysRstNRelease s = .next (settle u.syncReset.tileAgain.endEpisode)) ∧
  (∀ s u : State, s.rst.mainRails = true → s.rst.auxRails = true →
      u = (s.setRst (fun r => { r with mainRails := false })).assertSource rMain 0 0 →
      u.rst.mainRails = false ∧ ({ code := rMain, die := 0, dom := 0, since := s.elapsed 0 } : ResetSource) ∈ u.rst.sources ∧
      exec .mainRailsOut s = .next (settle u.warmReach)) ∧
  (∀ s : State, s.rst.mainRails = true → s.rst.auxRails = false →
      exec .mainRailsOut s = .next (settle (s.setRst (fun r => { r with mainRails := false })))) ∧
  (∀ s u : State, u = (s.setRst (fun r => { r with mainRails := true })).setRst
        (fun r => { r with sources := r.sources.filter (fun x => !(x.code == rMain)) }) →
      u.rst.mainRails = true ∧ u.sourceOn (· == rMain) = false ∧
      exec .mainRailsIn s = .next (settle u.syncReset.tileAgain.endEpisode)) ∧
  (∀ s u : State, s.rst.auxRails = true →
      u = s.setRst (fun r => { r with auxRails := false, sources := [], episode := [], pendingMode := none, dieInit := [] }) →
      (∀ d i : Nat, u.covered d i = false) ∧ exec .auxRailsOut s = .next (settle (u.setMode 0).syncReset.resetTile.resetTap)) ∧
  (∀ (s u : State) (x : ResetSource), x ∈ s.rst.sources → x.die < s.dies → rIhlod ≤ x.code → x.code ≠ rMain →
      x.since + resetLength x.code ≤ s.elapsed 0 →
      u = s.setRst (fun r => { r with sources := r.sources.filter (fun y => !(decide (rIhlod ≤ y.code) && y.code != rMain && y.code == x.code &&
        y.die == x.die && y.dom == x.dom && decide (y.since + resetLength y.code ≤ s.elapsed 0))) }) →
      x ∉ u.rst.sources ∧ exec (.resetSourceRelease x.code x.die x.dom) s = .next (settle u.syncReset.tileAgain.endEpisode)) ∧
  (∀ (s : State) (p : ResetSource → Bool), s.releaseSource p =
      ((s.setRst (fun r => { r with sources := r.sources.filter (fun x => !p x) })).syncReset).tileAgain.endEpisode) ∧
  (∀ (s u : State) (d i : Nat), s.hasDomain d i = true → (s.domain d i).running = false → s.releasable d i = true →
      u = s.setDomain d i { running := true, since := s.elapsed 0 } →
      (u.domain d i).running = true ∧ (u.domain d i).since = s.elapsed 0 ∧
      (i = dMgmt → d = 0 →
        exec (.domainRelease d i) s = .next (settle (forEach [0, 1] (fun x s => s.send (.trainingSet x (trainingSet s.nodeAddr x)))
          (u.setIhl (fun x => { x with segTry := [(0, s.elapsed 0), (1, s.elapsed 0)] }))))) ∧
      (i = dMgmt → d ≠ 0 →
        exec (.domainRelease d i) s = .next (settle (u.setTime d (fun t => { t with now := 0, sub := 0, loaded := false })))) ∧
      (i = dDatapath → exec (.domainRelease d i) s = .next (settle ((forEach (List.range 4)
        (fun k s => s.setLink (linkNo d k) (fun r => { r with attemptAt := s.elapsed d })) u).portsReleased d))) ∧
      (i ≠ dMgmt → i ≠ dDatapath → exec (.domainRelease d i) s = .next (settle u)))

/-- Commanded resets. Under the conditions of its clause: a served PKG_RESET asserts the package source and takes the warm reach
(State.warmReach); a served DIE_RESET asserts the die's source and takes its reach (State.dieReach), and in CONFIG first notes that the die
runs INIT's steps again, untested and uncleared; a served BLOCK_RESET of one bit resets that block (State.blockReset): bit 4 the mover,
5 the capture, 6 the auditor, 7 the sequencers, 8 the counters and 9 the tile's sequencers. -/
def Obligations.ResetCommands : Prop :=
  (∀ (s : State) (ifc : Iface), s.servesWrite ifc O.PKG_RESET 0xA5A5 = true →
      exec (.pkgReset ifc) s = .next (settle (((s.assertSource rPkg 0 0).warmReach).acknowledged ifc O.PKG_RESET))) ∧
  (∀ (s : State) (ifc : Iface) (d : Nat), s.servesWrite ifc (O.DIE_RESET d) 0xA5A5 = true → s.mode ≠ mConfig →
      exec (.dieReset ifc d) s = .next (settle (((s.assertSource rDie d 0).dieReach d).acknowledged ifc (O.DIE_RESET d)))) ∧
  (∀ (s : State) (ifc : Iface) (d : Nat), s.servesWrite ifc (O.DIE_RESET d) 0xA5A5 = true → s.mode = mConfig →
      exec (.dieReset ifc d) s = .next (settle ((((s.setRst (fun r => { r with
        dieInit := r.dieInit.set d true, initTested := r.initTested.drop d, initCleared := r.initCleared.drop d })).assertSource rDie d 0).dieReach d).acknowledged ifc
        (O.DIE_RESET d)))) ∧
  (∀ (s : State) (ifc : Iface) (d : Nat), s.servesWrite ifc (O.BLOCK_RESET d) 16 = true →
      exec (.blockResetMover ifc d) s = .next (settle ((s.blockReset d dMover).acknowledged ifc (O.BLOCK_RESET d)))) ∧
  (∀ (s : State) (ifc : Iface) (d : Nat), s.servesWrite ifc (O.BLOCK_RESET d) 32 = true →
      exec (.blockResetCapture ifc d) s = .next (settle ((s.blockReset d dCapture).acknowledged ifc (O.BLOCK_RESET d)))) ∧
  (∀ (s : State) (ifc : Iface) (d : Nat), s.servesWrite ifc (O.BLOCK_RESET d) 64 = true →
      exec (.blockResetAuditor ifc d) s = .next (settle ((s.blockReset d dAuditor).acknowledged ifc (O.BLOCK_RESET d)))) ∧
  (∀ (s : State) (ifc : Iface) (d : Nat), s.servesWrite ifc (O.BLOCK_RESET d) 128 = true →
      exec (.blockResetSequencers ifc d) s = .next (settle ((s.blockReset d dSequencers).acknowledged ifc (O.BLOCK_RESET d)))) ∧
  (∀ (s : State) (ifc : Iface) (d : Nat), s.servesWrite ifc (O.BLOCK_RESET d) 256 = true →
      exec (.blockResetCounters ifc d) s = .next (settle ((s.blockReset d dCounters).acknowledged ifc (O.BLOCK_RESET d)))) ∧
  (∀ (s : State) (ifc : Iface) (d : Nat), s.servesWrite ifc (O.BLOCK_RESET d) 512 = true →
      exec (.blockResetTileSequencers ifc d) s = .next (settle ((s.blockReset d dTileSequencers).acknowledged ifc (O.BLOCK_RESET d)))) ∧
  (∀ (s : State) (d : Nat), s.blockReset d dCounters = ((s.assertSource rBlock d dCounters).syncReset).resetCounters d) ∧
  (∀ (s : State) (d : Nat), s.blockReset d dCapture = (((s.assertSource rBlock d dCapture).syncReset).clearWhere
      (fun o => o.cls == 0x58 && (o.inst == 1 + d || decide (0x100 + 8 * d ≤ o.inst ∧ o.inst < 0x108 + 8 * d)))).emptyRing d) ∧
  (∀ (s : State) (d : Nat), s.blockReset d dSequencers = (s.assertSource rBlock d dSequencers).syncReset)

/-- PLL lock, loss of lock and CLOCK_UNSTABLE. Under the conditions of its clause: PLL_LOCK of a running PLL that is not stable, 16 ticks after
it started, leaves it stable, and the ports that waited for a PHY PLL train (State.portsClocked); PLL_UNLOCK of a stable PLL of MGMT or CORE leaves it running anew from this tick, counts UNLOCK_COUNT, raises
CLOCK_UNSTABLE and brings PLLs, domains and data ports into line (State.syncReset), and of a link's PLL takes that link down too, of a
PHY PLL the die's ports that are not down, and of the Ihlod link's PLL its two segments;
CLOCK_UNSTABLE of a running PLL that is not stable and not reported, 2,500 ticks after it started, notes it and raises CLOCK_UNSTABLE. -/
def Obligations.Clocks : Prop :=
  (∀ (s : State) (d n : Nat), s.hasPll d n = true → (s.pll d n).run = true → (s.pll d n).stable = false → (s.pll d n).since + 16 ≤ s.elapsed 0 →
      exec (.pllLock d n) s = .next (settle (if n = 2 then (s.setPll d n { s.pll d n with stable := true }).portsClocked d
        else s.setPll d n { s.pll d n with stable := true }))) ∧
  (∀ (s : State) (d n : Nat), s.hasPll d n = true → n < 2 → (s.pll d n).stable = true →
      exec (.pllUnlock d n) s = .next (settle ((((s.setPll d n { run := true, since := s.elapsed 0 }).count32 (O.UNLOCK_COUNT d)).raiseDie d
        F.CLOCK_UNSTABLE).syncReset))) ∧
  (∀ (s t : State) (d : Nat), s.hasPll d 2 = true → (s.pll d 2).stable = true →
      t = ((s.setPll d 2 { run := true, since := s.elapsed 0 }).count32 (O.UNLOCK_COUNT d)).raiseDie d F.CLOCK_UNSTABLE →
      exec (.pllUnlock d 2) s = .next (settle (forEach ((List.range 16).map (fun k => 16 * d + k))
        (fun p s => if s.linkAlive p then s.linkDrop p lsDetect else s) t).syncReset)) ∧
  (∀ (s : State) (d : Nat), s.hasPll d 5 = true → (s.pll d 5).stable = true →
      exec (.pllUnlock d 5) s = .next (settle ((((((s.setPll d 5 { run := true, since := s.elapsed 0 }).count32 (O.UNLOCK_COUNT d)).raiseDie d
        F.CLOCK_UNSTABLE).segDown 0).segDown 1).syncReset))) ∧
  (∀ (s : State) (d n : Nat), s.hasPll d n = true → 8 ≤ n → (s.pll d n).stable = true →
      exec (.pllUnlock d n) s = .next (settle (((((s.setPll d n { run := true, since := s.elapsed 0 }).count32 (O.UNLOCK_COUNT d)).raiseDie d
        F.CLOCK_UNSTABLE).d2dDown (linkNo d (n - 8)) 3).syncReset))) ∧
  (∀ (s : State) (d n : Nat), s.hasPll d n = true → (s.pll d n).run = true → (s.pll d n).stable = false → (s.pll d n).unstable = false →
      (s.pll d n).since + 2500 ≤ s.elapsed 0 →
      exec (.clockUnstable d n) s = .next (settle ((s.setPll d n { s.pll d n with unstable := true }).raiseDie d F.CLOCK_UNSTABLE)))

/-- Requests of a mode change. Under the conditions of its clause: a served MODE_REQUEST of a mode that is not the current one writes OK to
MODE_STATUS and leaves the change to that mode pending from this tick; of LINKUP it first records the port layout (State.recordLayout); of RUN
or DEGRADED outside both it leaves RUN pending; of RUN or DEGRADED in RUN it only writes OK to MODE_STATUS. -/
def Obligations.ModeRequests : Prop :=
  (∀ (s : State) (ifc : Iface), s.Canonical → s.servesWrite ifc O.MODE_REQUEST mAux = true → s.isCurrent mAux = false →
      exec (.modeRequestAux ifc) s = .next (settle (((s.put O.MODE_STATUS stOk).setRst
        (fun r => { r with pendingMode := some mAux, pendingAt := s.elapsed 0 })).acknowledged ifc O.MODE_REQUEST))) ∧
  (∀ (s : State) (ifc : Iface), s.Canonical → s.servesWrite ifc O.MODE_REQUEST mInit = true → s.isCurrent mInit = false →
      exec (.modeRequestInit ifc) s = .next (settle (((s.put O.MODE_STATUS stOk).setRst
        (fun r => { r with pendingMode := some mInit, pendingAt := s.elapsed 0 })).acknowledged ifc O.MODE_REQUEST))) ∧
  (∀ (s : State) (ifc : Iface), s.Canonical → s.servesWrite ifc O.MODE_REQUEST mConfig = true → s.isCurrent mConfig = false →
      exec (.modeRequestConfig ifc) s = .next (settle (((s.put O.MODE_STATUS stOk).setRst
        (fun r => { r with pendingMode := some mConfig, pendingAt := s.elapsed 0 })).acknowledged ifc O.MODE_REQUEST))) ∧
  (∀ (s : State) (ifc : Iface), s.Canonical → s.servesWrite ifc O.MODE_REQUEST mLinkup = true → s.isCurrent mLinkup = false →
      exec (.modeRequestLinkup ifc) s = .next (settle (((s.recordLayout.put O.MODE_STATUS stOk).setRst
        (fun r => { r with pendingMode := some mLinkup, pendingAt := s.elapsed 0 })).acknowledged ifc O.MODE_REQUEST))) ∧
  (∀ (s : State) (ifc : Iface) (degraded : Bool), s.Canonical → s.servesWrite ifc O.MODE_REQUEST (if degraded then mDegraded else mRun) = true →
      s.mode ≠ mRun → s.mode ≠ mDegraded →
      exec (.modeRequestRun ifc degraded) s = .next (settle (((s.put O.MODE_STATUS stOk).setRst
        (fun r => { r with pendingMode := some mRun, pendingAt := s.elapsed 0 })).acknowledged ifc O.MODE_REQUEST))) ∧
  (∀ (s : State) (ifc : Iface) (degraded : Bool), s.Canonical → s.servesWrite ifc O.MODE_REQUEST (if degraded then mDegraded else mRun) = true →
      s.mode = mRun →
      exec (.modeRequestRun ifc degraded) s = .next (settle ((s.put O.MODE_STATUS stOk).acknowledged ifc O.MODE_REQUEST))) ∧
  (∀ (s : State) (ifc : Iface), s.Canonical → s.servesWrite ifc O.MODE_REQUEST mRunNc = true → s.isCurrent mRunNc = false →
      exec (.modeRequestRunNc ifc) s = .next (settle (((s.put O.MODE_STATUS stOk).setRst
        (fun r => { r with pendingMode := some mRunNc, pendingAt := s.elapsed 0 })).acknowledged ifc O.MODE_REQUEST))) ∧
  (∀ (s : State) (ifc : Iface), s.Canonical → s.servesWrite ifc O.MODE_REQUEST mDrain = true → s.isCurrent mDrain = false →
      exec (.modeRequestDrain ifc) s = .next (settle (((s.put O.MODE_STATUS stOk).setRst
        (fun r => { r with pendingMode := some mDrain, pendingAt := s.elapsed 0 })).acknowledged ifc O.MODE_REQUEST))) ∧
  (∀ (s : State) (ifc : Iface), s.Canonical → s.servesWrite ifc O.MODE_REQUEST mMaint = true → s.isCurrent mMaint = false →
      exec (.modeRequestMaint ifc) s = .next (settle (((s.put O.MODE_STATUS stOk).setRst
        (fun r => { r with pendingMode := some mMaint, pendingAt := s.elapsed 0 })).acknowledged ifc O.MODE_REQUEST))) ∧
  (∀ (s : State) (ifc : Iface), s.Canonical → s.servesWrite ifc O.MODE_REQUEST mUpdate = true → s.isCurrent mUpdate = false →
      exec (.modeRequestUpdate ifc) s = .next (settle (((s.put O.MODE_STATUS stOk).setRst
        (fun r => { r with pendingMode := some mUpdate, pendingAt := s.elapsed 0 })).acknowledged ifc O.MODE_REQUEST)))

/-- Mode changes and the ends of INIT. Under the conditions of its clause: MODE_CHANGE of a change accepted at an earlier tick with no
transaction LOCKED makes it (State.changeMode), to DEGRADED where RUN is asked for with retired channels, and for INIT starts INIT from this
tick with no die tested or cleared and INIT_STATUS RUNNING; INIT_END with no transaction LOCKED and every die done writes INIT_STATUS OK and changes to CONFIG;
INIT_TIMEOUT at INIT_LIMIT with none LOCKED writes INIT_STATUS TIMEOUT and changes to AUX; SRAM_SELF_TEST_END of a die in INIT that is not tested writes
SRAM_REPAIRS and notes the die tested, or, failed with none LOCKED in a state in canonical form, writes INIT_STATUS SRAM_FAIL and changes to AUX. -/
def Obligations.ModeChanges : Prop :=
  (∀ (s : State) (m : Nat), s.rst.pendingMode = some m → s.rst.pendingAt < s.elapsed 0 → s.anyLocked = false → m ≠ mInit →
      m ≠ mRun ∨ s.get O.FC_RETIRED = 0 →
      exec .modeChange s = .next (settle ((s.setRst (fun r => { r with pendingMode := none })).changeMode m))) ∧
  (∀ s : State, s.rst.pendingMode = some mRun → s.rst.pendingAt < s.elapsed 0 → s.anyLocked = false → s.get O.FC_RETIRED ≠ 0 →
      exec .modeChange s = .next (settle ((s.setRst (fun r => { r with pendingMode := none })).changeMode mDegraded))) ∧
  (∀ s : State, s.rst.pendingMode = some mInit → s.rst.pendingAt < s.elapsed 0 → s.anyLocked = false →
      exec .modeChange s = .next (settle (((s.setRst (fun r => { r with
        pendingMode := none, initAt := s.elapsed 0, initTested := [], initCleared := [] })).put O.INIT_STATUS 1).changeMode mInit))) ∧
  (∀ s : State, s.mode = mInit → s.anyLocked = false → (∀ d, d < s.dies → s.initDone d = true) →
      exec .initEnd s = .next (settle ((s.put O.INIT_STATUS 2).changeMode mConfig))) ∧
  (∀ s : State, s.mode = mInit → s.anyLocked = false → s.rst.initAt + s.get O.INIT_LIMIT ≤ s.elapsed 0 →
      exec .initTimeout s = .next (settle ((s.put O.INIT_STATUS 4).changeMode mAux))) ∧
  (∀ (s : State) (d repairs : Nat), d < s.dies → s.initOf d = true → s.domainOn d dDatapath = true → s.domainOn d dDirectory = true →
      s.rst.initTested.at d = false → repairs < 65536 →
      exec (.sramSelfTestEnd d repairs true) s = .next (settle ((s.put (O.SRAM_REPAIRS d) repairs).setRst
        (fun r => { r with initTested := r.initTested.set d true })))) ∧
  (∀ (s : State) (d repairs : Nat), d < s.dies → s.initOf d = true → s.domainOn d dDatapath = true → s.domainOn d dDirectory = true →
      s.rst.initTested.at d = false → s.Canonical → s.anyLocked = false → repairs < 65536 →
      exec (.sramSelfTestEnd d repairs false) s = .next (settle (((s.put (O.SRAM_REPAIRS d) repairs).put O.INIT_STATUS 3).changeMode mAux)))

/-- The TAP, debug levels and debug commands. Under the conditions of its clause, in a mode other than OFF: IDCODE selects its register and
answers the identification; DBG_ACCESS selects the debug register, BYPASS the bypass register, and SAMPLE_PRELOAD, EXTEST, CLAMP and HIGHZ,
where level and mode permit them (State.irPermitted), their register or the bypass, SAMPLE_PRELOAD with the pins' levels in the boundary
register and the others with the pins driven from it or floated; SAMPLE_PRELOAD not permitted selects the bypass and raises DEBUG_REFUSED; a served DBG_AUTH takes a fresh challenge and writes DBG_LEVEL, DBG_CREDENTIAL, DBG_LEVEL_AT and
0 to DBG_AUTH_FAILS; DBG_CLOSE writes 0 to DBG_LEVEL; DBG_MAX_LEVEL writes itself, and DBG_LEVEL where it is above; with the debug register
ready, NOP answers the last status and data, READ and WRITE that pass their checks in CORE or CAPTURE space read or write 8 bytes of memory
and end OK, and a READ that does not pass ends with its status, raised and counted (State.debugRefuse); HALT of a running pair leaves it
HALTED from this tick, RUNNING again after RESUME with its watchdog's period put off by the halt; STEP ends OK, and a halted pair
whose fetch no MPU refuses may make its one instruction's access (State.pairFetch: where the instruction lies is free, log 126); and each of the three whose checks fail, because no such die exists among
other reasons, ends with that status, raised and counted. -/
def Obligations.DebugPort : Prop :=
  (∀ s : State, s.mode ≠ 0 →
      exec .idcode s = .next (settle ((s.setSec (fun x => { x with ir := irIdcode, bypassed := false, scan := 0 })).send (.tap 0 s.idcode)))) ∧
  (∀ s t : State, s.mode ≠ 0 → s.irPermitted irSample = true → t = s.setSec (fun x => { x with ir := irSample, bypassed := false, scan := 0 }) →
      exec .samplePreload s = .next (settle (t.setSec (fun x => { x with boundary := t.pinLevels })))) ∧
  (∀ s : State, s.mode ≠ 0 → s.irPermitted irSample = false →
      exec .samplePreload s = .next (settle ((s.setSec (fun x => { x with ir := irSample, bypassed := true, scan := 0 })).debugRefused 0 0))) ∧
  (∀ s : State, s.mode ≠ 0 → s.irPermitted irExtest = true →
      exec .extest s = .next (settle ((s.setSec (fun x => { x with ir := irExtest, bypassed := false, scan := 1 })).send (.boundary 1 s.sec.boundary)))) ∧
  (∀ s : State, s.mode ≠ 0 → s.irPermitted irClamp = true →
      exec .clamp s = .next (settle ((s.setSec (fun x => { x with ir := irClamp, bypassed := true, scan := 2 })).send (.boundary 2 s.sec.boundary)))) ∧
  (∀ s : State, s.mode ≠ 0 → s.irPermitted irHighz = true →
      exec .highz s = .next (settle ((s.setSec (fun x => { x with ir := irHighz, bypassed := true, scan := 3 })).send (.boundary 3 s.sec.boundary)))) ∧
  (∀ s : State, s.mode ≠ 0 →
      exec .dbgAccess s = .next (settle (s.setSec (fun x => { x with ir := irAccess, bypassed := false, scan := 0 })))) ∧
  (∀ s : State, s.mode ≠ 0 →
      exec .bypass s = .next (settle (s.setSec (fun x => { x with ir := irBypass, bypassed := true, scan := 0 })))) ∧
  (∀ (s t : State) (ifc : Iface) (v : Word), s.servesWrite ifc O.DBG_AUTH v.toNat = true → t = s.freshChallenge →
      exec (.dbgAuth ifc v) s = .next (settle (((((t.put O.DBG_LEVEL (v.toNat % 256)).put O.DBG_CREDENTIAL (v.toNat / 256 % 256)).put
        O.DBG_LEVEL_AT (t.now 0)).put O.DBG_AUTH_FAILS 0).acknowledged ifc O.DBG_AUTH))) ∧
  (∀ (s : State) (ifc : Iface), s.servesWrite ifc O.DBG_CLOSE 1 = true →
      exec (.dbgClose ifc) s = .next (settle ((s.put O.DBG_LEVEL 0).acknowledged ifc O.DBG_CLOSE))) ∧
  (∀ (s : State) (ifc : Iface) (v : Word), s.Canonical → s.servesWrite ifc O.DBG_MAX_LEVEL v.toNat = true → v.toNat < s.get O.DBG_LEVEL →
      exec (.dbgMaxLevel ifc v) s = .next (settle (((s.put O.DBG_MAX_LEVEL v.toNat).put O.DBG_LEVEL v.toNat).acknowledged ifc O.DBG_MAX_LEVEL))) ∧
  (∀ (s : State) (ifc : Iface) (v : Word), s.Canonical → s.servesWrite ifc O.DBG_MAX_LEVEL v.toNat = true → s.get O.DBG_LEVEL ≤ v.toNat →
      exec (.dbgMaxLevel ifc v) s = .next (settle ((s.put O.DBG_MAX_LEVEL v.toNat).acknowledged ifc O.DBG_MAX_LEVEL))) ∧
  (∀ s : State, s.debugReady = true → exec .dbgAccessNop s = .next (settle (s.send (.tap s.sec.status s.sec.data)))) ∧
  (∀ (s : State) (a : Word), s.debugReady = true → a.toNat % 8 = 0 → s.debugStatus a.toNat false = stOk → spaceOf a.toNat ≠ spDict →
      spaceOf a.toNat ≠ spFabric →
      exec (.dbgAccessRead a) s = .next (settle (s.debugDone stOk (ofBytes (s.readBytes (debugMemory a.toNat) 8))))) ∧
  (∀ (s : State) (a v : Word), s.debugReady = true → a.toNat % 8 = 0 → s.debugStatus a.toNat true = stOk → spaceOf a.toNat ≠ spDict →
      spaceOf a.toNat ≠ spFabric →
      exec (.dbgAccessWrite a v) s = .next (settle ((s.writeBytes (debugMemory a.toNat) (bytesOf v.toNat 8)).debugDone stOk 0))) ∧
  (∀ (s : State) (a : Word), s.debugReady = true → a.toNat % 8 = 0 → s.debugStatus a.toNat false ≠ stOk →
      exec (.dbgAccessRead a) s = .next (settle (s.debugRefuse a.toNat (debugType a.toNat false) (s.debugStatus a.toNat false)))) ∧
  (∀ (s : State) (st data : Nat), s.debugDone st data =
      (s.setSec (fun x => { x with status := st, data := data, fabric := none })).send (.tap st data)) ∧
  (∀ (s : State) (d : Nat), s.debugReady = true → s.haltStatus d = stOk → s.get (O.CC_STATE d) = ccRunning →
      exec (.dbgAccessHalt d) s = .next (settle (((s.put (O.CC_STATE d) ccHalted).setCic (fun c =>
        { c with haltedAt := c.haltedAt.set d (s.elapsed d) })).debugDone stOk 0))) ∧
  (∀ (s : State) (d : Nat), s.debugReady = true → s.haltStatus d = stOk → s.get (O.CC_STATE d) = ccHalted →
      exec (.dbgAccessResume d) s = .next (settle (((s.put (O.CC_STATE d) ccRunning).setCic (fun c =>
        { c with stepped := c.stepped.filter (· != d), watch := c.watch.set d (c.watch.at d + (s.elapsed d - c.haltedAt.at d)) })).debugDone stOk 0))) ∧
  (∀ (s : State) (d : Nat), s.debugReady = true → s.haltStatus d = stOk → s.get (O.CC_STATE d) ≠ ccHalted →
      exec (.dbgAccessStep d) s = .next (settle (s.debugDone stOk 0))) ∧
  (∀ (s t : State) (d : Nat), s.debugReady = true → s.haltStatus d = stOk → s.get (O.CC_STATE d) = ccHalted → s.pairFetch d = (true, t) →
      exec (.dbgAccessStep d) s = .next (settle ((t.setCic (fun c =>
        { c with stepped := if c.stepped.contains d then c.stepped else d :: c.stepped })).debugDone stOk 0))) ∧
  (∀ (s t : State) (d : Nat), s.debugReady = true → s.haltStatus d = stOk → s.get (O.CC_STATE d) = ccHalted → s.pairFetch d = (false, t) →
      exec (.dbgAccessStep d) s = .next (settle (t.debugDone stOk 0))) ∧
  (∀ (s : State) (d : Nat), s.debugReady = true → s.haltStatus d ≠ stOk →
      exec (.dbgAccessHalt d) s = .next (settle (s.debugRefuse (d * 2 ^ 40) 0 (s.haltStatus d))) ∧
      exec (.dbgAccessResume d) s = .next (settle (s.debugRefuse (d * 2 ^ 40) 0 (s.haltStatus d))) ∧
      exec (.dbgAccessStep d) s = .next (settle (s.debugRefuse (d * 2 ^ 40) 0 (s.haltStatus d))))

/-- SPDM, measurements and the RMA state. Under the conditions of its clause, the request reaching the responder (State.spdmReaches):
GET_CERTIFICATE, and CHALLENGE and KEY_EXCHANGE likewise, with slot 0 empty are answered UnsupportedRequest; with slot 0 filled
GET_CERTIFICATE and CHALLENGE are answered OK; GET_MEASUREMENTS unsigned sends its five blocks and is answered OK; KEY_EXCHANGE with slot 0
filled and fewer than eight sessions opens one, and with eight is answered with the limit; END_SESSION over a transport that carries sessions
ends the session that it names, and of one that is not open there it is answered with InvalidSession (the model's choice, log 127); another
SPDM_REQUEST is answered OK with versions 1.2 and 1.3 and the capabilities and algorithms of R463; a served RMA_ENTER writes SEC_PENDING RMA, ends every session, destroys
the identity and zeroizes every port's keys. -/
def Obligations.Attestation : Prop :=
  (∀ (s : State) (via : Option Nat), (∀ p, via = some p → p < s.ports) → s.spdmReaches via = true → s.slotEmpty = true →
      exec (.getCertificate via) s = .next (settle (s.spdmAnswer via spdmUnsupported)) ∧
      exec (.challenge via) s = .next (settle (s.spdmAnswer via spdmUnsupported)) ∧
      exec (.keyExchange via) s = .next (settle (s.spdmAnswer via spdmUnsupported))) ∧
  (∀ (s : State) (via : Option Nat), (∀ p, via = some p → p < s.ports) → s.spdmReaches via = true → s.slotEmpty = false →
      exec (.getCertificate via) s = .next (settle (s.spdmAnswer via spdmOk))) ∧
  (∀ (s : State) (via : Option Nat), (∀ p, via = some p → p < s.ports) → s.spdmReaches via = true → s.slotEmpty = false →
      exec (.challenge via) s = .next (settle (s.spdmAnswer via spdmOk))) ∧
  (∀ (s : State) (via : Option Nat), (∀ p, via = some p → p < s.ports) → s.spdmReaches via = true →
      exec (.getMeasurements via false) s = .next (settle ((forEach [1, 2, 3, 4, 5] (fun k s => s.send (.measurement via k (s.measurement k)))
        s).spdmAnswer via spdmOk))) ∧
  (∀ (s : State) (via : Option Nat), (∀ p, via = some p → p < s.ports) → s.spdmReaches via = true → s.slotEmpty = false →
      s.sec.session.length < 8 →
      exec (.keyExchange via) s = .next (settle ((s.setSec (fun x =>
        { x with session := x.session ++ [⟨x.serial, via⟩], serial := x.serial + 1 })).spdmAnswer via spdmOk))) ∧
  (∀ (s : State) (via : Option Nat), (∀ p, via = some p → p < s.ports) → s.spdmReaches via = true → s.slotEmpty = false →
      8 ≤ s.sec.session.length →
      exec (.keyExchange via) s = .next (settle (s.spdmAnswer via spdmLimit))) ∧
  (∀ (s : State) (via : Option Nat) (n : Nat), (∀ p, via = some p → p < s.ports) → s.spdmReaches via = true → s.securedVia via = true →
      s.sec.session.any (fun y => y.id == n && y.via == via) = true →
      exec (.endSession via n) s = .next (settle ((s.setSec (fun x =>
        { x with session := x.session.filter (fun y => !(y.id == n && y.via == via)) })).spdmAnswer via spdmOk))) ∧
  (∀ (s : State) (via : Option Nat) (n : Nat), (∀ p, via = some p → p < s.ports) → s.spdmReaches via = true → s.securedVia via = true →
      s.sec.session.any (fun y => y.id == n && y.via == via) = false →
      exec (.endSession via n) s = .next (settle (s.spdmAnswer via spdmInvalidSession))) ∧
  (∀ (s : State) (via : Option Nat), (∀ p, via = some p → p < s.ports) → s.spdmReaches via = true →
      exec (.spdmRequest via) s = .next (settle ((s.send (.spdmInfo via [0x12, 0x13] spdmCapabilities spdmAlgorithms)).spdmAnswer via spdmOk))) ∧
  (∀ (s : State) (ifc : Iface), s.servesWrite ifc O.RMA_ENTER 0xA5A5 = true →
      exec (.rmaEnter ifc) s = .next (settle ((forEach (List.range s.ports) (fun p s => s.zeroize p)
        ((s.put O.SEC_PENDING secRma).setSec (fun x => { x with session := [], idGone := true }))).acknowledged ifc O.RMA_ENTER)))

/-- IDE key management. Under the conditions of its clause, the port an IDE_KM responder that offers IDE_KM: QUERY in a session of the port is
answered good, and outside one fails (State.ideKmFail, which answers failed and raises IDE_KEY_FAIL); KEY_PROG of stream 0 sets the key's bit of
IDE_KEYS; K_SET_GO on a port that is not SECURE selects the set in the direction and makes the port SECURE once both directions are ready
(State.noteSecure), and on one that is SECURE, in a state in canonical form, leaves KEYS_PENDING where a direction is then not ready, and counts a refresh
where both directions have changed to the set; K_SET_STOP of a set that is not selected clears the direction's three keys, and with no key left zeroizes the port; a served
IDE_KEY_CMD of ESTABLISH, APPROVE, REFRESH or STOP takes the device's answer from a free value (State.ideStep), and where it is good ESTABLISH
records the digest of the device's certificates and the session, APPROVE programs and selects set 0 and leaves SECURE, REFRESH programs and
selects the other set and counts, and STOP zeroizes the port, which keeps its session, and leaves KEYS_PENDING. -/
def Obligations.IdeKeys : Prop :=
  (∀ (s : State) (p n : Nat), p < s.ports → s.ideResponder p = true → s.bit (O.DOE_ENABLE p) 3 = true → s.ideKmOk p (some n) = true →
      exec (.query p (some n)) s = .next (settle (s.send (.ideKm p true)))) ∧
  (∀ (s : State) (p : Nat), p < s.ports → s.ideResponder p = true → s.bit (O.DOE_ENABLE p) 3 = true →
      exec (.query p none) s = .next (settle (s.ideKmFail p))) ∧
  (∀ (s : State) (p n k d sub : Nat), p < s.ports → s.ideResponder p = true → s.bit (O.DOE_ENABLE p) 3 = true → s.ideKmOk p (some n) = true →
      k < 2 → d < 2 → sub < 3 →
      exec (.keyProg p (some n) 0 k d sub) s = .next (settle ((s.setBit (O.IDE_KEYS p) (6 * k + 3 * d + sub) true).send (.ideKm p true)))) ∧
  (∀ (s : State) (p n k d : Nat), p < s.ports → s.ideResponder p = true → s.bit (O.DOE_ENABLE p) 3 = true → s.ideKmOk p (some n) = true →
      k < 2 → d < 2 → s.get (O.IDE_STATE p) ≠ ideSecure →
      exec (.kSetGo p (some n) k d) s = .next (settle (((s.selectSet p k d).noteSecure p).send (.ideKm p true)))) ∧
  (∀ (s t : State) (p n k d : Nat), s.Canonical → p < s.ports → s.ideResponder p = true → s.bit (O.DOE_ENABLE p) 3 = true → s.ideKmOk p (some n) = true →
      k < 2 → d < 2 → s.get (O.IDE_STATE p) = ideSecure → t = s.selectSet p k d →
      (t.ideReady p = false → exec (.kSetGo p (some n) k d) s = .next (settle ((t.put (O.IDE_STATE p) idePending).send (.ideKm p true)))) ∧
      (t.ideReady p = true → s.activeSet p d ≠ k → s.activeSet p (1 - d) = k →
        exec (.kSetGo p (some n) k d) s = .next (settle (((t.put (O.IDE_STATE p) ideSecure).count32 (O.IDE_REFRESHES p)).send (.ideKm p true))))) ∧
  (∀ (s t : State) (p n k d : Nat), p < s.ports → s.ideResponder p = true → s.bit (O.DOE_ENABLE p) 3 = true → s.ideKmOk p (some n) = true →
      k < 2 → d < 2 → (s.sec.selected.at p).testBit d = false →
      t = ((s.setBit (O.IDE_KEYS p) (6 * k + 3 * d) false).setBit (O.IDE_KEYS p) (6 * k + 3 * d + 1) false).setBit (O.IDE_KEYS p)
        (6 * k + 3 * d + 2) false → t.get (O.IDE_KEYS p) % 2 ^ 12 ≠ 0 →
      exec (.kSetStop p (some n) k d) s = .next (settle (t.send (.ideKm p true)))) ∧
  (∀ (s t : State) (p n k d : Nat), p < s.ports → s.ideResponder p = true → s.bit (O.DOE_ENABLE p) 3 = true → s.ideKmOk p (some n) = true →
      k < 2 → d < 2 → (s.sec.selected.at p).testBit d = false →
      t = ((s.setBit (O.IDE_KEYS p) (6 * k + 3 * d) false).setBit (O.IDE_KEYS p) (6 * k + 3 * d + 1) false).setBit (O.IDE_KEYS p)
        (6 * k + 3 * d + 2) false → t.get (O.IDE_KEYS p) % 2 ^ 12 = 0 →
      exec (.kSetStop p (some n) k d) s = .next (settle ((t.zeroize p).send (.ideKm p true)))) ∧
  (∀ (s : State) (p : Nat) (act : State → State), s.ideStep p act =
      if (Config.freeValue s.free).toNat % 256 = 0 then act { s with free := s.free + 1 }
      else ((({ s with free := s.free + 1 } : State).put (O.IDE_STATE p) ideFailed).put (O.IDE_LAST_FAIL p)
        ((Config.freeValue s.free).toNat % 256)).ideKeyFail p) ∧
  (∀ (s : State) (ifc : Iface) (p : Nat), s.servesWrite ifc (O.IDE_KEY_CMD p) 1 = true →
      exec (.establish ifc p) s = .next (settle ((s.ideStep p (fun s =>
        (forEach (List.range 6) (fun k s => let f := s.fresh; f.2.put ⟨0x04, 0x100 + p, 2 + k⟩ f.1) s).setSec
          (fun x => { x with peer := if x.peer.contains p then x.peer else p :: x.peer }))).acknowledged ifc (O.IDE_KEY_CMD p)))) ∧
  (∀ (s : State) (ifc : Iface) (p : Nat), s.servesWrite ifc (O.IDE_KEY_CMD p) 2 = true →
      exec (.approve ifc p) s = .next (settle ((s.ideStep p (fun s => (((s.programSet p 0).selectSet p 0 0).selectSet p 0 1).put
        (O.IDE_STATE p) ideSecure)).acknowledged ifc (O.IDE_KEY_CMD p)))) ∧
  (∀ (s : State) (ifc : Iface) (p : Nat), s.servesWrite ifc (O.IDE_KEY_CMD p) 3 = true →
      exec (.refresh ifc p) s = .next (settle ((s.ideStep p (fun s => (((s.programSet p (1 - s.activeSet p 0)).selectSet p
        (1 - s.activeSet p 0) 0).selectSet p (1 - s.activeSet p 0) 1).count32 (O.IDE_REFRESHES p))).acknowledged ifc (O.IDE_KEY_CMD p)))) ∧
  (∀ (s : State) (ifc : Iface) (p : Nat), s.servesWrite ifc (O.IDE_KEY_CMD p) 4 = true →
      exec (.stop ifc p) s = .next (settle ((s.ideStep p (fun s =>
        if s.sec.peer.contains p then ((s.zeroize p).put (O.IDE_STATE p) idePending).setSec (fun x => { x with peer := p :: x.peer })
        else (s.zeroize p).put (O.IDE_STATE p) idePending)).acknowledged ifc (O.IDE_KEY_CMD p))))

/-- Performance counters. Under the conditions of its clause: a served PC_SELECT that changes EVENT or QUAL writes the word and zeroes the
counter and its overflow, and one that changes neither only writes the word; a served TC_SELECT that changes either clears every die's partial
and the overflow bit (State.tcClear), and one that changes neither only writes the word; a served PC_CLEAR zeroes the counter and its overflow;
a served TC_CLEAR clears the counters that its mask names; a served USER_READ writes itself; PARTIAL_SEND outside every 25th tick leaves the
state as it is, and within, with one partial not yet known at its home, makes it known there; PC_SNAPSHOT before PC_SNAP_AT, or with none set,
leaves the state as it is, and at it, with no counter listed, records the tick in PC_LAST_SNAP_AT, counts PC_SNAP_COUNT and sets the next one; at it,
in a state in canonical form, each general counter's value is in its PC_SNAP and each tenant counter's sum over the dies in its TC_SNAP, and with
PC_SNAP_CLEAR the general counters then read 0 and no die holds a partial. -/
def Obligations.Counters : Prop :=
  (∀ (s : State) (ifc : Iface) (d n : Nat) (w : Word), d < s.dies → n < 64 → s.servesWrite ifc (O.PC_SELECT d n) w.toNat = true →
      s.get (O.PC_SELECT d n) % 2 ^ 24 ≠ w.toNat % 2 ^ 24 →
      exec (.pcSelect ifc d n w) s = .next (settle ((((s.put (O.PC_SELECT d n) w.toNat).put (O.PC_VALUE d n) 0).put (O.PC_OVF d n) 0).acknowledged
        ifc (O.PC_SELECT d n)))) ∧
  (∀ (s : State) (ifc : Iface) (d n : Nat) (w : Word), d < s.dies → n < 64 → s.servesWrite ifc (O.PC_SELECT d n) w.toNat = true →
      s.get (O.PC_SELECT d n) % 2 ^ 24 = w.toNat % 2 ^ 24 →
      exec (.pcSelect ifc d n w) s = .next (settle ((s.put (O.PC_SELECT d n) w.toNat).acknowledged ifc (O.PC_SELECT d n)))) ∧
  (∀ (s : State) (ifc : Iface) (t k : Nat) (w : Word), t < 1024 → k < 8 → s.servesWrite ifc (O.TC_SELECT t k) w.toNat = true →
      s.get (O.TC_SELECT t k) % 2 ^ 24 ≠ w.toNat % 2 ^ 24 →
      exec (.tcSelect ifc t k w) s = .next (settle (((s.put (O.TC_SELECT t k) w.toNat).tcClear t k).acknowledged ifc (O.TC_SELECT t k)))) ∧
  (∀ (s : State) (ifc : Iface) (t k : Nat) (w : Word), t < 1024 → k < 8 → s.servesWrite ifc (O.TC_SELECT t k) w.toNat = true →
      s.get (O.TC_SELECT t k) % 2 ^ 24 = w.toNat % 2 ^ 24 →
      exec (.tcSelect ifc t k w) s = .next (settle ((s.put (O.TC_SELECT t k) w.toNat).acknowledged ifc (O.TC_SELECT t k)))) ∧
  (∀ (s : State) (ifc : Iface) (d n : Nat), d < s.dies → n < 64 → s.servesWrite ifc (O.PC_CLEAR d n) 1 = true →
      exec (.pcClear ifc d n) s = .next (settle (((s.put (O.PC_VALUE d n) 0).put (O.PC_OVF d n) 0).acknowledged ifc (O.PC_CLEAR d n)))) ∧
  (∀ (s : State) (ifc : Iface) (t : Nat) (m : Word), t < 1024 → s.servesWrite ifc (O.TC_CLEAR t) m.toNat = true →
      exec (.tcClear ifc t m) s = .next (settle ((forEach (List.range 8) (fun k s => if m.toNat.testBit k then s.tcClear t k else s) s).acknowledged
        ifc (O.TC_CLEAR t)))) ∧
  (∀ (s : State) (ifc : Iface) (t : Nat) (b : Word), t < 1024 → s.servesWrite ifc (O.USER_READ t) b.toNat = true →
      exec (.userRead ifc t b) s = .next (settle ((s.put (O.USER_READ t) b.toNat).acknowledged ifc (O.USER_READ t)))) ∧
  (∀ (s : State) (d : Nat), d < s.dies → s.now d % 25 ≠ 0 → exec (.partialSend d) s = .next (settle s)) ∧
  (∀ (s : State) (d t k : Nat), d < s.dies → s.now d % 25 = 0 → t < 1024 → k < 8 → d ≠ s.tenantHome t → s.perf.latest = [] →
      s.perf.part.keys = [partKey d t k] → s.perf.part.at (partKey d t k) ≠ 0 →
      exec (.partialSend d) s = .next (settle (({ s with perf := { s.perf with
        latest := s.perf.latest.set (partKey d t k) (s.perf.part.at (partKey d t k)) } } : State).tcGrow t k (s.tcValue t k)
        (s.perf.part.at (partKey d t k) % 2 ^ 48)))) ∧
  (∀ s : State, s.get O.PC_SNAP_AT ≠ 0 → s.now 0 < s.get O.PC_SNAP_AT → exec .pcSnapshot s = .next (settle s)) ∧
  (∀ s : State, s.get O.PC_SNAP_AT = 0 → exec .pcSnapshot s = .next (settle s)) ∧
  (∀ s : State, s.get O.PC_SNAP_AT ≠ 0 → s.get O.PC_SNAP_AT ≤ s.now 0 → s.get O.PC_SNAP_CLEAR ≠ 1 → s.perf.part = [] →
      s.regs.all (fun c => decide (c.1 / 0x100 % 0x100 ≠ 0x48 ∨ c.1 / 0x10000 < 0x100)) = true → s.get O.PC_SNAP_PERIOD = 0 →
      exec .pcSnapshot s = .next (settle (((s.put O.PC_LAST_SNAP_AT (s.get O.PC_SNAP_AT)).wrap32 O.PC_SNAP_COUNT).put O.PC_SNAP_AT 0))) ∧
  (∀ s t : State, s.Canonical → s.get O.PC_SNAP_AT ≠ 0 → s.get O.PC_SNAP_AT ≤ s.now 0 → t = fxPcSnapshot s →
      exec .pcSnapshot s = .next (settle t) ∧
      (∀ d n, d < s.dies → n < 64 → t.get (O.PC_SNAP d n) = s.get (O.PC_VALUE d n) ∧
        t.get (O.PC_VALUE d n) = if s.get O.PC_SNAP_CLEAR = 1 then 0 else s.get (O.PC_VALUE d n)) ∧
      (∀ x k, x < 1024 → k < 8 → t.get (O.TC_SNAP x k) = ((List.range s.dies).foldl (fun a d => a + s.perf.part.at (partKey d x k)) 0) % 2 ^ 48) ∧
      t.perf.part = (if s.get O.PC_SNAP_CLEAR = 1 then [] else s.perf.part) ∧ t.get O.PC_LAST_SNAP_AT = s.get O.PC_SNAP_AT ∧
      t.get O.PC_SNAP_AT = (if s.get O.PC_SNAP_PERIOD = 0 then 0 else (s.get O.PC_SNAP_AT + s.get O.PC_SNAP_PERIOD) % 2 ^ 64))

/-- What writes MODE, and what counts FT_NOW. A request of a mode change that is OK names the current mode, or one of the codes 0x01 to 0x0A
that R437 lets a request name from it, DEGRADED standing for RUN; a mode change (State.setMode) of a state in canonical form leaves MODE at the
code asked for, MODE_PREV at the one before, MODE_CHANGED_AT at the time and MODE_CHANGES one up, which saturates; FC_RETIRED's changes take
RUN to DEGRADED and DEGRADED to RUN alone, and leave one of the twelve codes where one stood. Counting never lowers FT_NOW: a TICK of a die whose
count runs adds one to its copy, with the sub-tick count at 0, and a core cycle leaves every copy and lowers no sub-tick count; neither
moves another die's copy, and a die whose count does not run keeps its own. -/
def Obligations.ModesAndCounts : Prop :=
  (∀ (s : State) (v : Nat), (s.modeRequestStatus v).1 = stOk →
      1 ≤ requested v ∧ requested v ≤ mUpdate ∧ requested v ≠ mDegraded ∧ (s.isCurrent v = true ∨ mayRequest s.mode (requested v) = true)) ∧
  (∀ (s : State) (m : Nat), s.Canonical → m < 2 ^ 64 →
      (s.setMode m).mode = m ∧ (s.setMode m).get O.MODE_PREV = s.mode ∧ (s.setMode m).get O.MODE_CHANGED_AT = s.now 0 % 2 ^ 64 ∧
      (s.setMode m).get O.MODE_CHANGES = min (s.get O.MODE_CHANGES + 1) (2 ^ 32 - 1)) ∧
  (∀ s : State, s.Canonical → s.anyLocked = false →
      (s.mode = mRun → s.get O.FC_RETIRED ≠ 0 → s.autoMode.mode = mDegraded) ∧ (s.mode = mDegraded → s.get O.FC_RETIRED = 0 → s.autoMode.mode = mRun) ∧
      (s.mode ≠ mRun → s.mode ≠ mDegraded → s.autoMode = s)) ∧
  (∀ s : State, s.Canonical → s.mode ≤ mSafe → s.autoMode.mode ≤ mSafe) ∧
  (∀ (s : State) (d e : Nat), s.clk.die.risingFrom 0 = true →
      ((fxTick d s).time e = if e = d then
        { s.time d with now := if s.counting d = true then (s.now d + 1) % 2 ^ 64 else s.now d, sub := 0, elapsed := s.elapsed d + 1 } else s.time e) ∧
      (s.now d + 1 < 2 ^ 64 → s.now e ≤ (fxTick d s).now e)) ∧
  (∀ (s : State) (e : Nat), s.clk.die.risingFrom 0 = true →
      (fxCoreCycle s).now e = s.now e ∧ (fxCoreCycle s).elapsed e = s.elapsed e ∧ (s.time e).sub ≤ ((fxCoreCycle s).time e).sub ∧
      ((s.time e).sub ≤ 63 → ((fxCoreCycle s).time e).sub ≤ 63))

/-- Each command of the package's mode and of INIT completes with its own effect. MODE_CHANGE of a change accepted at an earlier tick with no transaction LOCKED
leaves no change waiting and changes to the mode asked for, to DEGRADED where RUN is asked for with retired channels, and for INIT starts INIT with INIT_STATUS
RUNNING; INIT_END with every die done, INIT_TIMEOUT at INIT_LIMIT and SRAM_SELF_TEST_END of a die in INIT write INIT_STATUS or SRAM_REPAIRS as they say. While a transaction is LOCKED
a change and an end wait: MODE_CHANGE and INIT_END leave the state as it is but for what is owed, and a failed INIT leaves the change to AUX waiting from this tick. A change to
the mode the package is in changes nothing. -/
def Obligations.ModeEventsComplete : Prop :=
  (∀ (s u : State) (m : Nat), s.rst.pendingMode = some m → s.rst.pendingAt < s.elapsed 0 → s.anyLocked = false →
      u = s.setRst (fun r => { r with pendingMode := none }) →
      u.rst.pendingMode = none ∧
      (m = mInit → exec .modeChange s = .next (settle (((u.setRst (fun r => { r with
        initAt := s.elapsed 0, initTested := [], initCleared := [] })).put O.INIT_STATUS 1).changeMode mInit))) ∧
      (m = mRun → s.get O.FC_RETIRED ≠ 0 → exec .modeChange s = .next (settle (u.changeMode mDegraded))) ∧
      (m = mRun → s.get O.FC_RETIRED = 0 → exec .modeChange s = .next (settle (u.changeMode mRun))) ∧
      (m ≠ mInit → m ≠ mRun → exec .modeChange s = .next (settle (u.changeMode m)))) ∧
  (∀ s : State, s.rst.pendingMode = none ∨ s.elapsed 0 ≤ s.rst.pendingAt ∨ s.anyLocked = true → exec .modeChange s = .next (settle s)) ∧
  (∀ s u : State, s.mode = mInit → (∀ d, d < s.dies → s.initDone d = true) → u = s.put O.INIT_STATUS 2 →
      (s.anyLocked = false → exec .initEnd s = .next (settle (u.changeMode mConfig))) ∧
      (s.anyLocked = true → exec .initEnd s = .next (settle s))) ∧
  (∀ s u : State, s.mode = mInit → s.rst.initAt + s.get O.INIT_LIMIT ≤ s.elapsed 0 → u = s.put O.INIT_STATUS 4 →
      (u.anyLocked = false → exec .initTimeout s = .next (settle (u.changeMode mAux))) ∧
      (u.anyLocked = true →
        exec .initTimeout s = .next (settle (u.setRst (fun r => { r with pendingMode := some mAux, pendingAt := s.elapsed 0 }))))) ∧
  (∀ (s u : State) (d repairs : Nat), d < s.dies → s.initOf d = true → s.domainOn d dDatapath = true → s.domainOn d dDirectory = true →
      s.rst.initTested.at d = false → repairs < 65536 → u = (s.put (O.SRAM_REPAIRS d) repairs).put O.INIT_STATUS 3 →
      exec (.sramSelfTestEnd d repairs true) s = .next (settle ((s.put (O.SRAM_REPAIRS d) repairs).setRst
        (fun r => { r with initTested := r.initTested.set d true }))) ∧
      (u.anyLocked = false → exec (.sramSelfTestEnd d repairs false) s = .next (settle (u.changeMode mAux))) ∧
      (u.anyLocked = true → exec (.sramSelfTestEnd d repairs false) s = .next (settle (u.setRst (fun r =>
        { r with pendingMode := some mAux, pendingAt := s.elapsed 0 }))))) ∧
  (∀ (s : State) (m : Nat), s.mode = m → s.changeMode m = s)
end

