-- ==== Sys2Proof/Laws/PerInstr.lean ====
section
/-! SUPPORT. Per-constructor lemmas of the family WfGrows: a command that is well formed on a variant is well formed on every larger
variant, whose dies, ports and channels include the smaller one's (R2). -/
namespace Sys2Proof.Laws

/-- A test that holds of a variant holds of every larger one. -/
def Grows (f : Variant → Bool) : Prop :=
  (f .shf2180 = true → f .shf4180 = true) ∧ (f .shf4180 = true → f .shf8180 = true)

theorem grows_const (b : Bool) : Grows (fun _ => b) := ⟨id, id⟩
theorem grows_and {f g : Variant → Bool} (hf : Grows f) (hg : Grows g) : Grows (fun v => f v && g v) := by
  simp only [Grows, Bool.and_eq_true] at *
  exact ⟨fun h => ⟨hf.1 h.1, hg.1 h.2⟩, fun h => ⟨hf.2 h.1, hg.2 h.2⟩⟩
theorem grows_die (d : Nat) : Grows (fun v => v.hasDie d) := by
  constructor <;> (intro h; simp only [Variant.hasDie, decide_eq_true_eq] at *; simp only [Variant.dies] at *; omega)
theorem grows_port (p : Nat) : Grows (fun v => v.hasPort p) := by
  constructor <;> (intro h; simp only [Variant.hasPort, decide_eq_true_eq] at *; simp only [Variant.dies] at *; omega)
theorem grows_lane (l : Nat) : Grows (fun v => v.hasLane l) := by
  constructor <;> (intro h; simp only [Variant.hasLane, decide_eq_true_eq] at *; simp only [Variant.dies] at *; omega)
theorem grows_channel (n : Nat) : Grows (fun v => v.hasChannel n) := by
  constructor <;> (intro h; simp only [Variant.hasChannel, decide_eq_true_eq] at *; simp only [Variant.dies] at *; omega)
theorem grows_invar (l : Nat) : Grows (fun v => v.hasInvar l) := by
  constructor <;> (intro h; simp only [Variant.hasInvar, decide_eq_true_eq] at *; simp only [Variant.dies] at *; omega)
theorem grows_engine (d e : Nat) : Grows (fun v => v.hasEngine d e) := by
  constructor <;> (intro h; simp only [Variant.hasEngine, decide_eq_true_eq] at *; simp only [Variant.dies] at *; omega)
theorem grows_bank (d b : Nat) : Grows (fun v => v.hasBank d b) := by
  constructor <;> (intro h; simp only [Variant.hasBank, decide_eq_true_eq] at *; simp only [Variant.dies] at *; omega)
theorem grows_link (l : Nat) : Grows (fun v => v.hasLink l) := by
  constructor <;> (intro h; simp only [Variant.hasLink, decide_eq_true_eq] at *; simp only [Variant.dies] at *; omega)
theorem grows_seq (n : Nat) : Grows (fun v => v.hasSeq n) := by
  constructor <;> (intro h; simp only [Variant.hasSeq, decide_eq_true_eq] at *; simp only [Variant.dies] at *; omega)
theorem grows_pll (d n : Nat) : Grows (fun v => v.hasPll d n) := by
  constructor <;> (intro h; simp only [Variant.hasPll, decide_eq_true_eq] at *; simp only [Variant.dies] at *; omega)
theorem grows_domain (d i : Nat) : Grows (fun v => v.hasDomain d i) := by
  constructor <;> (intro h; simp only [Variant.hasDomain, decide_eq_true_eq] at *; simp only [Variant.dies] at *; omega)
theorem grows_ifc (ifc : Iface) : Grows (fun v => v.hasIfc ifc) := by
  cases ifc <;> first | exact grows_const _ | exact grows_die _ | exact grows_seq _
theorem grows_via (via : Option Nat) : Grows (fun v => v.hasVia via) := by
  cases via <;> first | exact grows_const _ | exact grows_port _

/-- The family's statement of a command. -/
def WfGrows.Statement (c : Instr) : Prop := Grows (fun v => c.wf v)

theorem WfGrows.read (ifc : Iface) (cls : Nat) (inst : Nat) (mem : Nat) (n : Nat) :
    WfGrows.Statement (.read ifc cls inst mem n) := grows_ifc _
theorem WfGrows.write (ifc : Iface) (cls : Nat) (inst : Nat) (mem : Nat) (vs : List Word) :
    WfGrows.Statement (.write ifc cls inst mem vs) := grows_ifc _
theorem WfGrows.readClear (ifc : Iface) (cls : Nat) (inst : Nat) (mem : Nat) :
    WfGrows.Statement (.readClear ifc cls inst mem) := grows_ifc _
theorem WfGrows.windowRead (off : Nat) (len : Nat) :
    WfGrows.Statement (.windowRead off len) := grows_const _
theorem WfGrows.windowWrite (off : Nat) (data : List Byte) :
    WfGrows.Statement (.windowWrite off data) := grows_const _
theorem WfGrows.mbxRead (t : Nat) (obj : Word) :
    WfGrows.Statement (.mbxRead t obj) := grows_const _
theorem WfGrows.mbxWrite (t : Nat) (obj : Word) (val : Word) :
    WfGrows.Statement (.mbxWrite t obj val) := grows_const _
theorem WfGrows.mbxDone (t : Nat) :
    WfGrows.Statement (.mbxDone t) := grows_const _
theorem WfGrows.errorCount (ifc : Iface) (x : Nat) :
    WfGrows.Statement (.errorCount ifc x) := grows_ifc _
theorem WfGrows.queryObject (ifc : Iface) (x : Nat) (v : Word) :
    WfGrows.Statement (.queryObject ifc x v) := grows_ifc _
theorem WfGrows.dpOpLoad (ifc : Iface) (x : Nat) :
    WfGrows.Statement (.dpOpLoad ifc x) := grows_ifc _
theorem WfGrows.dpOpDump (ifc : Iface) (x : Nat) :
    WfGrows.Statement (.dpOpDump ifc x) := grows_ifc _
theorem WfGrows.dpOpIdle (ifc : Iface) (x : Nat) :
    WfGrows.Statement (.dpOpIdle ifc x) := grows_ifc _
theorem WfGrows.dpDataWrite (ifc : Iface) (x : Nat) (slot : Nat) (vs : List Word) :
    WfGrows.Statement (.dpDataWrite ifc x slot vs) := grows_ifc _
theorem WfGrows.dpDataRead (ifc : Iface) (x : Nat) (slot : Nat) (n : Nat) :
    WfGrows.Statement (.dpDataRead ifc x slot n) := grows_ifc _
theorem WfGrows.dumpStallTimeout (x : Nat) (slot : Nat) :
    WfGrows.Statement (.dumpStallTimeout x slot) := grows_const _
theorem WfGrows.todLoad (ifc : Iface) (v : Word) :
    WfGrows.Statement (.todLoad ifc v) := grows_ifc _
theorem WfGrows.frequencyWindowEnd (edges : Bool) (ppm : Int) :
    WfGrows.Statement (.frequencyWindowEnd edges ppm) := grows_const _
theorem WfGrows.timeSync (l : Nat) :
    WfGrows.Statement (.timeSync l) := grows_invar _
theorem WfGrows.syncMessagesMissed (d : Nat) :
    WfGrows.Statement (.syncMessagesMissed d) := grows_die _
theorem WfGrows.txOpen (ifc : Iface) (x : Nat) :
    WfGrows.Statement (.txOpen ifc x) := grows_ifc _
theorem WfGrows.txPrepare (ifc : Iface) (x : Nat) :
    WfGrows.Statement (.txPrepare ifc x) := grows_ifc _
theorem WfGrows.validationEnds (x : Nat) :
    WfGrows.Statement (.validationEnds x) := grows_const _
theorem WfGrows.txCommitAt (ifc : Iface) (x : Nat) :
    WfGrows.Statement (.txCommitAt ifc x) := grows_ifc _
theorem WfGrows.txAbort (ifc : Iface) (x : Nat) :
    WfGrows.Statement (.txAbort ifc x) := grows_ifc _
theorem WfGrows.txCancel (ifc : Iface) (x : Nat) :
    WfGrows.Statement (.txCancel ifc x) := grows_ifc _
theorem WfGrows.readyTimeout (x : Nat) :
    WfGrows.Statement (.readyTimeout x) := grows_const _
theorem WfGrows.lockPoint (x : Nat) :
    WfGrows.Statement (.lockPoint x) := grows_const _
theorem WfGrows.perstNAssert (p : Nat) :
    WfGrows.Statement (.perstNAssert p) := grows_port _
theorem WfGrows.perstNDeassert (p : Nat) :
    WfGrows.Statement (.perstNDeassert p) := grows_port _
theorem WfGrows.presenceDeclared (pin : PinHeld) :
    WfGrows.Statement (.presenceDeclared pin) := grows_port _
theorem WfGrows.absenceDeclared (pin : PinHeld) :
    WfGrows.Statement (.absenceDeclared pin) := grows_port _
theorem WfGrows.perstRelease (p : Nat) :
    WfGrows.Statement (.perstRelease p) := grows_port _
theorem WfGrows.linkUp (p : Nat) (rate : Nat) (width : Nat) (protocols : Nat) (ldCount : Nat) (reversed : Bool) (polarity : Nat) (presets : List Nat) :
    WfGrows.Statement (.linkUp p rate width protocols ldCount reversed polarity presets) := grows_port _
theorem WfGrows.trainTimeout (p : Nat) :
    WfGrows.Statement (.trainTimeout p) := grows_port _
theorem WfGrows.retryPauseEnd (p : Nat) :
    WfGrows.Statement (.retryPauseEnd p) := grows_port _
theorem WfGrows.recoveryEntry (p : Nat) (target : Nat) (faulty : List Nat) :
    WfGrows.Statement (.recoveryEntry p target faulty) := grows_port _
theorem WfGrows.recoveryExit (p : Nat) (rate : Nat) (width : Nat) (reversed : Bool) :
    WfGrows.Statement (.recoveryExit p rate width reversed) := grows_port _
theorem WfGrows.dropTimeExpiry (p : Nat) :
    WfGrows.Statement (.dropTimeExpiry p) := grows_port _
theorem WfGrows.linkCtrlRetrain (ifc : Iface) (p : Nat) :
    WfGrows.Statement (.linkCtrlRetrain ifc p) := grows_ifc _
theorem WfGrows.linkCtrlDisable (ifc : Iface) (p : Nat) :
    WfGrows.Statement (.linkCtrlDisable ifc p) := grows_ifc _
theorem WfGrows.linkCtrlEnable (ifc : Iface) (p : Nat) :
    WfGrows.Statement (.linkCtrlEnable ifc p) := grows_ifc _
theorem WfGrows.linkCtrlHotReset (ifc : Iface) (p : Nat) :
    WfGrows.Statement (.linkCtrlHotReset ifc p) := grows_ifc _
theorem WfGrows.deviceResponse (p : Nat) (tag : Nat) (data : Nat) (fate : Response) :
    WfGrows.Statement (.deviceResponse p tag data fate) := grows_port _
theorem WfGrows.cplTimeout (p : Nat) (slot : Nat) :
    WfGrows.Statement (.cplTimeout p slot) := grows_port _
theorem WfGrows.quarantineEnd (p : Nat) :
    WfGrows.Statement (.quarantineEnd p) := grows_port _
theorem WfGrows.flitReceived (p : Nat) (badFec : Bool) (badIde : Bool) (lanes : List Nat) (credits : List Nat) :
    WfGrows.Statement (.flitReceived p badFec badIde lanes credits) := grows_port _
theorem WfGrows.marginCtrl (ifc : Iface) (l : Nat) (v : Word) :
    WfGrows.Statement (.marginCtrl ifc l v) := grows_ifc _
theorem WfGrows.marginResponse (l : Nat) (v : Word) :
    WfGrows.Statement (.marginResponse l v) := grows_lane _
theorem WfGrows.hostRequest (p : Nat) (op : MemOp) (md : Nat) (hpa : Word) (tag : Nat) (data : Nat) (mask : Nat) (poison : Bool) (ecc : Nat) :
    WfGrows.Statement (.hostRequest p op md hpa tag data mask poison ecc) := grows_port _
theorem WfGrows.mapRestore (d : Nat) (granule : Bool) (index : Nat) (ok : Bool) :
    WfGrows.Statement (.mapRestore d granule index ok) := grows_die _
theorem WfGrows.atomicop (p : Nat) (op : AtomicReq) (size : Nat) (hpa : Word) (tag : Nat) (operand : Nat) (compare : Nat) :
    WfGrows.Statement (.atomicop p op size hpa tag operand compare) := grows_port _
theorem WfGrows.privateAtomic (d : Nat) (n : Nat) :
    WfGrows.Statement (.privateAtomic d n) := grows_die _
theorem WfGrows.egressSelect (p : Nat) (cellEcc : Nat) (descUe : Bool) :
    WfGrows.Statement (.egressSelect p cellEcc descUe) := grows_port _
theorem WfGrows.shaperRefill (d : Nat) :
    WfGrows.Statement (.shaperRefill d) := grows_die _
theorem WfGrows.bindVppb (h : Nat) (v : Nat) (port : Nat) (ld : Nat) (tenant : Nat) :
    WfGrows.Statement (.bindVppb h v port ld tenant) := grows_const _
theorem WfGrows.unbindVppb (h : Nat) (v : Nat) :
    WfGrows.Statement (.unbindVppb h v) := grows_const _
theorem WfGrows.getVirtualCxlSwitchInfo (h : Nat) :
    WfGrows.Statement (.getVirtualCxlSwitchInfo h) := grows_const _
theorem WfGrows.vppbAdmit (ifc : Iface) (h : Nat) (v : Nat) (b : Word) :
    WfGrows.Statement (.vppbAdmit ifc h v b) := grows_ifc _
theorem WfGrows.decAdmit (ifc : Iface) (n : Nat) (b : Word) :
    WfGrows.Statement (.decAdmit ifc n b) := grows_ifc _
theorem WfGrows.migDrained (m : Nat) :
    WfGrows.Statement (.migDrained m) := grows_const _
theorem WfGrows.rdS (d : Nat) (line : Word) (ecc : Nat) :
    WfGrows.Statement (.rdS d line ecc) := grows_die _
theorem WfGrows.rdOwn (d : Nat) (line : Word) (ecc : Nat) :
    WfGrows.Statement (.rdOwn d line ecc) := grows_die _
theorem WfGrows.rdCur (d : Nat) (line : Word) (ecc : Nat) :
    WfGrows.Statement (.rdCur d line ecc) := grows_die _
theorem WfGrows.upgrade (d : Nat) (line : Word) (ecc : Nat) :
    WfGrows.Statement (.upgrade d line ecc) := grows_die _
theorem WfGrows.cleanEvict (d : Nat) (line : Probe) (h : Nat) :
    WfGrows.Statement (.cleanEvict d line h) := grows_and (grows_die _) (grows_const _)
theorem WfGrows.writeback (d : Nat) (line : Probe) (h : Nat) :
    WfGrows.Statement (.writeback d line h) := grows_and (grows_die _) (grows_const _)
theorem WfGrows.atomic (d : Nat) (line : Probe) :
    WfGrows.Statement (.atomic d line) := grows_die _
theorem WfGrows.memoryWriteAck (d : Nat) (n : Nat) :
    WfGrows.Statement (.memoryWriteAck d n) := grows_die _
theorem WfGrows.birsp (p : Nat) (hpa : Word) (answer : Nat) :
    WfGrows.Statement (.birsp p hpa answer) := grows_port _
theorem WfGrows.biconflict (p : Nat) (hpa : Word) :
    WfGrows.Statement (.biconflict p hpa) := grows_port _
theorem WfGrows.biTimeout (d : Nat) (h : Nat) (line : Word) :
    WfGrows.Statement (.biTimeout d h line) := grows_and (grows_die _) (grows_const _)
theorem WfGrows.allocWaitExpiry (d : Nat) (line : Word) :
    WfGrows.Statement (.allocWaitExpiry d line) := grows_die _
theorem WfGrows.srRecall (ifc : Iface) (r : Nat) (mask : Word) :
    WfGrows.Statement (.srRecall ifc r mask) := grows_ifc _
theorem WfGrows.sweepStart (w : Walk) :
    WfGrows.Statement (.sweepStart w) := grows_die _
theorem WfGrows.sweepEnd (d : Nat) :
    WfGrows.Statement (.sweepEnd d) := grows_die _
theorem WfGrows.bankRetire (ifc : Iface) (d : Nat) (bank : Word) :
    WfGrows.Statement (.bankRetire ifc d bank) := grows_ifc _
theorem WfGrows.bankRetired (d : Nat) (bank : Nat) :
    WfGrows.Statement (.bankRetired d bank) := grows_bank _ _
theorem WfGrows.stagedWrite (p : Nat) (full : Bool) (hpa : Word) (tag : Nat) (data : Nat) (mask : Nat) (poison : Bool) :
    WfGrows.Statement (.stagedWrite p full hpa tag data mask poison) := grows_port _
theorem WfGrows.stagedRead (p : Nat) (hpa : LineErrs) (tag : Nat) :
    WfGrows.Statement (.stagedRead p hpa tag) := grows_port _
theorem WfGrows.mark (d : Nat) (line : Word) :
    WfGrows.Statement (.mark d line) := grows_die _
theorem WfGrows.markAck (h : Nat) (k : Nat) (line : Word) :
    WfGrows.Statement (.markAck h k line) := grows_const _
theorem WfGrows.gdbCommit (p : Nat) (k : Nat) (gen : Nat) :
    WfGrows.Statement (.gdbCommit p k gen) := grows_port _
theorem WfGrows.gdbAbort (p : Nat) (k : Nat) (gen : Nat) :
    WfGrows.Statement (.gdbAbort p k gen) := grows_port _
theorem WfGrows.gdbRelease (p : Nat) (k : Nat) (gen : Nat) :
    WfGrows.Statement (.gdbRelease p k gen) := grows_port _
theorem WfGrows.claim (d : Nat) (line : Word) :
    WfGrows.Statement (.claim d line) := grows_die _
theorem WfGrows.claimResult (h : Nat) (k : Nat) (line : Word) :
    WfGrows.Statement (.claimResult h k line) := grows_const _
theorem WfGrows.pin (d : Nat) (line : Probe) :
    WfGrows.Statement (.pin d line) := grows_die _
theorem WfGrows.pinResult (h : Nat) (k : Nat) (line : LineErrs) :
    WfGrows.Statement (.pinResult h k line) := grows_const _
theorem WfGrows.applyWriteAck (h : Nat) (k : Nat) (line : Word) :
    WfGrows.Statement (.applyWriteAck h k line) := grows_const _
theorem WfGrows.unpin (d : Nat) (line : Word) :
    WfGrows.Statement (.unpin d line) := grows_die _
theorem WfGrows.groupCancel (d : Nat) (h : Nat) (k : Nat) :
    WfGrows.Statement (.groupCancel d h k) := grows_and (grows_die _) (grows_const _)
theorem WfGrows.grpCommitWaitExpiry (h : Nat) (k : Nat) :
    WfGrows.Statement (.grpCommitWaitExpiry h k) := grows_const _
theorem WfGrows.grpCtrlAbort (ifc : Iface) (h : Nat) (k : Nat) :
    WfGrows.Statement (.grpCtrlAbort ifc h k) := grows_ifc _
theorem WfGrows.grpCtrlRelease (ifc : Iface) (h : Nat) (k : Nat) :
    WfGrows.Statement (.grpCtrlRelease ifc h k) := grows_ifc _
theorem WfGrows.weevilExamine (d : Nat) (finding : Nat) :
    WfGrows.Statement (.weevilExamine d finding) := grows_die _
theorem WfGrows.weevilPassEnd (d : Nat) (mismatch : Bool) :
    WfGrows.Statement (.weevilPassEnd d mismatch) := grows_die _
theorem WfGrows.caAt (ifc : Iface) (v : Word) :
    WfGrows.Statement (.caAt ifc v) := grows_ifc _
theorem WfGrows.marker (l : Nat) (c : Nat) :
    WfGrows.Statement (.marker l c) := grows_and (grows_invar _) (grows_const _)
theorem WfGrows.returnMarker (l : Nat) (c : Nat) :
    WfGrows.Statement (.returnMarker l c) := grows_and (grows_invar _) (grows_const _)
theorem WfGrows.capEnable (ifc : Iface) (d : Nat) (b : Word) :
    WfGrows.Statement (.capEnable ifc d b) := grows_ifc _
theorem WfGrows.capStart (d : Nat) :
    WfGrows.Statement (.capStart d) := grows_die _
theorem WfGrows.capStop (d : Nat) :
    WfGrows.Statement (.capStop d) := grows_die _
theorem WfGrows.capRecordWrite (d : Nat) :
    WfGrows.Statement (.capRecordWrite d) := grows_die _
theorem WfGrows.capClear (ifc : Iface) (d : Nat) :
    WfGrows.Statement (.capClear ifc d) := grows_ifc _
theorem WfGrows.cfEnable (ifc : Iface) (d : Nat) (f : Nat) :
    WfGrows.Statement (.cfEnable ifc d f) := grows_ifc _
theorem WfGrows.tAdmit (ifc : Iface) (t : Nat) (b : Word) :
    WfGrows.Statement (.tAdmit ifc t b) := grows_ifc _
theorem WfGrows.freeze (ifc : Iface) (t : Nat) :
    WfGrows.Statement (.freeze ifc t) := grows_ifc _
theorem WfGrows.thaw (ifc : Iface) (t : Nat) :
    WfGrows.Statement (.thaw ifc t) := grows_ifc _
theorem WfGrows.tCmdReset (ifc : Iface) (t : Nat) :
    WfGrows.Statement (.tCmdReset ifc t) := grows_ifc _
theorem WfGrows.discard (ifc : Iface) (t : Nat) :
    WfGrows.Statement (.discard ifc t) := grows_ifc _
theorem WfGrows.qDoorbell (ifc : Iface) (q : Nat) (v : Word) :
    WfGrows.Statement (.qDoorbell ifc q v) := grows_ifc _
theorem WfGrows.piRead (q : Nat) :
    WfGrows.Statement (.piRead q) := grows_const _
theorem WfGrows.piReadReturn (q : Nat) (value : Word) (st : Nat) :
    WfGrows.Statement (.piReadReturn q value st) := grows_const _
theorem WfGrows.descriptorFetch (q : Nat) (words : List Word) (st : Nat) :
    WfGrows.Statement (.descriptorFetch q words st) := grows_const _
theorem WfGrows.descriptorStart (d : Nat) (e : Nat) :
    WfGrows.Statement (.descriptorStart d e) := grows_engine _ _
theorem WfGrows.moverLineDone (d : Nat) (e : Nat) (id : Nat) :
    WfGrows.Statement (.moverLineDone d e id) := grows_engine _ _
theorem WfGrows.descriptorComplete (q : Nat) (i : Nat) :
    WfGrows.Statement (.descriptorComplete q i) := grows_const _
theorem WfGrows.recordWord0 (q : Nat) (i : Nat) :
    WfGrows.Statement (.recordWord0 q i) := grows_const _
theorem WfGrows.ntfDelayExpiry (q : Nat) :
    WfGrows.Statement (.ntfDelayExpiry q) := grows_const _
theorem WfGrows.qNtfAck (ifc : Iface) (q : Nat) (v : Word) :
    WfGrows.Statement (.qNtfAck ifc q v) := grows_ifc _
theorem WfGrows.qCtrlEnable (ifc : Iface) (q : Nat) :
    WfGrows.Statement (.qCtrlEnable ifc q) := grows_ifc _
theorem WfGrows.qCtrlDisable (ifc : Iface) (q : Nat) :
    WfGrows.Statement (.qCtrlDisable ifc q) := grows_ifc _
theorem WfGrows.qCtrlAbort (ifc : Iface) (q : Nat) :
    WfGrows.Statement (.qCtrlAbort ifc q) := grows_ifc _
theorem WfGrows.qCtrlReset (ifc : Iface) (q : Nat) :
    WfGrows.Statement (.qCtrlReset ifc q) := grows_ifc _
theorem WfGrows.engineFault (d : Nat) (e : Nat) :
    WfGrows.Statement (.engineFault d e) := grows_engine _ _
theorem WfGrows.invarFlit (l : Nat) (ok : Bool) :
    WfGrows.Statement (.invarFlit l ok) := grows_invar _
theorem WfGrows.ihlodFrameUnit (x : Nat) (ok : Bool) (seq : Nat) (f : Frame) :
    WfGrows.Statement (.ihlodFrameUnit x ok seq f) := grows_const _
theorem WfGrows.ack (l : Nat) (seq : Nat) :
    WfGrows.Statement (.ack l seq) := grows_link _
theorem WfGrows.ackDue (l : Nat) :
    WfGrows.Statement (.ackDue l) := grows_link _
theorem WfGrows.nak (l : Nat) (seq : Nat) :
    WfGrows.Statement (.nak l seq) := grows_link _
theorem WfGrows.replayTimer (l : Nat) :
    WfGrows.Statement (.replayTimer l) := grows_link _
theorem WfGrows.credit (l : Nat) (vc : Nat) (returned : Nat) :
    WfGrows.Statement (.credit l vc returned) := grows_link _
theorem WfGrows.heartbeat (l : Nat) :
    WfGrows.Statement (.heartbeat l) := grows_link _
theorem WfGrows.heartbeatSend (l : Nat) :
    WfGrows.Statement (.heartbeatSend l) := grows_link _
theorem WfGrows.faultNotice (l : Nat) :
    WfGrows.Statement (.faultNotice l) := grows_invar _
theorem WfGrows.faultNoticeRepeat (d : Nat) :
    WfGrows.Statement (.faultNoticeRepeat d) := grows_die _
theorem WfGrows.noticeAck (l : Nat) :
    WfGrows.Statement (.noticeAck l) := grows_invar _
theorem WfGrows.handover (l : Nat) :
    WfGrows.Statement (.handover l) := grows_invar _
theorem WfGrows.windowEnd (l : Nat) :
    WfGrows.Statement (.windowEnd l) := grows_link _
theorem WfGrows.heartbeatMiss (l : Nat) :
    WfGrows.Statement (.heartbeatMiss l) := grows_link _
theorem WfGrows.framingLost (l : Nat) :
    WfGrows.Statement (.framingLost l) := grows_link _
theorem WfGrows.laneTestEnd (l : Nat) (failed : Nat) (delay : Nat) :
    WfGrows.Statement (.laneTestEnd l failed delay) := grows_invar _
theorem WfGrows.d2dRetrained (l : Nat) :
    WfGrows.Statement (.d2dRetrained l) := grows_invar _
theorem WfGrows.retrainAttemptTimeout (l : Nat) :
    WfGrows.Statement (.retrainAttemptTimeout l) := grows_invar _
theorem WfGrows.d2dCtrlRetrain (ifc : Iface) (l : Nat) :
    WfGrows.Statement (.d2dCtrlRetrain ifc l) := grows_ifc _
theorem WfGrows.laneRetire (ifc : Iface) (l : Nat) (lane : Word) :
    WfGrows.Statement (.laneRetire ifc l lane) := grows_ifc _
theorem WfGrows.segmentUp (x : Nat) (peer : Nat) :
    WfGrows.Statement (.segmentUp x peer) := grows_const _
theorem WfGrows.segmentTrainTimeout (x : Nat) :
    WfGrows.Statement (.segmentTrainTimeout x) := grows_const _
theorem WfGrows.segmentRetry (x : Nat) :
    WfGrows.Statement (.segmentRetry x) := grows_const _
theorem WfGrows.segCtrlRetrain (ifc : Iface) (x : Nat) :
    WfGrows.Statement (.segCtrlRetrain ifc x) := grows_ifc _
theorem WfGrows.channelSample (xs : List SlSample) (temp : Int) :
    WfGrows.Statement (.channelSample xs temp) := grows_const _
theorem WfGrows.presenceEdge (n : Nat) (low : Bool) :
    WfGrows.Statement (.presenceEdge n low) := grows_channel _
theorem WfGrows.inserted (n : Nat) :
    WfGrows.Statement (.inserted n) := grows_channel _
theorem WfGrows.vinOk (n : Nat) :
    WfGrows.Statement (.vinOk n) := grows_channel _
theorem WfGrows.rampStart (n : Nat) :
    WfGrows.Statement (.rampStart n) := grows_channel _
theorem WfGrows.slPowerGood (n : Nat) :
    WfGrows.Statement (.slPowerGood n) := grows_channel _
theorem WfGrows.pgTimeout (n : Nat) :
    WfGrows.Statement (.pgTimeout n) := grows_channel _
theorem WfGrows.slTripFast (n : Nat) :
    WfGrows.Statement (.slTripFast n) := grows_channel _
theorem WfGrows.diodeReading (n : Nat) (mv : Nat) (temp : Int) :
    WfGrows.Statement (.diodeReading n mv temp) := grows_channel _
theorem WfGrows.cooldownDone (n : Nat) :
    WfGrows.Statement (.cooldownDone n) := grows_channel _
theorem WfGrows.offDelayExpiry (n : Nat) :
    WfGrows.Statement (.offDelayExpiry n) := grows_channel _
theorem WfGrows.slFetDamaged (n : Nat) :
    WfGrows.Statement (.slFetDamaged n) := grows_channel _
theorem WfGrows.chEnable (ifc : Iface) (n : Nat) (v : Word) :
    WfGrows.Statement (.chEnable ifc n v) := grows_ifc _
theorem WfGrows.chDamageClear (ifc : Iface) (n : Nat) :
    WfGrows.Statement (.chDamageClear ifc n) := grows_ifc _
theorem WfGrows.sqCmdStart (ifc : Iface) (n : Nat) :
    WfGrows.Statement (.sqCmdStart ifc n) := grows_ifc _
theorem WfGrows.sqCmdStop (ifc : Iface) (n : Nat) :
    WfGrows.Statement (.sqCmdStop ifc n) := grows_ifc _
theorem WfGrows.sqStartAt (n : Nat) :
    WfGrows.Statement (.sqStartAt n) := grows_seq _
theorem WfGrows.halt (n : Nat) :
    WfGrows.Statement (.halt n) := grows_seq _
theorem WfGrows.ldi (n : Nat) :
    WfGrows.Statement (.ldi n) := grows_seq _
theorem WfGrows.add (n : Nat) :
    WfGrows.Statement (.add n) := grows_seq _
theorem WfGrows.sub (n : Nat) :
    WfGrows.Statement (.sub n) := grows_seq _
theorem WfGrows.and (n : Nat) :
    WfGrows.Statement (.and n) := grows_seq _
theorem WfGrows.or (n : Nat) :
    WfGrows.Statement (.or n) := grows_seq _
theorem WfGrows.cmp (n : Nat) :
    WfGrows.Statement (.cmp n) := grows_seq _
theorem WfGrows.br (n : Nat) :
    WfGrows.Statement (.br n) := grows_seq _
theorem WfGrows.ldo (n : Nat) :
    WfGrows.Statement (.ldo n) := grows_seq _
theorem WfGrows.sto (n : Nat) :
    WfGrows.Statement (.sto n) := grows_seq _
theorem WfGrows.waitt (n : Nat) :
    WfGrows.Statement (.waitt n) := grows_seq _
theorem WfGrows.waittEnd (n : Nat) :
    WfGrows.Statement (.waittEnd n) := grows_seq _
theorem WfGrows.waite (n : Nat) :
    WfGrows.Statement (.waite n) := grows_seq _
theorem WfGrows.waiteEnd (n : Nat) :
    WfGrows.Statement (.waiteEnd n) := grows_seq _
theorem WfGrows.emit (n : Nat) :
    WfGrows.Statement (.emit n) := grows_seq _
theorem WfGrows.txb (n : Nat) :
    WfGrows.Statement (.txb n) := grows_seq _
theorem WfGrows.txc (n : Nat) :
    WfGrows.Statement (.txc n) := grows_seq _
theorem WfGrows.txcEnd (n : Nat) :
    WfGrows.Statement (.txcEnd n) := grows_seq _
theorem WfGrows.call (n : Nat) :
    WfGrows.Statement (.call n) := grows_seq _
theorem WfGrows.ret (n : Nat) :
    WfGrows.Statement (.ret n) := grows_seq _
theorem WfGrows.illegalInstruction (n : Nat) (ue : Bool) :
    WfGrows.Statement (.illegalInstruction n ue) := grows_seq _
theorem WfGrows.stepLimit (n : Nat) :
    WfGrows.Statement (.stepLimit n) := grows_seq _
theorem WfGrows.cicadaActFail (d : Nat) :
    WfGrows.Statement (.cicadaActFail d) := grows_die _
theorem WfGrows.cicadaLockstep (d : Nat) :
    WfGrows.Statement (.cicadaLockstep d) := grows_die _
theorem WfGrows.cicadaWdt (d : Nat) :
    WfGrows.Statement (.cicadaWdt d) := grows_die _
theorem WfGrows.reactionStart (n : Nat) :
    WfGrows.Statement (.reactionStart n) := grows_seq _
theorem WfGrows.collectorUe (d : Nat) :
    WfGrows.Statement (.collectorUe d) := grows_die _
theorem WfGrows.fsCapValid (ifc : Iface) (source : Nat) :
    WfGrows.Statement (.fsCapValid ifc source) := grows_ifc _
theorem WfGrows.retClear (ifc : Iface) (ch : Word) :
    WfGrows.Statement (.retClear ifc ch) := grows_ifc _
theorem WfGrows.dieReset (ifc : Iface) (d : Nat) :
    WfGrows.Statement (.dieReset ifc d) := grows_ifc _
theorem WfGrows.blockResetMover (ifc : Iface) (d : Nat) :
    WfGrows.Statement (.blockResetMover ifc d) := grows_ifc _
theorem WfGrows.blockResetCapture (ifc : Iface) (d : Nat) :
    WfGrows.Statement (.blockResetCapture ifc d) := grows_ifc _
theorem WfGrows.blockResetAuditor (ifc : Iface) (d : Nat) :
    WfGrows.Statement (.blockResetAuditor ifc d) := grows_ifc _
theorem WfGrows.blockResetSequencers (ifc : Iface) (d : Nat) :
    WfGrows.Statement (.blockResetSequencers ifc d) := grows_ifc _
theorem WfGrows.blockResetCounters (ifc : Iface) (d : Nat) :
    WfGrows.Statement (.blockResetCounters ifc d) := grows_ifc _
theorem WfGrows.blockResetTileSequencers (ifc : Iface) (d : Nat) :
    WfGrows.Statement (.blockResetTileSequencers ifc d) := grows_ifc _
theorem WfGrows.resetSourceRelease (code : Nat) (d : Nat) (dom : Nat) :
    WfGrows.Statement (.resetSourceRelease code d dom) := grows_die _
theorem WfGrows.domainRelease (d : Nat) (i : Nat) :
    WfGrows.Statement (.domainRelease d i) := grows_domain _ _
theorem WfGrows.pllLock (d : Nat) (n : Nat) :
    WfGrows.Statement (.pllLock d n) := grows_pll _ _
theorem WfGrows.pllUnlock (d : Nat) (n : Nat) :
    WfGrows.Statement (.pllUnlock d n) := grows_pll _ _
theorem WfGrows.clockUnstable (d : Nat) (n : Nat) :
    WfGrows.Statement (.clockUnstable d n) := grows_pll _ _
theorem WfGrows.modeRequestRun (ifc : Iface) (degraded : Bool) :
    WfGrows.Statement (.modeRequestRun ifc degraded) := grows_ifc _
theorem WfGrows.dbgAuth (ifc : Iface) (v : Word) :
    WfGrows.Statement (.dbgAuth ifc v) := grows_ifc _
theorem WfGrows.dbgMaxLevel (ifc : Iface) (v : Word) :
    WfGrows.Statement (.dbgMaxLevel ifc v) := grows_ifc _
theorem WfGrows.dbgAccessRead (a : Word) :
    WfGrows.Statement (.dbgAccessRead a) := grows_const _
theorem WfGrows.dbgAccessWrite (a : Word) (data : Word) :
    WfGrows.Statement (.dbgAccessWrite a data) := grows_const _
theorem WfGrows.dbgAccessHalt (d : Nat) :
    WfGrows.Statement (.dbgAccessHalt d) := grows_const _
theorem WfGrows.dbgAccessResume (d : Nat) :
    WfGrows.Statement (.dbgAccessResume d) := grows_const _
theorem WfGrows.dbgAccessStep (d : Nat) :
    WfGrows.Statement (.dbgAccessStep d) := grows_const _
theorem WfGrows.getCertificate (via : Option Nat) :
    WfGrows.Statement (.getCertificate via) := grows_via _
theorem WfGrows.challenge (via : Option Nat) :
    WfGrows.Statement (.challenge via) := grows_via _
theorem WfGrows.getMeasurements (via : Option Nat) (signed : Bool) :
    WfGrows.Statement (.getMeasurements via signed) := grows_via _
theorem WfGrows.keyExchange (via : Option Nat) :
    WfGrows.Statement (.keyExchange via) := grows_via _
theorem WfGrows.endSession (via : Option Nat) (n : Nat) :
    WfGrows.Statement (.endSession via n) := grows_via _
theorem WfGrows.spdmRequest (via : Option Nat) :
    WfGrows.Statement (.spdmRequest via) := grows_via _
theorem WfGrows.query (p : Nat) (session : Option Nat) :
    WfGrows.Statement (.query p session) := grows_port _
theorem WfGrows.keyProg (p : Nat) (session : Option Nat) (stream : Nat) (k : Nat) (d : Nat) (sub : Nat) :
    WfGrows.Statement (.keyProg p session stream k d sub) := grows_port _
theorem WfGrows.kSetGo (p : Nat) (session : Option Nat) (k : Nat) (d : Nat) :
    WfGrows.Statement (.kSetGo p session k d) := grows_port _
theorem WfGrows.kSetStop (p : Nat) (session : Option Nat) (k : Nat) (d : Nat) :
    WfGrows.Statement (.kSetStop p session k d) := grows_port _
theorem WfGrows.establish (ifc : Iface) (p : Nat) :
    WfGrows.Statement (.establish ifc p) := grows_ifc _
theorem WfGrows.approve (ifc : Iface) (p : Nat) :
    WfGrows.Statement (.approve ifc p) := grows_ifc _
theorem WfGrows.refresh (ifc : Iface) (p : Nat) :
    WfGrows.Statement (.refresh ifc p) := grows_ifc _
theorem WfGrows.stop (ifc : Iface) (p : Nat) :
    WfGrows.Statement (.stop ifc p) := grows_ifc _
theorem WfGrows.pcSelect (ifc : Iface) (d : Nat) (n : Nat) (w : Word) :
    WfGrows.Statement (.pcSelect ifc d n w) := grows_ifc _
theorem WfGrows.tcSelect (ifc : Iface) (t : Nat) (k : Nat) (w : Word) :
    WfGrows.Statement (.tcSelect ifc t k w) := grows_ifc _
theorem WfGrows.pcClear (ifc : Iface) (d : Nat) (n : Nat) :
    WfGrows.Statement (.pcClear ifc d n) := grows_ifc _
theorem WfGrows.tcClear (ifc : Iface) (t : Nat) (mask : Word) :
    WfGrows.Statement (.tcClear ifc t mask) := grows_ifc _
theorem WfGrows.userRead (ifc : Iface) (t : Nat) (b : Word) :
    WfGrows.Statement (.userRead ifc t b) := grows_ifc _
theorem WfGrows.partialSend (d : Nat) :
    WfGrows.Statement (.partialSend d) := grows_die _
theorem WfGrows.tick (d : Nat) :
    WfGrows.Statement (.tick d) := grows_die _
theorem WfGrows.stagedCopyError (x : Nat) :
    WfGrows.Statement (.stagedCopyError x) := grows_const _
theorem WfGrows.flitSend (f : FlitTime) :
    WfGrows.Statement (.flitSend f) := grows_link _
theorem WfGrows.deviceRequest (p : Nat) (ld : Nat) (op : DevOp) (addr : Word) (len : Nat) (data : Nat) (tag : Nat) (tc : Nat) :
    WfGrows.Statement (.deviceRequest p ld op addr len data tag tc) := grows_port _
theorem WfGrows.hostCxlIoRequest (p : Nat) (op : IoOp) (fn : Nat) (bar : Nat) (addr : Word) (len : Nat) (data : Nat) (tag : Nat) (tc : Nat) :
    WfGrows.Statement (.hostCxlIoRequest p op fn bar addr len data tag tc) := grows_port _
theorem WfGrows.scrub (d : Nat) (set : Nat) (way : Nat) (err : Nat) (last : Bool) :
    WfGrows.Statement (.scrub d set way err last) := grows_die _
theorem WfGrows.sramSelfTestEnd (d : Nat) (repairs : Nat) (ok : Bool) :
    WfGrows.Statement (.sramSelfTestEnd d repairs ok) := grows_die _
theorem WfGrows.cicadaRunning (d : Nat) (regions : List (Nat × Nat × Nat × Nat)) :
    WfGrows.Statement (.cicadaRunning d regions) := grows_die _
theorem WfGrows.shadowDiscardExtent (ifc : Iface) :
    WfGrows.Statement (.shadowDiscardExtent ifc) := grows_ifc _
theorem WfGrows.shadowDiscardGranule (ifc : Iface) :
    WfGrows.Statement (.shadowDiscardGranule ifc) := grows_ifc _
theorem WfGrows.hwmClear (ifc : Iface) :
    WfGrows.Statement (.hwmClear ifc) := grows_ifc _
theorem WfGrows.ccActivate (ifc : Iface) :
    WfGrows.Statement (.ccActivate ifc) := grows_ifc _
theorem WfGrows.fcEnterSafe (ifc : Iface) :
    WfGrows.Statement (.fcEnterSafe ifc) := grows_ifc _
theorem WfGrows.pkgReset (ifc : Iface) :
    WfGrows.Statement (.pkgReset ifc) := grows_ifc _
theorem WfGrows.modeRequestAux (ifc : Iface) :
    WfGrows.Statement (.modeRequestAux ifc) := grows_ifc _
theorem WfGrows.modeRequestInit (ifc : Iface) :
    WfGrows.Statement (.modeRequestInit ifc) := grows_ifc _
theorem WfGrows.modeRequestConfig (ifc : Iface) :
    WfGrows.Statement (.modeRequestConfig ifc) := grows_ifc _
theorem WfGrows.modeRequestLinkup (ifc : Iface) :
    WfGrows.Statement (.modeRequestLinkup ifc) := grows_ifc _
theorem WfGrows.modeRequestRunNc (ifc : Iface) :
    WfGrows.Statement (.modeRequestRunNc ifc) := grows_ifc _
theorem WfGrows.modeRequestDrain (ifc : Iface) :
    WfGrows.Statement (.modeRequestDrain ifc) := grows_ifc _
theorem WfGrows.modeRequestMaint (ifc : Iface) :
    WfGrows.Statement (.modeRequestMaint ifc) := grows_ifc _
theorem WfGrows.modeRequestUpdate (ifc : Iface) :
    WfGrows.Statement (.modeRequestUpdate ifc) := grows_ifc _
theorem WfGrows.rmaEnter (ifc : Iface) :
    WfGrows.Statement (.rmaEnter ifc) := grows_ifc _
theorem WfGrows.dbgClose (ifc : Iface) :
    WfGrows.Statement (.dbgClose ifc) := grows_ifc _
theorem WfGrows.ftSyncEdge :
    WfGrows.Statement (.ftSyncEdge) := grows_const _
theorem WfGrows.ftRefLost :
    WfGrows.Statement (.ftRefLost) := grows_const _
theorem WfGrows.slewStep :
    WfGrows.Statement (.slewStep) := grows_const _
theorem WfGrows.holdoverExpired :
    WfGrows.Statement (.holdoverExpired) := grows_const _
theorem WfGrows.ftSyncMissing :
    WfGrows.Statement (.ftSyncMissing) := grows_const _
theorem WfGrows.timeSyncSend :
    WfGrows.Statement (.timeSyncSend) := grows_const _
theorem WfGrows.apply :
    WfGrows.Statement (.apply) := grows_const _
theorem WfGrows.fmApiUnsupported :
    WfGrows.Statement (.fmApiUnsupported) := grows_const _
theorem WfGrows.dirCleared :
    WfGrows.Statement (.dirCleared) := grows_const _
theorem WfGrows.creditAuditStart :
    WfGrows.Statement (.creditAuditStart) := grows_const _
theorem WfGrows.creditAuditGather :
    WfGrows.Statement (.creditAuditGather) := grows_const _
theorem WfGrows.hwmSnapshot :
    WfGrows.Statement (.hwmSnapshot) := grows_const _
theorem WfGrows.dictRead :
    WfGrows.Statement (.dictRead) := grows_const _
theorem WfGrows.dictWrite :
    WfGrows.Statement (.dictWrite) := grows_const _
theorem WfGrows.dpLoad :
    WfGrows.Statement (.dpLoad) := grows_const _
theorem WfGrows.dpDump :
    WfGrows.Statement (.dpDump) := grows_const _
theorem WfGrows.tod :
    WfGrows.Statement (.tod) := grows_const _
theorem WfGrows.rstArm :
    WfGrows.Statement (.rstArm) := grows_const _
theorem WfGrows.rstGo :
    WfGrows.Statement (.rstGo) := grows_const _
theorem WfGrows.ihlodResetAssert :
    WfGrows.Statement (.ihlodResetAssert) := grows_const _
theorem WfGrows.assign :
    WfGrows.Statement (.assign) := grows_const _
theorem WfGrows.echo :
    WfGrows.Statement (.echo) := grows_const _
theorem WfGrows.spdm :
    WfGrows.Statement (.spdm) := grows_const _
theorem WfGrows.tileLinkLost :
    WfGrows.Statement (.tileLinkLost) := grows_const _
theorem WfGrows.tileLinkRestored :
    WfGrows.Statement (.tileLinkRestored) := grows_const _
theorem WfGrows.activationDone :
    WfGrows.Statement (.activationDone) := grows_const _
theorem WfGrows.recoveryWindowClose :
    WfGrows.Statement (.recoveryWindowClose) := grows_const _
theorem WfGrows.powerOn :
    WfGrows.Statement (.powerOn) := grows_const _
theorem WfGrows.powerOnRelease :
    WfGrows.Statement (.powerOnRelease) := grows_const _
theorem WfGrows.sysRstNAssert :
    WfGrows.Statement (.sysRstNAssert) := grows_const _
theorem WfGrows.sysRstNRelease :
    WfGrows.Statement (.sysRstNRelease) := grows_const _
theorem WfGrows.mainRailsOut :
    WfGrows.Statement (.mainRailsOut) := grows_const _
theorem WfGrows.mainRailsIn :
    WfGrows.Statement (.mainRailsIn) := grows_const _
theorem WfGrows.auxRailsOut :
    WfGrows.Statement (.auxRailsOut) := grows_const _
theorem WfGrows.modeChange :
    WfGrows.Statement (.modeChange) := grows_const _
theorem WfGrows.initEnd :
    WfGrows.Statement (.initEnd) := grows_const _
theorem WfGrows.initTimeout :
    WfGrows.Statement (.initTimeout) := grows_const _
theorem WfGrows.idcode :
    WfGrows.Statement (.idcode) := grows_const _
theorem WfGrows.samplePreload :
    WfGrows.Statement (.samplePreload) := grows_const _
theorem WfGrows.extest :
    WfGrows.Statement (.extest) := grows_const _
theorem WfGrows.clamp :
    WfGrows.Statement (.clamp) := grows_const _
theorem WfGrows.highz :
    WfGrows.Statement (.highz) := grows_const _
theorem WfGrows.dbgAccess :
    WfGrows.Statement (.dbgAccess) := grows_const _
theorem WfGrows.bypass :
    WfGrows.Statement (.bypass) := grows_const _
theorem WfGrows.dbgAccessNop :
    WfGrows.Statement (.dbgAccessNop) := grows_const _
theorem WfGrows.pcSnapshot :
    WfGrows.Statement (.pcSnapshot) := grows_const _

end Sys2Proof.Laws
end

