-- ==== Sys2Proof/Laws/Table.lean ====
section
/-! SUPPORT. What the operations of a sparse table do: a read after a write, and that writes keep the canonical form. -/
namespace Sys2Proof.Laws
open Sys2Proof.Machine

variable {α : Type}

/-- A longer table is rising from a bound where it rises from a higher one. -/
theorem risingFrom_mono {t : Table α} {lo hi : Nat} (h : t.risingFrom hi = true) (le : lo ≤ hi) : t.risingFrom lo = true := by
  cases t with
  | nil => rfl
  | cons p r =>
    simp only [Table.risingFrom, Bool.and_eq_true, decide_eq_true_eq] at *
    exact ⟨by omega, h.2⟩

/-- No key below the bound is listed. -/
theorem find_below {t : Table α} {lo k : Nat} (h : t.risingFrom lo = true) (lt : k < lo) : t.find k = none := by
  cases t with
  | nil => rfl
  | cons p r =>
    simp only [Table.risingFrom, Bool.and_eq_true, decide_eq_true_eq] at h
    rw [Table.find, if_neg (by omega), if_neg (by omega)]

@[simp] theorem find_place_self (t : Table α) (k : Nat) (v : α) : (t.place k v).find k = some v := by
  induction t with
  | nil => simp [Table.place, Table.find]
  | cons p r ih =>
    obtain ⟨j, w⟩ := p
    simp only [Table.place]
    split
    · rw [Table.find, if_neg (by omega), if_pos (by assumption)]; exact ih
    · split <;> simp [Table.find]

theorem find_place_ne (t : Table α) {k k' : Nat} (v : α) (ne : k' ≠ k) : (t.place k v).find k' = t.find k' := by
  induction t with
  | nil => simp [Table.place, Table.find, ne.symm]
  | cons p r ih =>
    obtain ⟨j, w⟩ := p
    simp only [Table.place]
    split
    · simp only [Table.find, ih]
    · split
      · subst_vars; simp only [Table.find, if_neg ne.symm]
      · simp only [Table.find, if_neg ne.symm]
        split
        · rfl
        · rw [if_neg (by omega), if_neg (by omega)]

theorem find_drop_self {t : Table α} {lo : Nat} (h : t.risingFrom lo = true) (k : Nat) : (t.drop k).find k = none := by
  induction t generalizing lo with
  | nil => rfl
  | cons p r ih =>
    obtain ⟨j, w⟩ := p
    simp only [Table.risingFrom, Bool.and_eq_true, decide_eq_true_eq] at h
    simp only [Table.drop]
    split
    · rw [Table.find, if_neg (by omega), if_pos (by assumption)]; exact ih h.2
    · split
      · exact find_below h.2 (by omega)
      · rw [Table.find, if_neg (by omega), if_neg (by omega)]

theorem find_drop_ne {t : Table α} {lo : Nat} (h : t.risingFrom lo = true) {k k' : Nat} (ne : k' ≠ k) :
    (t.drop k).find k' = t.find k' := by
  induction t generalizing lo with
  | nil => rfl
  | cons p r ih =>
    obtain ⟨j, w⟩ := p
    simp only [Table.risingFrom, Bool.and_eq_true, decide_eq_true_eq] at h
    simp only [Table.drop]
    split
    · simp only [Table.find, ih h.2]
    · split
      · rw [Table.find, if_neg (by omega)]
        split
        · rfl
        · exact find_below h.2 (by omega)
      · rfl

theorem risingFrom_place {t : Table α} {lo k : Nat} (v : α) (h : t.risingFrom lo = true) (le : lo ≤ k) :
    (t.place k v).risingFrom lo = true := by
  induction t generalizing lo with
  | nil => simp [Table.place, Table.risingFrom, le]
  | cons p r ih =>
    obtain ⟨j, w⟩ := p
    simp only [Table.risingFrom, Bool.and_eq_true, decide_eq_true_eq] at h
    simp only [Table.place]
    split
    · simp only [Table.risingFrom, Bool.and_eq_true, decide_eq_true_eq]; exact ⟨h.1, ih h.2 (by omega)⟩
    · split
      · subst_vars; simp only [Table.risingFrom, Bool.and_eq_true, decide_eq_true_eq]; exact h
      · simp only [Table.risingFrom, Bool.and_eq_true, decide_eq_true_eq]; exact ⟨le, by omega, h.2⟩

theorem risingFrom_drop {t : Table α} {lo : Nat} (k : Nat) (h : t.risingFrom lo = true) : (t.drop k).risingFrom lo = true := by
  induction t generalizing lo with
  | nil => rfl
  | cons p r ih =>
    obtain ⟨j, w⟩ := p
    simp only [Table.risingFrom, Bool.and_eq_true, decide_eq_true_eq] at h
    simp only [Table.drop]
    split
    · simp only [Table.risingFrom, Bool.and_eq_true, decide_eq_true_eq]; exact ⟨h.1, ih h.2⟩
    · split
      · exact risingFrom_mono h.2 (by omega)
      · simp only [Table.risingFrom, Bool.and_eq_true, decide_eq_true_eq]; exact h

theorem risingFrom_filter {t : Table α} {lo : Nat} (p : Nat × α → Bool) (h : t.risingFrom lo = true) :
    Table.risingFrom lo (t.filter p) = true := by
  induction t generalizing lo with
  | nil => rfl
  | cons c r ih =>
    obtain ⟨j, w⟩ := c
    simp only [Table.risingFrom, Bool.and_eq_true, decide_eq_true_eq] at h
    simp only [List.filter]
    split
    · simp only [Table.risingFrom, Bool.and_eq_true, decide_eq_true_eq]; exact ⟨h.1, ih h.2⟩
    · exact risingFrom_mono (ih h.2) (by omega)

/-- What a place or a drop lists was listed before or is the pair placed. -/
theorem mem_place {t : Table α} {k : Nat} {v : α} {c : Nat × α} (h : c ∈ t.place k v) : c = (k, v) ∨ c ∈ t := by
  induction t with
  | nil => simpa [Table.place] using h
  | cons p r ih =>
    obtain ⟨j, w⟩ := p
    simp only [Table.place] at h
    split at h
    · rcases List.mem_cons.1 h with h | h
      · exact .inr (h ▸ List.mem_cons_self ..)
      · exact (ih h).imp_right (List.mem_cons_of_mem _)
    · split at h
      · rcases List.mem_cons.1 h with h | h
        · exact .inl h
        · exact .inr (List.mem_cons_of_mem _ h)
      · rcases List.mem_cons.1 h with h | h
        · exact .inl h
        · exact .inr h

theorem mem_drop {t : Table α} {k : Nat} {c : Nat × α} (h : c ∈ t.drop k) : c ∈ t := by
  induction t with
  | nil => exact h
  | cons p r ih =>
    obtain ⟨j, w⟩ := p
    simp only [Table.drop] at h
    split at h
    · rcases List.mem_cons.1 h with h | h
      · exact h ▸ List.mem_cons_self ..
      · exact List.mem_cons_of_mem _ (ih h)
    · split at h
      · exact List.mem_cons_of_mem _ h
      · exact h

section Write
variable [DecidableEq α]

/-- The canonical form, said of keys and entries apart. -/
theorem wfBy_iff {d : Nat → α} {t : Table α} :
    t.wfBy d = true ↔ t.risingFrom 0 = true ∧ ∀ c ∈ t, c.2 ≠ d c.1 := by
  simp [Table.wfBy, List.all_eq_true]

/-- A write of a value, the default's removing the entry, keeps the canonical form. -/
theorem wfBy_write {d : Nat → α} {t : Table α} (h : t.wfBy d = true) (k : Nat) (v : α) :
    Table.wfBy d (Table.write (d k) t k v) = true := by
  rw [wfBy_iff] at h ⊢
  rw [Table.write]
  split
  · exact ⟨risingFrom_drop k h.1, fun c hc => h.2 c (mem_drop hc)⟩
  · refine ⟨risingFrom_place v h.1 (Nat.zero_le k), fun c hc => ?_⟩
    rcases mem_place hc with rfl | hc
    · assumption
    · exact h.2 c hc

theorem wfBy_drop {d : Nat → α} {t : Table α} (h : t.wfBy d = true) (k : Nat) : Table.wfBy d (t.drop k) = true := by
  rw [wfBy_iff] at h ⊢
  exact ⟨risingFrom_drop k h.1, fun c hc => h.2 c (mem_drop hc)⟩

theorem wfBy_filter {d : Nat → α} {t : Table α} (p : Nat × α → Bool) (h : t.wfBy d = true) : Table.wfBy d (t.filter p) = true := by
  rw [wfBy_iff] at h ⊢
  exact ⟨risingFrom_filter p h.1, fun c hc => h.2 c ((List.mem_filter.1 hc).1)⟩

/-- The value read at a key, the default where it is not listed. -/
theorem read_write_self {t : Table α} (h : t.risingFrom 0 = true) (d : α) (k : Nat) (v : α) :
    ((Table.write d t k v).find k).getD d = v := by
  rw [Table.write]
  split
  · rw [find_drop_self h]; exact Eq.symm ‹_›
  · rw [find_place_self]; rfl

theorem find_write_ne {t : Table α} (h : t.risingFrom 0 = true) (d : α) {k k' : Nat} (v : α) (ne : k' ≠ k) :
    (Table.write d t k v).find k' = t.find k' := by
  rw [Table.write]
  split
  · exact find_drop_ne h ne
  · exact find_place_ne t v ne

theorem risingFrom_write {t : Table α} (h : t.risingFrom 0 = true) (d : α) (k : Nat) (v : α) :
    (Table.write d t k v).risingFrom 0 = true := by
  rw [Table.write]
  split
  · exact risingFrom_drop k h
  · exact risingFrom_place v h (Nat.zero_le k)

/-- An entry of a table that has been written is the one written, or stood there before. -/
theorem mem_write {d : α} {t : Table α} {k : Nat} {v : α} {c : Nat × α} (h : c ∈ Table.write d t k v) : c = (k, v) ∨ c ∈ t := by
  rw [Table.write] at h
  split at h
  · exact .inr (mem_drop h)
  · exact mem_place h

/-- A table rebuilt entry by entry is canonical, whatever its entries were and became. -/
theorem wfBy_rebuild (d : Nat → α) (g : Nat → α → α) (t : Table α) :
    Table.wfBy d (t.foldr (fun c m => Table.write (d c.1) m c.1 (g c.1 c.2)) []) = true := by
  induction t with
  | nil => rfl
  | cons c r ih => exact wfBy_write ih c.1 (g c.1 c.2)

/-- What every entry becomes, every entry of the table rebuilt is. -/
theorem forall_rebuild (d : Nat → α) (g : Nat → α → α) {P : Nat × α → Prop} (h : ∀ k v, P (k, g k v)) (t : Table α) :
    ∀ c ∈ t.foldr (fun c m => Table.write (d c.1) m c.1 (g c.1 c.2)) [], P c := by
  induction t with
  | nil => exact fun c hc => nomatch hc
  | cons c r ih =>
    intro e he
    rcases mem_write he with rfl | he
    · exact h c.1 c.2
    · exact ih e he

omit [DecidableEq α] in
theorem place_cons_below {r : Table α} {j : Nat} (w : α) (h : r.risingFrom (j + 1) = true) : r.place j w = (j, w) :: r := by
  cases r with
  | nil => rfl
  | cons p r =>
    simp only [Table.risingFrom, Bool.and_eq_true, decide_eq_true_eq] at h
    rw [Table.place, if_neg (by omega), if_neg (by omega)]

/-- Rebuilding a canonical table whose entries stay what they are gives it back. -/
theorem rebuild_of_wfBy {d : Nat → α} {g : Nat → α → α} {t : Table α} (h : t.wfBy d = true) (hg : ∀ c ∈ t, g c.1 c.2 = c.2) :
    t.foldr (fun c m => Table.write (d c.1) m c.1 (g c.1 c.2)) [] = t := by
  rw [wfBy_iff] at h
  suffices ∀ lo, t.risingFrom lo = true → t.foldr (fun c m => Table.write (d c.1) m c.1 (g c.1 c.2)) [] = t from this 0 h.1
  have h2 := h.2
  clear h
  induction t with
  | nil => exact fun _ _ => rfl
  | cons c r ih =>
    intro lo hr
    simp only [Table.risingFrom, Bool.and_eq_true, decide_eq_true_eq] at hr
    rw [List.foldr_cons, ih (fun c hc => hg c (List.mem_cons_of_mem _ hc)) (fun c hc => h2 c (List.mem_cons_of_mem _ hc)) _ hr.2, Table.write,
      hg c (List.mem_cons_self ..), if_neg (h2 c (List.mem_cons_self ..)), place_cons_below c.2 hr.2]

end Write

section Default
variable [DecidableEq α] [Inhabited α]

theorem at_set_self {t : Table α} (h : t.risingFrom 0 = true) (k : Nat) (v : α) : (t.set k v).at k = v :=
  read_write_self h default k v

theorem at_set_ne {t : Table α} (h : t.risingFrom 0 = true) {k k' : Nat} (v : α) (ne : k' ≠ k) : (t.set k v).at k' = t.at k' := by
  rw [Table.at, Table.set, find_write_ne h default v ne]; rfl

theorem at_upd_self {t : Table α} (h : t.risingFrom 0 = true) (k : Nat) (f : α → α) : (t.upd k f).at k = f (t.at k) :=
  at_set_self h k _

theorem at_upd_ne {t : Table α} (h : t.risingFrom 0 = true) {k k' : Nat} (f : α → α) (ne : k' ≠ k) : (t.upd k f).at k' = t.at k' :=
  at_set_ne h _ ne

theorem wf_set {t : Table α} (h : t.wf = true) (k : Nat) (v : α) : (t.set k v).wf = true :=
  wfBy_write (d := fun _ => default) h k v

theorem wf_upd {t : Table α} (h : t.wf = true) (k : Nat) (f : α → α) : (t.upd k f).wf = true := wf_set h k _

/-- A canonical table's keys rise. -/
theorem rising_of_wf {t : Table α} (h : t.wf = true) : t.risingFrom 0 = true := (wfBy_iff.1 h).1

end Default

end Sys2Proof.Laws
end

