-- ==== Sys2Proof/Laws/State.lean ====
section
/-! SUPPORT. What every named update of the state leaves: one lemma for each field it does not write, one for the field it writes, and
what the object store and the addressed memories read after it. -/
namespace Sys2Proof.Laws
open Sys2Proof.Machine

variable (s : State)


/-! ## put -/
@[simp] theorem put_variant (o : Obj) (v : Nat) : (s.put o v).variant = s.variant := rfl
@[simp] theorem put_pending (o : Obj) (v : Nat) : (s.put o v).pending = s.pending := rfl
@[simp] theorem put_ram (o : Obj) (v : Nat) : (s.put o v).ram = s.ram := rfl
@[simp] theorem put_out (o : Obj) (v : Nat) : (s.put o v).out = s.out := rfl
@[simp] theorem put_acts (o : Obj) (v : Nat) : (s.put o v).acts = s.acts := rfl
@[simp] theorem put_free (o : Obj) (v : Nat) : (s.put o v).free = s.free := rfl
@[simp] theorem put_dict (o : Obj) (v : Nat) : (s.put o v).dict = s.dict := rfl
@[simp] theorem put_clk (o : Obj) (v : Nat) : (s.put o v).clk = s.clk := rfl
@[simp] theorem put_tx (o : Obj) (v : Nat) : (s.put o v).tx = s.tx := rfl
@[simp] theorem put_flt (o : Obj) (v : Nat) : (s.put o v).flt = s.flt := rfl
@[simp] theorem put_rst (o : Obj) (v : Nat) : (s.put o v).rst = s.rst := rfl
@[simp] theorem put_prt (o : Obj) (v : Nat) : (s.put o v).prt = s.prt := rfl
@[simp] theorem put_rq (o : Obj) (v : Nat) : (s.put o v).rq = s.rq := rfl
@[simp] theorem put_map (o : Obj) (v : Nat) : (s.put o v).map = s.map := rfl
@[simp] theorem put_dir (o : Obj) (v : Nat) : (s.put o v).dir = s.dir := rfl
@[simp] theorem put_grp (o : Obj) (v : Nat) : (s.put o v).grp = s.grp := rfl
@[simp] theorem put_core (o : Obj) (v : Nat) : (s.put o v).core = s.core := rfl
@[simp] theorem put_qos (o : Obj) (v : Nat) : (s.put o v).qos = s.qos := rfl
@[simp] theorem put_perf (o : Obj) (v : Nat) : (s.put o v).perf = s.perf := rfl
@[simp] theorem put_lnk (o : Obj) (v : Nat) : (s.put o v).lnk = s.lnk := rfl
@[simp] theorem put_ihl (o : Obj) (v : Nat) : (s.put o v).ihl = s.ihl := rfl
@[simp] theorem put_mv (o : Obj) (v : Nat) : (s.put o v).mv = s.mv := rfl
@[simp] theorem put_ten (o : Obj) (v : Nat) : (s.put o v).ten = s.ten := rfl
@[simp] theorem put_io (o : Obj) (v : Nat) : (s.put o v).io = s.io := rfl
@[simp] theorem put_slt (o : Obj) (v : Nat) : (s.put o v).slt = s.slt := rfl
@[simp] theorem put_sqs (o : Obj) (v : Nat) : (s.put o v).sqs = s.sqs := rfl
@[simp] theorem put_sec (o : Obj) (v : Nat) : (s.put o v).sec = s.sec := rfl

/-! ## clear -/
@[simp] theorem clear_variant (o : Obj) : (s.clear o).variant = s.variant := rfl
@[simp] theorem clear_pending (o : Obj) : (s.clear o).pending = s.pending := rfl
@[simp] theorem clear_regs (o : Obj) : (s.clear o).regs = s.regs.drop o.key := rfl
@[simp] theorem clear_ram (o : Obj) : (s.clear o).ram = s.ram := rfl
@[simp] theorem clear_out (o : Obj) : (s.clear o).out = s.out := rfl
@[simp] theorem clear_acts (o : Obj) : (s.clear o).acts = s.acts := rfl
@[simp] theorem clear_free (o : Obj) : (s.clear o).free = s.free := rfl
@[simp] theorem clear_dict (o : Obj) : (s.clear o).dict = s.dict := rfl
@[simp] theorem clear_clk (o : Obj) : (s.clear o).clk = s.clk := rfl
@[simp] theorem clear_tx (o : Obj) : (s.clear o).tx = s.tx := rfl
@[simp] theorem clear_flt (o : Obj) : (s.clear o).flt = s.flt := rfl
@[simp] theorem clear_rst (o : Obj) : (s.clear o).rst = s.rst := rfl
@[simp] theorem clear_prt (o : Obj) : (s.clear o).prt = s.prt := rfl
@[simp] theorem clear_rq (o : Obj) : (s.clear o).rq = s.rq := rfl
@[simp] theorem clear_map (o : Obj) : (s.clear o).map = s.map := rfl
@[simp] theorem clear_dir (o : Obj) : (s.clear o).dir = s.dir := rfl
@[simp] theorem clear_grp (o : Obj) : (s.clear o).grp = s.grp := rfl
@[simp] theorem clear_core (o : Obj) : (s.clear o).core = s.core := rfl
@[simp] theorem clear_qos (o : Obj) : (s.clear o).qos = s.qos := rfl
@[simp] theorem clear_perf (o : Obj) : (s.clear o).perf = s.perf := rfl
@[simp] theorem clear_lnk (o : Obj) : (s.clear o).lnk = s.lnk := rfl
@[simp] theorem clear_ihl (o : Obj) : (s.clear o).ihl = s.ihl := rfl
@[simp] theorem clear_mv (o : Obj) : (s.clear o).mv = s.mv := rfl
@[simp] theorem clear_ten (o : Obj) : (s.clear o).ten = s.ten := rfl
@[simp] theorem clear_io (o : Obj) : (s.clear o).io = s.io := rfl
@[simp] theorem clear_slt (o : Obj) : (s.clear o).slt = s.slt := rfl
@[simp] theorem clear_sqs (o : Obj) : (s.clear o).sqs = s.sqs := rfl
@[simp] theorem clear_sec (o : Obj) : (s.clear o).sec = s.sec := rfl

/-! ## send -/
@[simp] theorem send_variant (m : Out) : (s.send m).variant = s.variant := rfl
@[simp] theorem send_pending (m : Out) : (s.send m).pending = s.pending := rfl
@[simp] theorem send_regs (m : Out) : (s.send m).regs = s.regs := rfl
@[simp] theorem send_ram (m : Out) : (s.send m).ram = s.ram := rfl
@[simp] theorem send_out (m : Out) : (s.send m).out = s.out ++ [m] := rfl
@[simp] theorem send_acts (m : Out) : (s.send m).acts = s.acts := rfl
@[simp] theorem send_free (m : Out) : (s.send m).free = s.free := rfl
@[simp] theorem send_dict (m : Out) : (s.send m).dict = s.dict := rfl
@[simp] theorem send_clk (m : Out) : (s.send m).clk = s.clk := rfl
@[simp] theorem send_tx (m : Out) : (s.send m).tx = s.tx := rfl
@[simp] theorem send_flt (m : Out) : (s.send m).flt = s.flt := rfl
@[simp] theorem send_rst (m : Out) : (s.send m).rst = s.rst := rfl
@[simp] theorem send_prt (m : Out) : (s.send m).prt = s.prt := rfl
@[simp] theorem send_rq (m : Out) : (s.send m).rq = s.rq := rfl
@[simp] theorem send_map (m : Out) : (s.send m).map = s.map := rfl
@[simp] theorem send_dir (m : Out) : (s.send m).dir = s.dir := rfl
@[simp] theorem send_grp (m : Out) : (s.send m).grp = s.grp := rfl
@[simp] theorem send_core (m : Out) : (s.send m).core = s.core := rfl
@[simp] theorem send_qos (m : Out) : (s.send m).qos = s.qos := rfl
@[simp] theorem send_perf (m : Out) : (s.send m).perf = s.perf := rfl
@[simp] theorem send_lnk (m : Out) : (s.send m).lnk = s.lnk := rfl
@[simp] theorem send_ihl (m : Out) : (s.send m).ihl = s.ihl := rfl
@[simp] theorem send_mv (m : Out) : (s.send m).mv = s.mv := rfl
@[simp] theorem send_ten (m : Out) : (s.send m).ten = s.ten := rfl
@[simp] theorem send_io (m : Out) : (s.send m).io = s.io := rfl
@[simp] theorem send_slt (m : Out) : (s.send m).slt = s.slt := rfl
@[simp] theorem send_sqs (m : Out) : (s.send m).sqs = s.sqs := rfl
@[simp] theorem send_sec (m : Out) : (s.send m).sec = s.sec := rfl

/-! ## owe -/
@[simp] theorem owe_variant (a : Act) : (s.owe a).variant = s.variant := rfl
@[simp] theorem owe_pending (a : Act) : (s.owe a).pending = s.pending := rfl
@[simp] theorem owe_regs (a : Act) : (s.owe a).regs = s.regs := rfl
@[simp] theorem owe_ram (a : Act) : (s.owe a).ram = s.ram := rfl
@[simp] theorem owe_out (a : Act) : (s.owe a).out = s.out := rfl
@[simp] theorem owe_acts (a : Act) : (s.owe a).acts = s.acts ++ [a] := rfl
@[simp] theorem owe_free (a : Act) : (s.owe a).free = s.free := rfl
@[simp] theorem owe_dict (a : Act) : (s.owe a).dict = s.dict := rfl
@[simp] theorem owe_clk (a : Act) : (s.owe a).clk = s.clk := rfl
@[simp] theorem owe_tx (a : Act) : (s.owe a).tx = s.tx := rfl
@[simp] theorem owe_flt (a : Act) : (s.owe a).flt = s.flt := rfl
@[simp] theorem owe_rst (a : Act) : (s.owe a).rst = s.rst := rfl
@[simp] theorem owe_prt (a : Act) : (s.owe a).prt = s.prt := rfl
@[simp] theorem owe_rq (a : Act) : (s.owe a).rq = s.rq := rfl
@[simp] theorem owe_map (a : Act) : (s.owe a).map = s.map := rfl
@[simp] theorem owe_dir (a : Act) : (s.owe a).dir = s.dir := rfl
@[simp] theorem owe_grp (a : Act) : (s.owe a).grp = s.grp := rfl
@[simp] theorem owe_core (a : Act) : (s.owe a).core = s.core := rfl
@[simp] theorem owe_qos (a : Act) : (s.owe a).qos = s.qos := rfl
@[simp] theorem owe_perf (a : Act) : (s.owe a).perf = s.perf := rfl
@[simp] theorem owe_lnk (a : Act) : (s.owe a).lnk = s.lnk := rfl
@[simp] theorem owe_ihl (a : Act) : (s.owe a).ihl = s.ihl := rfl
@[simp] theorem owe_mv (a : Act) : (s.owe a).mv = s.mv := rfl
@[simp] theorem owe_ten (a : Act) : (s.owe a).ten = s.ten := rfl
@[simp] theorem owe_io (a : Act) : (s.owe a).io = s.io := rfl
@[simp] theorem owe_slt (a : Act) : (s.owe a).slt = s.slt := rfl
@[simp] theorem owe_sqs (a : Act) : (s.owe a).sqs = s.sqs := rfl
@[simp] theorem owe_sec (a : Act) : (s.owe a).sec = s.sec := rfl

/-! ## raise -/
@[simp] theorem raise_variant (n ch a m t : Nat) : (s.raise n ch a m t).variant = s.variant := rfl
@[simp] theorem raise_pending (n ch a m t : Nat) : (s.raise n ch a m t).pending = s.pending := rfl
@[simp] theorem raise_regs (n ch a m t : Nat) : (s.raise n ch a m t).regs = s.regs := rfl
@[simp] theorem raise_ram (n ch a m t : Nat) : (s.raise n ch a m t).ram = s.ram := rfl
@[simp] theorem raise_out (n ch a m t : Nat) : (s.raise n ch a m t).out = s.out := rfl
@[simp] theorem raise_acts (n ch a m t : Nat) : (s.raise n ch a m t).acts = insertRaise n (.raise n ch a m t) s.acts := rfl
@[simp] theorem raise_free (n ch a m t : Nat) : (s.raise n ch a m t).free = s.free := rfl
@[simp] theorem raise_dict (n ch a m t : Nat) : (s.raise n ch a m t).dict = s.dict := rfl
@[simp] theorem raise_clk (n ch a m t : Nat) : (s.raise n ch a m t).clk = s.clk := rfl
@[simp] theorem raise_tx (n ch a m t : Nat) : (s.raise n ch a m t).tx = s.tx := rfl
@[simp] theorem raise_flt (n ch a m t : Nat) : (s.raise n ch a m t).flt = s.flt := rfl
@[simp] theorem raise_rst (n ch a m t : Nat) : (s.raise n ch a m t).rst = s.rst := rfl
@[simp] theorem raise_prt (n ch a m t : Nat) : (s.raise n ch a m t).prt = s.prt := rfl
@[simp] theorem raise_rq (n ch a m t : Nat) : (s.raise n ch a m t).rq = s.rq := rfl
@[simp] theorem raise_map (n ch a m t : Nat) : (s.raise n ch a m t).map = s.map := rfl
@[simp] theorem raise_dir (n ch a m t : Nat) : (s.raise n ch a m t).dir = s.dir := rfl
@[simp] theorem raise_grp (n ch a m t : Nat) : (s.raise n ch a m t).grp = s.grp := rfl
@[simp] theorem raise_core (n ch a m t : Nat) : (s.raise n ch a m t).core = s.core := rfl
@[simp] theorem raise_qos (n ch a m t : Nat) : (s.raise n ch a m t).qos = s.qos := rfl
@[simp] theorem raise_perf (n ch a m t : Nat) : (s.raise n ch a m t).perf = s.perf := rfl
@[simp] theorem raise_lnk (n ch a m t : Nat) : (s.raise n ch a m t).lnk = s.lnk := rfl
@[simp] theorem raise_ihl (n ch a m t : Nat) : (s.raise n ch a m t).ihl = s.ihl := rfl
@[simp] theorem raise_mv (n ch a m t : Nat) : (s.raise n ch a m t).mv = s.mv := rfl
@[simp] theorem raise_ten (n ch a m t : Nat) : (s.raise n ch a m t).ten = s.ten := rfl
@[simp] theorem raise_io (n ch a m t : Nat) : (s.raise n ch a m t).io = s.io := rfl
@[simp] theorem raise_slt (n ch a m t : Nat) : (s.raise n ch a m t).slt = s.slt := rfl
@[simp] theorem raise_sqs (n ch a m t : Nat) : (s.raise n ch a m t).sqs = s.sqs := rfl
@[simp] theorem raise_sec (n ch a m t : Nat) : (s.raise n ch a m t).sec = s.sec := rfl

/-! ## raiseDie -/
@[simp] theorem raiseDie_variant (d l : Nat) : (s.raiseDie d l).variant = s.variant := rfl
@[simp] theorem raiseDie_pending (d l : Nat) : (s.raiseDie d l).pending = s.pending := rfl
@[simp] theorem raiseDie_regs (d l : Nat) : (s.raiseDie d l).regs = s.regs := rfl
@[simp] theorem raiseDie_ram (d l : Nat) : (s.raiseDie d l).ram = s.ram := rfl
@[simp] theorem raiseDie_out (d l : Nat) : (s.raiseDie d l).out = s.out := rfl
@[simp] theorem raiseDie_acts (d l : Nat) : (s.raiseDie d l).acts = insertRaise (d * 512 + l) (.raise (d * 512 + l) 0 0 0xFFFF 0) s.acts := rfl
@[simp] theorem raiseDie_free (d l : Nat) : (s.raiseDie d l).free = s.free := rfl
@[simp] theorem raiseDie_dict (d l : Nat) : (s.raiseDie d l).dict = s.dict := rfl
@[simp] theorem raiseDie_clk (d l : Nat) : (s.raiseDie d l).clk = s.clk := rfl
@[simp] theorem raiseDie_tx (d l : Nat) : (s.raiseDie d l).tx = s.tx := rfl
@[simp] theorem raiseDie_flt (d l : Nat) : (s.raiseDie d l).flt = s.flt := rfl
@[simp] theorem raiseDie_rst (d l : Nat) : (s.raiseDie d l).rst = s.rst := rfl
@[simp] theorem raiseDie_prt (d l : Nat) : (s.raiseDie d l).prt = s.prt := rfl
@[simp] theorem raiseDie_rq (d l : Nat) : (s.raiseDie d l).rq = s.rq := rfl
@[simp] theorem raiseDie_map (d l : Nat) : (s.raiseDie d l).map = s.map := rfl
@[simp] theorem raiseDie_dir (d l : Nat) : (s.raiseDie d l).dir = s.dir := rfl
@[simp] theorem raiseDie_grp (d l : Nat) : (s.raiseDie d l).grp = s.grp := rfl
@[simp] theorem raiseDie_core (d l : Nat) : (s.raiseDie d l).core = s.core := rfl
@[simp] theorem raiseDie_qos (d l : Nat) : (s.raiseDie d l).qos = s.qos := rfl
@[simp] theorem raiseDie_perf (d l : Nat) : (s.raiseDie d l).perf = s.perf := rfl
@[simp] theorem raiseDie_lnk (d l : Nat) : (s.raiseDie d l).lnk = s.lnk := rfl
@[simp] theorem raiseDie_ihl (d l : Nat) : (s.raiseDie d l).ihl = s.ihl := rfl
@[simp] theorem raiseDie_mv (d l : Nat) : (s.raiseDie d l).mv = s.mv := rfl
@[simp] theorem raiseDie_ten (d l : Nat) : (s.raiseDie d l).ten = s.ten := rfl
@[simp] theorem raiseDie_io (d l : Nat) : (s.raiseDie d l).io = s.io := rfl
@[simp] theorem raiseDie_slt (d l : Nat) : (s.raiseDie d l).slt = s.slt := rfl
@[simp] theorem raiseDie_sqs (d l : Nat) : (s.raiseDie d l).sqs = s.sqs := rfl
@[simp] theorem raiseDie_sec (d l : Nat) : (s.raiseDie d l).sec = s.sec := rfl

/-! ## writeByte -/
@[simp] theorem writeByte_variant (a : Nat) (b : Byte) : (s.writeByte a b).variant = s.variant := rfl
@[simp] theorem writeByte_pending (a : Nat) (b : Byte) : (s.writeByte a b).pending = s.pending := rfl
@[simp] theorem writeByte_regs (a : Nat) (b : Byte) : (s.writeByte a b).regs = s.regs := rfl
@[simp] theorem writeByte_ram (a : Nat) (b : Byte) : (s.writeByte a b).ram = Table.write ramDefault s.ram a b := rfl
@[simp] theorem writeByte_out (a : Nat) (b : Byte) : (s.writeByte a b).out = s.out := rfl
@[simp] theorem writeByte_acts (a : Nat) (b : Byte) : (s.writeByte a b).acts = s.acts := rfl
@[simp] theorem writeByte_free (a : Nat) (b : Byte) : (s.writeByte a b).free = s.free := rfl
@[simp] theorem writeByte_dict (a : Nat) (b : Byte) : (s.writeByte a b).dict = s.dict := rfl
@[simp] theorem writeByte_clk (a : Nat) (b : Byte) : (s.writeByte a b).clk = s.clk := rfl
@[simp] theorem writeByte_tx (a : Nat) (b : Byte) : (s.writeByte a b).tx = s.tx := rfl
@[simp] theorem writeByte_flt (a : Nat) (b : Byte) : (s.writeByte a b).flt = s.flt := rfl
@[simp] theorem writeByte_rst (a : Nat) (b : Byte) : (s.writeByte a b).rst = s.rst := rfl
@[simp] theorem writeByte_prt (a : Nat) (b : Byte) : (s.writeByte a b).prt = s.prt := rfl
@[simp] theorem writeByte_rq (a : Nat) (b : Byte) : (s.writeByte a b).rq = s.rq := rfl
@[simp] theorem writeByte_map (a : Nat) (b : Byte) : (s.writeByte a b).map = s.map := rfl
@[simp] theorem writeByte_dir (a : Nat) (b : Byte) : (s.writeByte a b).dir = s.dir := rfl
@[simp] theorem writeByte_grp (a : Nat) (b : Byte) : (s.writeByte a b).grp = s.grp := rfl
@[simp] theorem writeByte_core (a : Nat) (b : Byte) : (s.writeByte a b).core = s.core := rfl
@[simp] theorem writeByte_qos (a : Nat) (b : Byte) : (s.writeByte a b).qos = s.qos := rfl
@[simp] theorem writeByte_perf (a : Nat) (b : Byte) : (s.writeByte a b).perf = s.perf := rfl
@[simp] theorem writeByte_lnk (a : Nat) (b : Byte) : (s.writeByte a b).lnk = s.lnk := rfl
@[simp] theorem writeByte_ihl (a : Nat) (b : Byte) : (s.writeByte a b).ihl = s.ihl := rfl
@[simp] theorem writeByte_mv (a : Nat) (b : Byte) : (s.writeByte a b).mv = s.mv := rfl
@[simp] theorem writeByte_ten (a : Nat) (b : Byte) : (s.writeByte a b).ten = s.ten := rfl
@[simp] theorem writeByte_io (a : Nat) (b : Byte) : (s.writeByte a b).io = s.io := rfl
@[simp] theorem writeByte_slt (a : Nat) (b : Byte) : (s.writeByte a b).slt = s.slt := rfl
@[simp] theorem writeByte_sqs (a : Nat) (b : Byte) : (s.writeByte a b).sqs = s.sqs := rfl
@[simp] theorem writeByte_sec (a : Nat) (b : Byte) : (s.writeByte a b).sec = s.sec := rfl

/-! ## eraseRange -/
@[simp] theorem eraseRange_variant (a n : Nat) : (s.eraseRange a n).variant = s.variant := rfl
@[simp] theorem eraseRange_pending (a n : Nat) : (s.eraseRange a n).pending = s.pending := rfl
@[simp] theorem eraseRange_regs (a n : Nat) : (s.eraseRange a n).regs = s.regs := rfl
@[simp] theorem eraseRange_out (a n : Nat) : (s.eraseRange a n).out = s.out := rfl
@[simp] theorem eraseRange_acts (a n : Nat) : (s.eraseRange a n).acts = s.acts := rfl
@[simp] theorem eraseRange_free (a n : Nat) : (s.eraseRange a n).free = s.free := rfl
@[simp] theorem eraseRange_dict (a n : Nat) : (s.eraseRange a n).dict = s.dict := rfl
@[simp] theorem eraseRange_clk (a n : Nat) : (s.eraseRange a n).clk = s.clk := rfl
@[simp] theorem eraseRange_tx (a n : Nat) : (s.eraseRange a n).tx = s.tx := rfl
@[simp] theorem eraseRange_flt (a n : Nat) : (s.eraseRange a n).flt = s.flt := rfl
@[simp] theorem eraseRange_rst (a n : Nat) : (s.eraseRange a n).rst = s.rst := rfl
@[simp] theorem eraseRange_prt (a n : Nat) : (s.eraseRange a n).prt = s.prt := rfl
@[simp] theorem eraseRange_rq (a n : Nat) : (s.eraseRange a n).rq = s.rq := rfl
@[simp] theorem eraseRange_map (a n : Nat) : (s.eraseRange a n).map = s.map := rfl
@[simp] theorem eraseRange_dir (a n : Nat) : (s.eraseRange a n).dir = s.dir := rfl
@[simp] theorem eraseRange_grp (a n : Nat) : (s.eraseRange a n).grp = s.grp := rfl
@[simp] theorem eraseRange_core (a n : Nat) : (s.eraseRange a n).core = s.core := rfl
@[simp] theorem eraseRange_qos (a n : Nat) : (s.eraseRange a n).qos = s.qos := rfl
@[simp] theorem eraseRange_perf (a n : Nat) : (s.eraseRange a n).perf = s.perf := rfl
@[simp] theorem eraseRange_lnk (a n : Nat) : (s.eraseRange a n).lnk = s.lnk := rfl
@[simp] theorem eraseRange_ihl (a n : Nat) : (s.eraseRange a n).ihl = s.ihl := rfl
@[simp] theorem eraseRange_mv (a n : Nat) : (s.eraseRange a n).mv = s.mv := rfl
@[simp] theorem eraseRange_ten (a n : Nat) : (s.eraseRange a n).ten = s.ten := rfl
@[simp] theorem eraseRange_io (a n : Nat) : (s.eraseRange a n).io = s.io := rfl
@[simp] theorem eraseRange_slt (a n : Nat) : (s.eraseRange a n).slt = s.slt := rfl
@[simp] theorem eraseRange_sqs (a n : Nat) : (s.eraseRange a n).sqs = s.sqs := rfl
@[simp] theorem eraseRange_sec (a n : Nat) : (s.eraseRange a n).sec = s.sec := rfl

/-! ## setTime -/
@[simp] theorem setTime_variant (d : Nat) (f : DieTime → DieTime) : (s.setTime d f).variant = s.variant := rfl
@[simp] theorem setTime_pending (d : Nat) (f : DieTime → DieTime) : (s.setTime d f).pending = s.pending := rfl
@[simp] theorem setTime_regs (d : Nat) (f : DieTime → DieTime) : (s.setTime d f).regs = s.regs := rfl
@[simp] theorem setTime_ram (d : Nat) (f : DieTime → DieTime) : (s.setTime d f).ram = s.ram := rfl
@[simp] theorem setTime_out (d : Nat) (f : DieTime → DieTime) : (s.setTime d f).out = s.out := rfl
@[simp] theorem setTime_acts (d : Nat) (f : DieTime → DieTime) : (s.setTime d f).acts = s.acts := rfl
@[simp] theorem setTime_free (d : Nat) (f : DieTime → DieTime) : (s.setTime d f).free = s.free := rfl

/-! ## setTx -/
@[simp] theorem setTx_variant (x : Nat) (f : TxInst → TxInst) : (s.setTx x f).variant = s.variant := rfl
@[simp] theorem setTx_pending (x : Nat) (f : TxInst → TxInst) : (s.setTx x f).pending = s.pending := rfl
@[simp] theorem setTx_regs (x : Nat) (f : TxInst → TxInst) : (s.setTx x f).regs = s.regs := rfl
@[simp] theorem setTx_ram (x : Nat) (f : TxInst → TxInst) : (s.setTx x f).ram = s.ram := rfl
@[simp] theorem setTx_out (x : Nat) (f : TxInst → TxInst) : (s.setTx x f).out = s.out := rfl
@[simp] theorem setTx_acts (x : Nat) (f : TxInst → TxInst) : (s.setTx x f).acts = s.acts := rfl
@[simp] theorem setTx_free (x : Nat) (f : TxInst → TxInst) : (s.setTx x f).free = s.free := rfl

/-! ## setCollector -/
@[simp] theorem setCollector_variant (d : Nat) (f : Collector → Collector) : (s.setCollector d f).variant = s.variant := rfl
@[simp] theorem setCollector_pending (d : Nat) (f : Collector → Collector) : (s.setCollector d f).pending = s.pending := rfl
@[simp] theorem setCollector_regs (d : Nat) (f : Collector → Collector) : (s.setCollector d f).regs = s.regs := rfl
@[simp] theorem setCollector_ram (d : Nat) (f : Collector → Collector) : (s.setCollector d f).ram = s.ram := rfl
@[simp] theorem setCollector_out (d : Nat) (f : Collector → Collector) : (s.setCollector d f).out = s.out := rfl
@[simp] theorem setCollector_acts (d : Nat) (f : Collector → Collector) : (s.setCollector d f).acts = s.acts := rfl
@[simp] theorem setCollector_free (d : Nat) (f : Collector → Collector) : (s.setCollector d f).free = s.free := rfl

/-! ## setRst -/
@[simp] theorem setRst_variant (f : RstSt → RstSt) : (s.setRst f).variant = s.variant := rfl
@[simp] theorem setRst_pending (f : RstSt → RstSt) : (s.setRst f).pending = s.pending := rfl
@[simp] theorem setRst_regs (f : RstSt → RstSt) : (s.setRst f).regs = s.regs := rfl
@[simp] theorem setRst_ram (f : RstSt → RstSt) : (s.setRst f).ram = s.ram := rfl
@[simp] theorem setRst_out (f : RstSt → RstSt) : (s.setRst f).out = s.out := rfl
@[simp] theorem setRst_acts (f : RstSt → RstSt) : (s.setRst f).acts = s.acts := rfl
@[simp] theorem setRst_free (f : RstSt → RstSt) : (s.setRst f).free = s.free := rfl

/-! ## setPll -/
@[simp] theorem setPll_variant (d n : Nat) (p : Pll) : (s.setPll d n p).variant = s.variant := rfl
@[simp] theorem setPll_pending (d n : Nat) (p : Pll) : (s.setPll d n p).pending = s.pending := rfl
@[simp] theorem setPll_regs (d n : Nat) (p : Pll) : (s.setPll d n p).regs = s.regs := rfl
@[simp] theorem setPll_ram (d n : Nat) (p : Pll) : (s.setPll d n p).ram = s.ram := rfl
@[simp] theorem setPll_out (d n : Nat) (p : Pll) : (s.setPll d n p).out = s.out := rfl
@[simp] theorem setPll_acts (d n : Nat) (p : Pll) : (s.setPll d n p).acts = s.acts := rfl
@[simp] theorem setPll_free (d n : Nat) (p : Pll) : (s.setPll d n p).free = s.free := rfl

/-! ## setDomain -/
@[simp] theorem setDomain_variant (d i : Nat) (x : Domain) : (s.setDomain d i x).variant = s.variant := rfl
@[simp] theorem setDomain_pending (d i : Nat) (x : Domain) : (s.setDomain d i x).pending = s.pending := rfl
@[simp] theorem setDomain_regs (d i : Nat) (x : Domain) : (s.setDomain d i x).regs = s.regs := rfl
@[simp] theorem setDomain_ram (d i : Nat) (x : Domain) : (s.setDomain d i x).ram = s.ram := rfl
@[simp] theorem setDomain_out (d i : Nat) (x : Domain) : (s.setDomain d i x).out = s.out := rfl
@[simp] theorem setDomain_acts (d i : Nat) (x : Domain) : (s.setDomain d i x).acts = s.acts := rfl
@[simp] theorem setDomain_free (d i : Nat) (x : Domain) : (s.setDomain d i x).free = s.free := rfl

/-! ## setPort -/
@[simp] theorem setPort_variant (p : Nat) (f : Port → Port) : (s.setPort p f).variant = s.variant := rfl
@[simp] theorem setPort_pending (p : Nat) (f : Port → Port) : (s.setPort p f).pending = s.pending := rfl
@[simp] theorem setPort_regs (p : Nat) (f : Port → Port) : (s.setPort p f).regs = s.regs := rfl
@[simp] theorem setPort_ram (p : Nat) (f : Port → Port) : (s.setPort p f).ram = s.ram := rfl
@[simp] theorem setPort_out (p : Nat) (f : Port → Port) : (s.setPort p f).out = s.out := rfl
@[simp] theorem setPort_acts (p : Nat) (f : Port → Port) : (s.setPort p f).acts = s.acts := rfl
@[simp] theorem setPort_free (p : Nat) (f : Port → Port) : (s.setPort p f).free = s.free := rfl

/-! ## setTag -/
@[simp] theorem setTag_variant (p n : Nat) (f : TagSlot → TagSlot) : (s.setTag p n f).variant = s.variant := rfl
@[simp] theorem setTag_pending (p n : Nat) (f : TagSlot → TagSlot) : (s.setTag p n f).pending = s.pending := rfl
@[simp] theorem setTag_regs (p n : Nat) (f : TagSlot → TagSlot) : (s.setTag p n f).regs = s.regs := rfl
@[simp] theorem setTag_ram (p n : Nat) (f : TagSlot → TagSlot) : (s.setTag p n f).ram = s.ram := rfl
@[simp] theorem setTag_out (p n : Nat) (f : TagSlot → TagSlot) : (s.setTag p n f).out = s.out := rfl
@[simp] theorem setTag_acts (p n : Nat) (f : TagSlot → TagSlot) : (s.setTag p n f).acts = s.acts := rfl
@[simp] theorem setTag_free (p n : Nat) (f : TagSlot → TagSlot) : (s.setTag p n f).free = s.free := rfl

/-! ## moveLtssm -/
@[simp] theorem moveLtssm_variant (p c : Nat) : (s.moveLtssm p c).variant = s.variant := rfl
@[simp] theorem moveLtssm_pending (p c : Nat) : (s.moveLtssm p c).pending = s.pending := rfl
@[simp] theorem moveLtssm_regs (p c : Nat) : (s.moveLtssm p c).regs = s.regs := rfl
@[simp] theorem moveLtssm_ram (p c : Nat) : (s.moveLtssm p c).ram = s.ram := rfl
@[simp] theorem moveLtssm_out (p c : Nat) : (s.moveLtssm p c).out = s.out := rfl
@[simp] theorem moveLtssm_acts (p c : Nat) : (s.moveLtssm p c).acts = s.acts := rfl
@[simp] theorem moveLtssm_free (p c : Nat) : (s.moveLtssm p c).free = s.free + 1 := rfl

/-! ## setTracker -/
@[simp] theorem setTracker_variant (k : Nat) (f : Tracker → Tracker) : (s.setTracker k f).variant = s.variant := rfl
@[simp] theorem setTracker_pending (k : Nat) (f : Tracker → Tracker) : (s.setTracker k f).pending = s.pending := rfl
@[simp] theorem setTracker_regs (k : Nat) (f : Tracker → Tracker) : (s.setTracker k f).regs = s.regs := rfl
@[simp] theorem setTracker_ram (k : Nat) (f : Tracker → Tracker) : (s.setTracker k f).ram = s.ram := rfl
@[simp] theorem setTracker_out (k : Nat) (f : Tracker → Tracker) : (s.setTracker k f).out = s.out := rfl
@[simp] theorem setTracker_acts (k : Nat) (f : Tracker → Tracker) : (s.setTracker k f).acts = s.acts := rfl
@[simp] theorem setTracker_free (k : Nat) (f : Tracker → Tracker) : (s.setTracker k f).free = s.free := rfl

/-! ## setMig -/
@[simp] theorem setMig_variant (m : Nat) (f : MigSlot → MigSlot) : (s.setMig m f).variant = s.variant := rfl
@[simp] theorem setMig_pending (m : Nat) (f : MigSlot → MigSlot) : (s.setMig m f).pending = s.pending := rfl
@[simp] theorem setMig_regs (m : Nat) (f : MigSlot → MigSlot) : (s.setMig m f).regs = s.regs := rfl
@[simp] theorem setMig_ram (m : Nat) (f : MigSlot → MigSlot) : (s.setMig m f).ram = s.ram := rfl
@[simp] theorem setMig_out (m : Nat) (f : MigSlot → MigSlot) : (s.setMig m f).out = s.out := rfl
@[simp] theorem setMig_acts (m : Nat) (f : MigSlot → MigSlot) : (s.setMig m f).acts = s.acts := rfl
@[simp] theorem setMig_free (m : Nat) (f : MigSlot → MigSlot) : (s.setMig m f).free = s.free := rfl

/-! ## setTxn -/
@[simp] theorem setTxn_variant (d n : Nat) (f : HomeTxn → HomeTxn) : (s.setTxn d n f).variant = s.variant := rfl
@[simp] theorem setTxn_pending (d n : Nat) (f : HomeTxn → HomeTxn) : (s.setTxn d n f).pending = s.pending := rfl
@[simp] theorem setTxn_regs (d n : Nat) (f : HomeTxn → HomeTxn) : (s.setTxn d n f).regs = s.regs := rfl
@[simp] theorem setTxn_ram (d n : Nat) (f : HomeTxn → HomeTxn) : (s.setTxn d n f).ram = s.ram := rfl
@[simp] theorem setTxn_out (d n : Nat) (f : HomeTxn → HomeTxn) : (s.setTxn d n f).out = s.out := rfl
@[simp] theorem setTxn_acts (d n : Nat) (f : HomeTxn → HomeTxn) : (s.setTxn d n f).acts = s.acts := rfl
@[simp] theorem setTxn_free (d n : Nat) (f : HomeTxn → HomeTxn) : (s.setTxn d n f).free = s.free := rfl

/-! ## setAtomic -/
@[simp] theorem setAtomic_variant (d n : Nat) (f : PrivAtomic → PrivAtomic) : (s.setAtomic d n f).variant = s.variant := rfl
@[simp] theorem setAtomic_pending (d n : Nat) (f : PrivAtomic → PrivAtomic) : (s.setAtomic d n f).pending = s.pending := rfl
@[simp] theorem setAtomic_regs (d n : Nat) (f : PrivAtomic → PrivAtomic) : (s.setAtomic d n f).regs = s.regs := rfl
@[simp] theorem setAtomic_ram (d n : Nat) (f : PrivAtomic → PrivAtomic) : (s.setAtomic d n f).ram = s.ram := rfl
@[simp] theorem setAtomic_out (d n : Nat) (f : PrivAtomic → PrivAtomic) : (s.setAtomic d n f).out = s.out := rfl
@[simp] theorem setAtomic_acts (d n : Nat) (f : PrivAtomic → PrivAtomic) : (s.setAtomic d n f).acts = s.acts := rfl
@[simp] theorem setAtomic_free (d n : Nat) (f : PrivAtomic → PrivAtomic) : (s.setAtomic d n f).free = s.free := rfl

/-! ## setGroup -/
@[simp] theorem setGroup_variant (h k : Nat) (f : Group → Group) : (s.setGroup h k f).variant = s.variant := rfl
@[simp] theorem setGroup_pending (h k : Nat) (f : Group → Group) : (s.setGroup h k f).pending = s.pending := rfl
@[simp] theorem setGroup_regs (h k : Nat) (f : Group → Group) : (s.setGroup h k f).regs = s.regs := rfl
@[simp] theorem setGroup_ram (h k : Nat) (f : Group → Group) : (s.setGroup h k f).ram = s.ram := rfl
@[simp] theorem setGroup_out (h k : Nat) (f : Group → Group) : (s.setGroup h k f).out = s.out := rfl
@[simp] theorem setGroup_acts (h k : Nat) (f : Group → Group) : (s.setGroup h k f).acts = s.acts := rfl
@[simp] theorem setGroup_free (h k : Nat) (f : Group → Group) : (s.setGroup h k f).free = s.free := rfl

/-! ## setMarks -/
@[simp] theorem setMarks_variant (d l h k : Nat) (f : Mark → Mark) : (s.setMarks d l h k f).variant = s.variant := rfl
@[simp] theorem setMarks_pending (d l h k : Nat) (f : Mark → Mark) : (s.setMarks d l h k f).pending = s.pending := rfl
@[simp] theorem setMarks_regs (d l h k : Nat) (f : Mark → Mark) : (s.setMarks d l h k f).regs = s.regs := rfl
@[simp] theorem setMarks_ram (d l h k : Nat) (f : Mark → Mark) : (s.setMarks d l h k f).ram = s.ram := rfl
@[simp] theorem setMarks_out (d l h k : Nat) (f : Mark → Mark) : (s.setMarks d l h k f).out = s.out := rfl
@[simp] theorem setMarks_acts (d l h k : Nat) (f : Mark → Mark) : (s.setMarks d l h k f).acts = s.acts := rfl
@[simp] theorem setMarks_free (d l h k : Nat) (f : Mark → Mark) : (s.setMarks d l h k f).free = s.free := rfl

/-! ## setDieCore -/
@[simp] theorem setDieCore_variant (d : Nat) (f : DieCore → DieCore) : (s.setDieCore d f).variant = s.variant := rfl
@[simp] theorem setDieCore_pending (d : Nat) (f : DieCore → DieCore) : (s.setDieCore d f).pending = s.pending := rfl
@[simp] theorem setDieCore_regs (d : Nat) (f : DieCore → DieCore) : (s.setDieCore d f).regs = s.regs := rfl
@[simp] theorem setDieCore_ram (d : Nat) (f : DieCore → DieCore) : (s.setDieCore d f).ram = s.ram := rfl
@[simp] theorem setDieCore_out (d : Nat) (f : DieCore → DieCore) : (s.setDieCore d f).out = s.out := rfl
@[simp] theorem setDieCore_acts (d : Nat) (f : DieCore → DieCore) : (s.setDieCore d f).acts = s.acts := rfl
@[simp] theorem setDieCore_free (d : Nat) (f : DieCore → DieCore) : (s.setDieCore d f).free = s.free := rfl

/-! ## setCell -/
@[simp] theorem setCell_variant (d n : Nat) (f : Cell → Cell) : (s.setCell d n f).variant = s.variant := rfl
@[simp] theorem setCell_pending (d n : Nat) (f : Cell → Cell) : (s.setCell d n f).pending = s.pending := rfl
@[simp] theorem setCell_regs (d n : Nat) (f : Cell → Cell) : (s.setCell d n f).regs = s.regs := rfl
@[simp] theorem setCell_ram (d n : Nat) (f : Cell → Cell) : (s.setCell d n f).ram = s.ram := rfl
@[simp] theorem setCell_out (d n : Nat) (f : Cell → Cell) : (s.setCell d n f).out = s.out := rfl
@[simp] theorem setCell_acts (d n : Nat) (f : Cell → Cell) : (s.setCell d n f).acts = s.acts := rfl
@[simp] theorem setCell_free (d n : Nat) (f : Cell → Cell) : (s.setCell d n f).free = s.free := rfl

/-! ## setCapture -/
@[simp] theorem setCapture_variant (d : Nat) (f : Capture → Capture) : (s.setCapture d f).variant = s.variant := rfl
@[simp] theorem setCapture_pending (d : Nat) (f : Capture → Capture) : (s.setCapture d f).pending = s.pending := rfl
@[simp] theorem setCapture_regs (d : Nat) (f : Capture → Capture) : (s.setCapture d f).regs = s.regs := rfl
@[simp] theorem setCapture_ram (d : Nat) (f : Capture → Capture) : (s.setCapture d f).ram = s.ram := rfl
@[simp] theorem setCapture_out (d : Nat) (f : Capture → Capture) : (s.setCapture d f).out = s.out := rfl
@[simp] theorem setCapture_acts (d : Nat) (f : Capture → Capture) : (s.setCapture d f).acts = s.acts := rfl
@[simp] theorem setCapture_free (d : Nat) (f : Capture → Capture) : (s.setCapture d f).free = s.free := rfl

/-! ## setLinkLoop -/
@[simp] theorem setLinkLoop_variant (l c : Nat) (f : Loop → Loop) : (s.setLinkLoop l c f).variant = s.variant := rfl
@[simp] theorem setLinkLoop_pending (l c : Nat) (f : Loop → Loop) : (s.setLinkLoop l c f).pending = s.pending := rfl
@[simp] theorem setLinkLoop_regs (l c : Nat) (f : Loop → Loop) : (s.setLinkLoop l c f).regs = s.regs := rfl
@[simp] theorem setLinkLoop_ram (l c : Nat) (f : Loop → Loop) : (s.setLinkLoop l c f).ram = s.ram := rfl
@[simp] theorem setLinkLoop_out (l c : Nat) (f : Loop → Loop) : (s.setLinkLoop l c f).out = s.out := rfl
@[simp] theorem setLinkLoop_acts (l c : Nat) (f : Loop → Loop) : (s.setLinkLoop l c f).acts = s.acts := rfl
@[simp] theorem setLinkLoop_free (l c : Nat) (f : Loop → Loop) : (s.setLinkLoop l c f).free = s.free := rfl

/-! ## setLeaf -/
@[simp] theorem setLeaf_variant (k : Nat) (f : Leaf → Leaf) : (s.setLeaf k f).variant = s.variant := rfl
@[simp] theorem setLeaf_pending (k : Nat) (f : Leaf → Leaf) : (s.setLeaf k f).pending = s.pending := rfl
@[simp] theorem setLeaf_regs (k : Nat) (f : Leaf → Leaf) : (s.setLeaf k f).regs = s.regs := rfl
@[simp] theorem setLeaf_ram (k : Nat) (f : Leaf → Leaf) : (s.setLeaf k f).ram = s.ram := rfl
@[simp] theorem setLeaf_out (k : Nat) (f : Leaf → Leaf) : (s.setLeaf k f).out = s.out := rfl
@[simp] theorem setLeaf_acts (k : Nat) (f : Leaf → Leaf) : (s.setLeaf k f).acts = s.acts := rfl
@[simp] theorem setLeaf_free (k : Nat) (f : Leaf → Leaf) : (s.setLeaf k f).free = s.free := rfl

/-! ## setEgressOf -/
@[simp] theorem setEgressOf_variant (p : Nat) (f : Egress → Egress) : (s.setEgressOf p f).variant = s.variant := rfl
@[simp] theorem setEgressOf_pending (p : Nat) (f : Egress → Egress) : (s.setEgressOf p f).pending = s.pending := rfl
@[simp] theorem setEgressOf_regs (p : Nat) (f : Egress → Egress) : (s.setEgressOf p f).regs = s.regs := rfl
@[simp] theorem setEgressOf_ram (p : Nat) (f : Egress → Egress) : (s.setEgressOf p f).ram = s.ram := rfl
@[simp] theorem setEgressOf_out (p : Nat) (f : Egress → Egress) : (s.setEgressOf p f).out = s.out := rfl
@[simp] theorem setEgressOf_acts (p : Nat) (f : Egress → Egress) : (s.setEgressOf p f).acts = s.acts := rfl
@[simp] theorem setEgressOf_free (p : Nat) (f : Egress → Egress) : (s.setEgressOf p f).free = s.free := rfl

/-! ## setRing -/
@[simp] theorem setRing_variant (k : Nat) (r : Ring) : (s.setRing k r).variant = s.variant := rfl
@[simp] theorem setRing_pending (k : Nat) (r : Ring) : (s.setRing k r).pending = s.pending := rfl
@[simp] theorem setRing_regs (k : Nat) (r : Ring) : (s.setRing k r).regs = s.regs := rfl
@[simp] theorem setRing_ram (k : Nat) (r : Ring) : (s.setRing k r).ram = s.ram := rfl
@[simp] theorem setRing_out (k : Nat) (r : Ring) : (s.setRing k r).out = s.out := rfl
@[simp] theorem setRing_acts (k : Nat) (r : Ring) : (s.setRing k r).acts = s.acts := rfl
@[simp] theorem setRing_free (k : Nat) (r : Ring) : (s.setRing k r).free = s.free := rfl

/-! ## setBucket -/
@[simp] theorem setBucket_variant (d m : Nat) (f : Bucket → Bucket) : (s.setBucket d m f).variant = s.variant := rfl
@[simp] theorem setBucket_pending (d m : Nat) (f : Bucket → Bucket) : (s.setBucket d m f).pending = s.pending := rfl
@[simp] theorem setBucket_regs (d m : Nat) (f : Bucket → Bucket) : (s.setBucket d m f).regs = s.regs := rfl
@[simp] theorem setBucket_ram (d m : Nat) (f : Bucket → Bucket) : (s.setBucket d m f).ram = s.ram := rfl
@[simp] theorem setBucket_out (d m : Nat) (f : Bucket → Bucket) : (s.setBucket d m f).out = s.out := rfl
@[simp] theorem setBucket_acts (d m : Nat) (f : Bucket → Bucket) : (s.setBucket d m f).acts = s.acts := rfl
@[simp] theorem setBucket_free (d m : Nat) (f : Bucket → Bucket) : (s.setBucket d m f).free = s.free := rfl

/-! ## setLink -/
@[simp] theorem setLink_variant (l : Nat) (f : Link → Link) : (s.setLink l f).variant = s.variant := rfl
@[simp] theorem setLink_pending (l : Nat) (f : Link → Link) : (s.setLink l f).pending = s.pending := rfl
@[simp] theorem setLink_regs (l : Nat) (f : Link → Link) : (s.setLink l f).regs = s.regs := rfl
@[simp] theorem setLink_ram (l : Nat) (f : Link → Link) : (s.setLink l f).ram = s.ram := rfl
@[simp] theorem setLink_out (l : Nat) (f : Link → Link) : (s.setLink l f).out = s.out := rfl
@[simp] theorem setLink_acts (l : Nat) (f : Link → Link) : (s.setLink l f).acts = s.acts := rfl
@[simp] theorem setLink_free (l : Nat) (f : Link → Link) : (s.setLink l f).free = s.free := rfl

/-! ## setIhl -/
@[simp] theorem setIhl_variant (f : IhlSt → IhlSt) : (s.setIhl f).variant = s.variant := rfl
@[simp] theorem setIhl_pending (f : IhlSt → IhlSt) : (s.setIhl f).pending = s.pending := rfl
@[simp] theorem setIhl_regs (f : IhlSt → IhlSt) : (s.setIhl f).regs = s.regs := rfl
@[simp] theorem setIhl_ram (f : IhlSt → IhlSt) : (s.setIhl f).ram = s.ram := rfl
@[simp] theorem setIhl_out (f : IhlSt → IhlSt) : (s.setIhl f).out = s.out := rfl
@[simp] theorem setIhl_acts (f : IhlSt → IhlSt) : (s.setIhl f).acts = s.acts := rfl
@[simp] theorem setIhl_free (f : IhlSt → IhlSt) : (s.setIhl f).free = s.free := rfl

/-! ## setQueue -/
@[simp] theorem setQueue_variant (q : Nat) (f : MvQueue → MvQueue) : (s.setQueue q f).variant = s.variant := rfl
@[simp] theorem setQueue_pending (q : Nat) (f : MvQueue → MvQueue) : (s.setQueue q f).pending = s.pending := rfl
@[simp] theorem setQueue_regs (q : Nat) (f : MvQueue → MvQueue) : (s.setQueue q f).regs = s.regs := rfl
@[simp] theorem setQueue_ram (q : Nat) (f : MvQueue → MvQueue) : (s.setQueue q f).ram = s.ram := rfl
@[simp] theorem setQueue_out (q : Nat) (f : MvQueue → MvQueue) : (s.setQueue q f).out = s.out := rfl
@[simp] theorem setQueue_acts (q : Nat) (f : MvQueue → MvQueue) : (s.setQueue q f).acts = s.acts := rfl
@[simp] theorem setQueue_free (q : Nat) (f : MvQueue → MvQueue) : (s.setQueue q f).free = s.free := rfl

/-! ## setEngine -/
@[simp] theorem setEngine_variant (d e : Nat) (f : MvEngine → MvEngine) : (s.setEngine d e f).variant = s.variant := rfl
@[simp] theorem setEngine_pending (d e : Nat) (f : MvEngine → MvEngine) : (s.setEngine d e f).pending = s.pending := rfl
@[simp] theorem setEngine_regs (d e : Nat) (f : MvEngine → MvEngine) : (s.setEngine d e f).regs = s.regs := rfl
@[simp] theorem setEngine_ram (d e : Nat) (f : MvEngine → MvEngine) : (s.setEngine d e f).ram = s.ram := rfl
@[simp] theorem setEngine_out (d e : Nat) (f : MvEngine → MvEngine) : (s.setEngine d e f).out = s.out := rfl
@[simp] theorem setEngine_acts (d e : Nat) (f : MvEngine → MvEngine) : (s.setEngine d e f).acts = s.acts := rfl
@[simp] theorem setEngine_free (d e : Nat) (f : MvEngine → MvEngine) : (s.setEngine d e f).free = s.free := rfl

/-! ## setDesc -/
@[simp] theorem setDesc_variant (q n : Nat) (f : MvDesc → MvDesc) : (s.setDesc q n f).variant = s.variant := rfl
@[simp] theorem setDesc_pending (q n : Nat) (f : MvDesc → MvDesc) : (s.setDesc q n f).pending = s.pending := rfl
@[simp] theorem setDesc_regs (q n : Nat) (f : MvDesc → MvDesc) : (s.setDesc q n f).regs = s.regs := rfl
@[simp] theorem setDesc_ram (q n : Nat) (f : MvDesc → MvDesc) : (s.setDesc q n f).ram = s.ram := rfl
@[simp] theorem setDesc_out (q n : Nat) (f : MvDesc → MvDesc) : (s.setDesc q n f).out = s.out := rfl
@[simp] theorem setDesc_acts (q n : Nat) (f : MvDesc → MvDesc) : (s.setDesc q n f).acts = s.acts := rfl
@[simp] theorem setDesc_free (q n : Nat) (f : MvDesc → MvDesc) : (s.setDesc q n f).free = s.free := rfl

/-! ## setChan -/
@[simp] theorem setChan_variant (n : Nat) (f : Slot → Slot) : (s.setChan n f).variant = s.variant := rfl
@[simp] theorem setChan_pending (n : Nat) (f : Slot → Slot) : (s.setChan n f).pending = s.pending := rfl
@[simp] theorem setChan_regs (n : Nat) (f : Slot → Slot) : (s.setChan n f).regs = s.regs := rfl
@[simp] theorem setChan_ram (n : Nat) (f : Slot → Slot) : (s.setChan n f).ram = s.ram := rfl
@[simp] theorem setChan_out (n : Nat) (f : Slot → Slot) : (s.setChan n f).out = s.out := rfl
@[simp] theorem setChan_acts (n : Nat) (f : Slot → Slot) : (s.setChan n f).acts = s.acts := rfl
@[simp] theorem setChan_free (n : Nat) (f : Slot → Slot) : (s.setChan n f).free = s.free := rfl

/-! ## setSeq -/
@[simp] theorem setSeq_variant (n : Nat) (f : Seq → Seq) : (s.setSeq n f).variant = s.variant := rfl
@[simp] theorem setSeq_pending (n : Nat) (f : Seq → Seq) : (s.setSeq n f).pending = s.pending := rfl
@[simp] theorem setSeq_regs (n : Nat) (f : Seq → Seq) : (s.setSeq n f).regs = s.regs := rfl
@[simp] theorem setSeq_ram (n : Nat) (f : Seq → Seq) : (s.setSeq n f).ram = s.ram := rfl
@[simp] theorem setSeq_out (n : Nat) (f : Seq → Seq) : (s.setSeq n f).out = s.out := rfl
@[simp] theorem setSeq_acts (n : Nat) (f : Seq → Seq) : (s.setSeq n f).acts = s.acts := rfl
@[simp] theorem setSeq_free (n : Nat) (f : Seq → Seq) : (s.setSeq n f).free = s.free := rfl

/-! ## setSec -/
@[simp] theorem setSec_variant (f : SecSt → SecSt) : (s.setSec f).variant = s.variant := rfl
@[simp] theorem setSec_pending (f : SecSt → SecSt) : (s.setSec f).pending = s.pending := rfl
@[simp] theorem setSec_regs (f : SecSt → SecSt) : (s.setSec f).regs = s.regs := rfl
@[simp] theorem setSec_ram (f : SecSt → SecSt) : (s.setSec f).ram = s.ram := rfl
@[simp] theorem setSec_out (f : SecSt → SecSt) : (s.setSec f).out = s.out := rfl
@[simp] theorem setSec_acts (f : SecSt → SecSt) : (s.setSec f).acts = s.acts := rfl
@[simp] theorem setSec_free (f : SecSt → SecSt) : (s.setSec f).free = s.free := rfl

/-! ## setMailbox -/
@[simp] theorem setMailbox_variant (t : Nat) (f : Mailbox → Mailbox) : (s.setMailbox t f).variant = s.variant := rfl
@[simp] theorem setMailbox_pending (t : Nat) (f : Mailbox → Mailbox) : (s.setMailbox t f).pending = s.pending := rfl
@[simp] theorem setMailbox_regs (t : Nat) (f : Mailbox → Mailbox) : (s.setMailbox t f).regs = s.regs := rfl
@[simp] theorem setMailbox_ram (t : Nat) (f : Mailbox → Mailbox) : (s.setMailbox t f).ram = s.ram := rfl
@[simp] theorem setMailbox_out (t : Nat) (f : Mailbox → Mailbox) : (s.setMailbox t f).out = s.out := rfl
@[simp] theorem setMailbox_acts (t : Nat) (f : Mailbox → Mailbox) : (s.setMailbox t f).acts = s.acts := rfl
@[simp] theorem setMailbox_free (t : Nat) (f : Mailbox → Mailbox) : (s.setMailbox t f).free = s.free := rfl

/-! ## setPort7E -/
@[simp] theorem setPort7E_variant (x : Nat) (f : DataPort → DataPort) : (s.setPort7E x f).variant = s.variant := rfl
@[simp] theorem setPort7E_pending (x : Nat) (f : DataPort → DataPort) : (s.setPort7E x f).pending = s.pending := rfl
@[simp] theorem setPort7E_regs (x : Nat) (f : DataPort → DataPort) : (s.setPort7E x f).regs = s.regs := rfl
@[simp] theorem setPort7E_ram (x : Nat) (f : DataPort → DataPort) : (s.setPort7E x f).ram = s.ram := rfl
@[simp] theorem setPort7E_out (x : Nat) (f : DataPort → DataPort) : (s.setPort7E x f).out = s.out := rfl
@[simp] theorem setPort7E_acts (x : Nat) (f : DataPort → DataPort) : (s.setPort7E x f).acts = s.acts := rfl
@[simp] theorem setPort7E_free (x : Nat) (f : DataPort → DataPort) : (s.setPort7E x f).free = s.free := rfl

/-! ## Reading an object after an update that does not touch the store -/

@[simp] theorem send_get (m : Out) (o' : Obj) : (s.send m).get o' = s.get o' := rfl
@[simp] theorem owe_get (a : Act) (o' : Obj) : (s.owe a).get o' = s.get o' := rfl
@[simp] theorem raise_get (n ch a m t : Nat) (o' : Obj) : (s.raise n ch a m t).get o' = s.get o' := rfl
@[simp] theorem raiseDie_get (d l : Nat) (o' : Obj) : (s.raiseDie d l).get o' = s.get o' := rfl
@[simp] theorem writeByte_get (a : Nat) (b : Byte) (o' : Obj) : (s.writeByte a b).get o' = s.get o' := rfl
@[simp] theorem eraseRange_get (a n : Nat) (o' : Obj) : (s.eraseRange a n).get o' = s.get o' := rfl
@[simp] theorem setTime_get (d : Nat) (f : DieTime → DieTime) (o' : Obj) : (s.setTime d f).get o' = s.get o' := rfl
@[simp] theorem setTx_get (x : Nat) (f : TxInst → TxInst) (o' : Obj) : (s.setTx x f).get o' = s.get o' := rfl
@[simp] theorem setCollector_get (d : Nat) (f : Collector → Collector) (o' : Obj) : (s.setCollector d f).get o' = s.get o' := rfl
@[simp] theorem setRst_get (f : RstSt → RstSt) (o' : Obj) : (s.setRst f).get o' = s.get o' := rfl
@[simp] theorem setPll_get (d n : Nat) (p : Pll) (o' : Obj) : (s.setPll d n p).get o' = s.get o' := rfl
@[simp] theorem setDomain_get (d i : Nat) (x : Domain) (o' : Obj) : (s.setDomain d i x).get o' = s.get o' := rfl
@[simp] theorem setPort_get (p : Nat) (f : Port → Port) (o' : Obj) : (s.setPort p f).get o' = s.get o' := rfl
@[simp] theorem setTag_get (p n : Nat) (f : TagSlot → TagSlot) (o' : Obj) : (s.setTag p n f).get o' = s.get o' := rfl
@[simp] theorem moveLtssm_get (p c : Nat) (o' : Obj) : (s.moveLtssm p c).get o' = s.get o' := rfl
@[simp] theorem setTracker_get (k : Nat) (f : Tracker → Tracker) (o' : Obj) : (s.setTracker k f).get o' = s.get o' := rfl
@[simp] theorem setMig_get (m : Nat) (f : MigSlot → MigSlot) (o' : Obj) : (s.setMig m f).get o' = s.get o' := rfl
@[simp] theorem setTxn_get (d n : Nat) (f : HomeTxn → HomeTxn) (o' : Obj) : (s.setTxn d n f).get o' = s.get o' := rfl
@[simp] theorem setAtomic_get (d n : Nat) (f : PrivAtomic → PrivAtomic) (o' : Obj) : (s.setAtomic d n f).get o' = s.get o' := rfl
@[simp] theorem setGroup_get (h k : Nat) (f : Group → Group) (o' : Obj) : (s.setGroup h k f).get o' = s.get o' := rfl
@[simp] theorem setMarks_get (d l h k : Nat) (f : Mark → Mark) (o' : Obj) : (s.setMarks d l h k f).get o' = s.get o' := rfl
@[simp] theorem setDieCore_get (d : Nat) (f : DieCore → DieCore) (o' : Obj) : (s.setDieCore d f).get o' = s.get o' := rfl
@[simp] theorem setCell_get (d n : Nat) (f : Cell → Cell) (o' : Obj) : (s.setCell d n f).get o' = s.get o' := rfl
@[simp] theorem setCapture_get (d : Nat) (f : Capture → Capture) (o' : Obj) : (s.setCapture d f).get o' = s.get o' := rfl
@[simp] theorem setLinkLoop_get (l c : Nat) (f : Loop → Loop) (o' : Obj) : (s.setLinkLoop l c f).get o' = s.get o' := rfl
@[simp] theorem setLeaf_get (k : Nat) (f : Leaf → Leaf) (o' : Obj) : (s.setLeaf k f).get o' = s.get o' := rfl
@[simp] theorem setEgressOf_get (p : Nat) (f : Egress → Egress) (o' : Obj) : (s.setEgressOf p f).get o' = s.get o' := rfl
@[simp] theorem setRing_get (k : Nat) (r : Ring) (o' : Obj) : (s.setRing k r).get o' = s.get o' := rfl
@[simp] theorem setBucket_get (d m : Nat) (f : Bucket → Bucket) (o' : Obj) : (s.setBucket d m f).get o' = s.get o' := rfl
@[simp] theorem setLink_get (l : Nat) (f : Link → Link) (o' : Obj) : (s.setLink l f).get o' = s.get o' := rfl
@[simp] theorem setIhl_get (f : IhlSt → IhlSt) (o' : Obj) : (s.setIhl f).get o' = s.get o' := rfl
@[simp] theorem setQueue_get (q : Nat) (f : MvQueue → MvQueue) (o' : Obj) : (s.setQueue q f).get o' = s.get o' := rfl
@[simp] theorem setEngine_get (d e : Nat) (f : MvEngine → MvEngine) (o' : Obj) : (s.setEngine d e f).get o' = s.get o' := rfl
@[simp] theorem setDesc_get (q n : Nat) (f : MvDesc → MvDesc) (o' : Obj) : (s.setDesc q n f).get o' = s.get o' := rfl
@[simp] theorem setChan_get (n : Nat) (f : Slot → Slot) (o' : Obj) : (s.setChan n f).get o' = s.get o' := rfl
@[simp] theorem setSeq_get (n : Nat) (f : Seq → Seq) (o' : Obj) : (s.setSeq n f).get o' = s.get o' := rfl
@[simp] theorem setSec_get (f : SecSt → SecSt) (o' : Obj) : (s.setSec f).get o' = s.get o' := rfl
@[simp] theorem setMailbox_get (t : Nat) (f : Mailbox → Mailbox) (o' : Obj) : (s.setMailbox t f).get o' = s.get o' := rfl
@[simp] theorem setPort7E_get (x : Nat) (f : DataPort → DataPort) (o' : Obj) : (s.setPort7E x f).get o' = s.get o' := rfl

/-! ## The object store -/

/-- The store's keys rise: what a canonical state gives, and what every read after a write needs. -/
theorem Canonical.rising {s : State} (h : s.Canonical) : s.regs.risingFrom 0 = true := by
  have := h.1
  simp only [State.regsWf, Bool.and_eq_true] at this
  exact (wfBy_iff.1 this.1).1

/-- The low half of a sign-extended word is the word. -/
theorem setWidth_signExtend (x : BitVec 32) : (x.signExtend 64).setWidth 32 = x := by
  ext i h
  simp [← BitVec.getLsbD_eq_getElem, BitVec.getLsbD_signExtend, h, Nat.lt_of_lt_of_le h]

/-- What a type holds of a value, it holds whole. -/
@[simp] theorem held_held (t : Ty) (w : Word) : t.held (t.held w) = t.held w := by
  cases t <;> simp only [Ty.held, Ty.bits, setWidth_signExtend] <;> ext i <;> simp

@[simp] theorem heldBy_heldBy (v : Variant) (o : Obj) (w : Word) : heldBy v o (heldBy v o w) = heldBy v o w := by
  unfold heldBy
  split <;> simp

variable {s}

/-- An object reads what was put, in the 64 bits of its slot (R36). -/
theorem get_put_self (h : s.regs.risingFrom 0 = true) (o : Obj) (v : Nat) : (s.put o v).get o = v % 2 ^ 64 := by
  unfold State.get State.put Table.write
  by_cases e : BitVec.ofNat 64 v = BitVec.ofNat 64 (defaultOf s.variant o)
  · simp only [if_pos e, find_drop_self h]
    have := congrArg BitVec.toNat e
    simpa using this.symm
  · simp only [if_neg e, find_place_self, BitVec.toNat_ofNat]

/-- Another object keeps its value. -/
theorem get_put_ne (h : s.regs.risingFrom 0 = true) {o o' : Obj} (v : Nat) (ne : o'.key ≠ o.key) :
    (s.put o v).get o' = s.get o' := by
  unfold State.get
  rw [show (s.put o v).regs.find o'.key = s.regs.find o'.key from find_write_ne h _ _ ne]
  rfl

theorem get_clear_self (h : s.regs.risingFrom 0 = true) (o : Obj) : (s.clear o).get o = defaultOf s.variant o % 2 ^ 64 := by
  unfold State.get
  rw [show (s.clear o).regs.find o.key = none from find_drop_self h _]
  rfl

theorem get_clear_ne (h : s.regs.risingFrom 0 = true) {o o' : Obj} (ne : o'.key ≠ o.key) : (s.clear o).get o' = s.get o' := by
  unfold State.get
  rw [show (s.clear o).regs.find o'.key = s.regs.find o'.key from find_drop_ne h ne]
  rfl

@[simp] theorem put_rising (h : s.regs.risingFrom 0 = true) (o : Obj) (v : Nat) : (s.put o v).regs.risingFrom 0 = true :=
  risingFrom_write h _ _ _

@[simp] theorem clear_rising (h : s.regs.risingFrom 0 = true) (o : Obj) : (s.clear o).regs.risingFrom 0 = true :=
  risingFrom_drop _ h

/-- Keys of objects in range tell them apart. -/
theorem ofKey_key {o : Obj} (c : o.cls < 256) (m : o.mem < 256) : Obj.ofKey o.key = o := by
  obtain ⟨c', i, m'⟩ := o
  simp only [Obj.ofKey, Obj.key] at *
  congr 1 <;> omega

theorem put_regsWf (h : s.regsWf = true) {o : Obj} (c : o.cls < 256) (m : o.mem < 256) {v : Nat}
    (fits : heldBy s.variant o (BitVec.ofNat 64 v) = BitVec.ofNat 64 v) : (s.put o v).regsWf = true := by
  simp only [State.regsWf, Bool.and_eq_true, List.all_eq_true, beq_iff_eq] at h ⊢
  refine ⟨?_, fun e he => ?_⟩
  · have := wfBy_write h.1 o.key (BitVec.ofNat 64 v)
    rw [ofKey_key c m] at this
    exact this
  · rcases mem_write he with rfl | he
    · rw [ofKey_key c m]; exact fits
    · exact h.2 e he

/-! ## The addressed memories (R455) -/

/-- A byte reads what was written. -/
theorem readByte_writeByte_self (h : Memory.wf s.ram = true) (a : Nat) (b : Byte) : (s.writeByte a b).readByte a = b :=
  read_write_self (wfBy_iff.1 h).1 ramDefault a b

/-- Every other byte keeps its value. -/
theorem readByte_writeByte_ne (h : Memory.wf s.ram = true) {a a' : Nat} (b : Byte) (ne : a' ≠ a) :
    (s.writeByte a b).readByte a' = s.readByte a' := by
  unfold State.readByte
  rw [show Table.find (s.writeByte a b).ram a' = Table.find s.ram a' from find_write_ne (wfBy_iff.1 h).1 ramDefault b ne]

theorem writeByte_wf (h : Memory.wf s.ram = true) (a : Nat) (b : Byte) : Memory.wf (s.writeByte a b).ram = true :=
  wfBy_write (d := fun _ => ramDefault) h a b

theorem eraseRange_wf (h : Memory.wf s.ram = true) (lo n : Nat) : Memory.wf (s.eraseRange lo n).ram = true :=
  wfBy_filter _ h

/-- A fold of updates that each keep a property keeps it. -/
theorem forEach_keeps {α : Type} {P : State → Prop} {f : α → State → State} (h : ∀ a s, P s → P (f a s)) (l : List α) (s : State)
    (hs : P s) : P (forEach l f s) := by
  induction l generalizing s with
  | nil => exact hs
  | cons a r ih => exact ih (f a s) (h a s hs)

theorem writeBytes_wf (h : Memory.wf s.ram = true) (a : Nat) (bs : List Byte) : Memory.wf (s.writeBytes a bs).ram = true :=
  forEach_keeps (P := fun s => Memory.wf s.ram = true) (fun p _ h => writeByte_wf h _ p.1) _ _ h

/-! ## The end of a command -/

/-- The end of a command leaves the stores in their canonical form, whatever came before. -/
theorem tidy_canonical (s : State) : s.tidy.Canonical :=
  ⟨by
    simp only [State.regsWf, State.tidy, Bool.and_eq_true, List.all_eq_true, beq_iff_eq]
    exact ⟨wfBy_rebuild (fun k => BitVec.ofNat 64 (defaultOf s.variant (Obj.ofKey k))) (fun k => heldBy s.variant (Obj.ofKey k)) s.regs,
      forall_rebuild (fun k => BitVec.ofNat 64 (defaultOf s.variant (Obj.ofKey k))) (fun k => heldBy s.variant (Obj.ofKey k)) (by simp) s.regs⟩,
    wfBy_rebuild (fun _ => ramDefault) (fun _ v => v) s.ram⟩

/-- A state in canonical form is left as it is. -/
theorem tidy_of_canonical (h : s.Canonical) : s.tidy = s := by
  obtain ⟨hr, hm⟩ := h
  simp only [State.regsWf, Bool.and_eq_true, List.all_eq_true, beq_iff_eq] at hr
  unfold State.tidy
  rw [rebuild_of_wfBy (d := fun k => BitVec.ofNat 64 (defaultOf s.variant (Obj.ofKey k))) (g := fun k => heldBy s.variant (Obj.ofKey k)) hr.1 hr.2,
    rebuild_of_wfBy (d := fun _ => ramDefault) (g := fun _ v => v) hm (fun _ _ => rfl)]

theorem work_quiet (h : s.acts = []) (n : Nat) : State.work n s = s := by
  cases n with
  | zero => rfl
  | succ n => rw [State.work, h]

/-- Where nothing is owed and nothing follows, the end of a command changes nothing. -/
theorem settle_of_quiet (q : s.Quiet) (h : s.Canonical) : settle s = s := by
  unfold settle
  rw [work_quiet q.1, q.2, work_quiet q.1, tidy_of_canonical h]

theorem settle_canonical (s : State) : (settle s).Canonical := tidy_canonical _

/-! ## How a command ends -/

/-- A command on a unit: either the package has the unit and the command has its effect, or it stops. -/
theorem onUnit_cases {has : Bool} {u : State} {r : Result} (h : onUnit has u = r) :
    (has = true ∧ r = .next (settle u)) ∨ (has = false ∧ r = .fault .noSuchUnit) := by
  subst h
  cases has
  · exact .inr ⟨rfl, rfl⟩
  · exact .inl ⟨rfl, rfl⟩

@[simp] theorem onUnit_true (u : State) : onUnit true u = .next (settle u) := rfl
@[simp] theorem onUnit_false (u : State) : onUnit false u = .fault .noSuchUnit := rfl

/-- A served write: the object's effect, the outcome in the error record, and the answer. -/
theorem write1_served {ifc : Iface} {o : Obj} {v : Nat} {r : Row} (hr : rowOf s.variant o = some r)
    (h : s.servesWrite ifc o v = true) :
    s.write1 ifc o v = ((s.ownerStatus ifc o v).2.effect o r v).acknowledged ifc o := by
  simp only [State.servesWrite, State.reachesOwner, hr, Bool.and_eq_true, Option.isNone_iff_eq_none, beq_iff_eq, Bool.not_eq_true', bne_iff_ne] at h
  obtain ⟨⟨⟨⟨⟨⟨⟨-, mpu⟩, form⟩, window⟩, gate⟩, check⟩, acc, slots⟩, own⟩ := h
  have ww : s.writeObj ifc o true [v] = (stOk, (s.ownerStatus ifc o v).2.effect o r v) := by
    simp [State.writeObj, gate, check, hr, acc, own]
  simp [State.write1, State.writeCmd, State.dictWrite, State.refusedWhole, mpu, form, State.writeMembers, window, hr, slots, ww,
    State.answersWith, State.logSlots, List.range, List.range.loop, forEach]

/-- A write that its owner refuses: what the refusal leaves, the outcome in the error record, and the answer. -/
theorem write1_refused {ifc : Iface} {o : Obj} {v : Nat} (h : s.reachesOwner ifc o v = true) (own : (s.ownerStatus ifc o v).1 ≠ stOk) :
    s.write1 ifc o v = (s.ownerStatus ifc o v).2.answersWith ifc o (s.ownerStatus ifc o v).1 := by
  cases hr : rowOf s.variant o with
  | none => simp [State.reachesOwner, hr] at h
  | some r =>
    simp only [State.reachesOwner, hr, Bool.and_eq_true, Option.isNone_iff_eq_none, beq_iff_eq, Bool.not_eq_true', bne_iff_ne] at h
    obtain ⟨⟨⟨⟨⟨⟨-, mpu⟩, form⟩, window⟩, gate⟩, check⟩, acc, slots⟩ := h
    have ww : s.writeObj ifc o true [v] = ((s.ownerStatus ifc o v).1, (s.ownerStatus ifc o v).2) := by
      simp [State.writeObj, gate, check, hr, acc, own]
    simp [State.write1, State.writeCmd, State.dictWrite, State.refusedWhole, mpu, form, State.writeMembers, window, hr, slots, ww,
      State.answersWith, State.logSlots, List.range, List.range.loop, forEach]

/-- The command of a served write ends in a next state. -/
theorem writeOne_served {ifc : Iface} {o : Obj} {v : Nat} {r : Row} (hr : rowOf s.variant o = some r)
    (h : s.servesWrite ifc o v = true) :
    writeOne ifc o v s = .next (settle (((s.ownerStatus ifc o v).2.effect o r v).acknowledged ifc o)) := by
  have has : s.hasIfc ifc = true := by
    simp only [State.servesWrite, State.reachesOwner, Bool.and_eq_true] at h
    exact h.1.1.1.1.1.1.1
  rw [writeOne, has, onUnit_true, write1_served hr h]

/-- The command of a served write whose object's effect is known. -/
theorem writeOne_effect {ifc : Iface} {o : Obj} {v : Nat} {u : State} (h : s.servesWrite ifc o v = true)
    (e : ∀ r, rowOf s.variant o = some r → (s.ownerStatus ifc o v).2.effect o r v = u) :
    writeOne ifc o v s = .next (settle (u.acknowledged ifc o)) := by
  cases hr : rowOf s.variant o with
  | none => simp [State.servesWrite, State.reachesOwner, hr] at h
  | some r => rw [writeOne_served hr h, e r hr]

/-- A served read of one slot: its value, and its outcome in the error record. -/
theorem dictRead_served {s : State} {ifc : Iface} {o : Obj} (h : s.servesRead ifc o = true) (hc : s.clearsOnRead o = false) :
    s.dictRead ifc o 1 = ([(stOk, s.readObj o)], s.logAccess ifc o stOk) := by
  simp only [State.servesRead, Bool.and_eq_true, Option.isNone_iff_eq_none, beq_iff_eq, Bool.not_eq_true'] at h
  obtain ⟨⟨⟨⟨⟨-, mpu⟩, form⟩, window⟩, gate⟩, status⟩ := h
  have rs : s.readSlot ifc o = (stOk, s.readObj o, s) := by
    simp only [State.clearsOnRead] at hc
    simp only [State.readSlot, gate, status]
    cases hr : rowOf s.variant (s.baseOf o) <;> simp_all
  simp [State.dictRead, State.refusedWhole, mpu, form, State.readMembers, window, rs]

/-- A served read of one slot of an RC object: its value, and the object at its default (R38). -/
theorem dictRead_clears {s : State} {ifc : Iface} {o : Obj} (h : s.servesRead ifc o = true) (hc : s.clearsOnRead o = true)
    (hn : ¬ (o.cls = 0x7F ∧ o.mem = 4)) :
    s.dictRead ifc o 1 = ([(stOk, s.readObj o)], (s.clear o).logAccess ifc o stOk) := by
  simp only [State.servesRead, Bool.and_eq_true, Option.isNone_iff_eq_none, beq_iff_eq, Bool.not_eq_true'] at h
  obtain ⟨⟨⟨⟨⟨-, mpu⟩, form⟩, window⟩, gate⟩, status⟩ := h
  have rs : s.readSlot ifc o = (stOk, s.readObj o, s.clear o) := by
    simp only [State.clearsOnRead] at hc
    simp only [State.readSlot, gate, status]
    cases hr : rowOf s.variant (s.baseOf o) <;> simp_all
  simp [State.dictRead, State.refusedWhole, mpu, form, State.readMembers, window, rs]

/-- A served read of ERROR_COUNT: its value, and it and the first error at their defaults (R49). -/
theorem dictRead_errors {s : State} {ifc : Iface} {x : Nat} (h : s.servesRead ifc (O.ERROR_COUNT x) = true)
    (hc : s.clearsOnRead (O.ERROR_COUNT x) = true) :
    s.dictRead ifc (O.ERROR_COUNT x) 1 = ([(stOk, s.readObj (O.ERROR_COUNT x))],
      (((s.clear (O.ERROR_COUNT x)).clear (O.FIRST_ERROR_STATUS x)).clear (O.FIRST_ERROR_OBJECT x)).logAccess ifc (O.ERROR_COUNT x) stOk) := by
  simp only [State.servesRead, Bool.and_eq_true, Option.isNone_iff_eq_none, beq_iff_eq, Bool.not_eq_true'] at h
  obtain ⟨⟨⟨⟨⟨-, mpu⟩, form⟩, window⟩, gate⟩, status⟩ := h
  have rs : s.readSlot ifc (O.ERROR_COUNT x) = (stOk, s.readObj (O.ERROR_COUNT x),
      ((s.clear (O.ERROR_COUNT x)).clear (O.FIRST_ERROR_STATUS x)).clear (O.FIRST_ERROR_OBJECT x)) := by
    simp only [State.clearsOnRead] at hc
    simp only [State.readSlot, gate, status]
    cases hr : rowOf s.variant (s.baseOf (O.ERROR_COUNT x)) <;>
      simp_all [O.ERROR_COUNT, O.FIRST_ERROR_STATUS, O.FIRST_ERROR_OBJECT]
  simp [State.dictRead, State.refusedWhole, mpu, form, State.readMembers, window, rs]

end Sys2Proof.Laws
end

