-- ==== Sys2Proof/Laws/Serve.lean ====
section
/-! SUPPORT. The shared services: what serving the oldest frame of the Ihlod node, and the next request of a home's line, comes to. -/
namespace Sys2Proof.Laws
open Sys2Proof.Machine

/-- A node that can serve its oldest frame does what the service says, and a broadcast request then goes on, but for an ASSIGN, which the
service sends on itself. -/
theorem serveHeld_serves {s t : State} {type : Nat} {f : Frame} (act : Frame → State → State) (h : s.servesFrame t type f) :
    s.serveHeld type act = if f.type = tAssign then act f t else (act f t).passOn f := by
  obtain ⟨h1, h2, h3, h4, h5, h7⟩ := h
  unfold State.serveHeld
  split
  · simp_all
  · rename_i g r hr
    obtain rfl : g = f := by simpa [hr] using h1
    have ht : (s.setIhl (fun i => { i with held := r, heldAt := i.heldAt.tail, servedAt := i.heldAt.headD (s.mono 0) })) = t := by
      rw [h4]; simp [State.setIhl, hr]
    simp only [h2, h3, Option.isSome_none, Bool.false_eq_true, ne_eq, not_true_eq_false, or_self, if_false, ht, h5, h7]

/-- A home that can take up the next request of a line serves it. -/
theorem serveLine_serves {s : State} {d line : Nat} {cls : HomeClass} {q : HomeReq} (ecc : Nat) (h : s.homeReady d line cls q) :
    s.serveLine d line cls ecc = s.homeServed d line q ecc := by
  simp [State.serveLine, h.1, h.2.1, h.2.2, State.homeServed]

end Sys2Proof.Laws
end

