-- ==== Sys2Proof/Tests/Slice0.lean ====
section
/-! SUPPORT. Tests of the model: states that meet the hypotheses of the statements, a term for each check of the well-formedness that
the check refuses, and results that the spec's own examples and tables give. -/
open Sys2Proof Sys2Proof.Machine
namespace Sys2Proof.Tests

set_option Elab.async false

/-! ## States of the tests

A SHF-2180 after reset, and the same part with every domain running in a mode; the other states change a few fields of these. -/

/-- The part after reset, with two dies. -/
def cold : State := { State.reset with variant := .shf2180 }

/-- Every domain and PLL of both dies runs, and the mode is `m`. -/
def live (m : Nat) : State :=
  { cold with rst := { cold.rst with domain := (List.range 20).map (fun k => (k, { running := true })),
                                     pll := (List.range 32).map (fun k => (k, { run := true, stable := true })) } }.put O.MODE m

/-- Ports 0 (UPSTREAM of host 0, x16) and 16 (DOWNSTREAM, x4) are UP in mode `m`. -/
def ports (m : Nat) : State :=
  let s := (((live m).put (O.PORT_ROLE 0) roleUpstream).put (O.HOST_ID 0) 0).put (O.LINK_STATE 0) lsUp
  (s.put (O.PORT_ROLE 16) roleDownstream).put (O.LINK_STATE 16) lsUp

/-- Tenant 5 of host 0 is enabled and admitted. -/
def tenant (m : Nat) : State := ((ports m).put (O.T_CFG 5) (2 ^ 63)).put (O.T_ADMIT 5) 1

/-- The tenant's host has its pool endpoint at vPPB 1, admitted: the way to the tenant's window. -/
def windowed : State := ((tenant mRun).put (O.VPPB_BIND 0 1) (2 ^ 31)).put (O.VPPB_ADMIT 0 1) 1

/-- The ticks that have passed on both dies. -/
def after (n : Nat) (s : State) : State :=
  { s with clk := { s.clk with die := [(0, { now := n, elapsed := n, loaded := true }), (1, { now := n, elapsed := n, loaded := true })] } }

/-- A write of an object is served. -/
def wr (s : State) (ifc : Iface) (o : Obj) (v : Nat) : Bool := s.servesWrite ifc o v

/-- Every test of a list holds. -/
def allOf (l : List Bool) : Bool := l.all id

/-- Sequencer 0 is RUNNING and its word at address 0 is `w`. -/
def seqAt (w : Nat) : State := ((after 0 (live mRun)).put (O.SQ_STATE 0) sqRunning).writeBytes (dportAddr 0x21 0) (bytesOf w 4)

/-- Nothing is owed in a state, and nothing follows in it. -/
def quiet (s : State) : Bool := s.acts.isEmpty && decide (s.follow = s)

/-- A read of an object is served. -/
def rd (s : State) (ifc : Iface) (o : Obj) : Bool := s.servesRead ifc o

/-- The test holds of the value, and there is one. -/
def holds {α : Type} (o : Option α) (p : α → Bool) : Bool := match o with | some a => p a | none => false

/-- The word of a Click instruction with a second register (R385), and of one with an immediate. -/
def wordR (op d a b : Nat) : Nat := op * 2 ^ 27 + d * 2 ^ 24 + a * 2 ^ 21 + b * 2 ^ 17
def wordI (op d a imm : Nat) : Nat := op * 2 ^ 27 + d * 2 ^ 24 + a * 2 ^ 21 + 2 ^ 20 + imm

/-! ## States that meet the hypotheses of the statements

One theorem for each statement with hypotheses: the hypotheses of its clauses, in their order, each at a concrete state; units and
fields are taken at the ends of their ranges. -/

theorem witness_EveryStepKeepsCanonicalForm :
    allOf [decide cold.Canonical, match step cold with | .next _ => true | _ => false] = true := by decide +kernel

theorem witness_FrontCommandRuns : cold.pending = [] := by decide +kernel

theorem witness_UnitsThatExist : allOf [(Instr.tick 1).wf .shf2180, !(Instr.tick 2).wf .shf2180] = true := by decide +kernel

/-- A write of a read-only object, a write and a read that no object or right serves. -/
theorem witness_RefusedAccessChangesNothing :
    let s := live mConfig
    let o : Obj := ⟨0x00, 0, 0⟩
    let x : Obj := ⟨0x00, 0, 0x07⟩
    let y : Obj := O.DBG_AUTH
    allOf [s.hasIfc .ihlod, (s.ifcRefused .ihlod o 1 true).isNone, !s.malformed o 1, !isWindow o,
      (match rowOf s.variant o with | some r => r.slots == 1 | none => false), s.ifcGate .ihlod o true == stOk,
      s.writeCheck .ihlod o true [7] != stOk,
      (s.ifcRefused .ihlod x 1 true).isNone, s.malformed x 1, (s.ifcRefused .ihlod x 1 false).isNone,
      (s.ifcRefused .ihlod ⟨0, 0, 0xF0⟩ 32 true).isNone, s.malformed ⟨0, 0, 0xF0⟩ 32, (s.ifcRefused .inband x 1 true).isNone,
      windowForm (windowOffset x) 8, slotAt (windowOffset x) == x,
      (s.ifcRefused .ihlod y 1 false).isNone, !s.malformed y 1, !isWindow y, s.ifcGate .ihlod y false == stOk,
      s.readStatus .ihlod (s.baseOf y) != stOk] = true := by decide +kernel

/-- BOOT_MODE is no object that SAFE lets a write through to, FC_WINDOW is one, and a LOAD start would be good. -/
theorem witness_SafeModeWrites :
    let s := live mSafe
    let o := O.BOOT_MODE
    let x := O.FC_WINDOW
    let t := (s.put (O.DP_ADDR 1) (0x20 * 2 ^ 56)).put (O.DP_LENGTH 1) 8
    allOf [s.mode == mSafe,
      (match rowOf s.variant o with
       | some r => decide (2 ≤ s.rightTo .ihlod o r) && s.writeAllowed .ihlod o r == stOk && r.acc != .w1c
       | none => false),
      s.ifcGate .ihlod o true == stOk, decide (o.cls ∉ [0x02, 0x03, 0x05, 0x14, 0x40, 0x41, 0x50, 0x51, 0x7F, 0x7E]),
      (match rowOf s.variant x with
       | some r => decide (2 ≤ s.rightTo .ihlod x r) && s.writeAllowed .ihlod x r == stOk && !r.config
       | none => false),
      s.servesObj x, !s.objRetired x, decide (x.cls ∈ [0x02, 0x03, 0x05, 0x14, 0x40, 0x41, 0x50, 0x51, 0x7F, 0x7E]),
      t.mode == mSafe, t.spaceSize (t.get (O.DP_ADDR 1) / 2 ^ 56) == some stagingSize,
      spacePermits (t.get (O.DP_ADDR 1) / 2 ^ 56) dpLoad, t.get (O.DP_ADDR 1) % 256 == 0, t.get (O.DP_LENGTH 1) == 8,
      decide (t.get (O.DP_ADDR 1) % 2 ^ 56 + t.get (O.DP_LENGTH 1) ≤ stagingSize),
      t.get (O.DP_ADDR 1) / 2 ^ 56 != 0x21] = true := by decide +kernel

/-- Levels 1 and 3, with every credential, in each security state. -/
theorem witness_PermittedCredentials :
    let st := fun (k : Nat) => cold.put O.SEC_STATE k
    allOf [decide (3 ≤ (st secManufacture).get O.DBG_MAX_LEVEL),
      decide ((st secRma).get O.DBG_LOCKOUT_UNTIL ≤ (st secRma).now 0),
      (st secManufacture).get O.SEC_STATE == secManufacture, (st secSecured).get O.SEC_STATE == secSecured,
      (st secRma).get O.SEC_STATE == secRma,
      (st secManufacture).authStatus (3 + 256 * 0) == stOk, (st secManufacture).authStatus (1 + 256 * 1) == stDenied,
      (st secSecured).authStatus (2 + 256 * 2) == stDenied, (st secRma).authStatus (1 + 256 * 1) == stDenied] = true := by
  decide +kernel

theorem witness_GroupCommitWait :
    let s := (after 2500 ((ports mRun).put (O.GRP_STATE 0 7) grpCommitting))
    allOf [decide s.Canonical, hasGroup 0 7, s.grpState 0 7 == grpCommitting,
      decide ((s.group 0 7).commitAt + s.get O.GRP_COMMIT_WAIT ≤ s.elapsed (s.hostDie 0))] = true := by decide +kernel

theorem witness_ClearedBits :
    let s := (live mRun).put O.SEC_EVENTS 0xF
    allOf [decide s.Canonical, wr s .ihlod O.SEC_EVENTS 0x5,
      (match rowOf s.variant O.SEC_EVENTS with | some r => r.acc == .w1c | none => false),
      decide ((s.ownerStatus .ihlod O.SEC_EVENTS 0x5).2 = s)] = true := by decide +kernel

/-- The effects that write objects, in states where nothing is owed. -/
theorem witness_ObjectFrames :
    let s := after 0 (live mRun)
    let t := (after 0 (tenant mRun))
    let w := (live mRun).put O.FC_STATE 1
    let w := after (w.get O.FC_WINDOW) w
    let add := seqAt (2 * 2 ^ 27 + 1 * 2 ^ 24 + 2 * 2 ^ 21 + 3 * 2 ^ 17)
    let cmp := seqAt (6 * 2 ^ 27 + 2 * 2 ^ 21 + 3 * 2 ^ 17)
    let op := fun k => seqAt (if k = opLdi then k * 2 ^ 27 + 1 * 2 ^ 24 + 5 else k * 2 ^ 27 + 1 * 2 ^ 24 + 2 * 2 ^ 21 + 3 * 2 ^ 17)
    let good := fun k (x : SqIns → Bool) (f : Nat → State → State) => decide (op k).Canonical && (op k).seqExists 0 &&
      ((op k).sqNext 0 k).any x && decide ((op k).get (O.SQ_PC 0) < 1023) && quiet (f 0 (op k))
    allOf [good opLdi (fun _ => true) fxLdi, good opSub (fun _ => true) fxSub, good opAnd (fun _ => true) fxAnd,
      good opOr (fun _ => true) fxOr] = true ∧ allOf [decide s.Canonical, wr s .ihlod O.DBG_CLOSE 1, quiet ((s.put O.DBG_LEVEL 0).acknowledged .ihlod O.DBG_CLOSE),
      decide t.Canonical, wr t .ihlod (O.USER_READ 5) 1, quiet ((t.put (O.USER_READ 5) 1).acknowledged .ihlod (O.USER_READ 5)),
      decide w.Canonical, quiet (w.put O.FC_STATE 0), w.get O.FC_STATE == 1, decide (w.flt.windowTick + w.get O.FC_WINDOW ≤ w.now 0),
      decide add.Canonical, add.seqExists 0, (add.sqNext 0 opAdd).isSome, decide (add.get (O.SQ_PC 0) < 1023), quiet (fxAdd 0 add),
      decide cmp.Canonical, (cmp.sqNext 0 opCmp).isSome, decide (cmp.get (O.SQ_PC 0) < 1023), quiet (fxCmp 0 cmp)] = true := by decide +kernel

/-- A debug READ of the first bytes of die 0's core memory, and a WRITE of the last of die 1's. -/
theorem witness_MemoryFrames :
    let s := ((after 0 (live mRun)).put O.DBG_LEVEL 2).put (O.CC_STATE 0) ccRunning |>.put (O.CC_STATE 1) ccRunning
    let s := s.setSec (fun x => { x with ir := irAccess, bypassed := false })
    let a := coreAddr 0 0
    let b := coreAddr 1 0xFFFF8
    allOf [decide s.Canonical, s.debugReady, a % 8 == 0, s.debugStatus a false == stOk, spaceOf a != spDict, spaceOf a != spFabric,
      quiet (s.debugDone stOk (ofBytes (s.readBytes (debugMemory a) 8))),
      b % 8 == 0, s.debugStatus b true == stOk, quiet ((s.writeBytes (debugMemory b) (bytesOf 7 8)).debugDone stOk 0)] = true := by decide +kernel

theorem witness_DictionaryReads :
    let s := live mRun
    let e := (s.put (O.ERROR_COUNT 0) 2)
    let w := windowOffset O.PART_CODE
    let b := (tenant mRun).setMailbox 5 (fun m => { m with object := O.PART_CODE.number, op := 1, busy := true })
    allOf [rd s .ihlod O.PART_CODE, !s.clearsOnRead O.PART_CODE,
      rd s .ihlod (O.DOWN_COUNT 3), s.clearsOnRead (O.DOWN_COUNT 3),
      rd e .ihlod (O.ERROR_COUNT 0), e.clearsOnRead (O.ERROR_COUNT 0),
      windowForm w 8, rd s .inband (slotAt w), !s.clearsOnRead (slotAt w), !windowForm w 12,
      windowed.windowWay 5 == some (0, 1), windowed.get (O.VPPB_ADMIT (windowed.tenantHost 5) 1) != 0, !(windowed.dict.mailbox.at 5).busy,
      (b.dict.mailbox.at 5).busy, (b.dict.mailbox.at 5).op == 1, b.mbxNext 5, rd b (.mailbox 5) (Obj.ofNumber (b.dict.mailbox.at 5).object),
      !b.clearsOnRead (Obj.ofNumber (b.dict.mailbox.at 5).object)] = true := by decide +kernel

/-- An RW-T object is staged by the Ihlod link's open transaction. -/
theorem witness_DictionaryWrites :
    let s := live mRun
    let w := windowOffset O.FC_WINDOW
    let v := s.get O.FC_WINDOW
    let t := fxTxOpen 1 (live mConfig)
    let o := O.VPPB_BIND 0 15
    allOf [wr s .ihlod O.FC_WINDOW v, (rowOf s.variant O.FC_WINDOW).isSome,
      t.hasIfc .ihlod, (t.ifcRefused .ihlod o 1 true).isNone, !t.malformed o 1, !isWindow o,
      holds (rowOf t.variant o) (fun r => r.slots == 1 && r.acc == .rwt), t.ifcGate .ihlod o true == stOk, ifcTx .ihlod == some 1,
      t.writeCheck .ihlod o true [0] == stOk, (t.tx.at 1).staged.isEmpty,
      (bytesOf v 8).length == 8, windowForm w 8, wr s .inband (slotAt w) (ofBytes (bytesOf v 8)),
      !windowForm w 12, windowed.windowWay 5 == some (0, 1), windowed.get (O.VPPB_ADMIT (windowed.tenantHost 5) 1) != 0,
      !(windowed.dict.mailbox.at 5).busy,
      wr s .ihlod (O.QUERY_OBJECT 0) O.PART_CODE.number] = true := by decide +kernel

theorem witness_DataPort :
    let s := ((live mConfig).put (O.DP_ADDR 0) (0x20 * 2 ^ 56)).put (O.DP_LENGTH 0) 8
    let r := fxDpStart 0 2 s
    let l := fxDpStart 0 1 s
    let o := O.DP_DATA 0 0
    allOf [wr s .ihlod (O.DP_OP 0) 1, wr s .ihlod (O.DP_OP 0) 2, r.get (O.DP_STATE 0) == dpActive, wr r .ihlod (O.DP_OP 0) 0,
      r.windowOpen 0 dpDump, r.get (O.DP_ADDR 0) / 2 ^ 56 != 0x10, r.readStatus (portIfc 0) ⟨0x7E, 0, 0x20⟩ == stOk, decide (r.burstStatus 0 dpDump 0 = (stOk, r)), (r.frameReads 0).isNone,
      l.hasIfc .ihlod, (l.ifcRefused .ihlod o 1 true).isNone, !l.malformed o 1, l.ifcGate .ihlod o true == stOk,
      l.writeStatus .ihlod ⟨0x7E, 0, 0x20⟩ == stOk, (l.dpWrite 0 0 [5]).1 == stOk,
      (r.ifcRefused .ihlod o 1 false).isNone, !r.malformed o 1, r.ifcGate .ihlod o false == stOk, r.readStatus .ihlod ⟨0x7E, 0, 0x20⟩ == stOk,
      (r.dpRead 0 0 1).1 == stOk, (r.dpRead 0 0 1).2.1.length == 1] = true := by decide +kernel

/-- The reference: present, lost, in holdover; the offsets of an edge; a slew; FT_SYNC missing; TOD_LOAD. -/
theorem witness_TimeReference :
    let s := live mRun
    let l : State := { s.put O.FT_STATE ftLocked with clk := { s.clk with refEdges := true, refGood := true } }
    let seen := fun (s : State) => ({ s with clk := { s.clk with syncSeen := s.elapsed 0, syncMissed := false } } : State)
    let off : State := { l with clk := { (after 1 l).clk with refEdges := true, refGood := true } }
    let g := (s.put O.FT_STATE ftHoldover)
    let after1024 := fun (s : State) => ({ s with clk := { s.clk with die := (after 1024 s).clk.die } } : State)
    let g := after1024 ({ g with clk := { g.clk with refEdges := true, goodWindows := 1 } } : State)
    let a : State := { s.put O.FT_STATE ftAcquiring with clk := { s.clk with slewLeft := 2 } }
    let slew : State := { a with clk := { (after 64 a).clk with slewLeft := 2 } }
    let h := after 0x20000000 ((s.put O.FT_STATE ftHoldover).put O.HOLDOVER_LIMIT 5)
    let m := after 27500000 (s.put O.FT_STATE ftLocked)
    allOf [decide l.Canonical, l.clk.refEdges, l.ftState == ftLocked, (after1024 l).now 0 % 1024 == 0, (after1024 l).windowEnds, (after1024 l).clk.refGood,
      g.now 0 % 1024 == 0, g.windowEnds, g.clk.refEdges, !g.clk.windowSpoilt, !g.clk.refGood, g.clk.goodWindows == 1, g.ftState == ftHoldover,
      decide (l.syncOffset = 0), !(seen l).todDue,
      decide off.Canonical, off.clk.refEdges, off.ftState == ftLocked, decide (off.syncOffset ≠ 0), !(seen off).todDue,
      slew.ftState == ftAcquiring, decide (slew.clk.slewLeft = 2), decide (slew.clk.slewAt + 64 ≤ slew.elapsed 0),
      h.ftState == ftHoldover, decide (h.get O.HOLDOVER_START + h.get O.HOLDOVER_LIMIT + 1 ≤ h.now 0),
      m.ftState == ftLocked, !m.clk.syncMissed, decide (m.clk.syncSeen + 27500000 ≤ m.elapsed 0),
      wr s .ihlod O.TOD_LOAD 25000000] = true := by decide +kernel

/-- Messages for the dies at either side of link 4. -/
theorem witness_DieTime :
    let s := live mRun
    let t := after 200 s
    let f := fun (d : Nat) => (s.put (O.D2D_STATE 4) d2dUp).setLink (s.peerLink 4) (fun k => { k with bwire := [{ type := bTimeSync, dst := d, args := [7, 3, 1] }] })
    allOf [decide (1 < s.dies), s.counting 0, s.counting 1, decide (s.now 1 + 1 < 2 ^ 64), s.now 0 % 25 == 0,
      decide t.Canonical, (t.time 1).loaded, !(t.time 1).flagged, decide ((t.time 1).lastSync + 200 ≤ t.elapsed 1),
      decide (4 < 4 * s.dies), holds ((f 0).takeBypass ((f 0).peerLink 4) bTimeSync) (fun x => x.1.dst != 4 / 4),
      holds ((f 1).takeBypass ((f 1).peerLink 4) bTimeSync) (fun x => x.1.dst == 4 / 4 && !(x.2.time (4 / 4)).loaded)] = true := by
  decide +kernel

/-- The transaction of the Ihlod link in each state that a command takes. -/
theorem witness_TransactionCommands :
    let s := live mConfig
    let o := fxTxOpen 1 s
    let r := (after 0 ((o.put (O.TX_STATE 1) txReady).put (O.TX_INSTANT 1) (s.get O.TX_MIN_LEAD))).put O.FT_STATE ftLocked
    let c := o.put (O.TX_STATE 1) txScheduled |>.put (O.TX_INSTANT 1) 100000
    allOf [wr s .ihlod (O.TX_CMD 1) txcOpen, wr (o.stageObj 1 (O.PORT_ROLE 0) [1]).2 .ihlod (O.TX_CMD 1) txcPrepare,
      wr r .ihlod (O.TX_CMD 1) txcCommitAt, wr r .ihlod (O.TX_CMD 1) txcAbort, wr c .ihlod (O.TX_CMD 1) txcCancel] = true := by decide +kernel

/-- A set that passes, one that does not, and one in each later state. -/
theorem witness_TransactionEvents :
    let s := live mConfig
    let o := fxTxOpen 1 s
    let good := fxTxPrepare 1 (o.stageObj 1 (O.PORT_ROLE 0) [1]).2
    let p := fxTxPrepare 1 (o.stageObj 1 (O.VPPB_BIND 0 0) [2 ^ 30 + 16]).2
    let r := after 5 (o.put (O.TX_STATE 1) txReady)
    let c := (o.put (O.TX_STATE 1) txScheduled).put (O.TX_INSTANT 1) 10
    let l := after 10 ((o.put (O.TX_STATE 1) txLocked).put (O.TX_INSTANT 1) 10)
    allOf [hasTx 1, hasTx 4, good.get (O.TX_STATE 1) == txPreparing, (good.validate 1).status == stOk,
      p.get (O.TX_STATE 1) == txPreparing, (p.validate 1).status != stOk,
      decide r.Canonical, r.get (O.TX_STATE 1) == txReady, decide (r.get (O.TX_READY_AT 1) + (r.tx.at 1).readyLimit < r.now 0),
      c.get (O.TX_STATE 1) == txScheduled, decide (c.get (O.TX_INSTANT 1) ≤ c.now 0 + c.get O.TX_LOCK_LEAD), decide c.Canonical,
      decide l.Canonical, l.get (O.TX_STATE 1) == txLocked, txInstances.all (fun y => y == 1 || l.get (O.TX_STATE y) != txLocked),
      decide (l.get (O.TX_INSTANT 1) ≤ l.now 0), !l.isBindEpoch 1] = true := by decide +kernel

/-- A port at each place of its training. -/
theorem witness_PortTraining :
    let s := ports mRun
    let stable := fun (s : State) => (s.setPll 0 2 { run := true, stable := true }).setPll 1 2 { run := true, stable := true }
    let t := stable (((s.put (O.LINK_STATE 16) lsTraining).setPort 16 (fun r =>
      { r with attemptAt := some 0, present := true, enabled := true, perstOut := false, maxRate := s.get (O.MAX_RATE 16), minWidth := s.get (O.MIN_WIDTH 16) })))
    let late := after (t.get (O.TRAIN_TIMEOUT 16)) t
    let last := late.setPort 16 (fun r => { r with fails := late.get (O.TRAIN_RETRIES 16) - 1 })
    let d := stable ((s.put (O.LINK_STATE 16) lsDetect).setPort 16 (fun r => { r with present := true, enabled := true, want := true }))
    let pause := after 25000 (d.setPort 16 (fun r => { r with pauseAt := some 0 }))
    let hold := after (d.get (O.PERST_HOLD 16)) (d.setPort 16 (fun r => { r with seqAt := some 0 }))
    let rec_ := (s.put (O.LINK_STATE 16) lsRecovery).setPort 16 (fun r => { r with outSince := some 0, maxRate := 0x80, minWidth := 1 })
    let drop := after (s.get (O.DROP_TIME 16)) rec_
    allOf [decide t.Canonical, decide (16 < t.ports), t.lanesRun 16, t.linkState 16 == lsTraining, (t.port 16).attemptAt == some 0,
      t.rateOk 16 0x80, t.widthOk 16 4 false, (t.protocolsOf 16 31).testBit 4,
      decide last.Canonical, (last.port 16).attemptAt == some 0, decide (0 + last.get (O.TRAIN_TIMEOUT 16) ≤ last.portClock 16), last.linkState 16 == lsTraining,
      decide (last.get (O.TRAIN_RETRIES 16) ≤ (last.port 16).fails + 1),
      decide late.Canonical, (late.port 16).attemptAt == some 0, decide (0 + late.get (O.TRAIN_TIMEOUT 16) ≤ late.portClock 16), late.linkState 16 == lsTraining,
      decide ((late.port 16).fails + 1 < late.get (O.TRAIN_RETRIES 16)),
      (pause.port 16).pauseAt == some 0, decide (25000 ≤ pause.portClock 16), pause.trainMode, pause.slotPowerOk 16,
      (pause.setPort 16 (fun r => { r with pauseAt := none })).mayTrain 16,
      (hold.port 16).seqAt == some 0, decide (hold.get (O.PERST_HOLD 16) ≤ hold.portClock 16), hold.mayTrain 16,
      decide s.Canonical, s.linkState 16 == lsUp, decide rec_.Canonical, rec_.linkState 16 == lsRecovery, rec_.rateOk 16 0x80, rec_.widthOk 16 4 false,
      decide drop.Canonical, (drop.port 16).outSince == some 0, drop.linkState 16 == lsRecovery,
      decide (drop.get (O.DROP_TIME 16) ≤ drop.portClock 16)] = true := by decide +kernel

/-- PERST_N at port 0, and a device at port 16 that comes and goes: one of each at its least number of ticks. -/
theorem witness_PortSideband :
    let s := ports mRun
    let d := ((s.put (O.LINK_STATE 0) lsDetect).setPort 0 (fun r => { r with perstIn := true }))
    let a := s.put (O.LINK_STATE 16) lsDetect
    let p := s.setPort 16 (fun r => { r with present := true })
    allOf [decide s.Canonical, decide (0 < s.ports), s.role 0 == roleUpstream, s.linkAlive 0,
      d.role 0 == roleUpstream, (d.port 0).perstIn, d.linkState 0 == lsDetect, (d.setPort 0 (fun r => { r with perstIn := false })).mayTrain 0,
      decide (((d.setPort 0 (fun r => { r with perstIn := false })).port 0).pauseAt = none),
      decide (31 < s.ports), !(s.port 31).present, decide (s.get (O.PRESENCE_DEBOUNCE 31) ≤ s.get (O.PRESENCE_DEBOUNCE 31)),
      decide a.Canonical, !(a.port 16).present, a.role 16 == roleDownstream, a.linkState 16 == lsDetect, a.get (O.HOTPLUG_CTRL 16) == 0,
      !(a.port 16).cmdDisabled, a.trainMode, (a.port 16).seqAt.isNone, a.slotPowerOk 16,
      decide p.Canonical, (p.port 16).present, p.role 16 == roleDownstream, p.linkState 16 == lsUp] = true := by decide +kernel

/-- Port 16 UP, and DISABLED. -/
theorem witness_PortCommands :
    let s := ports mRun
    let d := s.put (O.LINK_STATE 16) lsDisabled
    let u := s.put (O.LINK_STATE 0) lsDisabled
    let f := s.put (O.LINK_STATE 16) lsFailed
    let on := f.setPort 16 (fun r => { r with present := true })
    let idle := (s.put (O.LINK_STATE 16) lsDetect)
    let ready := idle.setPort 16 (fun r => { r with present := true, perstOut := false })
    allOf [wr on .ihlod (O.LINK_CTRL 16) 1, (on.setPort 16 (fun r => { r with fails := 0 })).mayTrain 16, (on.port 16).present, on.slotPowerOk 16,
      wr f .ihlod (O.LINK_CTRL 16) 1, f.linkState 16 == lsFailed, !(f.port 16).present, f.role 16 == roleDownstream,
      wr ready .ihlod (O.LINK_CTRL 16) 1, ready.linkState 16 == lsDetect, (ready.port 16).pauseAt.isNone, ready.canAttempt 16,
      wr idle .ihlod (O.LINK_CTRL 16) 1, !idle.canAttempt 16, wr idle .ihlod (O.LINK_CTRL 16) 4, !idle.linkAlive 16,
      wr s .ihlod (O.LINK_CTRL 0) 4, (s.resetFunctions 0).linkAlive 0] = true ∧ allOf [wr s .ihlod (O.LINK_CTRL 16) 1, s.linkState 16 == lsUp,
      wr d .ihlod (O.LINK_CTRL 16) 2, decide d.Canonical,
      wr s .ihlod (O.LINK_CTRL 16) 2, s.linkAlive 16, decide s.Canonical,
      wr u .ihlod (O.LINK_CTRL 0) 3, u.role 0 != roleDownstream, u.linkState 0 == lsDisabled,
      wr d .ihlod (O.LINK_CTRL 16) 3, d.role 16 == roleDownstream, d.linkState 16 == lsDisabled,
      wr s .ihlod (O.LINK_CTRL 16) 4, s.role 16 == roleDownstream, s.linkAlive 16] = true := by decide +kernel

/-- A tag slot of port 16 that is outstanding, one that its timer quarantines and one whose quarantine ends. -/
theorem witness_PortTraffic :
    let s := ports mRun
    let o := s.setTag 16 3 (fun _ => { state := 1 })
    let m := (o.tagSlot 16 3).msg.response 3 0 7 false (o.stamp (dieOfPort 16))
    let v := (o.receiveCell 16 m).2.observe 16 0 m
    let e := after (s.get (O.CPL_TIMEOUT 16)) o
    let q := after (s.get (O.CPL_TIMEOUT 16)) (s.setTag 16 4095 (fun _ => { state := 2, upAt := some 0 }))
    let g : State := { s with prt := { s.prt with margin := [127] } }
    let late := s.setTag 16 3 (fun _ => { state := 2, held := true, epoch := 0 })
    let free := (s.tagSlot 16 4095).msg.response 4095 0 7 false (s.stamp (dieOfPort 16))
    let gone := (s.receiveCell 16 free).2.observe 16 0 free
    let ide := s.put (O.IDE_STATE 16) 2
    allOf [(late.tagSlot 16 3).state == 2, (late.tagSlot 16 3).held, 3 / 4096 % 16 == (late.tagSlot 16 3).epoch, s.carries 16,
      (s.tagSlot 16 4095).state != 1, (s.tagSlot 16 4095).state != 2, decide (gone.tagSlot 16 4095 = s.tagSlot 16 4095),
      decide s.Canonical, decide ide.Canonical, ide.linkState 16 == lsUp,
      (ide.perfCount (dieOfPort 16) evRxFlits 16 noTenant 1).get (O.IDE_STATE 16) == 2] = true ∧ allOf [decide (16 < s.ports), s.role 16 == roleDownstream, o.carries 16, 3 / 4096 % 16 == v.get (O.LINK_EPOCH 16), (o.tagSlot 16 (3 % 4096)).state == 1,
      3 / 4096 % 16 == o.get (O.LINK_EPOCH 16),
      (e.tagSlot 16 3).state == 1, decide ((e.tagSlot 16 3).sentAt + e.get (O.CPL_TIMEOUT 16) ≤ e.portClock 16),
      q.slotsOf 16 == [4095], (q.tagSlot 16 4095).state == 2, (q.tagSlot 16 4095).upAt == some 0, decide (0 + q.get (O.CPL_TIMEOUT 16) ≤ q.portClock 16),
      s.linkState 16 == lsUp, 67 / 4 == 16, wr s .ihlod (O.MARGIN_CTRL 64) 0, decide (127 < 64 * g.dies), decide (127 ∈ g.prt.margin)] = true := by decide +kernel

/-- Requests of host 0 that a tracker takes and that wait, a map entry, and an atomic of die 1 on each of its ways. -/
theorem witness_HostRequests :
    let s := (ports mRun).put (O.PROTOCOLS 0) 7
    let asked := fun (s : State) => { hostReqOf 0 .memRd 2 0x40 9 0 0 false 0 with
      origin := s.stamp (dieOfPort 0), evict := s.evictClass (hostReqOf 0 .memRd 2 0x40 9 0 0 false 0) }
    let taken := fun (s : State) => s.receiveCell 0 ((asked s).toMsg (s.get (O.HOST_ID 0))) (asked s).evict
    let drop : State := { s with dir := { s.dir with dropWait := [0] } }
    let b : State := { s with map := { s.map with bad := [{ die := 1, granule := true, index := 9, since := 0 }] } }
    let atomicMsg : Msg :=
      { type := .req, kind := .atomic, channel := 7, host := s.get (O.HOST_ID 0), hpa := 0x40, tag := 9, data := 1 % 256 ^ 8, len := 8,
        opcode := 0x4C + 1 % 4, owner := .host (s.get (O.HOST_ID 0)) 9, origin := s.stamp (dieOfPort 0) }
    let swapMsg : Msg := { atomicMsg with data := 3 % 256 ^ 16 + 1 % 256 ^ 16 * 256 ^ 16, len := 2 * 16, opcode := 0x4C + 2 % 4 }
    let a : PrivAtomic := { die := 1, id := 4, phase := 0, port := 17, msg := {}, atomic := {}, original := 0, owner := .none, target := { port := 17 } }
    let put := fun (a : PrivAtomic) => ({ s with dir := { s.dir with atomics := [a] } } : State)
    let found := fun (a : PrivAtomic) => holds ((put a).dir.atomics.find? (fun a => a.die == 1 && a.id == 4)) (fun a => a.phase == 0 && !(put a).atomicBlocked a)
    allOf [s.carries 0, s.role 0 == roleUpstream, s.speaks 0 1, !(taken s).2.dieSafe 0, ((taken s).2.admissible { asked s with cell := (taken s).1 }).isSome,
      !(taken s).2.rq.waiting.any (fun w => w.port == 0 && w.evict == (asked s).evict),
      drop.carries 0, drop.role 0 == roleUpstream, drop.speaks 0 1, !(taken drop).2.dieSafe 0,
      ((taken drop).2.admissible { asked drop with cell := (taken drop).1 }).isNone,
      decide (1 < b.dies), b.mapBad 1 true 9, b.map.hold == [], !(s.receiveCell 0 atomicMsg).2.dieSafe 0, !(s.receiveCell 0 swapMsg).2.dieSafe 0,
      found a, !(put a).linkAlive 17,
      found { a with port := 16, msg := { device := some 0x1000 } }, (put { a with port := 16, msg := { device := some 0x1000 } }).linkAlive 16,
      found { a with port := 16 }, (put { a with port := 16 }).linkAlive 16, !(put { a with port := 16 }).holdsCell 1 0] = true := by decide +kernel

/-- A CXL.io completion waits at port 0, without a cell; both dies are due for a refill. -/
theorem witness_EgressAndShapers :
    let s := (live mRun).freshPortLoops 0
    let s := ((s.put (O.PORT_ROLE 0) roleUpstream).put (O.LINK_STATE 0) lsUp)
    let s := s.gainCredit 0 0 5
    let q := State.work 10 (s.arrive 0 { type := .cmp 0, owner := .tracker 0 3 } true)
    let r := after 25 (live mRun)
    allOf [decide (0 < q.ports), q.linkState 0 == lsUp, q.get (O.IDE_STATE 0) == 0,
      holds (q.selectMsg 0) (fun x => !(x.1.needsTag && q.role 0 == roleDownstream && (q.freeTag 0).isNone) && decide (x.1.type ≠ .req) &&
        !(x.2.readOut (dieOfPort 0) x.1.cell (beatsOf x.1.payload) 0).1),
      decide (1 < r.dies), r.datapathOn, !r.applyDue, r.now 1 % 25 == 0, decide (r.qos.refilled.find 1 ≠ some (r.elapsed 1))] = true := by decide +kernel

/-- Logical device 0 of port 16 is bound to vPPB 2 of host 0, and both ports speak CXL.mem with back-invalidation. -/
def bound : State :=
  ((((ports mRun).put (O.VPPB_BIND 0 2) (2 ^ 30 + 5 * 2 ^ 16 + 16)).put (O.PROTOCOLS 0) 15).put (O.PROTOCOLS 16) 15)

theorem witness_HostAndDeviceIo :
    let s := ports mRun
    let u := (bound.receiveCell 16 (bound.devMsg 16 0 (.bisnp 1) 0x40 0 0 9)).2
    let got := fun (op : IoOp) => (s.receiveCell 0 (s.ioMsg 0 (s.get (O.HOST_ID 0)) op 0x40 4 0 9)).2
    let safe := s.put O.MODE mSafe
    let c : State := { s with io := { s.io with up := [{ port := 0, tag := 9, device := 16, ld := 0, devTag := 3, tenant := 5, kind := 0 }] } }
    let b := bound.put (O.T_ADMIT 5) 1
    let v := (b.receiveCell 16 (b.devMsg 16 0 .ioRead 0x40 4 0 9)).2
    allOf [safe.role 0 == roleUpstream, safe.carries 0, [IoOp.cfgRead, .cfgWrite, .memRead, .memWrite].all (fun op =>
        (safe.receiveCell 0 (safe.ioMsg 0 (safe.get (O.HOST_ID 0)) op 0x40 4 0 9)).2.dieSafe 0),
      (s.io.up.find? (fun u => u.port == 0 && u.tag == 9 && u.kind == 0)).isNone, (c.io.up.find? (fun u => u.port == 0 && u.tag == 9 && u.kind == 0)).isSome,
      bound.role 0 == roleUpstream, bound.carries 0, bound.speaks 0 2,
      b.role 16 == roleDownstream, b.carries 16, b.speaksFor 16 .ioRead, (b.devMsg 16 0 .ioRead 0x40 4 0 9).type == .req,
      (v.boundTo 16 0).isSome, !v.dieSafe (dieOfPort 16), v.hostPort 0 == some 0, !v.tenantRefuses (bindTenant (2 ^ 30 + 5 * 2 ^ 16 + 16)), v.speaksFor 0 .ioRead,
      !(s.receiveCell 16 (s.devMsg 16 0 .ioRead 0x40 4 0 9)).2.dieSafe (dieOfPort 16)] = true ∧ allOf [decide (0 < s.ports), s.role 0 == roleUpstream, s.carries 0, [IoOp.cfgRead, .cfgWrite, .memRead, .memWrite].all (fun op => !(got op).dieSafe 0),
      decide (16 < s.ports), s.role 16 == roleDownstream, s.carries 16, s.speaksFor 16 .ioRead,
      decide ((s.receiveCell 16 (s.devMsg 16 0 .ioRead 0x40 4 0 9)).2.boundTo 16 0 = none),
      bound.role 16 == roleDownstream, bound.carries 16, bound.speaksFor 16 (.bisnp 1), decide (u.boundTo 16 0 = some (0, 2, 2 ^ 30 + 5 * 2 ^ 16 + 16)),
      !u.dieSafe (dieOfPort 16), decide (u.hostPort 0 = some 0), u.speaksFor 0 (.bisnp 1)] = true := by decide +kernel

/-- The FM's transaction is free; staged entries of both maps; a migration slot that has drained. -/
theorem witness_Bindings :
    let s := ports mRun
    let s := (s.put (O.PORT_ROLE 4) roleFm).put (O.LINK_STATE 4) lsUp
    let t := fxTxOpen txFm s
    let m := ((live mConfig).put (O.MIG_STATE 31) migDraining)
    let x : State := { live mRun with map := { (live mRun).map with extStage := [(1, 5)], grnStage := [(2, 5)] } }
    allOf [s.fmReady, s.txCmdStatus txFm txcOpen == stOk,
      t.writeCheck .inband (O.VPPB_BIND 0 15) true [2 ^ 30 + 5 * 2 ^ 16 + 0 * 2 ^ 8 + 16] == stOk, t.writeCheck .inband (O.VPPB_BIND 63 0) true [0] == stOk,
      wr s .ihlod (O.VPPB_ADMIT 0 15) 1, wr s .ihlod (O.VPPB_ADMIT 0 15) 0, wr s .ihlod (O.DEC_ADMIT 0) 1,
      wr x .ihlod O.SHADOW_DISCARD 1, wr x .ihlod O.SHADOW_DISCARD 2, hasMig 31, m.get (O.MIG_STATE 31) == migDraining,
      decide ((m.get O.BIND_EPOCH + 2 ^ 32 - m.drainedEpoch) % 2 ^ 32 ≤ (m.get O.BIND_EPOCH + 2 ^ 32 - (m.migSlot 31).epoch) % 2 ^ 32)] = true := by decide +kernel

/-- The directory is ACTIVE, and a request of a class of host 1 waits for line 0x40 at die 1. -/
def atHomeOf (c : HomeClass) : State :=
  let s := (ports mRun).put O.DIR_STATE 2
  { s with dir := { s.dir with queue := [{ cls := c, die := 1, line := 0x40, host := 1 }] } }

/-- The request of that class is ready, and the test holds of it and of the state without it. -/
def readyAnd (c : HomeClass) (p : HomeReq → State → Bool) : Bool :=
  let s := (atHomeOf c).absorbFirst 1 (lineOf 0x7F)
  holds (s.nextOf 1 (lineOf 0x7F)) (fun q => q.cls == c && s.canServe q && p q (s.unqueue q))

theorem witness_HomeServes :
    let ready := fun (c : HomeClass) => readyAnd c (fun _ _ => true)
    allOf [decide (1 < (ports mRun).dies), ready .rdS, ready .rdOwn, ready .rdCur, ready .upgrade, ready .atomic, ready .pin, ready .mark,
      readyAnd .claim (fun q u => !u.linePinned q.die q.line && decide (u.olderClaims q = [])), ready .unpin] = true := by decide +kernel

/-- A writeback of a host that has a BISnp, and answers of host 0 for a line that it has mapped. -/
theorem witness_HomeAbsorbs :
    let s := ((ports mRun).put O.DIR_STATE 2).put (O.PROTOCOLS 0) 15
    let e := atHomeOf .cleanEvict
    let w := atHomeOf .memWrite
    let w : State := { w with dir := { w.dir with snoop := [{ die := 1, txn := 3, host := 1, line := 0x40, hpa := 0x40, kind := 0, since := 0, sent := true }] } }
    let b := after (s.get O.BI_TIMEOUT) { s with dir := { s.dir with snoop := w.dir.snoop } }
    let wb : WriteBack := { die := 1, id := 9, line := 0x40, data := 0, poison := false, host := 1, owner := .none, cell := 0, acked := 1, req := {} }
    let k : State := { s with dir := { s.dir with wb := [wb] } }
    let a := after (s.get O.ALLOC_WAIT) s
    let a : State := { a with dir := { a.dir with stalled := [{ req := { die := 1, line := 0x40 }, since := 1 }] } }
    let m := (s.put (O.DEC_ENABLE 0) 1).put (O.DEC_HPA_SIZE 0) (2 ^ 31)
    let answer := fun (s : State) (type : MsgType) (channel opcode : Nat) =>
      let m : Msg := { type := type, kind := .other, channel := channel, opcode := opcode, host := s.get (O.HOST_ID 0), hpa := 0x40, origin := s.stamp 0 }
      holds (s.faOf (s.get (O.HOST_ID 0)) 0x40) (fun fa => decide (((s.receiveCell 0 m).2.observe 0 0 { m with fa := fa, hasFa := true }).rq.delivered.find?
        (fun b => b.port == 0 && lineOf b.hpa == lineOf 0x40) = s.rq.delivered.head?))
    let sent := fun (device : Bool) => ({ m with rq := { m.rq with delivered := [⟨0, 0x40, device, 16, 0⟩] } } : State)
    allOf [decide (1 < s.dies), hasHost 1, hasHost 63, e.get O.DIR_STATE == 2,
      (e.dir.queue.find? (fun q => q.die == 1 && q.line == lineOf 0x40 && q.host == 1 && q.cls == .cleanEvict)).isSome,
      w.get O.DIR_STATE == 2, (w.dir.queue.find? (fun q => q.die == 1 && q.line == lineOf 0x40 && q.host == 1 && w.isWriteback q)).isSome,
      decide (k.dir.wb = [wb]), !k.snoopOpen 1 1 0x40,
      decide (((({ k with dir := { k.dir with wb := [] } } : State).freeCell 1 0).reply 1
        { die := 1, line := 0x40, host := 1, owner := .none } (.cmp 0) 0 false 0).homeTxn 1 9 = none),
      m.carries 0, m.role 0 == roleUpstream, m.speaks 0 3, answer (sent false) (.birsp 2) 2 2, answer (sent true) (.birsp 2) 2 2, answer m .biConflict 1 4,
      w.snoopOpen 1 1 0x40,
      [b, b.absorbFirst 1 (lineOf 0x40)].all (fun b => (b.dir.snoop.find? (fun x => x.die == 1 && x.host == 1 && x.line == lineOf 0x40 && x.sent &&
        decide (x.since + b.get O.BI_TIMEOUT ≤ b.elapsed 1))).isSome),
      holds (a.dir.stalled.find? (fun t => t.req.die == 1 && t.req.line == lineOf 0x40 && t.since != 0 &&
        decide (t.since - 1 + a.get O.ALLOC_WAIT ≤ a.elapsed 1))) (fun t => t.req.returns != 15)] = true := by decide +kernel

/-- A sweep of die 1 that waits, one that has walked, one whose bank is done, and a directory that is cleared in RUN and in INIT. -/
theorem witness_Sweeps :
    let s := (live mRun).put O.DIR_STATE 2
    let w : Sweep := { kind := 1, die := 1, arg := 3, mask := 0, started := false, since := 0, done := false, granted := 0, lost := 0, serial := 0 }
    let put := fun (s : State) (w : Sweep) => ({ s with dir := { s.dir with sweep := [w] } } : State)
    let first := put s w
    let walk := put (after 256 s) { w with started := true }
    let walked := put (after 256 s) { w with kind := 2, arg := 15, started := true }
    let bank := put s { w with kind := 2, arg := 15, started := true, done := true }
    let m := (live mMaint).put O.DIR_STATE 2
    let c := (live mConfig).put O.DIR_STATE 1
    let i := ((live mInit).put O.DIR_STATE 1).setRst (fun r => { r with initTested := [(0, true), (1, true)] })
    let b := after (s.get O.SCRUB_PERIOD) { s with dir := { s.dir with lastScrub := [(1, 0)] } }
    allOf [wr (s.put (O.SR_STATE 0) 1) .ihlod (O.SR_RECALL 0) 1, wr m .ihlod (O.BANK_RETIRE 1) 15, decide (1 < s.dies),
      decide (first.dir.sweep.filter (fun w => w.die == 1 && !w.done) = [w]), !w.started, first.get O.DIR_STATE == 2,
      walk.homeServes 1, walked.homeServes 1, decide (bank.get O.DIR_STATE ≠ 3),
      holds (walk.dir.sweep.find? (fun w => w.die == 1 && w.started && !w.done)) (fun w => decide (w.since + 256 ≤ walk.elapsed 1) &&
        !walk.dir.queue.any (fun q => q.cls == .sweep && !q.isVictim && q.die == 1 && q.slot == w.serial) &&
        !walk.dir.txn.any (fun t => t.req.cls == .sweep && !t.req.isVictim && t.req.die == 1 && t.req.slot == w.serial)),
      holds (walked.dir.sweep.find? (fun w => w.die == 1 && w.started && !w.done)) (fun w => w.kind == 2 && (walked.recallReqs w).isEmpty &&
        !walked.dir.txn.any (fun t => t.req.die == 1 && walked.servedBank 1 t.req.line == w.arg) &&
        !walked.dir.stalled.any (fun t => t.req.die == 1 && walked.servedBank 1 t.req.line == w.arg)),
      (bank.dir.sweep.find? (fun w => w.die == 1 && w.kind == 2 && w.arg == 15 && w.done)).isSome, (bank.foldTarget 1 15).isSome,
      (List.range c.dies).all (fun d => c.domainOn d dDirectory), c.mode != mInit, c.get O.DIR_STATE == 1,
      (List.range i.dies).all (fun d => i.domainOn d dDirectory), i.mode == mInit, (List.range i.dies).all (fun d => i.rst.initTested.at d),
      i.get O.DIR_STATE == 1, s.get O.DIR_STATE == 2, !s.dir.sweep.any (fun w => w.die == 1 && w.started && !w.done),
      b.get O.DIR_STATE == 2, !b.dir.sweep.any (fun w => w.die == 1 && w.started && !w.done), b.dir.lastScrub.find 1 == some 0,
      decide (0 + b.get O.SCRUB_PERIOD ≤ b.elapsed 1)] = true := by decide +kernel

/-- Host 0 has its pool endpoint at vPPB 1, admitted, and a decoder with aliases. -/
theorem witness_GroupRequests :
    let s := ((ports mRun).put (O.VPPB_BIND 0 1) (2 ^ 31)).put (O.VPPB_ADMIT 0 1) 1
    let s := after 100 (s.put (O.PROTOCOLS 0) 7)
    let d := ((s.put (O.DEC_ENABLE 0) 1).put (O.DEC_CTRL 0) (2 ^ 31)).put (O.DEC_HPA_SIZE 0) (2 ^ 31)
    let takes := fun (op : MemOp) =>
      let q := hostReqOf 0 op metaI (2 ^ 28) 9 0 0 false 0
      let r := { q with origin := d.stamp 0, evict := d.evictClass q }
      let got := d.receiveCell 0 (r.toMsg (d.get (O.HOST_ID 0))) r.evict
      !got.2.dieSafe 0 && (got.2.admissible { r with cell := got.1 }).isSome && !got.2.rq.waiting.any (fun w => w.port == 0 && w.evict == r.evict)
    let g := fun (k state : Nat) => s.put (O.GRP_STATE 0 k) state
    let unadmitted := (s.put (O.VPPB_ADMIT 0 1) 0).gdbReceive 0 1 0 1
    let got := fun (k state cmd : Nat) (judged : List Nat) =>
      let s := g k state
      let r := s.gdbReceive 0 k (s.get (O.GRP_GEN 0 k)) cmd
      (s.poolVppb 0).isSome && r.poolOpen 0 && !r.dieSafe (dieOfPort 0) && judged.contains (r.judgedState 0 k) && r.grpState 0 k == state &&
        r.get (O.GRP_GEN 0 k) == s.get (O.GRP_GEN 0 k)
    let other := s.gdbReceive 0 1 (2 ^ 32 - 1) 1
    allOf [decide (0 < aliasOf d 0 (2 ^ 28)), aliasOf d 0 (2 ^ 31 - 1) == 7, d.carries 0, d.role 0 == roleUpstream, d.speaks 0 1,
      takes .memWr, takes .memWrPtl, takes .memRd,
      s.get (O.HOST_ID 0) == 0, s.role 0 == roleUpstream, s.carries 0, decide (s.get (O.GRP_GEN 0 1) < 2 ^ 32), decide (s.get (O.GRP_GEN 0 7) < 2 ^ 32),
      got 1 grpOpen 1 [grpOpen], got 7 grpOpen 1 [grpOpen], got 7 grpCommitting 2 [grpCommitting], got 1 grpOpen 2 [grpOpen],
      got 1 grpCommitted 3 [grpCommitted], got 7 grpAborted 3 [grpAborted],
      other.poolOpen 0, !other.dieSafe (dieOfPort 0), decide (2 ^ 32 - 1 ≠ other.get (O.GRP_GEN 0 1)), !unadmitted.poolOpen 0,
      !unadmitted.dieSafe (dieOfPort 0), wr (g 1 grpOpen) .ihlod (O.GRP_CTRL 0 1) 2,
      wr (g 7 grpAborted) .ihlod (O.GRP_CTRL 0 7) 3, wr (g 1 grpCommitted) .ihlod (O.GRP_CTRL 0 1) 3,
      (g 7 grpOpen).grpState 0 7 == grpOpen, ((g 7 grpOpen).group 0 7).lines.isEmpty, stAborted != stConflict] = true := by decide +kernel

/-- Answers of the homes that have reached group 7 of host 0, of its generation, for its one line, and a cancel of it. -/
theorem witness_GroupAnswers :
    let s := ports mRun
    let x : StagingLine := { line := 0x40, data := 0, mask := 0, marked := false, claimed := false, pinned := false, written := false, bad := false, region := 0, waiting := [] }
    let g := fun (kind status state : Nat) =>
      let s := (s.put (O.GRP_STATE 0 7) state).setGroup 0 7 (fun g => { g with lines := [x] })
      ({ s with grp := { s.grp with answer := [{ kind := kind, host := 0, slot := 7, line := 0x40, status := status, gen := s.get (O.GRP_GEN 0 7) }] } } : State)
    let two := fun (s : State) => s.setGroup 0 7 (fun g => { g with lines := g.lines ++ [{ x with line := 0x80 }] })
    let took := fun (s : State) (kind : Nat) (p : GroupAnswer → State → Bool) => holds (s.takeGroupAnswer kind 0 7 (lineOf 0x40)) (fun x =>
      x.1.gen == x.2.get (O.GRP_GEN 0 7) && p x.1 x.2)
    let commits := fun (status : Nat) (a : GroupAnswer) (t : State) => a.status == status && t.grpState 0 7 == grpCommitting
    let written := fun (a : GroupAnswer) (t : State) =>
      (t.setStaging 0 7 (lineOf 0x40) (fun l => { l with written := true })).setGroup 0 7 (fun g => { g with lost := g.lost || a.status != stOk })
    let c : State := { s with dir := { s.dir with queue := [{ cls := .cancel, die := 1, line := 0x40, host := 0, slot := 7 }] } }
    allOf [hasGroup 0 7, took (g 0 stOk grpOpen) 0 (fun _ _ => true), took (g 1 stConflict grpCommitting) 1 (commits stConflict),
      took (g 1 stOk grpCommitting) 1 (fun a t => commits stOk a t &&
        (t.setStaging 0 7 (lineOf 0x40) (fun l => { l with claimed := true })).allLines 0 7 (fun l => l.claimed)),
      took (g 2 stLimit grpCommitting) 2 (commits stLimit), took (g 2 stConflict grpCommitting) 2 (commits stConflict),
      took (g 2 stOk grpCommitting) 2 (fun a t => commits stOk a t &&
        (t.setStaging 0 7 (lineOf 0x40) (fun l => { l with pinned := true })).allLines 0 7 (fun l => l.pinned)),
      took (two (g 3 stOk grpApplying)) 3 (fun a t => t.grpState 0 7 == grpApplying && !(written a t).allLines 0 7 (fun l => l.written)),
      took (g 3 stOk grpApplying) 3 (fun a t => t.grpState 0 7 == grpApplying && (written a t).allLines 0 7 (fun l => l.written) &&
        !((written a t).group 0 7).lost),
      decide (1 < c.dies), holds (c.dir.queue.filter (fun q => q.die == 1 && q.cls == .cancel && q.host == 0 && q.slot == 7)).head? (fun c' =>
        decide (c.dir.queue.filter (fun q => q.die == 1 && q.cls == .cancel && q.host == 0 && q.slot == 7) = [c']) &&
        !c.grp.mark.any (fun m => (m.die == 1 && m.line == c'.line && m.host == 0 && m.slot == 7 && m.gen == c'.gen) && m.holds))] = true := by decide +kernel

/-- The auditor at its first and last cells, and past it; an audit armed, due, with a marker and its return, and ended. -/
theorem witness_BufferAuditors :
    let s := live mRun
    let w := (s.put O.WEEVIL_ENABLE 1).put O.WEEVIL_RECLAIM 0
    let at_ := fun (n : Nat) => w.setDieCore 1 (fun k => { k with weevil := n })
    let leak := fun (suspect : Bool) => (at_ 7).setCell 1 7 (fun c => { c with pool := 1, suspect := suspect })
    let noted := ((leak true).count32 (O.LEAKS_FOUND 1)).put (O.FIRST_LEAK_CELL 1) 7 |>.bufEvent 1 F.CELL_LEAK 0 7
    let past := w.setDieCore 1 (fun k => { k with weevil := cellsPerDie })
    let differs := fun (s : State) => [1, 2, 3, 4, 5, 6, 7].any (fun p => (s.dieCore 1).found.at p != s.get (poolObj 1 p))
    let a := after 30 ((s.put O.CA_STATE 1).put O.CA_AT 30)
    let m := fun (charged mark : Nat) => s.setLink 7 (fun k => { k with markers := [(4, 1, 0, charged)], returns := [(4, 2 ^ 32 - 1, mark, 0)] })
    let u := fun (n : Nat) => (m n 1).setLink 7 (fun k => { k with markers := [] })
    let v := (u 3).auditFail (7 / 4) (auditCode 3 ((u 3).peerLink 7 / 4) ((u 3).peerLink 7 % 4) 4) 4
    let g := after 50 (s.put O.CA_STATE 2)
    let f : State := { g with core := { g.core with failed := [(5, 4)] } }
    allOf [decide (1 < s.dies), w.datapathOn, w.domainOn 1 dAuditor, a.domainOn 0 dAuditor, w.get O.WEEVIL_ENABLE == 1, ((at_ 1).dieCore 1).weevil == 1, ((at_ 1).cellAt 1 1).pool == 0,
      ((at_ (cellsPerDie - 1)).dieCore 1).weevil == cellsPerDie - 1, ((leak false).dieCore 1).weevil == 7, ((leak false).cellAt 1 7).pool != 0,
      ((leak false).cellAt 1 7).pool != poolQuarantine, !(leak false).namedCells.contains (cellName 7 ((leak false).cellAt 1 7).gen),
      !((leak false).cellAt 1 7).suspect, decide ((leak false).elapsed 1 < ((leak false).cellAt 1 7).since + (leak false).get O.WEEVIL_AGE_LIMIT),
      ((leak true).cellAt 1 7).suspect, ((leak true).count32 (O.LEAKS_FOUND 1)).get (O.FIRST_LEAK_CELL 1) == 0xFFFFFFFF,
      !(leak true).namedCells.contains (cellName 7 ((leak true).cellAt 1 7).gen), noted.get O.WEEVIL_RECLAIM == 0,
      decide (noted.elapsed 1 < ((leak true).cellAt 1 7).since + noted.get O.WEEVIL_AGE_LIMIT),
      decide (cellsPerDie ≤ (past.dieCore 1).weevil), !differs past, differs (past.put (poolObj 1 7) 1),
      wr s .ihlod O.CA_AT 25, wr s .ihlod O.CA_AT 0, a.datapathOn, a.get O.CA_STATE == 1, a.get O.CA_AT != 0, decide (a.get O.CA_AT ≤ a.now 0),
      decide (7 < 4 * s.dies), ((m 0 1).link 7).markers.find? (fun m => m.1 == 4) == some (4, 1, 0, 0),
      (0 + 2 ^ 32 - ((u 0).linkLoop 7 4).marker) % 2 ^ 32 == 0, ((u 0).linkLoop ((u 0).peerLink 7) 4).snapConsumed == 0,
      (0 + 2 ^ 32 - ((u 3).linkLoop 7 4).marker) % 2 ^ 32 != 3, (v.linkLoop ((u 3).peerLink 7) 4).snapConsumed == 0,
      ((m 0 0).link 7).returns.find? (fun m => m.1 == 4) == some (4, 2 ^ 32 - 1, 0, 0),
      decide ((0 + 2 ^ 32 - (2 ^ 32 - 1)) % 2 ^ 32 ≤ (0 + 2 ^ 32 - (2 ^ 32 - 1)) % 2 ^ 32),
      ((m 0 1).link 7).returns.find? (fun m => m.1 == 4) == some (4, 2 ^ 32 - 1, 1, 0),
      decide ((0 + 2 ^ 32 - (2 ^ 32 - 1)) % 2 ^ 32 < (1 + 2 ^ 32 - (2 ^ 32 - 1)) % 2 ^ 32),
      g.get O.CA_STATE == 2, decide (g.core.auditAt + 50 ≤ g.elapsed 0), g.core.awaited.isEmpty, g.core.failed.isEmpty,
      f.get O.CA_STATE == 2, f.core.failed == [(5, 4)], f.core.awaited.isEmpty] = true := by decide +kernel

/-- Die 1's capture: off, waiting, running, with a record for the first place of the ring and for its last, and after its trigger. -/
theorem witness_CaptureAndMarks :
    let s := live mRun
    let on := s.put (O.CAP_ENABLE 1) 1
    let w := after 40 ((s.put (O.CAP_STATE 1) capWaiting).put (O.CAP_START_AT 1) 40)
    let r := after 40 ((s.put (O.CAP_STATE 1) capRunning).put (O.CAP_STOP_AT 1) 40)
    let q := s.setCapture 1 (fun c => { c with queue := [[1, 2 * 2 ^ 60, 3, 4]] })
    let last := (q.put (O.CAP_WRITE_INDEX 1) 8191).put (O.CAP_MODE 1) 1
    let written := fun (s : State) (i : Nat) => ((s.writeBytes (captureAddr 1 (32 * i)) (bytesOf 1 8 ++ bytesOf (2 * 2 ^ 60) 8 ++
      bytesOf (3 + min (s.capture 1).lost 63 * 2 ^ 56) 8 ++ bytesOf 4 8)).setCapture 1 (fun c =>
        { c with queue := [], lost := 0, counting := c.counting || (2 * 2 ^ 60 / 2 ^ 60 = 2), post := if c.counting then c.post + 1 else c.post })).wrap32
        (O.CAP_RECORDS 1)
    let first := (written q 0).put (O.CAP_WRITE_INDEX 1) 1
    let post := (q.put (O.CAP_STATE 1) capPost).put (O.CAP_POST_COUNT 1) 0
    let full := ((written last 8191).put (O.CAP_WRITE_INDEX 1) 0).wrap32 (O.CAP_WRAPS 1)
    let h := after 40 (s.put O.HWM_SNAP_AT 40)
    let wrap := q.put (O.CAP_WRITE_INDEX 1) 8191
    let wrapped := ((written wrap 8191).put (O.CAP_WRITE_INDEX 1) 0).wrap32 (O.CAP_WRAPS 1)
    allOf [wrap.get (O.CAP_WRITE_INDEX 1) == 8191, wrap.get (O.CAP_MODE 1) == 0, wrapped.get (O.CAP_STATE 1) != capPost,
      wrapped.get (O.CAP_MODE 1) == 0] = true ∧ allOf [decide (1 < s.dies), wr on .ihlod (O.CAP_ENABLE 1) 0, wr s .ihlod (O.CAP_ENABLE 1) 1, s.get (O.CAP_ENABLE 1) != 1,
      w.get (O.CAP_STATE 1) == capWaiting, decide (w.get (O.CAP_START_AT 1) ≤ w.now 1),
      r.get (O.CAP_STATE 1) == capRunning, r.get (O.CAP_STOP_AT 1) != 0, decide (r.get (O.CAP_STOP_AT 1) ≤ r.now 1),
      (q.capture 1).queue == [[1, 2 * 2 ^ 60, 3, 4]], q.get (O.CAP_WRITE_INDEX 1) == 0, q.get (O.CAP_MODE 1) != 1, first.get (O.CAP_STATE 1) != capPost,
      post.get (O.CAP_WRITE_INDEX 1) == 0, post.get (O.CAP_MODE 1) != 1, ((written post 0).put (O.CAP_WRITE_INDEX 1) 1).get (O.CAP_STATE 1) == capPost,
      (((written post 0).put (O.CAP_WRITE_INDEX 1) 1).capture 1).counting,
      decide (((written post 0).put (O.CAP_WRITE_INDEX 1) 1).get (O.CAP_POST_COUNT 1) ≤ (((written post 0).put (O.CAP_WRITE_INDEX 1) 1).capture 1).post),
      last.get (O.CAP_WRITE_INDEX 1) == 8191, last.get (O.CAP_MODE 1) == 1, last.get (O.CAP_WRAPS 1) == 0, full.get (O.CAP_STATE 1) != capPost,
      full.get (O.CAP_MODE 1) == 1, wr s .ihlod (O.CAP_CLEAR 1) 1, wr s .ihlod (O.CF_ENABLE 1 7) 1, s.get (O.CF_ENABLE 1 7) == 0,
      h.get O.HWM_SNAP_AT != 0, decide (h.get O.HWM_SNAP_AT ≤ h.now 0), wr s .ihlod O.HWM_CLEAR 1] = true := by decide +kernel

theorem witness_TenantCommands :
    let s := tenant mRun
    let stopped := s.put (O.T_ADMIT 5) 0
    let f : State := { stopped with ten := { stopped.ten with frozen := [5] } }
    let i := (ports mRun).put (O.T_IMAGE 1023) imgLoaded
    allOf [wr s .ihlod (O.T_ADMIT 5) 0, wr stopped .ihlod (O.T_ADMIT 5) 1, wr stopped .ihlod (O.T_CMD 5) 1, wr f .ihlod (O.T_CMD 5) 2,
      wr stopped .ihlod (O.T_CMD 5) 3, wr i .ihlod (O.T_CMD 1023) 4] = true := by decide +kernel

/-- Queue 3 of tenant 5 is ENABLED; host 0 has its pool endpoint and an MSI vector. -/
def queues : State :=
  let s := (((tenant mRun).put (O.T_QUEUES 5) (2 ^ 15 + 3)).put (O.Q_STATE 3) qEnabled).put (O.Q_RING_SIZE 3) 4
  ((s.put (O.VPPB_BIND 0 1) (2 ^ 31)).put (O.Q_MSI_VEC 3) 0).setPort 0 (fun r => { r with cfg := [(cfgKey fnPool msiCap, 2 ^ 16)] })

theorem witness_MoverQueues :
    let s := queues
    let off := s.put (O.Q_STATE 3) qHalted
    let bell := s.setQueue 3 (fun r => { r with bell := true })
    let n := after (s.get (O.Q_NTF_DELAY 3)) (s.setQueue 3 (fun r => { r with notes := 2 }))
    let u := ((s.takeAcked 3).abortUnstarted 3).abortStarted (fun x => x.queue == 3)
    let d := s.put (O.Q_STATE 3) qDraining
    allOf [wr s .ihlod (O.Q_DOORBELL 3) 1, wr off .ihlod (O.Q_CTRL 3) 1, off.get (O.Q_STATE 3) != qEnabled, wr s .ihlod (O.Q_CTRL 3) 2,
      s.get (O.Q_STATE 3) == qEnabled, wr off .ihlod (O.Q_CTRL 3) 2, off.get (O.Q_STATE 3) == qHalted, wr s .ihlod (O.Q_CTRL 3) 3,
      u.get (O.Q_STATE 3) != qDisabled, wr off .ihlod (O.Q_CTRL 3) 4, d.get (O.Q_STATE 3) == qDraining, d.queueIdle 3,
      wr s .ihlod (O.Q_NTF_ACK 3) 0, hasQueue 3, hasQueue 1023, (bell.queue 3).bell, bell.mayFetch 3, bell.queueRoom 3 (bell.get (O.Q_PI_ADDR 3)) 1,
      bell.mv.req.all (fun r => r.queue != 3 || r.kind != 1),
      decide (0 < (n.queue 3).notes), decide ((n.queue 3).noteAt + n.get (O.Q_NTF_DELAY 3) ≤ n.elapsed (n.queueDie 3)), n.queueTenant 3 == some 5,
      n.hostPort (n.tenantHost 5) == some 0, n.get (O.Q_MSI_VEC 3) != 0xFF, n.carries 0, n.moverRoom (n.queueDie 3) 0 1, (n.poolVppb (n.tenantHost 5)).isSome,
      n.msiReady 0 (n.get (O.Q_MSI_VEC 3))] = true := by decide +kernel

/-- Reads that came back with and without an error, lines that came back of a read and of a write, and descriptors in phases 0, 2 and 3. -/
theorem witness_MoverDescriptors :
    let s := queues
    let r : MvReq := { id := 7, kind := 1, die := 1, engine := 3, queue := 3, index := 2, line := 0, write := false, cell := 0, drop := false, result := some (0, false, stPoison) }
    let x : MvDesc := { queue := 3, index := 2, words := [], phase := 2, engine := 3, next := 0, total := 0, fail := none, poisonSeen := false, stop := false,
                        status := 0, crc := 0, crcNext := 0, crcPend := [], startedAt := 0, doneAt := 0 }
    let good : MvReq := { r with result := some (0, false, stOk) }
    let put := fun (r : List MvReq) (x : List MvDesc) => ({ s with mv := { s.mv with req := r, desc := x } } : State)
    let back := fun (r : MvReq) (p : MvReq → Nat → State → Bool) => holds ((put [r] []).readBack 3 r.kind 0 0) (fun y =>
      !((put [r] []).readIn y.1.die y.1.cell).1 && p y.1 y.2.2 ((((put [r] []).readIn y.1.die y.1.cell).2.freeCell y.1.die y.1.cell).dropReq y.1.id))
    let within := fun (_ : MvReq) (e : Nat) (t : State) =>
      let u := (t.put (O.Q_PI_SEEN 3) 0).setQueue 3 (fun r => { r with live := true })
      e == stOk && (if t.get (O.Q_SPACE 3) = 1 then 0 else lineGet 0 (t.get (O.Q_PI_ADDR 3) % 64) 8) % 2 ^ 32 == 0 &&
        decide (u.indexAge 3 0 ≤ u.get (O.Q_RING_SIZE 3)) && decide (u.indexAge 3 (u.get (O.Q_FETCH 3)) ≤ u.indexAge 3 0)
    let start := fun (d : Nat) =>
      let s := put [] [{ x with phase := 0 }]
      let s := ({ s with mv := { s.mv with engine := [(4 * d + 3, { queue := some 3 })] } } : State)
      let t := (s.fetchDie d).takeQueue d 3
      decide (((s.fetchDie d).engine d 3).current = none) && (t.engine d 3).queue == some 3 && (t.startable 3).isSome
    let line := fun (write : Bool) => put [{ good with kind := 0, write := write }] [{ x with phase := 1, words := [opCopy] }]
    let lineDone := fun (write : Bool) => holds ((line write).mv.req.find? (fun r => r.id == 7 && r.kind == 0 && r.die == 1 && r.engine == 3)) (fun r =>
      r.result == some (0, false, stOk) && r.write == write && holds ((line write).desc r.queue r.index) (fun x => x.opcode == opCopy))
    let complete := fun (p : Nat → Bool) (s : State) =>
      let t := s.setDesc 3 2 (fun x => { x with doneAt := s.stamp (s.queueDie 3) })
      holds (s.desc 3 2) (fun x => x.phase == 2 && s.queueRoom 3 (s.slotAddr 3 2) 2 x.engine &&
        p ((t.queueWrite 3 x.engine 3 2 (t.slotAddr 3 2 + 8) 56 ((List.range 7).foldl (fun a k =>
        a + (t.recordWords { x with doneAt := t.stamp (t.queueDie 3) }).getD (k + 1) 0 * 2 ^ (64 * k)) 0)).1))
    let host := (put [] [x]).setPort 0 (fun r => { r with cfg := [(cfgKey fnPool 1, 4)] })
    let rec_ := put [] [{ x with phase := 3 }]
    allOf [hasQueue 3, back r (fun _ e _ => e != stOk), back good within, back { r with kind := 2 } (fun _ e _ => e != stOk),
      back { good with kind := 2 } (fun r e _ => e == stOk && !r.drop), decide (1 < s.dies), [0, 1].any start,
      lineDone true, lineDone false, complete (· == stOk) (host.put (O.Q_SPACE 3) 1), complete (· != stOk) (put [] [x]), holds (rec_.desc 3 2) (fun x => x.phase == 3 && rec_.queueRoom 3 (rec_.slotAddr 3 2) 2 x.engine),
      (rec_.mv.req.find? (fun r => r.kind == 3 && r.queue == 3 && r.index == 2)).isNone] = true := by decide +kernel

/-- Link 0 and its peer, and the Ihlod segments, are UP. -/
def linked (m : Nat) : State :=
  let s := (live m).put (O.D2D_STATE 0) d2dUp
  ((s.put (O.D2D_STATE (s.peerLink 0)) d2dUp).put (O.SEG_STATE 0) 1).put (O.SEG_STATE 1) 1

/-- What the far end of link 0 has sent. -/
def sent (s : State) (f : Link → Link) : State := s.setLink (s.peerLink 0) f

/-- Units that arrive, that are acknowledged and that are sent: at an Invar link and at the Ihlod ports. -/
theorem witness_LinkUnits :
    let s := linked mRun
    let u := sent s (fun k => { k with wire := [{ seq := some 0 }] })
    let v := u.setLink (u.peerLink 0) (fun r => { r with wire := [] })
    let twice := v.put (O.NEXT_RX 0) 1
    let acked := fun (n : Nat) => sent (s.put (O.LL_OUTSTANDING 0) n) (fun k => { k with bwire := [{ type := bAck, args := [0] }] })
    let due := s.setLink 33 (fun k => { k with flits := 256 })
    let nak := s.put (O.NEXT_TX 33) 1
    let nakOne := (s.put (O.NEXT_TX 33) 2).put (O.LL_OUTSTANDING 33) 2
    let t := after 4096 ((s.put (O.LL_OUTSTANDING 0) 1).put (O.LL_TIMEOUT 0) 100)
    let step := fun (s : State) (l : Nat) => s.setLink l (fun r => { r with flits := r.flits + 1, serial := r.serial + 1, slots := if l < 32 then r.slots + 1 else r.slots })
    let next := fun (s : State) (l : Nat) (p : Option Flit → Bool) => p (((step s l).dueCredits l).nextUnit l []).1
    let busy := (s.freshLinkLoops 0).setLink 0 (fun r => { r with queue := [{}] })
    let frame := (s.freshLinkLoops 32).setLink 32 (fun r => { r with frames := [{ type := tEcho }] })
    allOf [decide (7 < 4 * s.dies), holds (u.link (u.peerLink 0)).wire.head? (fun f => f.seq == some 0), v.linkIsUp 0, v.classify 0 0 == 0,
      twice.linkIsUp 0, twice.classify 0 0 == 2, hasSegment 1, s.linkIsUp 33, s.classify 33 0 == 0, frameSized { payload := List.replicate 256 1 }, frameSized {}, s.hasLink 0,
      holds ((acked 1).arrived 0 bAck [0]) (fun x =>
        decide (1 ≤ (x.1.headD 9 + 1 + 1024 - x.2.get (O.UNACKED 0)) % 1024) && decide ((x.1.headD 9 + 1 + 1024 - x.2.get (O.UNACKED 0)) % 1024 ≤ x.2.get (O.LL_OUTSTANDING 0))),
      s.hasLink 33, due.linkIsUp 33, decide ((due.link 33).ackAt + 256 ≤ (due.link 33).flits),
      holds (nak.arrived 33 bNak [0]) (fun x => x.1.headD 9 == x.2.get (O.UNACKED 33) && !x.2.timeoutMode 33 && x.1.headD 9 != x.2.get (O.NEXT_TX 33)),
      holds (nakOne.arrived 33 bNak [1]) (fun x => !x.2.timeoutMode 33 && (x.1.headD 9 + 1024 - x.2.get (O.UNACKED 33)) % 1024 == 1 &&
        decide (1 ≤ x.2.get (O.LL_OUTSTANDING 33)) && x.1.headD 9 != (x.2.freeAcked 33 1).get (O.NEXT_TX 33)),
      t.linkIsUp 0, decide (0 < t.get (O.LL_OUTSTANDING 0)), decide ((t.link 0).restart + nsToSub (t.get (O.LL_TIMEOUT (llSet 0))) ≤ t.mono (linkDie 0)),
      busy.linkIsUp 0, !(step busy 0).creditWait 0, next busy 0 (fun f => holds f (fun f => f.frame.isNone)),
      !(step s 0).creditWait 0, next s 0 Option.isNone, frame.linkIsUp 32, next frame 32 (fun f => holds f (fun f => f.frame.isSome))] = true := by decide +kernel

/-- Messages in the control bytes of what the far ends of link 0, of the link of die 1 to die 0 and of Ihlod port B have sent. -/
theorem witness_LinkBypass :
    let s := linked mRun
    let b := fun (t d : Nat) (a : List Nat) => sent s (fun k => { k with bwire := [{ type := t, dst := d, args := a }] })
    let hb := after (s.get (O.LL_HB_PERIOD 0)) s
    let due := fun (t d : Nat) (p : Bypass → Bool) => holds ((b t d []).takeBypass (s.peerLink 0) t) (fun x => p x.1)
    let p := s.peerLink 0
    let credit := fun (mark : Nat) => holds ((b bCredit 0 [4, 5, mark, 0]).arrived 0 bCredit [4, 5, 0, 0]) (fun x =>
      x.1 == [4, 5, mark, 0] && ((x.2.setLinkLoop 0 4 (fun k => { k with returnedRx := 5, available := k.limit - (k.consumed + 2 ^ 32 - 5) % 2 ^ 32 })).link 0).markSeen.at 4 == 0)
    let notice := fun (source sev : Nat) => [9, 1, source, sev, 0, 0]
    let told := fun (s : State) (handled : Bool) => s.setCollector 1 (fun c =>
      { c with notices := [{ serial := 9, dst := 0, handled := handled, source := 0, severity := 0, stamp := 0, channel := 0, sentAt := none }] })
    let at0 := fun (handled : Bool) => holds ((told (b bFaultNotice 0 (notice 0xFFF sevNotify)) handled).takeBypass p bFaultNotice) (fun x =>
      x.1.dst == 0 / 4 && x.1.args == notice 0xFFF sevNotify &&
        ((x.2.collector 1).notices.any (fun n => n.serial == 9 && n.dst == 0 / 4 && !n.handled) == !handled))
    let safe : State := { s with flt := { s.flt with safeWait := [1] } }
    let safe := safe.setCollector 0 (fun c => { c with notices := [{ serial := 9, dst := 1, handled := false, source := 0, severity := 0, stamp := 0, channel := 0, sentAt := none }] })
    let safe := safe.setLink (safe.peerLink p) (fun k => { k with bwire := [{ type := bFaultNotice, dst := 1, args := [9, 0, 0, sevSafe, 0, 0] }] })
    let at1 := holds (safe.takeBypass (safe.peerLink p) bFaultNotice) (fun x =>
      let u := (x.2.setCollector 0 (fun c => { c with notices := c.notices.map (fun n =>
        if (n.serial == 9 && n.dst == p / 4 && !n.handled) = true then { n with handled := true } else n) })).sendBypass (p / 4) 0 bNoticeAck [9, p / 4]
      x.1.dst == p / 4 && x.1.args == [9, 0, 0, sevSafe, 0, 0] && (x.2.collector 0).notices.any (fun n => n.serial == 9 && n.dst == p / 4 && !n.handled) &&
        p / 4 != 0 && u.flt.safeWait.contains (p / 4))
    allOf [s.hasLink 0, (s.arrived 33 bCredit [0, 5, 0, 0]).isSome, s.hasLink 33, credit 0, credit 3,
      (s.arrived 33 bHeartbeat []).isSome, ((b bHeartbeat 0 []).arrived 0 bHeartbeat []).isSome,
      hb.linkIsUp 0, decide ((hb.link 0).hbSentAt + hb.get (O.LL_HB_PERIOD (llSet 0)) ≤ hb.elapsed (linkDie 0)),
      due bFaultNotice 1 (fun x => x.dst != 0 / 4), at0 true, at0 false, decide (p < 4 * s.dies), at1, due bNoticeAck 0 (fun x => x.dst == 0 / 4),
      due bHandover 1 (fun x => x.dst != 0 / 4), due bHandover 0 (fun x => x.dst == 0 / 4), decide (1 < s.dies)] = true := by decide +kernel

/-- Port B at the end of its window, quiet and with too many replays; link 0 silent; and both its ends in training. -/
theorem witness_LinkHealth :
    let s := linked mRun
    let m := linked mMaint
    let w := (s.setLink 33 (fun k => { k with slots := s.get (O.LL_WINDOW (llSet 33)) }))
    let quietW := (w.mark (O.WORST_WINDOW 33) (w.get (O.WIN_REPLAYS 33))).put (O.BAD_RUN 33) 0
    let bad := w.put (O.WIN_REPLAYS 33) ((w.windowSet 33).2.1 + 1)
    let h := after (s.get (O.LL_HB_MISS 0) * s.get (O.LL_HB_PERIOD 0)) s
    let p := s.peerLink 0
    let t := (s.put (O.D2D_STATE 0) d2dTraining).put (O.D2D_STATE p) d2dTraining
    let lanes := (t.putLanes O.LANE_FAILED 0 0).setLink 0 (fun r => { r with permanent := false })
    let perm := (t.put (O.D2D_STATE 0) d2dRetraining).setLink 0 (fun r => { r with permanent := true })
    let both := (t.setLink 0 (fun k => { k with tested := true })).setLink p (fun k => { k with tested := true })
    let late := after 2500 t
    allOf [s.hasLink 33, w.linkIsUp 33, decide ((w.windowSet 33).1 ≤ (w.link 33).slots), decide (w.get (O.WIN_REPLAYS 33) ≤ (w.windowSet 33).2.1),
      decide (quietW.get (O.BAD_RUN 33) < (w.windowSet 33).2.2), bad.linkIsUp 33, decide ((bad.windowSet 33).1 ≤ (bad.link 33).slots),
      decide ((bad.windowSet 33).2.1 < bad.get (O.WIN_REPLAYS 33)),
      h.linkIsUp 0, decide ((h.link 0).hbSeenAt + h.get (O.LL_HB_MISS (llSet 0)) * h.get (O.LL_HB_PERIOD (llSet 0)) ≤ h.elapsed (linkDie 0)), s.linkIsUp 33,
      decide (7 < 4 * t.dies), t.get (O.D2D_STATE 0) == d2dTraining, !(t.link 0).tested, t.domainOn (0 / 4) dDatapath, t.linkClocked 0, perm.linkClocked 0, both.linkClocked 0, both.linkClocked p,
      decide (128 ≤ 136 - (lanesIn (lanes.laneSet O.LANE_RETIRED 0)).length),
      perm.get (O.D2D_STATE 0) == d2dRetraining, !(perm.link 0).tested, perm.domainOn (0 / 4) dDatapath, (perm.link 0).permanent,
      both.get (O.D2D_STATE 0) == d2dTraining, both.get (O.D2D_STATE p) == d2dTraining, (both.link 0).tested, (both.link p).tested,
      both.linkCharge 0 == 0, both.linkCharge p == 0,
      decide ((late.link 0).attemptAt + 2500 ≤ late.elapsed (0 / 4)), late.get (O.D2D_STATE 0) == d2dTraining, !(late.link 0).tested,
      late.domainOn (0 / 4) dDatapath, wr m .ihlod (O.D2D_CTRL 0) 1, wr m .ihlod (O.LANE_RETIRE 0) 135, s.get (O.D2D_STATE 0) == d2dUp] = true := by decide +kernel

/-- A node holds one request, well formed and new, and serves it. -/
def serves (s : State) (f : Frame) : Bool :=
  let n := s.setIhl (fun i => { i with held := [f] })
  let t := n.setIhl (fun i => { i with held := i.held.tail, heldAt := i.heldAt.tail, servedAt := i.heldAt.headD (n.mono 0) })
  holds n.ihl.held.head? (fun g => decide (g = f)) && n.sec.waiting.isNone && (t.keptAnswer f).isNone && !badLayout f && !n.frameWaits

/-- Requests of each service, served; a reset armed and not, in its window and past it; an address taken by the ring and by one node. -/
theorem witness_IhlodServices :
    let s := linked mRun
    let armed := (s.put O.IHLOD_RESET 1).setIhl (fun i => { i with armedId := some 9 })
    let late := after (s.get O.RST_WINDOW + 1) armed
    let go := after 25 ((s.put O.IHLOD_RESET 1).setIhl (fun i => { i with goAcked := some 0 }))
    let noReset := s.put O.IHLOD_RESET 0
    let alone := s.put O.NODE_ADDR noNode
    let f : Frame := { type := tSpdm, aux := 8, payload := List.replicate 8 0 }
    allOf [serves s { type := tDictRead, count := 32 }, serves s { type := tDictRead, count := 1 },
      serves s { type := tDictWrite, count := 32, payload := List.replicate 256 0 },
      serves s { type := tDpLoad, payload := List.replicate 256 0 }, serves s { type := tDpDump }, serves s { type := tTod, value := 25000000 },
      serves (s.put O.IHLOD_RESET 1) { type := tRstArm, reqId := 9 }, (s.put O.IHLOD_RESET 1).get O.IHLOD_RESET != 0,
      serves noReset { type := tRstArm, reqId := 9 }, noReset.get O.IHLOD_RESET == 0,
      serves armed { type := tRstGo, value := 9 }, armed.ihl.armedId == some 9, decide (armed.mono 0 ≤ armed.ihl.armedAt + 64 * armed.get O.RST_WINDOW), armed.get O.IHLOD_RESET == 1,
      serves late { type := tRstGo, value := 9 }, decide (late.ihl.armedAt + 64 * late.get O.RST_WINDOW < late.mono 0),
      go.ihl.goAcked == some 0, decide (0 + 25 ≤ go.elapsed 0), go.get O.IHLOD_RESET == 1, serves s { type := tAssign, value := 1 }, serves s { type := tAssign, value := 31 },
      serves alone { type := tAssign, value := 1, bcast := true }, alone.nodeAddr == noNode, serves s { type := tEcho, payload := [1] },
      serves s { f with more := true }, serves s f, f.count == s.sec.segNext, decide (8 ≤ f.payload.length)] = true := by decide +kernel

theorem witness_IhlodSegments :
    let s := live mRun
    let late := after 2500 s
    let w := after (s.get O.IH_RETRY) (s.setIhl (fun i => { i with segWait := [(1, 1)] }))
    allOf [s.segTraining 1, s.segTraining 0, hasSegment 1, hasSegment 0, late.segTraining 1, decide (late.ihl.segTry.at 1 + 2500 ≤ late.elapsed 0),
      w.ihl.segWait.at 1 != 0, w.get (O.SEG_STATE 1) != 1, decide (w.ihl.segWait.at 1 + w.get O.IH_RETRY ≤ w.elapsed 0 + 1),
      wr (linked mRun) .ihlod (O.SEG_CTRL 1) 1] = true := by decide +kernel

/-- It is the tick of a sample. -/
def sampled (s : State) : State := { s with slt := { s.slt with sampled := some (s.elapsed 0) } }

/-- The last channel of the part on its way from OFF to ON, and its enable written in each state. -/
theorem witness_SlotStart :
    let s := sampled (live mRun)
    let p := s.setCond 7 cPresent true
    let ins := sampled (after (s.get O.INSERT_DELAY) p)
    let vin := sampled (after (s.get O.VIN_SETTLE) (s.setChan 7 (fun c => { c with vinSince := some 0 })))
    let go := ((p.put (O.CH_STATE 7) chWaiting).setCond 7 cVinOk true).setCond 7 cInserted true |>.setChan 7 (fun c => { c with checked := true })
    let pg := (s.put (O.CH_STATE 7) chRamping).setChan 7 (fun c => { c with pgRun := 2 })
    let en := fun (state : Nat) => (s.put (O.CH_STATE 7) state).put (O.CH_ENABLE 7) 1
    allOf [(live mRun).sampleDue, decide ((124999 : Int) < 125000), s.hasChannel 7, !s.cond 7 cPresent, p.cond 7 cPresent, s.atSample,
      ins.atSample, ins.cond 7 cPresent, decide ((ins.chan 7).edgeAt + ins.get O.INSERT_DELAY ≤ ins.elapsed 0),
      vin.atSample, (vin.chan 7).vinSince == some 0, decide (0 + vin.get O.VIN_SETTLE ≤ vin.elapsed 0),
      go.atSample, go.startReady 7, decide (go.ramping < go.get O.RAMP_MAX), (List.range 7).all (fun m => !go.startReady m), go.get O.TILE_STATE == tileRun,
      pg.atSample, pg.chState 7 == chRamping, decide (2 ≤ (pg.chan 7).pgRun),
      wr s .ihlod (O.CH_ENABLE 7) 1, s.chState 7 == chOff, wr (en chWaiting) .ihlod (O.CH_ENABLE 7) 0, (en chWaiting).chState 7 == chWaiting,
      wr (en chOn) .ihlod (O.CH_ENABLE 7) 0, (en chOn).chState 7 == chOn, s.get O.TILE_STATE != 0] = true := by decide +kernel

/-- Writes of the last channel's enable, served and refused, in the states that one sample does not bring. -/
theorem witness_SlotEnable :
    let s := sampled (live mRun)
    let en := fun (state : Nat) => (s.put (O.CH_STATE 7) state).put (O.CH_ENABLE 7) 1
    let cooled := (en chTripped).setCond 7 cCooldownDone true
    let arrives := fun (t : State) (v : Nat) => t.reachesOwner .ihlod (O.CH_ENABLE 7) v
    allOf [wr (en chRamping) .ihlod (O.CH_ENABLE 7) 0, (en chRamping).chState 7 == chRamping, wr cooled .ihlod (O.CH_ENABLE 7) 0,
      cooled.chState 7 == chTripped, cooled.cond 7 cCooldownDone, wr (en chStopping) .ihlod (O.CH_ENABLE 7) 0,
      wr (en chDamaged) .ihlod (O.CH_ENABLE 7) 0, wr s .ihlod (O.CH_ENABLE 7) 0, wr (en chWaiting) .ihlod (O.CH_ENABLE 7) 1,
      wr (en chOn) .ihlod (O.CH_ENABLE 7) 1, wr (en chRamping) .ihlod (O.CH_ENABLE 7) 1, arrives (en chTripped) 0, arrives (en chTripped) 1, !(en chTripped).cond 7 cCooldownDone,
      arrives cooled 1, arrives (en chStopping) 1, arrives (en chDamaged) 1] = true := by decide +kernel

/-- The last channel with its gate on, with its power good missing, tripped, cooling, stopping and damaged. -/
theorem witness_SlotProtection :
    let s := sampled (live mRun)
    let on := s.put (O.CH_STATE 7) chOn
    let due := fun (state : Nat) => sampled ((s.put (O.CH_STATE 7) state).setChan 7 (fun c => { c with pgDue := some (s.elapsed 0) }))
    let dio := after 2500 ((s.put (O.CH_STATE 7) chOn).setChan 7 (fun c => { c with diode := true }))
    let other := dio.put (O.CH_TEMP_SRC 7) 2
    let own := dio.put (O.CH_TEMP_SRC 7) 1
    let hot := (live mRun).put O.TILE_TEMP 125000
    let cool := (s.put (O.CH_TEMP_SRC 7) 1).setCond 7 cTripLatch true
    let warm := (s.put (O.CH_TEMP_SRC 7) 0).setCond 7 cTripLatch true |>.setChan 7 (fun c => { c with tj := 25000000 })
    let stop := sampled (after (s.get O.OFF_DELAY) (s.put (O.CH_STATE 7) chStopping))
    let dam := sampled (after 25000 (s.setChan 7 (fun c => { c with damageSince := some 0 })))
    let bad := s.put (O.CH_STATE 7) chDamaged
    let auto := s.put O.TILE_STATE tileAutonomous
    allOf [s.hasChannel 7, on.gateOn 7, (due chRamping).atSample, (due chRamping).chState 7 == chRamping, decide (((due chRamping).chan 7).pgRun < 2),
      ((due chRamping).chan 7).pgDue == some ((due chRamping).elapsed 0), (due chOn).atSample, (due chOn).chState 7 == chOn,
      ((due chOn).chan 7).pgDue == some ((due chOn).elapsed 0),
      (due chStopping).atSample, (due chStopping).chState 7 == chStopping, ((due chStopping).chan 7).pgDue == some ((due chStopping).elapsed 0),
      s.diodeDue 7, dio.diodeDue 7, !(s.chan 7).diode, (dio.chan 7).diode, dio.tempUsed 7 == 1, dio.get (O.CH_TEMP_SRC 7) == 0, !dio.atSample,
      (other.chan 7).diode, other.tempUsed 7 != 1, other.diodeDue 7, own.tempUsed 7 == 1, own.get (O.CH_TEMP_SRC 7) != 0, own.diodeDue 7, !own.atSample,
      (sampled own).diodeDue 7, (sampled own).atSample, (sampled own).tempUsed 7 == 1, decide ((125000 : Int) ≤ 125000), (live mRun).sampleDue,
      decide (toS32 ((live mRun).get O.TILE_TEMP) < 125000), hot.sampleDue, decide (¬ toS32 (hot.get O.TILE_TEMP) < 125000),
      cool.atSample, cool.cond 7 cTripLatch, (cool.protectTemp 7).isNone, decide ((cool.chan 7).tripAt + (cool.chan 7).coolLimit ≤ cool.elapsed 0),
      warm.atSample, warm.cond 7 cTripLatch, holds (warm.protectTemp 7) (fun x => decide (x ≤ Int.ofNat (warm.get O.FET_TRESUME * 1000))),
      decide ((warm.chan 7).tripAt + (warm.chan 7).coolLimit ≤ warm.elapsed 0),
      stop.atSample, !stop.chLate 7, stop.chState 7 == chStopping, decide ((stop.chan 7).stopAt + stop.get O.OFF_DELAY ≤ stop.elapsed 0),
      (dam.chan 7).damageSince == some 0, dam.atSample, dam.chState 7 != chDamaged, !dam.gateOn 7, decide (0 + 25000 ≤ dam.elapsed 0),
      wr bad .ihlod (O.CH_DAMAGE_CLEAR 7) 1, bad.chState 7 == chDamaged, s.get O.TILE_STATE == tileRun, auto.get O.TILE_STATE == tileAutonomous] = true := by decide +kernel

/-- A sequencer at address 0 and at the last address, 1,023, runs the word next, with this opcode. -/
def runs (op w : Nat) : Bool :=
  let s := seqAt w
  let t := (s.put (O.SQ_PC 0) 1023).writeBytes (dportAddr 0x21 (4 * 1023)) (bytesOf w 4)
  s.seqExists 0 && (s.sqNext 0 op).isSome && s.get (O.SQ_PC 0) == 0 && (t.sqNext 0 op).isSome && t.get (O.SQ_PC 0) == 1023

theorem witness_ClickArithmetic :
    allOf [runs opLdi (opLdi * 2 ^ 27 + 7 * 2 ^ 24 + 5), holds ((seqAt (opLdi * 2 ^ 27 + 7 * 2 ^ 24 + 5)).sqNext 0 opLdi) (fun x => !x.h),
      runs opLdi (opLdi * 2 ^ 27 + 2 ^ 16 + 65535), holds ((seqAt (opLdi * 2 ^ 27 + 2 ^ 16 + 65535)).sqNext 0 opLdi) (fun x => x.h),
      runs opAdd (wordR 2 1 2 3), runs opAdd (wordI 2 7 7 65535),
      runs opSub (wordR 3 1 2 3), runs opAnd (wordR 4 1 2 3), runs opOr (wordR 5 1 2 3), runs opCmp (wordR 6 0 2 3)] = true := by decide +kernel

/-- Words of each control instruction, with the stack empty and full, waits that go on and that end, and the two faults of a fetch. -/
theorem witness_ClickControl :
    let br := fun (cond : Nat) => seqAt (7 * 2 ^ 27 + cond * 2 ^ 24 + 1023)
    let stack := fun (s : State) (l : List Nat) => s.setSeq 0 (fun q => { q with stack := l })
    let call := seqAt (0x0F * 2 ^ 27 + 1023)
    let ret := stack (seqAt (0x10 * 2 ^ 27)) [1023]
    let waitt := seqAt (wordI 0x0A 0 0 4)
    let now_ := seqAt (wordI 0x0A 0 0 0)
    let abs_ := (seqAt (0x0A * 2 ^ 27 + 2 * 2 ^ 21 + 2 ^ 16)).put (O.SQ_REG 0 2) 9
    let tick := after 9 ((live mRun).setSeq 0 (fun q => { q with wait := some ⟨1, 9, 0, 0⟩ }))
    let waite := ((seqAt (wordR 0x0B 1 2 3)).put (O.SQ_EVT 0) 1).put (O.SQ_REG 0 2) 3
    let dry := ((waite.put (O.SQ_EVT 0) 4)).put (O.SQ_REG 0 3) 1
    let evt := ((live mRun).put (O.SQ_EVT 67) 4).setSeq 67 (fun q => { q with wait := some ⟨3, 0, 12, 1⟩ })
    let out := after 9 ((live mRun).setSeq 7 (fun q => { q with wait := some ⟨3, 9, 12, 1⟩ }))
    let bad := seqAt (0x11 * 2 ^ 27)
    let lim := (seqAt 0).setSeq 0 (fun q => { q with steps := 2 ^ 32 - 1 })
    let op := fun (s : State) (n : Nat) (p : SqIns → Bool) => s.seqExists 0 && holds (s.sqNext 0 n) p
    allOf [runs opHalt 0, op (br 0) opBr (fun x => brHolds ((br 0).get (O.SQ_FLAGS 0)) x.rd), op (br 1) opBr (fun x => !brHolds ((br 1).get (O.SQ_FLAGS 0)) x.rd),
      op (stack call (List.replicate 7 5)) opCall (fun _ => decide (((stack call (List.replicate 7 5)).seq 0).stack.length < 8)),
      op (stack call (List.replicate 8 5)) opCall (fun _ => ((stack call (List.replicate 8 5)).seq 0).stack.length == 8),
      op ret opRet (fun _ => (ret.seq 0).stack == [1023]), op (stack ret []) opRet (fun _ => ((stack ret []).seq 0).stack.isEmpty),
      op waitt opWaitt (fun x => !x.h && waitt.sqOp2 0 x != 0), op now_ opWaitt (fun x => !x.h && now_.sqOp2 0 x == 0),
      op abs_ opWaitt (fun x => x.h && !abs_.sqTickDue 0 ⟨2, abs_.sqReg 0 x.ra, 0, 0⟩),
      tick.seqExists 0, holds (tick.seq 0).wait (fun w => w.kind == 1 && decide (w.target ≤ tick.seqNow 0)),
      op waite opWaite (fun x => Nat.land (waite.get (O.SQ_EVT 0)) (waite.sqReg 0 x.ra) != 0),
      op dry opWaite (fun x => Nat.land (dry.get (O.SQ_EVT 0)) (dry.sqReg 0 x.ra) == 0 && dry.sqOp2 0 x != 0),
      evt.seqExists 67, holds (evt.seq 67).wait (fun w => w.kind == 3 && Nat.land (evt.get (O.SQ_EVT 67)) w.mask != 0),
      out.seqExists 7, holds (out.seq 7).wait (fun w => w.kind == 3 && Nat.land (out.get (O.SQ_EVT 7)) w.mask == 0 && w.target != 0 && decide (w.target ≤ out.seqNow 7)),
      bad.seqExists 0, bad.sqState 0 == sqRunning, decide ((bad.seq 0).steps < bad.get (O.SQ_STEP_LIMIT 0)), !(sqFields (bad.sqWord 0)).legal,
      lim.seqExists 0, lim.sqState 0 == sqRunning, decide (lim.get (O.SQ_STEP_LIMIT 0) ≤ (lim.seq 0).steps)] = true := by decide +kernel

/-- Reads and writes of the dictionary, served and refused, an EMIT to itself, the transaction of the sequencers begun, prepared and
ended both ways, and a start by SQ_CMD and by a tick. -/
theorem witness_ClickAccess :
    let ldo := fun (g : Nat) => (seqAt (0x08 * 2 ^ 27 + 2 * 2 ^ 24 + 1 * 2 ^ 21)).put (O.SQ_REG 0 1) g
    let reads := fun (s : State) => holds (s.sqNext 0 opLdo) (fun x => ((s.sqStep 0).sqRead 0 (s.sqObject 0 x)).1 == stOk)
    let refused := fun (s : State) => holds (s.sqNext 0 opLdo) (fun x => ((s.sqStep 0).sqRead 0 (s.sqObject 0 x)).1 != stOk)
    let emit := seqAt (wordR 0x0C 0 1 2)
    let txb := seqAt (0x0D * 2 ^ 27)
    let txc := ((fxTxOpen txClick (seqAt (wordI 0x0E 0 0 30))).put (O.TX_HOLDER txClick) 0)
    let e := fun (kind : Nat) => ((live mRun).put (O.TX_STATE txClick) txApplied).setSeq 67 (fun q => { q with wait := some ⟨kind, 4, 0, 0⟩ })
    let s := (live mRun).put (O.SQ_VALID 67) 1
    let at_ := after 30 ((live mRun).put (O.SQ_START_AT 0) 30 |>.put (O.SQ_VALID 0) 1)
    allOf [emit.seqExists 0, reads (ldo O.PART_CODE.number), refused (ldo 0x07), runs opSto (wordI 0x09 1 2 255),
      holds (emit.sqNext 0 opEmit) (fun x => emit.sqReg 0 x.ra % 128 != 127 && emit.seqExists (emit.sqReg 0 x.ra % 128)), !emit.cutOff 0,
      (txb.sqNext 0 opTxb).isSome, !(txb.sqStep 0).cutOff 0, (txb.sqStep 0).get (O.TX_HOLDER txClick) == noHolder, (txb.sqStep 0).txCmdStatus txClick txcOpen == stOk,
      (txc.sqNext 0 opTxc).isSome, (txc.sqStep 0).get (O.TX_HOLDER txClick) == 0, (txc.sqStep 0).txCmdStatus txClick txcPrepare == stOk,
      (e 6).seqExists 67, holds ((e 6).seq 67).wait (fun w => w.kind == 6), holds ((e 5).seq 67).wait (fun w => w.kind == 5),
      (e 5).get (O.TX_STATE txClick) == txApplied, wr s .ihlod (O.SQ_CMD 67) 1, wr s .ihlod (O.SQ_CMD 67) 2, s.sqState 67 != sqRetired,
      at_.get (O.SQ_START_AT 0) != 0, decide (at_.get (O.SQ_START_AT 0) ≤ at_.seqNow 0), (at_.put (O.SQ_START_AT 0) 0).startable' 0] = true := by decide +kernel

theorem witness_CicadaPairs :
    let s := live mUpdate
    let d := s.put O.CC_ACT_STATUS actRestarting
    let f := after 250000 (s.setCic (fun c => { c with await := [1] }))
    let r := s.put (O.CC_STATE 1) ccRunning
    let dog := after (s.get O.CC_WDT_PERIOD) r
    let z := (s.put (O.CC_STATE 1) ccReset)
    allOf [decide (1 < s.dies), d.get O.CC_ACT_STATUS == actRestarting, d.sqs.cic.await.isEmpty, f.sqs.cic.await.contains 1,
      decide (f.sqs.cic.actAt + 250000 ≤ f.elapsed 0), r.pairAlive 1, r.get (O.CC_STATE 1) == ccRunning,
      dog.get (O.CC_STATE 1) == ccRunning, decide (dog.sqs.cic.watch.at 1 + dog.get O.CC_WDT_PERIOD ≤ dog.elapsed 1), z.get (O.CC_STATE 1) == ccReset,
      (s.put (O.CC_STATE 1) ccRestarting).get (O.CC_STATE 1) == ccRestarting, z.domainOn 1 dCicada] = true := by decide +kernel

/-- A reaction that waits for tile sequencer 64, which can and cannot take it; the window; and a retired channel of each kind that has a state. -/
theorem witness_FaultCollection :
    let s := live mRun
    let q := s.setCollector 0 (fun c => { c with queue := [{ seq := 64, source := 5, severity := 1, channel := 0, stamp := 0 }] })
    let can := (q.put (O.SQ_ROLE 64) 1).put (O.SQ_VALID 64) 1
    let w := after (s.get O.FC_WINDOW) (s.put O.FC_STATE 1)
    let m := fun (ch : Nat) => { live mMaint with flt := { (live mMaint).flt with retired := [ch] } }
    let found := fun (s : State) => s.seqExists 64 && ((s.collector (seqDie 64)).queue.find? (fun x => x.seq == 64)).isSome && s.sqState 64 == sqStopped
    let clears := fun (k : Nat) => wr (m (channelId k 15)) .ihlod O.RET_CLEAR (channelId k 15) && channelKind (channelId k 15) == k
    allOf [found can, can.get (O.SQ_ROLE 64) == 1, can.get (O.SQ_VALID 64) == 1, !can.dieSafe (seqDie 64),
      found q, q.sqState 64 != sqRunning, q.sqState 64 != sqWaiting, q.get (O.SQ_ROLE 64) != 1,
      w.get O.FC_STATE == 1, decide (w.flt.windowTick + w.get O.FC_WINDOW ≤ w.now 0), decide (1 < s.dies),
      wr s .ihlod (O.FS_CAP_VALID F.FT_REF_LOST) 1, clears 1, clears 2, clears 4, clears 6, wr s .ihlod O.FC_ENTER_SAFE 1] = true := by decide +kernel

/-- Each event of the supplies and of the sources where it is due, the aux rails out with the main rails in, and the domains that may be released. -/
theorem witness_ResetSources :
    let s := live mRun
    let off := s.setRst (fun r => { r with auxRails := false })
    let src := fun (n code d dom : Nat) => after n (s.setRst (fun r => { r with sources := [{ code := code, die := d, dom := dom, since := 0 }] }))
    let timed := fun (code d dom : Nat) => let t := src 250 code d dom
      holds t.rst.sources.head? (fun x => x.code == code && x.die == d && x.dom == dom && decide (x.die < t.dies) && decide (rIhlod ≤ x.code) && x.code != rMain &&
        decide (x.since + resetLength x.code ≤ t.elapsed 0))
    let rel := fun (d i : Nat) =>
      let t := after 4 (((s.setDomain d i {}).setPll d 0 { run := true, stable := true }).setPll d 1 { run := true, stable := true })
      t.hasDomain d i && !(t.domain d i).running && t.releasable d i
    allOf [s.rst.auxRails, !off.rst.auxRails, off.rst.mainRails, (src 250000 rPowerOn 0 0).sourceDue rPowerOn 250000, !s.sourceOn (· == rSysRst),
      (src 250 rSysRst 0 0).sourceDue rSysRst 250, s.rst.mainRails, timed rIhlod 0 0, timed rPkg 0 0, timed rDie 1 0, timed rWatchdog 1 dCicada, timed rBlock 1 dCounters,
      rel 0 dMgmt, rel 1 dMgmt, rel 1 dDatapath, rel 1 dCounters, dMgmt != dDatapath] = true := by decide +kernel

theorem witness_ResetCommands :
    let s := live mMaint
    allOf [wr s .ihlod O.PKG_RESET 0xA5A5, wr (live mAux) .ihlod (O.DIE_RESET 1) 0xA5A5, (live mAux).mode != mConfig,
      wr (live mConfig) .ihlod (O.DIE_RESET 1) 0xA5A5, (live mConfig).mode == mConfig, wr s .ihlod (O.BLOCK_RESET 1) 16, wr s .ihlod (O.BLOCK_RESET 1) 32,
      wr s .ihlod (O.BLOCK_RESET 1) 64, wr s .ihlod (O.BLOCK_RESET 1) 128, wr s .ihlod (O.BLOCK_RESET 1) 256, wr s .ihlod (O.BLOCK_RESET 0) 512] = true := by decide +kernel

/-- PLLs of die 0 and of die 1: locking, stable and overdue. -/
theorem witness_Clocks :
    let s := live mRun
    let p := after 16 (s.setPll 0 4 { run := true })
    let phy := after 16 (s.setPll 1 2 { run := true })
    let u := (s.setPll 1 1 { run := true, stable := true }).setPll 1 11 { run := true, stable := true }
    let l := after 2500 (s.setPll 1 11 { run := true })
    allOf [p.hasPll 0 4, (p.pll 0 4).run, !(p.pll 0 4).stable, decide ((p.pll 0 4).since + 16 ≤ p.elapsed 0), u.hasPll 1 1, (u.pll 1 1).stable,
      u.hasPll 1 11, (u.pll 1 11).stable, s.hasPll 1 2, (s.pll 1 2).stable, s.hasPll 0 5, (s.pll 0 5).stable, phy.hasPll 1 2, (phy.pll 1 2).run,
      !(phy.pll 1 2).stable, decide ((phy.pll 1 2).since + 16 ≤ phy.elapsed 0),
      l.hasPll 1 11, (l.pll 1 11).run, !(l.pll 1 11).stable, !(l.pll 1 11).unstable, decide ((l.pll 1 11).since + 2500 ≤ l.elapsed 0)] = true := by decide +kernel

theorem witness_ModeRequests :
    let c := live mConfig
    allOf [decide c.Canonical, wr c .ihlod O.MODE_REQUEST mAux, !c.isCurrent mAux, decide (live mAux).Canonical, wr (live mAux) .ihlod O.MODE_REQUEST mInit,
      !(live mAux).isCurrent mInit, decide (live mUpdate).Canonical, wr (live mUpdate) .ihlod O.MODE_REQUEST mConfig, !(live mUpdate).isCurrent mConfig,
      wr c .ihlod O.MODE_REQUEST mLinkup, !c.isCurrent mLinkup, decide (live mLinkup).Canonical, wr (live mLinkup) .ihlod O.MODE_REQUEST mRun,
      (live mLinkup).mode != mRun, (live mLinkup).mode != mDegraded, decide (live mDrain).Canonical, wr (live mDrain) .ihlod O.MODE_REQUEST mDegraded,
      (live mDrain).mode != mRun, (live mDrain).mode != mDegraded, decide (live mRun).Canonical, wr (live mRun) .ihlod O.MODE_REQUEST mRun,
      wr (live mRun) .ihlod O.MODE_REQUEST mDegraded, (live mRun).mode == mRun,
      wr (live mRun) .ihlod O.MODE_REQUEST mRunNc, !(live mRun).isCurrent mRunNc, wr (live mRun) .ihlod O.MODE_REQUEST mDrain, !(live mRun).isCurrent mDrain,
      wr (live mRun) .ihlod O.MODE_REQUEST mMaint, !(live mRun).isCurrent mMaint, wr c .ihlod O.MODE_REQUEST mUpdate, !c.isCurrent mUpdate] = true := by
  decide +kernel

theorem witness_ModeChanges :
    let due := fun (s : State) (m : Nat) => after 1 (s.setRst (fun r => { r with pendingMode := some m }))
    let goes := fun (s : State) (m : Nat) => s.rst.pendingMode == some m && decide (s.rst.pendingAt < s.elapsed 0) && !s.anyLocked
    let worn := (due (live mLinkup) mRun).put O.FC_RETIRED 1
    let e := (live mInit).setRst (fun r => { r with initTested := [(0, true), (1, true)], initCleared := [(0, true), (1, true)] })
    let e := after 0 (forEach (List.range 8) (fun l s => s.put (O.D2D_STATE l) d2dUp) e)
    let t := after ((live mInit).get O.INIT_LIMIT) (live mInit)
    allOf [goes (due (live mConfig) mAux) mAux, mAux != mInit, mAux != mRun, goes (due (live mLinkup) mRun) mRun, (due (live mLinkup) mRun).get O.FC_RETIRED == 0,
      goes worn mRun, worn.get O.FC_RETIRED != 0, goes (due (live mAux) mInit) mInit,
      e.mode == mInit, !e.anyLocked, (List.range e.dies).all (fun d => e.initDone d), t.mode == mInit, !t.anyLocked, decide t.Canonical, decide (t.rst.initAt + t.get O.INIT_LIMIT ≤ t.elapsed 0),
      decide (1 < t.dies), t.initOf 1, t.domainOn 1 dDatapath, t.domainOn 1 dDirectory, !t.rst.initTested.at 1] = true := by decide +kernel

/-- Each command of the mode and of INIT where it takes effect, and where a LOCKED transaction makes it wait. -/
theorem witness_ModesAndCounts :
    let s := live mRun
    allOf [(s.modeRequestStatus mDegraded).1 == stOk, ((live mConfig).modeRequestStatus mAux).1 == stOk, ((live mUpdate).modeRequestStatus mConfig).1 == stOk,
      decide s.Canonical, decide (mSafe < 2 ^ 64), !s.anyLocked, s.mode == mRun, decide (s.put O.FC_RETIRED 1).Canonical, (s.put O.FC_RETIRED 1).get O.FC_RETIRED != 0,
      !(s.put O.FC_RETIRED 1).anyLocked, (s.put O.FC_RETIRED 1).mode == mRun, decide (live mDegraded).Canonical, (live mDegraded).mode == mDegraded,
      (live mDegraded).get O.FC_RETIRED == 0, (live mMaint).mode != mRun, decide ((live mMaint).mode ≤ mSafe), s.clk.die.risingFrom 0, s.counting 0,
      !s.counting 1 || decide (s.now 1 + 1 < 2 ^ 64), decide ((s.time 1).sub ≤ 63)] = true := by decide +kernel

theorem witness_ModeEventsComplete :
    let due := fun (s : State) (m : Nat) => after 1 (s.setRst (fun r => { r with pendingMode := some m }))
    let goes := fun (s : State) (m : Nat) => s.rst.pendingMode == some m && decide (s.rst.pendingAt < s.elapsed 0) && !s.anyLocked
    let lock := fun (s : State) => s.put (O.TX_STATE 1) txLocked
    let worn := (due (live mLinkup) mRun).put O.FC_RETIRED 1
    let e := (live mInit).setRst (fun r => { r with initTested := [(0, true), (1, true)], initCleared := [(0, true), (1, true)] })
    let e := after 0 (forEach (List.range 8) (fun l s => s.put (O.D2D_STATE l) d2dUp) e)
    let t := after ((live mInit).get O.INIT_LIMIT) (live mInit)
    let ended := fun (s : State) => s.mode == mInit && (List.range s.dies).all (fun d => s.initDone d)
    let timed := fun (s : State) => s.mode == mInit && decide (s.rst.initAt + s.get O.INIT_LIMIT ≤ s.elapsed 0)
    let tests := fun (s : State) => decide (1 < s.dies) && s.initOf 1 && s.domainOn 1 dDatapath && s.domainOn 1 dDirectory && !s.rst.initTested.at 1
    let sram := fun (s : State) => (s.put (O.SRAM_REPAIRS 1) 65535).put O.INIT_STATUS 3
    allOf [goes (due (live mAux) mInit) mInit, goes worn mRun, worn.get O.FC_RETIRED != 0, goes (due (live mLinkup) mRun) mRun,
      (due (live mLinkup) mRun).get O.FC_RETIRED == 0, goes (due (live mConfig) mAux) mAux, mAux != mInit, mAux != mRun,
      (live mRun).rst.pendingMode.isNone, (lock (due (live mConfig) mAux)).anyLocked, ended e, !e.anyLocked, ended (lock e), (lock e).anyLocked,
      timed t, !(t.put O.INIT_STATUS 4).anyLocked, timed (lock t), ((lock t).put O.INIT_STATUS 4).anyLocked,
      tests t, !(sram t).anyLocked, tests (lock t), (sram (lock t)).anyLocked] = true := by decide +kernel

/-- The debug port at each level, the first and the last bytes of a core's memory, and a pair that runs and one that is halted. -/
theorem witness_DebugPort :
    let s := live mAux
    let full := s.put O.DBG_LEVEL 3
    let man := (s.put O.SEC_STATE secManufacture).put O.DBG_MAX_LEVEL 3
    let p := full.setSec (fun x => { x with ir := irAccess, bypassed := false })
    let run := p.put (O.CC_STATE 1) ccRunning
    let hlt := p.put (O.CC_STATE 1) ccHalted
    let none_ := s.setSec (fun x => { x with ir := irAccess, bypassed := false })
    let a := coreAddr 1 0
    let b := coreAddr 1 0xFFFF8
    allOf [s.mode != 0, full.irPermitted irSample, !s.irPermitted irSample, full.irPermitted irExtest, full.irPermitted irClamp, full.irPermitted irHighz,
      wr man .debug O.DBG_AUTH 3, wr s .ihlod O.DBG_CLOSE 1, decide full.Canonical, wr full .ihlod O.DBG_MAX_LEVEL 1, decide (1 < full.get O.DBG_LEVEL),
      decide (s.put O.DBG_LEVEL 1).Canonical, wr (s.put O.DBG_LEVEL 1) .ihlod O.DBG_MAX_LEVEL 1, decide ((s.put O.DBG_LEVEL 1).get O.DBG_LEVEL ≤ 1),
      p.debugReady, run.debugReady, run.debugStatus a false == stOk, a % 8 == 0, spaceOf a != spDict, spaceOf a != spFabric,
      run.debugStatus b true == stOk, b % 8 == 0, spaceOf b != spDict, spaceOf b != spFabric,
      none_.debugReady, coreAddr 0 0 % 8 == 0, none_.debugStatus (coreAddr 0 0) false != stOk, none_.haltStatus 0 != stOk, full.haltStatus 8 != stOk, p.haltStatus 8 == stProtection,
      run.haltStatus 1 == stOk, run.get (O.CC_STATE 1) == ccRunning, hlt.debugReady, hlt.haltStatus 1 == stOk, hlt.get (O.CC_STATE 1) == ccHalted,
      run.get (O.CC_STATE 1) != ccHalted] = true := by
  decide +kernel

/-- Where the halted pair's next instruction lies is free: whichever way its fetch goes, one of the two clauses of STEP speaks of it. -/
theorem witness_DebugPort_step (s : State) (d : Nat) : s.pairFetch d = (true, (s.pairFetch d).2) ∨ s.pairFetch d = (false, (s.pairFetch d).2) := by
  cases h : s.pairFetch d with
  | mk ok t => cases ok <;> simp

/-- The responder over a DOE and over the Ihlod link, with and without a certificate, and with its sessions used up. -/
theorem witness_Attestation :
    let s := ((ports mRun).put O.SEC_STATE secSecured).put (O.DOE_ENABLE 0) 7
    let m := s.put O.SEC_STATE secManufacture
    let full := s.setSec (fun x => { x with session := (List.range 8).map (fun k => ⟨k, none⟩) })
    let w := s.setSec (fun x => { x with waiting := some {} })
    let ended := full.setSec (fun x => { x with waiting := some {} })
    let r := (live mAux).put O.SEC_STATE secSecured
    allOf [decide (0 < s.ports), m.spdmReaches (some 0), m.slotEmpty, s.spdmReaches (some 0), !s.slotEmpty, decide (s.sec.session.length < 8),
      full.spdmReaches (some 0), !full.slotEmpty, decide (8 ≤ full.sec.session.length), w.spdmReaches none, s.securedVia (some 0), w.securedVia none,
      !s.sec.session.any (fun y => y.id == 3 && y.via == some 0), ended.sec.session.any (fun y => y.id == 7 && y.via == none), ended.securedVia none,
      ended.spdmReaches none,
      wr r .ihlod O.RMA_ENTER 0xA5A5] = true := by decide +kernel

/-- A host's responder at port 0 with its session, some and no keys left when a set stops, and the commands of port 16. -/
theorem witness_IdeKeys :
    let s := (((ports mRun).put (O.DOE_ENABLE 0) 15).put (O.IDE_ENABLE 0) 1).setSec (fun x => { x with session := [⟨4, some 0⟩], peer := [16] })
    let e := s.put (O.IDE_ENABLE 16) 1
    let sec := ((s.put (O.IDE_KEYS 0) 0x3F).put (O.IDE_STATE 0) ideSecure).setSec (fun x => { x with selected := [(0, 3)] })
    let both := sec.put (O.IDE_KEYS 0) 0x1FFF
    let left := fun (v : Nat) => (((s.put (O.IDE_KEYS 0) v).setBit (O.IDE_KEYS 0) 9 false).setBit (O.IDE_KEYS 0) 10 false).setBit (O.IDE_KEYS 0) 11 false
    allOf [decide (0 < s.ports), s.ideResponder 0, s.bit (O.DOE_ENABLE 0) 3, s.ideKmOk 0 (some 4), s.get (O.IDE_STATE 0) != ideSecure,
      !(s.sec.selected.at 0).testBit 1, (s.put (O.IDE_KEYS 0) 0xFFF).ideResponder 0, (s.put (O.IDE_KEYS 0) 0xFFF).ideKmOk 0 (some 4),
      (left 0xFFF).get (O.IDE_KEYS 0) % 2 ^ 12 != 0, (left 0xE00).get (O.IDE_KEYS 0) % 2 ^ 12 == 0,
      decide sec.Canonical, sec.ideResponder 0, sec.bit (O.DOE_ENABLE 0) 3, sec.ideKmOk 0 (some 4), sec.get (O.IDE_STATE 0) == ideSecure,
      !((sec.selectSet 0 1 0).ideReady 0), decide both.Canonical, both.get (O.IDE_STATE 0) == ideSecure, (both.selectSet 0 1 1).ideReady 0,
      both.activeSet 0 1 != 1, both.activeSet 0 0 == 1, both.ideResponder 0, both.ideKmOk 0 (some 4),
      wr e .ihlod (O.IDE_KEY_CMD 16) 1, wr e .ihlod (O.IDE_KEY_CMD 16) 2, wr (e.put (O.IDE_STATE 16) ideSecure) .ihlod (O.IDE_KEY_CMD 16) 3,
      wr e .ihlod (O.IDE_KEY_CMD 16) 4] = true := by decide +kernel

theorem witness_Counters :
    let s := live mRun
    let t := tenant mRun
    let other := 1 - t.tenantHome 5
    let p : State := { after 25 t with perf := { part := [(partKey other 5 7, 3)] } }
    let odd := after 24 s
    let early := after 39 (s.put O.PC_SNAP_AT 40)
    let snap := after 40 (s.put O.PC_SNAP_AT 40)
    allOf [decide (1 < s.dies), wr s .ihlod (O.PC_SELECT 1 63) 0xFF0001, s.get (O.PC_SELECT 1 63) % 2 ^ 24 != 0xFF0001,
      wr (s.put (O.PC_SELECT 1 63) 0xFF0001) .ihlod (O.PC_SELECT 1 63) 0xFF0001, (s.put (O.PC_SELECT 1 63) 0xFF0001).get (O.PC_SELECT 1 63) % 2 ^ 24 == 0xFF0001,
      wr t .ihlod (O.TC_SELECT 5 7) 0xFF0102, t.get (O.TC_SELECT 5 7) % 2 ^ 24 != 0xFF0102,
      wr (t.put (O.TC_SELECT 5 7) 0xFF0102) .ihlod (O.TC_SELECT 5 7) 0xFF0102, (t.put (O.TC_SELECT 5 7) 0xFF0102).get (O.TC_SELECT 5 7) % 2 ^ 24 == 0xFF0102,
      wr s .ihlod (O.PC_CLEAR 1 63) 1,
      wr t .ihlod (O.TC_CLEAR 5) 255, wr t .ihlod (O.USER_READ 5) 1, odd.now 1 % 25 != 0, p.now other % 25 == 0, other != p.tenantHome 5, p.perf.latest.isEmpty,
      decide (other < p.dies), p.perf.part.keys == [partKey other 5 7], p.perf.part.at (partKey other 5 7) != 0,
      early.get O.PC_SNAP_AT != 0, decide (early.now 0 < early.get O.PC_SNAP_AT), s.get O.PC_SNAP_AT == 0,
      decide snap.Canonical, snap.get O.PC_SNAP_AT != 0, decide (snap.get O.PC_SNAP_AT ≤ snap.now 0), snap.get O.PC_SNAP_CLEAR != 1, snap.perf.part.isEmpty,
      snap.regs.all (fun c => decide (c.1 / 0x100 % 0x100 ≠ 0x48 ∨ c.1 / 0x10000 < 0x100)), snap.get O.PC_SNAP_PERIOD == 0] = true := by decide +kernel

/-- The staging image is in place in UPDATE, and its form is good. -/
def staged : State :=
  ((live mUpdate).setCic (fun c => { c with loaded := true })).writeBytes (dportAddr 0x20 0) (bytesOf 0x43494346 4 ++ bytesOf 1 2)

/-- CC_ACTIVATE is served on that image where its digest and its signature are good and the fuses ask for no higher SVN: what
they hold is open. -/
theorem witness_CicadaPairs_activate :
    staged.stagingSigned = true → staged.get O.CC_MIN_SVN = 0 → wr staged .ihlod O.CC_ACTIVATE 1 = true := by
  intro h m
  have a : staged.activateStatus .ihlod 1 = stOk := by
    unfold State.activateStatus
    rw [h, m]
    decide +kernel
  have f : ((staged.frozenHolder O.CC_ACTIVATE).isSome && !(O.CC_ACTIVATE.cls == 0x30 && O.CC_ACTIVATE.mem == 0x11)) = false := by decide +kernel
  have u : staged.ownerStatus .ihlod O.CC_ACTIVATE 1 =
      (if staged.activateStatus .ihlod 1 ≠ stOk ∨ (1 : Nat) = 0 then staged.only (staged.activateStatus .ihlod 1) else staged.unlessExcluded 6 0 stOk) := by
    unfold State.ownerStatus
    rw [if_neg (by decide), if_neg (by rw [f]; decide), if_neg (by decide), if_neg (by decide), if_neg (by decide)]
    rfl
  rw [a, if_neg (by decide)] at u
  unfold wr State.servesWrite State.reachesOwner
  rw [u]
  decide +kernel

/-! ## Well-formed commands -/

/-- The last units that a SHF-2180 has: every check passes, as does a request of the FM for a VCS that the device itself looks up (R86). -/
theorem test_wellFormed :
    [Instr.tick 1, .read (.cicada 1) 0 0 0 1, .read (.click 67) 0 0 0 1, .read (.mailbox 1023) 0 0 0 1, .mbxRead 1023 0, .dumpStallTimeout 2 0, .timeSync 7,
     .validationEnds 4, .linkUp 31 0 0 0 0 false 0 [], .marginResponse 127 0, .bindVppb 63 15 0 0 0, .bindVppb 64 16 0 0 0, .getVirtualCxlSwitchInfo 64, .migDrained 31, .cleanEvict 1 ⟨0, 0⟩ 63,
     .bankRetired 1 15, .markAck 63 7 0, .groupCancel 1 63 7, .marker 7 4, .piRead 1023, .descriptorStart 1 3, .segmentUp 1 0, .ackDue 33, .inserted 15,
     .sqStartAt 15, .domainRelease 0 9, .pllLock 0 5, .pllLock 1 11, .getCertificate (some 31), .getCertificate none].all (Instr.wf .shf2180) = true := by
  decide +kernel

/-- One command for each check of the well-formedness, which the check refuses: the unit beyond the last. -/
theorem test_illFormed :
    [Instr.tick 2, .read (.cicada 2) 0 0 0 1, .read (.click 16) 0 0 0 1, .read (.click 68) 0 0 0 1, .read (.mailbox 1024) 0 0 0 1, .mbxRead 1024 0, .dumpStallTimeout 3 0,
     .timeSync 8, .validationEnds 0, .validationEnds 5, .linkUp 32 0 0 0 0 false 0 [], .marginResponse 128 0,
     .migDrained 32, .cleanEvict 2 ⟨0, 0⟩ 0, .cleanEvict 0 ⟨0, 0⟩ 64, .bankRetired 0 16, .markAck 0 0 0, .markAck 0 8 0, .groupCancel 2 0 1,
     .marker 8 0, .marker 0 5, .piRead 1024, .descriptorStart 0 4, .segmentUp 2 0, .ackDue 8, .ackDue 34, .inserted 16, .sqStartAt 16, .domainRelease 1 9,
     .domainRelease 0 10, .pllLock 1 4, .pllLock 0 3, .getCertificate (some 32)].any (Instr.wf .shf2180) = false := by decide +kernel

theorem test_illFormed_stops : (match exec (.tick 2) cold with | .fault .noSuchUnit => true | _ => false) = true := by decide +kernel

/-! ## Worked examples and tables of the spec -/

/-- The outcome is a next state of which the test holds. -/
def next (r : Result) (p : State → Bool) : Bool := match r with | .next t => p t | _ => false

/-- Window offsets: the examples of 00_scope.md, R53 and R255 (10.013.04, DP_OP of 7E.001, 22.108.10, 31.1A3.15). -/
theorem test_windowOffset :
    [windowOffset (O.PORT_WIDTH 19), windowOffset (O.DP_OP 1), windowOffset (O.EXT_ENTRY 2064), windowOffset (O.LEAF_SHAPE 52 3 5)] =
      [0x08009820, 0x3F000800, 0x11084080, 0x188D18A8] := by decide +kernel

/-- Object numbers: the examples of R390 and R123 (10.028.06, 20.005.12, granule 3,585 as 22.40E.01). -/
theorem test_objectNumber :
    [(O.LINK_CTRL 40).number, (O.VPPB_BIND 5 2).number, (O.GRN_ENTRY 3585).number] = [0x01002806, 0x02000512, 0x02240E01] := by decide +kernel

/-- LINK_MASKS of an SHF-4180: the example of R47. -/
theorem test_linkMasks : defaultOf .shf4180 (O.LINK_MASKS 0) = 0x03030201 := by decide +kernel

/-- Part codes and counts by variant (R2, R46), and PORT_WIDTH of port 19 of no die of an SHF-2180 beyond its last port. -/
theorem test_identity :
    allOf [defaultOf .shf8180 O.PART_CODE == 0x81, defaultOf .shf2180 O.DIE_COUNT == 2, defaultOf .shf8180 O.PORT_COUNT == 128,
      (rowOf .shf2180 (O.PORT_WIDTH 31)).isSome, (rowOf .shf2180 (O.PORT_WIDTH 32)).isNone, (rowOf .shf4180 ⟨0x00, 5, 0⟩).isNone] = true := by decide +kernel

/-- The read of the example of R123: through decoder 2 of host 9 to port 70 of an SHF-8180. -/
theorem test_translation :
    let s := (State.reset.put (O.EXT_ENTRY 2064) 0x80000007).put (O.GRN_ENTRY 3585) 0x6300000A8400
    let d : Dec := { enable := true, ctrl := 0x00140120, base := 0x4000000000, size := 0x1000000000, fbase := 0x20000000000 }
    allOf [decLayout 0x00140120, d.q == 2 ^ 35, d.translate 0x4001235A40 == some (0x20400246A40, 0), (d.translate 0x4001234A40).isNone,
      d.invert 0x20400246A40 == 0x4001235A40,
      decide (s.lookup 0x20400246A40 = some { port := 70, ld := 0, dpa := 0x54246A40, region := regionPrivate, mig := none })] = true := by decide +kernel

/-- The pools of die 3 of the example of R214. -/
theorem test_pools :
    let s := { State.reset with variant := .shf4180 }
    let s := forEach [(48, roleUpstream, 16), (52, roleDownstream, 16), (56, roleDownstream, 8), (58, roleDownstream, 8), (60, roleDownstream, 8), (62, roleDownstream, 8)]
      (fun x s => (s.put (O.PORT_ROLE x.1) x.2.1).put (O.PORT_WIDTH x.1) x.2.2)
      (forEach (List.range 16) (fun k s => s.put (O.PORT_WIDTH (48 + k)) 0) s)
    (List.range 8).map (s.sizePools.poolSize 3) = [0, 6880, 2816, 4096, 112, 1024, 512, 50096] := by decide +kernel

/-- The refills of the example of R255: under the old settings, under the new ones, and with RESET ZERO. -/
theorem test_shaper :
    [refillTokens false 0 0x200003E800001F40 5400, spendTokens 0x200003E800001F40 64 6400, refillTokens true 0 0x200001F400000FA0 4480,
     refillTokens true 2 0xA00001F400000FA0 4480] = [6400, 6336, 4000, 0] := by decide +kernel

/-- The colours of the example of R247: requests A to C from full buckets, and E after three refills. -/
theorem test_meter :
    let s := forEach [(O.M_CFG 200 0, 2 ^ 61), (O.M_CIR 200 0, 1000), (O.M_CBS 200 0, 4096), (O.M_PIR 200 0, 2000), (O.M_PBS 200 0, 8192)]
      (fun x s => s.put x.1 x.2) (live mRun)
    let a := s.colour 0 200 0 4096 none
    let b := a.2.2.colour 0 200 0 4096 none
    let c := b.2.2.colour 0 200 0 4096 none
    let r := c.2.2.refillMeter 0 400
    let d := r.colour 0 200 0 4096 none
    let e := ((d.2.2.refillMeter 0 400).refillMeter 0 400).colour 0 200 0 4096 none
    [a.1, b.1, c.1, d.1, e.1, 8192 - (e.2.2.bucket 0 400).missP] = [0, 1, 2, 2, 1, 1904] := by decide +kernel

/-- The words of the program of the example of R390 spell its instructions. -/
theorem test_clickWords :
    ([0x0B010001, 0x5C600000, 0x501061A8, 0x09002806, 0x4A300000, 0x3A000018, 0x5C6A0000, 0x30900000, 0x68000000, 0x701001F4, 0].map sqFields) =
      [⟨opLdi, 3, 0, false, 0, true, 1⟩, ⟨opWaite, 4, 3, false, 0, false, 0⟩, ⟨opWaitt, 0, 0, true, 0, false, 25000⟩, ⟨opLdi, 1, 0, false, 0, false, 0x2806⟩,
       ⟨opSto, 2, 1, true, 0, false, 0⟩, ⟨opBr, 2, 0, false, 0, false, 24⟩, ⟨opWaite, 4, 3, false, 5, false, 0⟩, ⟨opCmp, 0, 4, true, 0, false, 0⟩,
       ⟨opTxb, 0, 0, false, 0, false, 0⟩, ⟨opTxc, 0, 0, true, 0, false, 500⟩, ⟨opHalt, 0, 0, false, 0, false, 0⟩] ∧
    ([0x0B010001, 0x5C600000, 0x501061A8, 0x4A300000, 0x3A000018, 0x5C6A0000, 0x30900000, 0x68000000, 0x701001F4, 0].all (fun w => (sqFields w).legal)) = true := by
  decide +kernel

/-- LDI g3, H, 0x0001 leaves 0x0001_0000 in g3, and goes on (the same example). -/
theorem test_ldi : next (exec (.ldi 0) (seqAt 0x0B010001)) (fun t => t.sqReg 0 3 == 0x00010000 && t.get (O.SQ_PC 0) == 1) = true := by decide +kernel

/-- ADD and SUB wrap at 2^32; CMP takes C unsigned and N signed (R386). -/
theorem test_arithmetic :
    let s := fun w => ((seqAt w).put (O.SQ_REG 0 1) 0xFFFFFFFF).put (O.SQ_REG 0 2) 1
    allOf [next (exec (.add 0) (s (wordR 2 3 1 2))) (fun t => t.sqReg 0 3 == 0), next (exec (.sub 0) (s (wordR 3 3 2 1))) (fun t => t.sqReg 0 3 == 2),
      next (exec (.cmp 0) (s (wordR 6 0 1 2))) (fun t => t.get (O.SQ_FLAGS 0) % 8 == 4),
      next (exec (.cmp 0) (s (wordR 6 0 2 1))) (fun t => t.get (O.SQ_FLAGS 0) % 8 == 2)] = true := by decide +kernel

/-- The example of R461: the burst at 0x24_FF00 of space 0x18 is refused at 0x24_FFC0. -/
theorem test_mpu :
    let s := (((live mRun).put (O.MPU_LO 0xD1 0) 0x0003180000000000).put (O.MPU_HI 0xD1 0) 0x000318000024FFBF).put (O.MPU_ATTR 0xD1 0) 0x80000001
    [s.mpuCheck (mpuPort 1) (List.range 32) mpuR 0x000318000024FF00 256, s.mpuCheck (mpuPort 1) (List.range 32) mpuR 0x000318000024FE00 256] =
      [some 0x000318000024FFC0, none] := by decide +kernel

/-- The example of R102: a response with Tag 0x5013 under LINK_EPOCH 6 is stale, and frees nothing. -/
theorem test_staleResponse :
    let s := ((ports mRun).put (O.LINK_EPOCH 16) 6).setTag 16 0x013 (fun _ => { state := 2, epoch := 5 })
    next (exec (.deviceResponse 16 0x5013 0 {}) s) (fun t => t.get (O.STALE_RSP_COUNT 16) == 1 && (t.tagSlot 16 0x013).state == 2) = true := by decide +kernel

/-- A W1C write clears the bits written as 1 and a read of ERROR_COUNT clears the record (R38, R49). -/
theorem test_clears :
    let s := (live mRun).put O.SEC_EVENTS 0x3
    let e := ((live mRun).put (O.ERROR_COUNT 0) 2).put (O.FIRST_ERROR_STATUS 0) stDenied
    allOf [next (exec (.write .ihlod 0x04 0 0x06 [1]) s) (fun t => t.get O.SEC_EVENTS == 2),
      next (exec (.errorCount .ihlod 0) e) (fun t => t.get (O.ERROR_COUNT 0) == 0 && t.get (O.FIRST_ERROR_STATUS 0) == 0 &&
        t.out == [.value .ihlod stOk 2])] = true := by decide +kernel

/-- A die that the variant does not have answers BAD_OBJECT, and no datapath object is served in AUX (R33, R41; the example of R47). -/
theorem test_refusals :
    allOf [next (exec (.read .ihlod 0x00 5 0 1) cold) (fun t => t.out == [.value .ihlod stBadObject 0] && t.get (O.ERROR_COUNT 0) == 1),
      next (exec (.write .ihlod 0x10 0 0x0D [0]) { State.reset with variant := .shf2180 }) (fun t => t.out == [.status .ihlod stBusy])] = true := by decide +kernel

/-- The DICT_READ of the example of R349: its header word and its OP_HEADER, and the frame read back from them. -/
theorem test_frame :
    let f : Frame := { dst := 2, src := 0, type := tDictRead, reqId := 0x31, object := 0x300001, count := 2 }
    allOf [frameHead f 5 false == 0x0144000008000000, frameOp f == 0x0031003000010200, decide (frameRead f = f),
      (frameBytes f 5 false).length == 28] = true := by decide +kernel

/-- The CRC-32C of nine ASCII digits, the check value that the algorithm R51 names is published with. -/
theorem test_crc : crcEnd (crcBytes crcStart ([0x31, 0x32, 0x33, 0x34, 0x35, 0x36, 0x37, 0x38, 0x39])) = 0xE3069283 := by decide +kernel

/-- The channel of the example of R368: at 8 A across 10,360 mV the model's target is 152.88 °C. -/
theorem test_slotModel :
    let s := (live mRun).put (O.CH_STATE 9) chRamping
    let t := s.modelStep 9 { vin := 12000, vout := 1600, isn := 11960, iout := 8000 }
    (t.chan 9).tj = 70000000 + (152880000 - 70000000 : Int) / 10000 := by decide +kernel

/-- No row of the table has bits (opcode_table.json), so no word spells a command. -/
theorem test_noWords : decodeTableWord 32 0 = none := by decide +kernel

end Sys2Proof.Tests
end

section
/-! PROOFS. The scope of the model: which commands end in a next state, the canonical form that every step leaves, and what reset
leaves (the obligations of 00_scope.md). -/
namespace Sys2Proof.Proofs
open Sys2Proof Sys2Proof.Machine Sys2Proof.Laws

/-! ## The units of a state are those of its variant (R2) -/

theorem hasIfc_eq_variant (s : State) (ifc : Iface) : s.hasIfc ifc = s.variant.hasIfc ifc := by
  cases ifc <;> rfl

/-- The machine's list of a die's PLLs holds the numbers that R425 gives the die. -/
theorem mem_pllsOf (d n : Nat) : n ∈ pllsOf d ↔ n ≤ 2 ∨ 8 ≤ n ∧ n < 12 ∨ d = 0 ∧ (n = 4 ∨ n = 5) := by
  unfold pllsOf
  split <;> simp <;> omega

/-- The machine's list of a die's reset domains holds the numbers that R426 gives the die. -/
theorem mem_domainsOf (d i : Nat) : i ∈ domainsOf d ↔ i < 9 ∨ d = 0 ∧ i = 9 := by
  rw [domainsOf, List.mem_range]
  split <;> omega

theorem hasPll_eq_variant (s : State) (d n : Nat) : s.hasPll d n = s.variant.hasPll d n := by
  rw [Bool.eq_iff_iff]
  simp only [State.hasPll, Variant.hasPll, Bool.and_eq_true, decide_eq_true_eq, List.contains_iff_mem, mem_pllsOf]
  rfl

theorem hasDomain_eq_variant (s : State) (d i : Nat) : s.hasDomain d i = s.variant.hasDomain d i := by
  rw [Bool.eq_iff_iff]
  simp only [State.hasDomain, Variant.hasDomain, Bool.and_eq_true, decide_eq_true_eq, List.contains_iff_mem, mem_domainsOf]
  rfl

/-! ## How a command and a step end -/

/-- What a command can do: it has an effect and settles where it is well formed on the state's variant, and stops where it is not. The
commands of one case test for their units in one way; those of the last test for them as `Instr.wf` does, or name none. -/
theorem exec_eq_onUnit (c : Instr) (s : State) : ∃ u, exec c s = onUnit (c.wf s.variant) u := by
  cases c
  case read | write | readClear | errorCount | queryObject | dpOpLoad | dpOpDump | dpOpIdle | dpDataWrite | dpDataRead | todLoad
      | txOpen | txPrepare | txCommitAt | txAbort | txCancel | linkCtrlRetrain | linkCtrlDisable | linkCtrlEnable
      | linkCtrlHotReset | marginCtrl | vppbAdmit | decAdmit | srRecall | bankRetire | grpCtrlAbort | grpCtrlRelease | caAt
      | capEnable | capClear | cfEnable | tAdmit | freeze | thaw | tCmdReset | discard | qDoorbell | qNtfAck | qCtrlEnable
      | qCtrlDisable | qCtrlAbort | qCtrlReset | d2dCtrlRetrain | laneRetire | segCtrlRetrain | chEnable | chDamageClear
      | sqCmdStart | sqCmdStop | fsCapValid | retClear | dieReset | blockResetMover | blockResetCapture | blockResetAuditor
      | blockResetSequencers | blockResetCounters | blockResetTileSequencers | modeRequestRun | dbgAuth | dbgMaxLevel | establish
      | approve | refresh | stop | pcSelect | tcSelect | pcClear | tcClear | userRead | shadowDiscardExtent
      | shadowDiscardGranule | hwmClear | ccActivate | fcEnterSafe | pkgReset | modeRequestAux | modeRequestInit
      | modeRequestConfig | modeRequestLinkup | modeRequestRunNc | modeRequestDrain | modeRequestMaint | modeRequestUpdate
      | rmaEnter | dbgClose =>
    exact ⟨_, congrArg (onUnit · _) (hasIfc_eq_variant s _)⟩
  case getCertificate via | challenge via | getMeasurements via | keyExchange via | endSession via | spdmRequest via =>
    cases via <;> exact ⟨_, rfl⟩
  case pllLock | pllUnlock | clockUnstable =>
    exact ⟨_, congrArg (onUnit · _) (hasPll_eq_variant s _ _)⟩
  case domainRelease =>
    exact ⟨_, congrArg (onUnit · _) (hasDomain_eq_variant s _ _)⟩
  all_goals exact ⟨_, rfl⟩

theorem exec_of_wf {c : Instr} {s : State} (h : c.wf s.variant = true) : ∃ u, exec c s = .next (settle u) := by
  obtain ⟨u, hu⟩ := exec_eq_onUnit c s
  exact ⟨u, by rw [hu, h, onUnit_true]⟩

theorem exec_of_not_wf {c : Instr} {s : State} (h : c.wf s.variant = false) : exec c s = .fault .noSuchUnit := by
  obtain ⟨u, hu⟩ := exec_eq_onUnit c s
  rw [hu, h, onUnit_false]

/-- A command that answers a next state answers a settled one. -/
theorem settled_of_exec_next {c : Instr} {s t : State} (h : exec c s = .next t) : ∃ u, t = settle u := by
  obtain ⟨u, hu⟩ := exec_eq_onUnit c s
  rcases onUnit_cases (hu.symm.trans h) with ⟨-, ht⟩ | ⟨-, ht⟩
  · exact ⟨u, Host.Outcome.next.inj ht⟩
  · cases ht

/-- A step that answers a next state answers a settled one, whether it takes a command or idles. -/
theorem settled_of_step_next {s t : State} (h : step s = .next t) : ∃ u, t = settle u := by
  cases hp : s.pending with
  | nil =>
    rw [step, hp] at h
    exact ⟨fxIdle s, (Host.Outcome.next.inj h).symm⟩
  | cons c rest =>
    rw [step, hp] at h
    exact settled_of_exec_next h

/-! ## The state after reset (R6, R434) -/

/-- The reset store lists TILE_STATE alone, at another value than its default. -/
theorem reset_canonical : State.reset.Canonical := by decide

theorem reset_get_default {o : Obj} (h : o.key ≠ (⟨0x51, 0, 0⟩ : Obj).key) :
    State.reset.get o = defaultOf .shf8180 o % 2 ^ 64 := by
  have unlisted : State.reset.regs.find o.key = none := by
    rw [State.reset, Table.find, if_neg h.symm]
    split <;> rfl
  rw [State.get, unlisted]
  rfl

theorem defaultOf_mode (v : Variant) : defaultOf v O.MODE = mAux := by
  cases v <;> decide

theorem rowOfSlot_linkState {v : Variant} {p : Nat} (h : p < v.ports) :
    rowOfSlot v (O.LINK_STATE p) = tableR107.find? (Row.holdsSlot 0x07) := by
  rw [rowOfSlot]
  exact congrArg (List.find? _) (if_pos h)

theorem defaultOf_linkState {v : Variant} {p : Nat} (h : p < v.ports) : defaultOf v (O.LINK_STATE p) = lsDisabled := by
  rw [defaultOf, rowOfSlot_linkState h]
  rfl

theorem reset_mode : State.reset.mode = mAux := by
  rw [State.mode, reset_get_default (by decide), defaultOf_mode]
  rfl

theorem reset_linkState {p : Nat} (h : p < 128) : State.reset.linkState p = lsDisabled := by
  have key_ne : (O.LINK_STATE p).key ≠ (⟨0x51, 0, 0⟩ : Obj).key := by
    simp only [Obj.key, O.LINK_STATE]
    omega
  rw [State.linkState, reset_get_default key_ne, defaultOf_linkState h]
  rfl

/-! ## The obligations -/

/-- Settles O1: a step answers a settled state, and what settles ends in the pass that puts the stores into canonical form. -/
theorem everyStepKeepsCanonicalForm : Obligations.EveryStepKeepsCanonicalForm := by
  intro s t _ h
  obtain ⟨u, rfl⟩ := settled_of_step_next h
  exact settle_canonical u

/-- Settles O5, from the one way in which a command of either kind ends. -/
theorem unitsThatExist : Obligations.UnitsThatExist :=
  ⟨fun _ _ h => (exec_of_wf h).imp' settle fun _ hu => hu, fun _ _ h => exec_of_not_wf h⟩

/-- Settles O2. -/
theorem resetIsCanonical : Obligations.ResetIsCanonical :=
  ⟨reset_canonical, rfl, rfl⟩

/-- Settles O3: the reset store lists the tile's member alone, and the defaults of MODE and LINK_STATE are AUX and DISABLED. -/
theorem resetValues : Obligations.ResetValues := by
  refine ⟨fun o h => reset_get_default h, ⟨reset_mode, rfl, rfl⟩, fun p h => ?_⟩
  rw [reset_linkState h]
  decide

end Sys2Proof.Proofs
end

section
/-! PROOFS. The datapath of hosts: what a request, an AtomicOp, the restore of a map entry and the turn of a private atomic do (the
obligations of 01_architecture.md). -/
namespace Sys2Proof.Proofs
open Sys2Proof Sys2Proof.Machine Sys2Proof.Laws

/-! ## A command on a port or a die of the package has its effect -/

theorem onUnit_hasPort {s t u : State} {p : Nat} (hp : p < s.ports) (h : t = u) : onUnit (s.hasPort p) t = .next (settle u) := by
  rw [State.hasPort, decide_eq_true hp, onUnit_true, h]

theorem onUnit_hasDie {s t u : State} {d : Nat} (hd : d < s.dies) (h : t = u) : onUnit (s.hasDie d) t = .next (settle u) := by
  rw [State.hasDie, decide_eq_true hd, onUnit_true, h]

theorem exec_hostRequest {s u : State} {p md tag data mask ecc : Nat} {op : MemOp} {hpa : Word} {poison : Bool} (hp : p < s.ports)
    (h : s.hostRequest (hostReqOf p op md hpa.toNat tag data mask poison 0) ecc = u) :
    exec (.hostRequest p op md hpa tag data mask poison ecc) s = .next (settle u) :=
  onUnit_hasPort hp h

theorem exec_mapRestore {s u : State} {d index : Nat} {granule ok : Bool} (hd : d < s.dies) (h : fxMapRestore d granule index ok s = u) :
    exec (.mapRestore d granule index ok) s = .next (settle u) :=
  onUnit_hasDie hd h

theorem exec_atomicop {s u : State} {p size tag operand compare : Nat} {x : AtomicReq} {hpa : Word} (hp : p < s.ports)
    (h : fxAtomicOp p x size hpa.toNat tag operand compare s = u) : exec (.atomicop p x size hpa tag operand compare) s = .next (settle u) :=
  onUnit_hasPort hp h

theorem exec_privateAtomic {s u : State} {d n : Nat} (hd : d < s.dies) (h : fxPrivateAtomic d n s = u) :
    exec (.privateAtomic d n) s = .next (settle u) :=
  onUnit_hasDie hd h

/-! ## A host's CXL.mem request (R25, R27) -/

/-- A request as its port receives it: stamped, and of the class that R27 gives its message. -/
def asReceived (s : State) (q : HostReq) : HostReq :=
  { q with origin := s.stamp (dieOfPort q.port), evict := s.evictClass q }

section HostRequest
variable {s u : State} {q r : HostReq} {cell : Nat} (hgate : s.carries q.port = true ∧ s.role q.port = roleUpstream ∧ s.speaks q.port 1 = true)
  (hop : q.op ≠ .memSpecRd) (hr : r = asReceived s q)
  (hcell : s.receiveCell q.port (r.toMsg (s.get (O.HOST_ID q.port))) r.evict = (cell, u)) (hsafe : u.dieSafe (dieOfPort q.port) = false)
include hgate hop hr hcell hsafe

/-- With a tracker to be had and no older request of its port and class waiting, the request is admitted. -/
theorem hostRequest_admits {k : Nat} (hk : u.admissible { r with cell := cell } = some k)
    (hfirst : u.rq.waiting.any (fun w => w.port == q.port && w.evict == r.evict) = false) (ecc : Nat) :
    s.hostRequest q ecc = u.admitReq { r with cell := cell } k ecc := by
  subst hr
  simp only [asReceived] at hcell hk hfirst
  simp [State.hostRequest, asReceived, hgate, hcell, hsafe, hop, hk, hfirst]

/-- With no tracker to be had, the request waits in its cell behind those that came before it. -/
theorem hostRequest_waits (hk : u.admissible { r with cell := cell } = none) (ecc : Nat) :
    s.hostRequest q ecc = { u with rq := { u.rq with waiting := u.rq.waiting ++ [{ r with cell := cell }] } } := by
  subst hr
  simp only [asReceived] at hcell hk
  simp [State.hostRequest, asReceived, hgate, hcell, hsafe, hop, hk]

end HostRequest

/-! ## The restore of a bad map entry (R127) -/

/-- The state without the mark of a bad entry, where nothing was held for it. -/
def clearBad (s : State) (d : Nat) (granule : Bool) (index : Nat) : State :=
  { s with map := { s.map with bad := s.map.bad.filter (fun b => !(b.die == d && b.granule == granule && b.index == index)), hold := [] } }

/-- The restore of an entry for which nothing is held; where it failed the entry is INVALID. -/
theorem fxMapRestore_unheld {s : State} {d index : Nat} {granule : Bool} (hbad : s.mapBad d granule index = true) (hhold : s.map.hold = [])
    (ok : Bool) :
    fxMapRestore d granule index ok s =
      if ok then clearBad s d granule index
      else (clearBad s d granule index).put (if granule then O.GRN_ENTRY index else O.EXT_ENTRY index) 0 := by
  simp only [fxMapRestore, clearBad, hbad, hhold, if_true, List.filter_nil, forEach, List.foldl_nil]

/-! ## A host's AtomicOp (R171) -/

/-- The message of an AtomicOp; that of a CAS carries both operands. -/
def atomicMsg (s : State) (p op size hpa tag operand compare : Nat) : Msg :=
  { type := .req, kind := .atomic, channel := 7, host := s.get (O.HOST_ID p), hpa := hpa, tag := tag,
    data := if op % 4 = 2 then compare % 256 ^ size + operand % 256 ^ size * 256 ^ size else operand % 256 ^ size,
    len := if op % 4 = 2 then 2 * size else size, opcode := 0x4C + op % 4,
    owner := .host (s.get (O.HOST_ID p)) tag, origin := s.stamp (dieOfPort p) }

theorem fxAtomicOp_starts {s u : State} {p size hpa tag operand compare cell : Nat} {x : AtomicReq} {m : Msg} (hcarries : s.carries p = true)
    (hrole : s.role p = roleUpstream) (hm : m = atomicMsg s p x.op size hpa tag operand compare)
    (hcell : s.receiveCell p m = (cell, u)) (hsafe : u.dieSafe (dieOfPort p) = false) :
    fxAtomicOp p x size hpa tag operand compare s = u.startAtomic p x.tc x.ecc { m with cell := cell }
      { op := x.op % 4, size := size, operand := operand % 256 ^ size, compare := compare % 256 ^ size } := by
  subst hm
  rw [atomicMsg] at hcell
  simp [fxAtomicOp, atomicMsg, hcarries, hrole, hcell, hsafe]

/-! ## The turn of a private atomic (R173) -/

section PrivateAtomic
variable {s : State} {d n : Nat} {a : PrivAtomic} (hfind : s.dir.atomics.find? (fun a => a.die == d && a.id == n) = some a)
  (hphase : a.phase = 0) (hfree : s.atomicBlocked a = false)
include hfind hphase hfree

theorem fxPrivateAtomic_linkDown (hlink : s.linkAlive a.port = false) : fxPrivateAtomic d n s = s.endAtomic d n cplCa 0 := by
  simp [fxPrivateAtomic, hfind, hphase, hfree, hlink]

/-- The device performs the atomic, at its own address of the line. -/
theorem fxPrivateAtomic_device (hlink : s.linkAlive a.port = true) {addr : Nat} (hdev : a.msg.device = some addr) :
    fxPrivateAtomic d n s = (s.setAtomic d n (fun a => { a with phase := 3, msg := { a.msg with cell := 0 } })).arrive a.port
      { a.msg with dpa := addr, hasFa := false, owner := .atomicWrite d n } false := by
  simp [fxPrivateAtomic, hfind, hphase, hfree, hlink, hdev]

/-- The die performs the atomic, and reads the line first; an atomic that holds no cell has none to keep for its write. -/
theorem fxPrivateAtomic_reads (hlink : s.linkAlive a.port = true) (hdev : a.msg.device = none) (hcell : s.holdsCell d a.msg.cell = false) :
    fxPrivateAtomic d n s = (s.setAtomic d n (fun a => { a with phase := 1 })).arrive a.port
      { a.msg with kind := .read, channel := 0, opcode := 1, owner := .atomicRead d n, dpa := lineOf a.msg.dpa, fa := lineOf a.msg.fa,
                   data := 0, mask := 0, len := 0 } false := by
  simp [fxPrivateAtomic, hfind, hphase, hfree, hlink, hdev, hcell]

end PrivateAtomic

/-! ## The obligation -/

/-- Settles O24: each command names a unit of the package, and its effect is the one of the clause's case. -/
theorem hostRequests : Obligations.HostRequests := by
  refine ⟨?admitted, ?waiting, ?restored, ?atomicOp, ?linkDown, ?device, ?read⟩
  case admitted =>
    intro s u r p md tag data mask ecc cell k op hpa poison hp hcarries hrole hspeaks hop hr hcell hsafe hk hfirst
    exact exec_hostRequest hp (hostRequest_admits (q := hostReqOf p op md hpa.toNat tag data mask poison 0)
      ⟨hcarries, hrole, hspeaks⟩ hop hr hcell hsafe hk hfirst ecc)
  case waiting =>
    intro s u r p md tag data mask ecc cell op hpa poison hp hcarries hrole hspeaks hop hr hcell hsafe hk
    exact exec_hostRequest hp (hostRequest_waits (q := hostReqOf p op md hpa.toNat tag data mask poison 0)
      ⟨hcarries, hrole, hspeaks⟩ hop hr hcell hsafe hk ecc)
  case restored =>
    intro s d index granule ok hd hbad hhold
    exact exec_mapRestore hd (fxMapRestore_unheld hbad hhold ok)
  case atomicOp =>
    intro s u p size tag operand compare cell x hpa m hp hcarries hrole hm hcell hsafe
    exact exec_atomicop hp (fxAtomicOp_starts hcarries hrole hm hcell hsafe)
  case linkDown =>
    intro s d n a hd hfind hphase hfree hlink
    exact exec_privateAtomic hd (fxPrivateAtomic_linkDown hfind hphase hfree hlink)
  case device =>
    intro s d n addr a hd hfind hphase hfree hlink hdev
    exact exec_privateAtomic hd (fxPrivateAtomic_device hfind hphase hfree hlink hdev)
  case read =>
    intro s d n a hd hfind hphase hfree hlink hdev hcell
    exact exec_privateAtomic hd (fxPrivateAtomic_reads hfind hphase hfree hlink hdev hcell)

end Sys2Proof.Proofs
end

section
/-! PROOFS. The object dictionary: what its services answer, read, write, stage and refuse, and what the tenant mailboxes and the data port
do (the obligations of 02_object_dictionary.md). -/
namespace Sys2Proof.Proofs
open Sys2Proof Sys2Proof.Machine Sys2Proof.Laws

/-! ## A service as a command: its outcome in the error record and its answer (R42, R44, R49) -/

theorem onUnit_hasIfc {s t u : State} {ifc : Iface} (hifc : s.hasIfc ifc = true) (h : t = u) : onUnit (s.hasIfc ifc) t = .next (settle u) := by
  rw [hifc, onUnit_true, h]

theorem done_eq {t u : State} (h : t = u) : done t = .next (settle u) := by
  rw [done, h]

theorem hasIfc_of_servesWrite {s : State} {ifc : Iface} {o : Obj} {v : Nat} (h : s.servesWrite ifc o v = true) : s.hasIfc ifc = true := by
  simp only [State.servesWrite, State.reachesOwner, Bool.and_eq_true] at h
  obtain ⟨⟨⟨⟨⟨⟨⟨hifc, -⟩, -⟩, -⟩, -⟩, -⟩, -⟩, -⟩ := h
  exact hifc

theorem hasIfc_of_servesRead {s : State} {ifc : Iface} {o : Obj} (h : s.servesRead ifc o = true) : s.hasIfc ifc = true := by
  simp only [State.servesRead, Bool.and_eq_true] at h
  obtain ⟨⟨⟨⟨⟨hifc, -⟩, -⟩, -⟩, -⟩, -⟩ := h
  exact hifc

section Answers
variable {s t : State} {ifc : Iface} {o : Obj}

theorem readCmd_of_dictRead {n : Nat} {rs : List (Nat × Nat)} (h : s.dictRead ifc o n = (rs, t)) :
    s.readCmd ifc o n = forEach rs (fun r a => a.send (.value ifc r.1 r.2)) t := by
  rw [State.readCmd, h]

theorem writeCmd_of_dictWrite {vs sts : List Nat} (h : s.dictWrite ifc o true vs = (sts, t)) :
    s.writeCmd ifc o vs = if ifc = .inband then t else forEach sts (fun st a => a.send (.status ifc st)) t := by
  rw [State.writeCmd, h]

/-- A WRITE of one slot answers its status, and the in-band window posts it. -/
theorem write1_of_dictWrite {v st : Nat} (h : s.dictWrite ifc o true [v] = ([st], t.logAccess ifc o st)) :
    s.write1 ifc o v = t.answersWith ifc o st :=
  writeCmd_of_dictWrite h

/-- The posted WRITE of one slot: the in-band window leaves what the service does, and no answer. -/
theorem write1_inband (v : Nat) : s.write1 .inband o v = (s.dictWrite .inband o true [v]).2 := by
  simp [State.write1, State.writeCmd]

end Answers

/-! ## A malformed range is refused whole (R42) -/

section Malformed
variable {s : State} {ifc : Iface} {o : Obj} {n : Nat} (hn : 1 ≤ n) (hn' : n ≤ 32) (hform : s.malformed o n = true)
include hn hn' hform

theorem refusedWhole_malformed {write : Bool} (hmpu : s.ifcRefused ifc o n write = none) :
    s.refusedWhole ifc o n write = some (stBadObject, s.logSlots ifc o n stBadObject) := by
  have size : ¬ (n = 0 ∨ 32 < n) := by omega
  simp only [State.refusedWhole, if_neg size, hmpu, hform, if_true]

theorem dictRead_malformed (hmpu : s.ifcRefused ifc o n false = none) :
    s.dictRead ifc o n = (List.replicate n (stBadObject, 0), s.logSlots ifc o n stBadObject) := by
  rw [State.dictRead, refusedWhole_malformed hn hn' hform hmpu]

theorem readCmd_malformed (hmpu : s.ifcRefused ifc o n false = none) :
    s.readCmd ifc o n = forEach (List.replicate n (stBadObject, 0)) (fun r a => a.send (.value ifc r.1 r.2)) (s.logSlots ifc o n stBadObject) :=
  readCmd_of_dictRead (dictRead_malformed hn hn' hform hmpu)

end Malformed

theorem dictWrite_malformed {s : State} {ifc : Iface} {o : Obj} {form : Bool} {vs : List Nat} (hn : 1 ≤ vs.length) (hn' : vs.length ≤ 32)
    (hform : s.malformed o vs.length = true) (hmpu : s.ifcRefused ifc o vs.length true = none) :
    s.dictWrite ifc o form vs = (List.replicate vs.length stBadObject, s.logSlots ifc o vs.length stBadObject) := by
  rw [State.dictWrite, refusedWhole_malformed hn hn' hform hmpu]

/-! ## One member (R38, R39) -/

/-- A service of one slot whose range is well formed is not refused as a whole. -/
theorem refusedWhole_one {s : State} {ifc : Iface} {o : Obj} {write : Bool} (hmpu : s.ifcRefused ifc o 1 write = none)
    (hform : s.malformed o 1 = false) : s.refusedWhole ifc o 1 write = none := by
  simp [State.refusedWhole, hmpu, hform]

section Member
variable {s t : State} {ifc : Iface} {o : Obj} (hform : s.malformed o 1 = false) (hwindow : isWindow o = false)
include hform hwindow

theorem dictRead_member {st v : Nat} (hmpu : s.ifcRefused ifc o 1 false = none) (h : s.readSlot ifc o = (st, v, t)) :
    s.dictRead ifc o 1 = ([(st, v)], t.logAccess ifc o st) := by
  simp [State.dictRead, refusedWhole_one hmpu hform, State.readMembers, hwindow, h]

theorem dictWrite_member {form : Bool} {v st : Nat} {r : Row} (hmpu : s.ifcRefused ifc o 1 true = none) (hr : rowOf s.variant o = some r)
    (hslots : r.slots = 1) (h : s.writeObj ifc o form [v] = (st, t)) : s.dictWrite ifc o form [v] = ([st], t.logAccess ifc o st) := by
  simp [State.dictWrite, refusedWhole_one hmpu hform, State.writeMembers, hwindow, hr, hslots, h, State.logSlots, forEach]

end Member

/-- A read that fails one of the checks 1 to 4 of R39 reads nothing. -/
theorem readSlot_refused {s : State} {ifc : Iface} {o : Obj} (hgate : s.ifcGate ifc o false = stOk)
    (hcheck : s.readStatus ifc (s.baseOf o) ≠ stOk) : s.readSlot ifc o = (s.readStatus ifc (s.baseOf o), 0, s) := by
  simp [State.readSlot, hgate, hcheck]

/-- A write that fails one of the checks 1 to 6 of R39 writes nothing. -/
theorem writeObj_refused {s : State} {ifc : Iface} {o : Obj} {form : Bool} {vs : List Nat} (hgate : s.ifcGate ifc o true = stOk)
    (hcheck : s.writeCheck ifc o form vs ≠ stOk) : s.writeObj ifc o form vs = (s.writeCheck ifc o form vs, s) := by
  simp [State.writeObj, hgate, hcheck]

/-- The first write that a transaction stages (R73). -/
theorem stageObj_first {s : State} {x : Nat} (hempty : (s.tx.at x).staged = []) (o : Obj) (vs : List Nat) :
    s.stageObj x o vs = (stOk, s.setTx x (fun t => { t with staged := t.staged ++ [⟨o.number, vs⟩] })) := by
  simp [State.stageObj, hempty]

/-- An RW-T object's write that passes its checks is staged by the interface's transaction (R73). -/
theorem writeObj_stages {s : State} {ifc : Iface} {o : Obj} {form : Bool} {vs : List Nat} {r : Row} {x : Nat} (hgate : s.ifcGate ifc o true = stOk)
    (hcheck : s.writeCheck ifc o form vs = stOk) (hr : rowOf s.variant o = some r) (hacc : r.acc = .rwt) (htx : ifcTx ifc = some x) :
    s.writeObj ifc o form vs = s.stageObj x o vs := by
  simp [State.writeObj, hgate, hcheck, hr, hacc, htx]

/-! ## The effect of a write (R38, R50) -/

theorem effect_w1c {s : State} {o : Obj} {r : Row} (hacc : r.acc = .w1c) (hcap : ¬ (o.cls = 0x40 ∧ o.mem = 0x05)) (v : Nat) :
    s.effect o r v = s.put o (maskWithout (s.get o) v) := by
  rw [State.effect, if_pos hacc, if_neg hcap]

/-- A mask without another: its halves, and its lowest bit. -/
theorem maskWithout_halves (a b : Nat) :
    maskWithout a b / 2 = maskWithout (a / 2) (b / 2) ∧ (maskWithout a b % 2 = 1 ↔ a % 2 = 1 ∧ b % 2 = 0) := by
  have low : (a &&& b) % 2 = 1 ↔ a % 2 = 1 ∧ b % 2 = 1 := by simp
  have high : (a &&& b) / 2 = a / 2 &&& b / 2 := Nat.and_div_two
  have le : a &&& b ≤ a := Nat.and_le_left
  have half_le : a / 2 &&& b / 2 ≤ a / 2 := Nat.and_le_left
  change (a - (a &&& b)) / 2 = a / 2 - (a / 2 &&& b / 2) ∧ ((a - (a &&& b)) % 2 = 1 ↔ _)
  omega

theorem testBit_maskWithout (a b j : Nat) : (maskWithout a b).testBit j = (a.testBit j && !b.testBit j) := by
  induction j generalizing a b with
  | zero =>
    rw [Bool.eq_iff_iff]
    simp [Nat.testBit_zero, (maskWithout_halves a b).2]
  | succ j ih => simp only [Nat.testBit_succ, (maskWithout_halves a b).1, ih]

/-- What is put is read back bit by bit, in the 64 bits of a slot (R36). -/
theorem testBit_get_put {s : State} (h : s.Canonical) (o : Obj) (v : Nat) {j : Nat} (hj : j < 64) :
    ((s.put o v).get o).testBit j = v.testBit j := by
  rw [get_put_self (Canonical.rising h), Nat.testBit_mod_two_pow, decide_eq_true hj, Bool.true_and]

/-- QUERY_OBJECT's row is the one of R49, an RW object. -/
theorem acc_queryObject {v : Variant} {x : Nat} {r : Row} (hr : rowOf v (O.QUERY_OBJECT x) = some r) : r.acc = .rw := by
  have table : tableOf v 0x7F (1 + x) = tableR49 ∨ tableOf v 0x7F (1 + x) = [] := by
    simp only [tableOf]
    split
    · omega
    · split <;> simp
  rw [rowOf, O.QUERY_OBJECT] at hr
  have member_eight : ∀ r ∈ tableR49, r.holds 0x08 = true → r.acc = .rw := by decide
  rcases table with table | table <;> rw [table] at hr
  · exact member_eight r (List.mem_of_find?_eq_some hr) (List.find?_some hr)
  · cases hr

/-- No owner's check of a write of QUERY_OBJECT leaves a trace. -/
theorem ownerStatus_queryObject (s : State) (ifc : Iface) (x v : Nat) : (s.ownerStatus ifc (O.QUERY_OBJECT x) v).2 = s := by
  simp only [State.ownerStatus]
  split
  · rfl
  · split <;> rfl

theorem effect_queryObject {s : State} {x : Nat} {r : Row} (hacc : r.acc = .rw) (v : Nat) :
    s.effect (O.QUERY_OBJECT x) r v = fxQueryObject x v s := by
  have : s.effect (O.QUERY_OBJECT x) r v = fxQueryObject (1 + x - 1) v s := by
    simp [State.effect, hacc, O.QUERY_OBJECT, State.effectUnits]
  rw [this, Nat.add_sub_cancel_left]

/-! ## The in-band window (R43) -/

theorem ifcRefused_inband (s : State) (o : Obj) (n : Nat) (write : Bool) : s.ifcRefused .inband o n write = none := rfl

theorem windowForm_slots {off len : Nat} (h : windowForm off len = true) (h4 : len ≠ 4) : 8 ≤ len ∧ len ≤ 256 ∧ len % 8 = 0 := by
  simp [windowForm, h4] at h
  omega

theorem fxWindowRead_formless {s : State} {off len : Nat} (h : windowForm off len = false) :
    fxWindowRead off len s = (s.logAccess .inband (slotAt off) stBadValue).send (.bytes .inband (List.replicate len 255)) := by
  simp [fxWindowRead, State.windowBytes, h]

/-- A window read of whole slots is the READ of them, a slot that is refused reading all-ones. -/
theorem fxWindowRead_slots {s t : State} {off len : Nat} {rs : List (Nat × Nat)} (h : windowForm off len = true) (h4 : len ≠ 4)
    (hread : s.dictRead .inband (slotAt off) (len / 8) = (rs, t)) :
    fxWindowRead off len s =
      t.send (.bytes .inband (rs.flatMap (fun r => if r.1 = stOk then bytesOf r.2 8 else List.replicate 8 255))) := by
  simp [fxWindowRead, State.windowBytes, h, h4, hread]

/-- Slots that are all refused read all-ones. -/
theorem flatMap_refused {st : Nat} (hst : st ≠ stOk) (n : Nat) :
    (List.replicate n (st, 0)).flatMap (fun r => if r.1 = stOk then bytesOf r.2 8 else List.replicate 8 (255 : Byte)) =
      List.replicate (n * 8) 255 := by
  simp only [List.flatMap_replicate, if_neg hst, List.flatten_replicate_replicate]

/-- The values of the slots that a window write covers. -/
def slotValues (data : List Byte) : List Nat := (List.range (data.length / 8)).map (fun k => ofBytes ((data.drop (8 * k)).take 8))

@[simp] theorem length_slotValues (data : List Byte) : (slotValues data).length = data.length / 8 := by
  simp [slotValues]

theorem slotValues_one {data : List Byte} (h : data.length = 8) : slotValues data = [ofBytes data] := by
  simp [slotValues, h, List.take_of_length_le]

/-- A window write of whole slots is the WRITE of their values, posted. -/
theorem fxWindowWrite_slots {s : State} {off : Nat} {data : List Byte} (h : windowForm off data.length = true) (h4 : data.length ≠ 4) :
    fxWindowWrite off data s = (s.dictWrite .inband (slotAt off) true (slotValues data)).2 := by
  simp [fxWindowWrite, h, h4, slotValues]

theorem fxWindowWrite_formless {s : State} {off : Nat} {data : List Byte} (h : windowForm off data.length = false) :
    fxWindowWrite off data s = s.logAccess .inband (slotAt off) stBadValue := by
  simp [fxWindowWrite, h]

/-! ## Tenant mailboxes (R35, R40) -/

theorem onUnit_hasTenant {t : Nat} {u v : State} (ht : t < 1024) (h : u = v) : onUnit (hasTenant t) u = .next (settle v) := by
  rw [hasTenant, decide_eq_true ht, onUnit_true, h]

/-- A mailbox has no error record in class 7F (R49). -/
theorem logAccess_mailbox (s : State) (t : Nat) (o : Obj) (st : Nat) : s.logAccess (.mailbox t) o st = s := rfl

/-- A request that the way to the tenant's window lets through to an idle mailbox starts. -/
theorem fxMbxOp_starts {s : State} {t p w : Nat} (hway : s.windowWay t = some (p, w)) (hadmit : s.get (O.VPPB_ADMIT (s.tenantHost t) w) ≠ 0)
    (hidle : (s.dict.mailbox.at t).busy = false) (op obj : Nat) (val : Option Nat) :
    fxMbxOp t op obj val s = s.mbxStart t op (fun m => { m with object := obj % 2 ^ 28, value := val.getD m.value }) := by
  simp [fxMbxOp, hway, hadmit, hidle]

/-- A waiting read ends in its turn with the status and the value of its slot. -/
theorem fxMbxDone_read {s u : State} {t v : Nat} {m : Mailbox} (hm : s.dict.mailbox.at t = m) (hbusy : m.busy = true) (hop : m.op = 1)
    (hnext : s.mbxNext t = true) (hread : s.dictRead (.mailbox t) (Obj.ofNumber m.object) 1 = ([(stOk, v)], u)) :
    fxMbxDone t s = u.setMailbox t (fun m => { m with busy := false, op := 0, status := stOk, value := v }) := by
  simp [fxMbxDone, hm, hbusy, hop, hnext, hread]

/-! ## The data port (R54, R55) -/

/-- An access of the data window that a step before R39's checks refuses moves nothing. -/
theorem readWindow_gated {s : State} {ifc : Iface} {o : Obj} {stalls : Bool} (hgate : s.ifcGate ifc o false ≠ stOk) :
    s.readWindow ifc o 1 stalls = ([(s.ifcGate ifc o false, 0)], s.logAccess ifc o (s.ifcGate ifc o false)) := by
  simp [State.readWindow, hgate, State.logSlots, forEach]

/-- A stalled DUMP of data port 2 that the halted pair of die 0 reads is refused BUSY, not TIMEOUT: a pair that stands makes no access, and
that step comes before the burst's. -/
theorem fxDumpStall_standing {s : State} {slot : Nat} (hslot : slot < 32) (hopen : s.windowOpen 2 dpDump = true)
    (hactive : s.get (O.DP_STATE 2) = dpActive) (hspace : s.get (O.DP_ADDR 2) / 2 ^ 56 ≠ 0x10) (hstands : s.pairStands 0 = true) :
    fxDumpStall 2 slot s = (s.logAccess (.cicada 0) (O.DP_DATA 2 slot) stBusy).send (.value (.cicada 0) stBusy 0) := by
  have gate : s.ifcGate (.cicada 0) (O.DP_DATA 2 slot) false = stBusy := if_pos hstands
  have window := readWindow_gated (stalls := true) (s := s) (ifc := .cicada 0) (o := O.DP_DATA 2 slot) (by rw [gate]; decide)
  simp [-Nat.reducePow, fxDumpStall, hopen, hactive, hspace, hslot, portIfc, window, gate]

/-! ## The obligations -/

/-- Settles O4: the step's two cases. -/
theorem frontCommandRuns : Obligations.FrontCommandRuns := by
  refine ⟨fun s c rest => rfl, fun s hp => ?_⟩
  rw [step, hp]
  rfl

/-- Settles O6: a malformed range is refused before any member is met, and a member that a check refuses is neither read nor written. -/
theorem refusedAccessChangesNothing : Obligations.RefusedAccessChangesNothing := by
  refine ⟨?write, ?writeRange, ?readRange, ?readClear, ?windowRead, ?windowWrite, ?read⟩
  case write =>
    intro s ifc c i m v r hifc hne hmpu hform hwindow hr hslots hgate hcheck
    refine onUnit_hasIfc hifc ((write1_of_dictWrite (dictWrite_member hform hwindow hmpu hr hslots (writeObj_refused hgate hcheck))).trans ?_)
    rw [State.answersWith, if_neg hne]
  case writeRange =>
    intro s ifc c i m vs hifc hn hn' hmpu hform
    rw [← List.length_map (fun v : Word => v.toNat)] at hn hn' hmpu hform ⊢
    exact onUnit_hasIfc hifc (writeCmd_of_dictWrite (dictWrite_malformed hn hn' hform hmpu))
  case readRange =>
    intro s ifc c i m n hifc hn hn' hmpu hform
    exact onUnit_hasIfc hifc (readCmd_malformed hn hn' hform hmpu)
  case readClear =>
    intro s ifc c i m hifc hmpu hform
    exact onUnit_hasIfc hifc (readCmd_malformed (by decide) (by decide) hform hmpu)
  case windowRead =>
    intro s off len h h4 hform
    obtain ⟨lo, hi, whole⟩ := windowForm_slots h h4
    have read := dictRead_malformed (by omega) (by omega) hform (ifcRefused_inband s _ _ _)
    have ones := flatMap_refused (show stBadObject ≠ stOk by decide) (len / 8)
    rw [Nat.div_mul_cancel (Nat.dvd_of_mod_eq_zero whole)] at ones
    exact done_eq ((fxWindowRead_slots h h4 read).trans (by rw [ones]))
  case windowWrite =>
    intro s off data h h4 hform
    obtain ⟨lo, hi, -⟩ := windowForm_slots h h4
    have slots := length_slotValues data
    rw [← slots] at hform ⊢
    have written := dictWrite_malformed (form := true) (by omega) (by omega) hform (ifcRefused_inband s _ _ _)
    exact done_eq ((fxWindowWrite_slots h h4).trans (by rw [written]))
  case read =>
    intro s ifc c i m hifc hmpu hform hwindow hgate hcheck
    exact onUnit_hasIfc hifc (readCmd_of_dictRead (dictRead_member hform hwindow hmpu (readSlot_refused hgate hcheck)))

/-- Settles O10: a W1C object's effect, and the bits of a mask without another. -/
theorem clearedBits : Obligations.ClearedBits := by
  intro s ifc c i m v r hs h hr hacc hcap howner
  refine ⟨?_, fun j hj => by rw [testBit_get_put hs _ _ hj, testBit_maskWithout]⟩
  refine onUnit_hasIfc (hasIfc_of_servesWrite h) ((write1_served hr h).trans ?_)
  rw [howner, effect_w1c hacc hcap]

/-- Settles O13: each clause by what its service reads. -/
theorem dictionaryReads : Obligations.DictionaryReads := by
  refine ⟨?read, ?readClear, ?errorCount, ?window, ?formless, ?mailboxStarts, ?mailboxEnds⟩
  case read =>
    intro s ifc c i m h hkeeps
    exact onUnit_hasIfc (hasIfc_of_servesRead h) (readCmd_of_dictRead (dictRead_served h hkeeps))
  case readClear =>
    intro s ifc c i m h hclears hc
    exact onUnit_hasIfc (hasIfc_of_servesRead h) (readCmd_of_dictRead (dictRead_clears h hclears fun hx => hc hx.1))
  case errorCount =>
    intro s ifc x h hclears
    exact onUnit_hasIfc (hasIfc_of_servesRead h) (readCmd_of_dictRead (dictRead_errors h hclears))
  case window =>
    intro s off hform h hkeeps
    exact done_eq (fxWindowRead_slots hform (by decide) (dictRead_served h hkeeps))
  case formless =>
    intro s off len hform
    exact done_eq (fxWindowRead_formless hform)
  case mailboxStarts =>
    intro s u t p w obj ht hway hadmit hidle hu
    subst hu
    exact onUnit_hasTenant ht (fxMbxOp_starts hway hadmit hidle 1 obj.toNat none)
  case mailboxEnds =>
    intro s t m ht hm hbusy hop hnext h hkeeps
    subst hm
    have read := dictRead_served h hkeeps
    rw [logAccess_mailbox] at read
    exact onUnit_hasTenant ht (fxMbxDone_read rfl hbusy hop hnext read)

/-- Settles O14: each clause by what its service writes or stages. -/
theorem dictionaryWrites : Obligations.DictionaryWrites := by
  refine ⟨?write, ?stages, ?window, ?formless, ?mailbox, ?query⟩
  case write =>
    intro s ifc c i m v r h hr
    exact onUnit_hasIfc (hasIfc_of_servesWrite h) (write1_served hr h)
  case stages =>
    intro s ifc c i m x v r hifc hmpu hform hwindow hr hslots hacc hgate htx hcheck hempty
    have staged := (writeObj_stages hgate hcheck hr hacc htx).trans (stageObj_first hempty _ _)
    exact onUnit_hasIfc hifc (write1_of_dictWrite (dictWrite_member hform hwindow hmpu hr hslots staged))
  case window =>
    intro s data off r hlen hform h hr
    have slots := fxWindowWrite_slots (s := s) (off := off) (data := data) (by rwa [hlen]) (by omega)
    rw [slotValues_one hlen, ← write1_inband, write1_served hr h] at slots
    exact done_eq slots
  case formless =>
    intro s data off hform
    exact done_eq (fxWindowWrite_formless hform)
  case mailbox =>
    intro s u t p w obj v ht hway hadmit hidle hu
    subst hu
    exact onUnit_hasTenant ht (fxMbxOp_starts hway hadmit hidle 2 obj.toNat (some v.toNat))
  case query =>
    intro s ifc x v h
    refine writeOne_effect h fun r hr => ?_
    rw [ownerStatus_queryObject, effect_queryObject (acc_queryObject hr)]
    rfl

/-- After reset, in mode RUN: the pair of die 0, which the debugger halted, has a DUMP of the staging image ACTIVE at data port 2. -/
def haltedDump : State :=
  ((((State.reset.put O.MODE mRun).put (O.CC_STATE 0) ccHalted).put (O.DP_OP 2) dpDump).put (O.DP_STATE 2) dpActive).put (O.DP_ADDR 2)
    (0x20 * 2 ^ 56)

theorem haltedDump_open : haltedDump.windowOpen 2 dpDump = true ∧ haltedDump.get (O.DP_STATE 2) = dpActive ∧
    haltedDump.get (O.DP_ADDR 2) / 2 ^ 56 ≠ 0x10 ∧ haltedDump.readStatus (portIfc 2) ⟨0x7E, 2, 0x20⟩ = stOk ∧
    haltedDump.burstStatus 2 dpDump 0 = (stOk, haltedDump) := by decide +kernel

theorem haltedDump_stands : haltedDump.pairStands 0 = true := by decide +kernel

/-- LAST_STATUS of the pair's error record once the refusal with a status is over. -/
def lastStatusAfter (st : Nat) : Nat :=
  (settle ((haltedDump.logAccess (.cicada 0) (O.DP_DATA 2 0) st).send (.value (.cicada 0) st 0))).get (O.LAST_STATUS 2)

theorem lastStatusAfter_ne : lastStatusAfter stBusy ≠ lastStatusAfter stTimeout := by decide +kernel

/-- Refutes O15: the clause of DUMP_STALL_TIMEOUT leaves out the step before R39's checks. With the pair of die 0 halted, the stalled read of
data port 2, which it makes, is recorded and answered BUSY (log 126), not TIMEOUT. -/
theorem not_dataPort : ¬ Obligations.DataPort := by
  rintro ⟨-, -, -, stall, -, -⟩
  obtain ⟨hopen, hactive, hspace, hread, hburst⟩ := haltedDump_open
  have claimed := stall haltedDump 2 0 (by decide) (by decide) hopen hactive hspace hread hburst (by decide)
  have refused : exec (.dumpStallTimeout 2 0) haltedDump =
      .next (settle ((haltedDump.logAccess (.cicada 0) (O.DP_DATA 2 0) stBusy).send (.value (.cicada 0) stBusy 0))) :=
    done_eq (fxDumpStall_standing (by decide) hopen hactive hspace haltedDump_stands)
  exact lastStatusAfter_ne (congrArg (fun t : State => t.get (O.LAST_STATUS 2)) (Host.Outcome.next.inj (refused.symm.trans claimed)))

end Sys2Proof.Proofs
end

section
/-! PROOFS. Fabric time, configuration transactions and the package's mode: what the time commands, the commands and events of a transaction,
and the mode changes do (the obligations of 03_fabric_time_and_commit.md). -/
namespace Sys2Proof.Proofs
open Sys2Proof Sys2Proof.Machine Sys2Proof.Laws

/-! ## Tables whose keys need not rise -/

/-- What is found before a key is dropped is found after it. -/
theorem find_drop_of_some {α : Type} {t : Table α} {k k' : Nat} {v : α} (h : t.find k' = some v) (ne : k' ≠ k) :
    (t.drop k).find k' = some v := by
  induction t with
  | nil => cases h
  | cons p r ih =>
    obtain ⟨j, w⟩ := p
    rw [Table.drop]
    split
    case isTrue lt =>
      rw [Table.find] at h ⊢
      split
      case isTrue eq => rwa [if_pos eq] at h
      case isFalse neq =>
        rw [if_neg neq] at h
        split at h
        case isTrue lt' => rw [if_pos lt']; exact ih h
        case isFalse => cases h
    case isFalse ge =>
      split
      case isTrue eq =>
        rw [Table.find, if_neg (by omega)] at h
        split at h
        · exact h
        · cases h
      case isFalse => exact h

/-- A value that is not the default is read where it was written, whether the keys rise or not. -/
theorem at_set_ne_default {α : Type} [DecidableEq α] [Inhabited α] (t : Table α) (k : Nat) {v : α} (h : v ≠ default) : (t.set k v).at k = v := by
  rw [Table.at, Table.set, Table.write, if_neg h, find_place_self, Option.getD_some]

/-! ## The object store: classes, bits and counters -/

/-- The class that the key of an object of a table holds. -/
abbrev keyClass (k : Nat) : Nat := k / 0x100 % 0x100

/-- An object that is not at its default keeps its value when another is written, whether the store's keys rise or not. -/
theorem get_put_ne_of_ne_default {s : State} {o o' : Obj} (v : Nat) (ne : o'.key ≠ o.key) (h : s.get o' ≠ defaultOf s.variant o' % 2 ^ 64) :
    (s.put o v).get o' = s.get o' := by
  cases found : s.regs.find o'.key with
  | none => exact absurd (by rw [State.get, found]) h
  | some w =>
    have kept : (s.put o v).regs.find o'.key = some w := by
      rw [State.put, Table.write]
      split
      · exact find_drop_of_some found ne
      · rw [find_place_ne _ _ ne, found]
    rw [State.get, State.get, kept, found]

/-- An object reads within the 64 bits of its slot (R36). -/
theorem get_lt (s : State) (o : Obj) : s.get o < 2 ^ 64 := by
  rw [State.get]
  split
  · exact BitVec.isLt _
  · exact Nat.mod_lt _ (by decide)

section Bits
variable {s : State} (o : Obj) (b : Nat) (on : Bool)

/-- Setting a bit writes its object or nothing. -/
theorem setBit_eq_put_or_self (s : State) : s.setBit o b on = s ∨ ∃ v, s.setBit o b on = s.put o v := by
  unfold State.setBit
  split
  · exact .inl rfl
  · split <;> exact .inr ⟨_, rfl⟩

@[simp] theorem setBit_clk : (s.setBit o b on).clk = s.clk := by
  obtain e | ⟨v, e⟩ := setBit_eq_put_or_self o b on s <;> rw [e]; rfl

theorem setBit_rising (h : s.regs.risingFrom 0 = true) : (s.setBit o b on).regs.risingFrom 0 = true := by
  obtain e | ⟨v, e⟩ := setBit_eq_put_or_self o b on s <;> rw [e]
  · exact h
  · exact put_rising h o v

theorem get_setBit_ne (h : s.regs.risingFrom 0 = true) {o' : Obj} (ne : o'.key ≠ o.key) : (s.setBit o b on).get o' = s.get o' := by
  obtain e | ⟨v, e⟩ := setBit_eq_put_or_self o b on s <;> rw [e]
  exact get_put_ne h v ne

/-- A bit of a slot that is set reads set. -/
theorem bit_setBit_self (h : s.regs.risingFrom 0 = true) (hb : b < 64) : (s.setBit o b true).bit o b = true := by
  rw [State.setBit]
  split
  case isTrue set => exact set
  case isFalse unset =>
    rw [State.bit, if_pos rfl, get_put_self h, Nat.testBit_mod_two_pow, decide_eq_true hb, Bool.true_and, Nat.add_comm,
      Nat.testBit_two_pow_add_eq, Bool.not_eq_true']
    exact Bool.eq_false_iff.2 unset

end Bits

theorem count32_rising {s : State} (h : s.regs.risingFrom 0 = true) (o : Obj) : (s.count32 o).regs.risingFrom 0 = true :=
  put_rising h o _

theorem get_count32_ne {s : State} (h : s.regs.risingFrom 0 = true) {o o' : Obj} (ne : o'.key ≠ o.key) : (s.count32 o).get o' = s.get o' :=
  get_put_ne h _ ne

theorem get_count32_self {s : State} (h : s.regs.risingFrom 0 = true) (o : Obj) : (s.count32 o).get o = min (s.get o + 1) (2 ^ 32 - 1) := by
  rw [State.count32, State.addSat, get_put_self h]
  omega

/-! ## The dies' copies of time -/

theorem time_setTime_self {s : State} (h : s.clk.die.risingFrom 0 = true) (d : Nat) (f : DieTime → DieTime) :
    (s.setTime d f).time d = f (s.time d) :=
  at_upd_self h d f

theorem time_setTime_ne {s : State} (h : s.clk.die.risingFrom 0 = true) {d e : Nat} (f : DieTime → DieTime) (ne : e ≠ d) :
    (s.setTime d f).time e = s.time e :=
  at_upd_ne h f ne

theorem setTime_rising {s : State} (h : s.clk.die.risingFrom 0 = true) (d : Nat) (f : DieTime → DieTime) :
    (s.setTime d f).clk.die.risingFrom 0 = true :=
  risingFrom_write h _ _ _

/-- A copy that is not as after reset is read as it was left, whether the table's keys rise or not. -/
theorem time_setTime_ne_default {s : State} {d : Nat} {f : DieTime → DieTime} (h : f (s.time d) ≠ default) :
    (s.setTime d f).time d = f (s.time d) :=
  at_set_ne_default _ _ h

/-- A die's copy after a tick (R59, R61). -/
def ticked (s : State) (d : Nat) : DieTime :=
  { s.time d with now := if s.counting d = true then (s.now d + 1) % 2 ^ 64 else s.now d, sub := 0, elapsed := s.elapsed d + 1 }

/-- A tick changes the copy of its die and, beside it, at most REF_LOCK_TIME. -/
theorem fxTick_clk (d : Nat) (s : State) : (fxTick d s).clk = (s.setTime d (fun _ => ticked s d)).clk := by
  rw [fxTick, apply_ite State.clk, put_clk, ite_self]
  rfl

theorem ticked_ne_default (s : State) (d : Nat) : ticked s d ≠ default := by
  intro h
  have := congrArg DieTime.elapsed h
  exact Nat.succ_ne_zero _ this

theorem fxTick_time_self (d : Nat) (s : State) : (fxTick d s).time d = ticked s d := by
  rw [State.time, fxTick_clk]
  exact time_setTime_ne_default (ticked_ne_default s d)

theorem fxTick_time_ne {s : State} (h : s.clk.die.risingFrom 0 = true) {d e : Nat} (ne : e ≠ d) : (fxTick d s).time e = s.time e := by
  rw [State.time, fxTick_clk]
  exact time_setTime_ne h _ ne

/-- What a core cycle may do to a die's copy: it keeps FT_NOW and the ticks, lowers no sub-tick count and takes none beyond 63 (R59). -/
def CycleOf (a b : DieTime) : Prop := b.now = a.now ∧ b.elapsed = a.elapsed ∧ a.sub ≤ b.sub ∧ (a.sub ≤ 63 → b.sub ≤ 63)

theorem CycleOf.refl (a : DieTime) : CycleOf a a := ⟨rfl, rfl, Nat.le_refl _, id⟩

theorem CycleOf.trans {a b c : DieTime} (hab : CycleOf a b) (hbc : CycleOf b c) : CycleOf a c := by
  obtain ⟨now₁, elapsed₁, sub₁, top₁⟩ := hab
  obtain ⟨now₂, elapsed₂, sub₂, top₂⟩ := hbc
  exact ⟨now₂.trans now₁, elapsed₂.trans elapsed₁, Nat.le_trans sub₁ sub₂, top₂ ∘ top₁⟩

/-- A step of the sub-tick count holds at 63. -/
theorem CycleOf.step (a : DieTime) (on : Bool) : CycleOf a { a with sub := if on && decide (a.sub < 63) then a.sub + 1 else a.sub } := by
  refine ⟨rfl, rfl, ?_, ?_⟩ <;> dsimp only <;> split <;> rename_i c
  · exact Nat.le_succ _
  · exact Nat.le_refl _
  · have below : a.sub < 63 := of_decide_eq_true (Bool.and_eq_true_iff.1 c).2
    exact fun _ => below
  · exact id

theorem fxCoreCycle_time {s : State} (h : s.clk.die.risingFrom 0 = true) (e : Nat) : CycleOf (s.time e) ((fxCoreCycle s).time e) := by
  have kept := forEach_keeps (P := fun t => t.clk.die.risingFrom 0 = true ∧ CycleOf (s.time e) (t.time e))
    (f := fun d s => s.setTime d (fun t => { t with sub := if s.counting d && (d == 0 || t.loaded) && decide (t.sub < 63) then t.sub + 1 else t.sub }))
    (fun d t ⟨rising, cycle⟩ => ⟨setTime_rising rising d _, ?_⟩) (List.range s.dies) s ⟨h, CycleOf.refl _⟩
  · exact kept.2
  · by_cases eq : e = d
    · subst eq
      rw [time_setTime_self rising]
      exact cycle.trans (CycleOf.step _ _)
    · rwa [time_setTime_ne rising _ eq]

/-! ## Modes (R435 to R441) -/

/-- Dividing the cells into pools writes objects of class 59 alone (R214). -/
theorem sizePools_keeps {s : State} (h : s.regs.risingFrom 0 = true) :
    s.sizePools.regs.risingFrom 0 = true ∧ s.sizePools.clk = s.clk ∧ ∀ o : Obj, keyClass o.key ≠ 0x59 → s.sizePools.get o = s.get o := by
  refine forEach_keeps (P := fun t => t.regs.risingFrom 0 = true ∧ t.clk = s.clk ∧ ∀ o : Obj, keyClass o.key ≠ 0x59 → t.get o = s.get o)
    ?_ (List.range s.dies) s ⟨h, rfl, fun _ _ => rfl⟩
  intro d t ⟨rising, clk, same⟩
  refine ⟨put_rising (by exact rising) _ _, (put_clk _ _ _).trans (by exact clk), fun o ho => ?_⟩
  have ne : o.key ≠ (O.SHARED_SIZE d).key := by
    simp only [keyClass, Obj.key, O.SHARED_SIZE] at ho ⊢
    omega
  exact (get_put_ne (by exact rising) _ ne).trans (same o ho)

/-- What a mode change leaves in the records of R441. -/
theorem setMode_records {s : State} (h : s.Canonical) {m : Nat} (hm : m < 2 ^ 64) :
    (s.setMode m).mode = m ∧ (s.setMode m).get O.MODE_PREV = s.mode ∧ (s.setMode m).get O.MODE_CHANGED_AT = s.now 0 % 2 ^ 64 ∧
      (s.setMode m).get O.MODE_CHANGES = min (s.get O.MODE_CHANGES + 1) (2 ^ 32 - 1) := by
  obtain ⟨u, hu, rising, clk, same⟩ : ∃ u, (if s.mode = mConfig ∧ m ≠ mConfig then s.sizePools else s) = u ∧ u.regs.risingFrom 0 = true ∧
      u.clk = s.clk ∧ ∀ o : Obj, keyClass o.key ≠ 0x59 → u.get o = s.get o := by
    refine ⟨_, rfl, ?_⟩
    split
    · exact sizePools_keeps (Canonical.rising h)
    · exact ⟨Canonical.rising h, rfl, fun _ _ => rfl⟩
  have mode : u.mode = s.mode := same O.MODE (by decide)
  have now : u.now 0 = s.now 0 := by rw [State.now, State.time, clk]; rfl
  have fits : s.mode < 2 ^ 64 := get_lt s O.MODE
  have rising₁ := put_rising rising O.MODE_PREV u.mode
  have rising₂ := put_rising rising₁ O.MODE_CHANGED_AT (u.now 0)
  have rising₃ := count32_rising rising₂ O.MODE_CHANGES
  simp only [State.setMode, hu]
  refine ⟨?_, ?_, ?_, ?_⟩
  · rw [State.mode, get_put_self rising₃, Nat.mod_eq_of_lt hm]
  · rw [get_put_ne rising₃ _ (by decide), get_count32_ne rising₂ (by decide), get_put_ne rising₁ _ (by decide), get_put_self rising, mode,
      Nat.mod_eq_of_lt fits]
  · rw [get_put_ne rising₃ _ (by decide), get_count32_ne rising₂ (by decide), get_put_self rising₁, now]
  · rw [get_put_ne rising₃ _ (by decide), get_count32_self rising₂, get_put_ne rising₁ _ (by decide), get_put_ne rising _ (by decide),
      same _ (by decide)]

theorem setMode_mode {s : State} (h : s.Canonical) {m : Nat} (hm : m < 2 ^ 64) : (s.setMode m).mode = m :=
  (setMode_records h hm).1

/-- A request asks for no mode DEGRADED: it stands for RUN. -/
theorem requested_ne_degraded (v : Nat) : requested v ≠ mDegraded := by
  rw [requested]
  split
  · decide
  · assumption

/-- What an accepted request asks for (R436, R437). -/
theorem requested_of_ok {s : State} {v : Nat} (h : (s.modeRequestStatus v).1 = stOk) :
    (requested v ≠ 0 ∧ requested v < mSafe) ∧ (s.isCurrent v = true ∨ mayRequest s.mode (requested v) = true) := by
  have notRefused {st : Nat} (hst : st ≠ stOk) : s.modeRequestStatus v ≠ (st, s) := fun e => hst ((congrArg Prod.fst e).symm.trans h)
  have bad : stBadValue ≠ stOk := by decide
  have busy : stBusy ≠ stOk := by decide
  have valid : ¬ (requested v = 0 ∨ mSafe ≤ requested v) := fun c => notRefused bad (if_pos c)
  have settled : ¬ (s.mode = mInit ∨ s.rst.pendingMode.isSome ∨ s.mode = mSafe) := fun c => notRefused busy ((if_neg valid).trans (if_pos c))
  refine ⟨by omega, Decidable.or_iff_not_imp_left.2 fun other => ?_⟩
  have running : ¬ s.packageReset = true := fun c =>
    notRefused busy ((if_neg valid).trans ((if_neg settled).trans ((if_neg other).trans (if_pos c))))
  have listed : ¬ (!mayRequest s.mode (requested v)) = true := fun c =>
    notRefused busy ((if_neg valid).trans ((if_neg settled).trans ((if_neg other).trans ((if_neg running).trans (if_pos c)))))
  simpa using listed

/-- What FC_RETIRED does to the mode, with no transaction LOCKED (R437). -/
theorem autoMode_unlocked {s : State} (h : s.anyLocked = false) : s.autoMode =
    if s.mode = mRun ∧ s.get O.FC_RETIRED ≠ 0 then s.setMode mDegraded
    else if s.mode = mDegraded ∧ s.get O.FC_RETIRED = 0 then s.setMode mRun else s := by
  simp only [State.autoMode, h, Bool.false_eq_true, if_false]

/-- FC_RETIRED leaves the mode, or changes it to one of RUN and DEGRADED. -/
theorem autoMode_mode_cases {s : State} (h : s.Canonical) : s.autoMode.mode = s.mode ∨ s.autoMode.mode = mDegraded ∨ s.autoMode.mode = mRun := by
  simp only [State.autoMode]
  split
  · exact .inl rfl
  · split
    · exact .inr (.inl (setMode_mode h (by decide)))
    · split
      · exact .inr (.inr (setMode_mode h (by decide)))
      · exact .inl rfl

/-! ## The package's mode changes and INIT (R436, R437, R440) -/

/-- A change that has waited for its tick is made, with none waiting after it (R436). -/
theorem fxModeChange_due {s u : State} {m : Nat} (hp : s.rst.pendingMode = some m) (hat : s.rst.pendingAt < s.elapsed 0)
    (hlocked : s.anyLocked = false) (hu : u = s.setRst (fun r => { r with pendingMode := none })) :
    fxModeChange s = if m = mInit then u.startInit else u.changeMode (if m = mRun ∧ u.get O.FC_RETIRED ≠ 0 then mDegraded else m) := by
  subst hu
  simp only [fxModeChange, hp, if_pos (And.intro hat hlocked)]

/-- With no change waiting, before its tick, and while a transaction is LOCKED, the mode stays. -/
theorem fxModeChange_waits {s : State} (h : s.rst.pendingMode = none ∨ s.elapsed 0 ≤ s.rst.pendingAt ∨ s.anyLocked = true) :
    fxModeChange s = s := by
  unfold fxModeChange
  split
  · rfl
  · rename_i m hp
    refine if_neg fun ⟨hat, hlocked⟩ => ?_
    rcases h with h | h | h
    · exact nomatch hp.symm.trans h
    · omega
    · exact nomatch hlocked.symm.trans h

section Init
variable {s : State}

theorem fxInitEnd_ends (hmode : s.mode = mInit) (hlocked : s.anyLocked = false) (hdone : ∀ d, d < s.dies → s.initDone d = true) :
    fxInitEnd s = (s.put O.INIT_STATUS 2).changeMode mConfig :=
  if_pos ⟨hmode, hlocked, by simpa using hdone⟩

theorem fxInitEnd_waits (hlocked : s.anyLocked = true) : fxInitEnd s = s :=
  if_neg fun c => nomatch c.2.1.symm.trans hlocked

/-- A failed INIT changes to AUX at once, or once no transaction is LOCKED (R78, R440). -/
theorem failInit_eq (s : State) (status : Nat) : s.failInit status =
    if (s.put O.INIT_STATUS status).anyLocked then
      (s.put O.INIT_STATUS status).setRst (fun r => { r with pendingMode := some mAux, pendingAt := s.elapsed 0 })
    else (s.put O.INIT_STATUS status).changeMode mAux :=
  rfl

theorem failInit_unlocked {status : Nat} (h : (s.put O.INIT_STATUS status).anyLocked = false) :
    s.failInit status = (s.put O.INIT_STATUS status).changeMode mAux := by
  rw [failInit_eq, h, if_neg Bool.false_ne_true]

theorem failInit_locked {status : Nat} (h : (s.put O.INIT_STATUS status).anyLocked = true) : s.failInit status =
    (s.put O.INIT_STATUS status).setRst (fun r => { r with pendingMode := some mAux, pendingAt := s.elapsed 0 }) := by
  rw [failInit_eq, h, if_pos rfl]

theorem fxInitTimeout_fails (hmode : s.mode = mInit) (hat : s.rst.initAt + s.get O.INIT_LIMIT ≤ s.elapsed 0) : fxInitTimeout s = s.failInit 4 :=
  if_pos ⟨hmode, hat⟩

/-- A die's self-test ends in the step of INIT that it belongs to, with its repairs recorded. -/
theorem fxSramSelfTestEnd_records {d repairs : Nat} (hinit : s.initOf d = true) (hdata : s.domainOn d dDatapath = true)
    (hdir : s.domainOn d dDirectory = true) (htested : s.rst.initTested.at d = false) (hrepairs : repairs < 65536) (ok : Bool) :
    fxSramSelfTestEnd d repairs ok s =
      if ok then (s.put (O.SRAM_REPAIRS d) repairs).setRst (fun r => { r with initTested := r.initTested.set d true })
      else (s.put (O.SRAM_REPAIRS d) repairs).failInit 3 := by
  simp only [fxSramSelfTestEnd, hinit, hdata, hdir, htested, Nat.mod_eq_of_lt hrepairs, Bool.and_self, Bool.not_false, if_true]

end Init

/-! ## The counters keep the time (R476) -/

theorem addGeneral_clk (s : State) (inst n : Nat) : (s.addGeneral inst n).clk = s.clk := by
  rw [State.addGeneral, apply_ite State.clk, put_clk, ite_self, put_clk]

theorem addPartial_clk (s : State) (d t k n : Nat) : (s.addPartial d t k n).clk = s.clk := by
  simp only [State.addPartial, State.tcGrow]
  split
  · split
    · exact setBit_clk _ _ _
    · rfl
  · rfl

theorem perfCount_clk (s : State) (d ev q t n : Nat) : (s.perfCount d ev q t n).clk = s.clk := by
  rw [State.perfCount]
  split
  · rfl
  · refine forEach_keeps (P := fun u => u.clk = s.clk) (fun ⟨inst, m, w⟩ u h => ?_) _ s rfl
    dsimp only
    split
    · split
      · exact (addGeneral_clk u _ _).trans h
      · split
        · exact (addPartial_clk u _ _ _ _).trans h
        · exact h
    · exact h

theorem fxTickCounted_time (d e : Nat) (s : State) : (fxTickCounted d s).time e = (fxTick d s).time e := by
  rw [State.time, State.time, fxTickCounted, perfCount_clk]

/-! ## How a transaction fails (R76, R80) -/

theorem mem_insertRaise {n : Nat} {a b : Act} {l : List Act} : a ∈ insertRaise n b l ↔ a = b ∨ a ∈ l := by
  induction l using insertRaise.induct (source := n) with
  | case1 => simp [insertRaise]
  | case2 => simp [insertRaise, *]
  | case3 => simp [insertRaise, *, or_left_comm]
  | case4 => simp [insertRaise, *, or_left_comm]

/-- What the failing of transactions keeps: the time, what is owed, and every object but those of class 07. -/
structure FailsOnly (s t : State) : Prop where
  rising : s.regs.risingFrom 0 = true → t.regs.risingFrom 0 = true
  clk : t.clk = s.clk
  acts : ∀ a ∈ s.acts, a ∈ t.acts
  get : s.regs.risingFrom 0 = true → ∀ o : Obj, keyClass o.key ≠ 0x07 → t.get o = s.get o

theorem FailsOnly.refl (s : State) : FailsOnly s s := ⟨id, rfl, fun _ h => h, fun _ _ _ => rfl⟩

theorem FailsOnly.trans {s t u : State} (hst : FailsOnly s t) (htu : FailsOnly t u) : FailsOnly s u :=
  ⟨htu.rising ∘ hst.rising, htu.clk.trans hst.clk, fun a h => htu.acts a (hst.acts a h),
    fun h o ho => (htu.get (hst.rising h) o ho).trans (hst.get h o ho)⟩

/-- A write of an object of class 07. -/
theorem FailsOnly.put (s : State) {o : Obj} (v : Nat) (hc : keyClass o.key = 0x07) : FailsOnly s (s.put o v) :=
  ⟨fun h => put_rising h o v, put_clk s o v, fun _ h => (put_acts s o v).symm ▸ h,
    fun h _ ho => get_put_ne h v fun e => ho ((congrArg keyClass e).trans hc)⟩

theorem keyClass_tx {x m : Nat} (h : m < 256) : keyClass (⟨0x07, x, m⟩ : Obj).key = 0x07 := by
  simp only [keyClass, Obj.key]
  omega

theorem FailsOnly.count32 (s : State) {o : Obj} (hc : keyClass o.key = 0x07) : FailsOnly s (s.count32 o) := .put s _ hc

theorem txRelease_raiseDie_failsOnly (s : State) (x n : Nat) : FailsOnly s ((s.txRelease x).raiseDie 0 n) :=
  ⟨id, rfl, fun _ h => mem_insertRaise.2 (.inr h), fun _ _ _ => rfl⟩

theorem txFail_failsOnly (s : State) (x status index object : Nat) : FailsOnly s (s.txFail x status index object) := by
  have state := FailsOnly.put s (o := O.TX_STATE x) txFailed (keyClass_tx (by decide))
  have outcome := state.trans (.put _ (o := O.TX_STATUS x) status (keyClass_tx (by decide)))
  have place := outcome.trans (.put _ (o := O.TX_FAIL_INDEX x) index (keyClass_tx (by decide)))
  have culprit := place.trans (.put _ (o := O.TX_FAIL_OBJECT x) object (keyClass_tx (by decide)))
  have counted := culprit.trans (.count32 _ (o := O.FAILED_COUNT) (by decide))
  exact counted.trans (txRelease_raiseDie_failsOnly _ x F.TX_FAILED)

theorem txFailWhere_failsOnly (s : State) (p : State → Nat → Bool) (status : Nat) : FailsOnly s (s.txFailWhere p status) := by
  refine forEach_keeps (P := FailsOnly s) (fun x t h => ?_) txInstances s (FailsOnly.refl s)
  split
  · exact h.trans (txFail_failsOnly t x status _ _)
  · exact h

@[simp] theorem txRelease_get (s : State) (x : Nat) (o : Obj) : (s.txRelease x).get o = s.get o := rfl

/-- The member that the key of a member of class 07 holds. -/
theorem key_mod_txMember {x m : Nat} (h : m < 0x100) : (⟨0x07, x, m⟩ : Obj).key % 0x100 = m := by
  simp only [Obj.key]
  omega

/-- A failed transaction reads the outcome put in its lower members: the writes that follow are of TX_FAIL_INDEX and higher ones (R84). -/
theorem get_txFail {s : State} (h : s.regs.risingFrom 0 = true) (x status index object : Nat) {o : Obj} (ho : o.key % 0x100 < 0x05) :
    (s.txFail x status index object).get o = ((s.put (O.TX_STATE x) txFailed).put (O.TX_STATUS x) status).get o := by
  have rising₂ := put_rising (put_rising h (O.TX_STATE x) txFailed) (O.TX_STATUS x) status
  have rising₃ := put_rising rising₂ (O.TX_FAIL_INDEX x) index
  have rising₄ := put_rising rising₃ (O.TX_FAIL_OBJECT x) object
  have ne {y m : Nat} (hm : m < 0x100) (le : 0x05 ≤ m) : o.key ≠ (⟨0x07, y, m⟩ : Obj).key := fun e => by
    rw [e, key_mod_txMember hm] at ho
    omega
  rw [← get_put_ne rising₂ (o := O.TX_FAIL_INDEX x) index (ne (by decide) (by decide)),
    ← get_put_ne rising₃ (o := O.TX_FAIL_OBJECT x) object (ne (by decide) (by decide)),
    ← get_count32_ne rising₄ (o := O.FAILED_COUNT) (ne (by decide) (by decide)), State.txFail, raiseDie_get, txRelease_get]

/-- What a failed transaction reads (R80). -/
theorem txFail_outcome {s : State} (h : s.Canonical) (x : Nat) {status : Nat} (hst : status < 2 ^ 64) (index object : Nat) :
    (s.txFail x status index object).get (O.TX_STATE x) = txFailed ∧ (s.txFail x status index object).get (O.TX_STATUS x) = status := by
  have rising := Canonical.rising h
  have state : (O.TX_STATE x).key % 0x100 = 1 := key_mod_txMember (by decide)
  have outcome : (O.TX_STATUS x).key % 0x100 = 2 := key_mod_txMember (by decide)
  constructor
  · rw [get_txFail rising _ _ _ _ (by omega), get_put_ne (put_rising rising _ _) _ (fun e => by omega), get_put_self rising]
    rfl
  · rw [get_txFail rising _ _ _ _ (by omega), get_put_self (put_rising rising _ _), Nat.mod_eq_of_lt hst]

/-! ## The reference, FT_SYNC, a slew and holdover (R62 to R66) -/

/-- The reference no longer counts as good (R64). -/
abbrev refAway (s : State) (edges : Bool) : State :=
  { s with clk := { s.clk with refEdges := edges, refGood := false, goodWindows := 0, windowSpoilt := true } }

/-- The loss of FT_REF, recorded and raised (R64). -/
def refLost (s : State) (edges : Bool) : State := ((refAway s edges).setBit O.FT_FLAGS 0 true).raiseDie 0 F.FT_REF_LOST

section RefLost
variable {s : State} (h : s.Canonical) (edges : Bool)
include h

theorem refLost_rising : (refLost s edges).regs.risingFrom 0 = true :=
  setBit_rising _ _ _ (Canonical.rising h)

theorem refLost_ftState : (refLost s edges).ftState = s.ftState :=
  get_setBit_ne (s := refAway s edges) O.FT_FLAGS 0 true (Canonical.rising h) (o' := O.FT_STATE) (by decide)

/-- A loss in LOCKED begins holdover (R63, R64). -/
theorem loseRef_locked (hst : s.ftState = ftLocked) : s.loseRef edges =
    ((((refLost s edges).put O.FT_STATE ftHoldover).put O.HOLDOVER_START ((refLost s edges).now 0)).endSlew).txHoldover :=
  if_pos (.inl ((refLost_ftState h edges).trans hst))

end RefLost

theorem refLost_now (s : State) (edges : Bool) (d : Nat) : (refLost s edges).now d = s.now d := by
  rw [State.now, State.time, refLost, raiseDie_clk, setBit_clk]
  rfl

theorem txHoldover_failsOnly (s : State) : FailsOnly s s.txHoldover := txFailWhere_failsOnly _ _ _

/-- What the loss of FT_REF in LOCKED leaves (R63, R64): beside holdover itself, it at most fails transactions. -/
theorem loseRef_of_locked {s : State} (h : s.Canonical) (hst : s.ftState = ftLocked) (edges : Bool) :
    (s.loseRef edges).clk.refGood = false ∧ (s.loseRef edges).ftState = ftHoldover ∧
      (s.loseRef edges).get O.HOLDOVER_START = s.now 0 % 2 ^ 64 ∧ (s.loseRef edges).bit O.FT_FLAGS 0 = true ∧
      Act.raise F.FT_REF_LOST 0 0 0xFFFF 0 ∈ (s.loseRef edges).acts := by
  have rising := refLost_rising h edges
  have rising₁ := put_rising rising O.FT_STATE ftHoldover
  have rising₂ := put_rising rising₁ O.HOLDOVER_START ((refLost s edges).now 0)
  rw [loseRef_locked h edges hst]
  obtain ⟨-, clk, acts, get⟩ := txHoldover_failsOnly (((refLost s edges).put O.FT_STATE ftHoldover).put O.HOLDOVER_START
    ((refLost s edges).now 0)).endSlew
  refine ⟨?_, ?_, ?_, ?_, ?_⟩
  · rw [clk]
    simp only [State.endSlew, put_clk, refLost, raiseDie_clk, setBit_clk]
  · calc _ = _ := get rising₂ O.FT_STATE (by decide)
      _ = _ := get_put_ne rising₁ _ (by decide)
      _ = _ := get_put_self rising _ _
  · calc _ = _ := get rising₂ O.HOLDOVER_START (by decide)
      _ = _ := get_put_self rising₁ _ _
      _ = _ := by rw [refLost_now]
  · have flags : (((refLost s edges).put O.FT_STATE ftHoldover).put O.HOLDOVER_START ((refLost s edges).now 0)).get O.FT_FLAGS =
        (refLost s edges).get O.FT_FLAGS := by
      rw [get_put_ne rising₁ _ (by decide), get_put_ne rising _ (by decide)]
    have set : (refLost s edges).bit O.FT_FLAGS 0 = true := bit_setBit_self _ _ (Canonical.rising h) (by decide)
    rw [State.bit, get rising₂ _ (by decide)]
    exact (congrArg (Nat.testBit · 0) flags).trans set
  · exact acts _ (mem_insertRaise.2 (.inl rfl))

/-- A window without edges loses a good reference, and the next window counts whole (R64, log 86). -/
theorem fxFrequencyWindowEnd_loses {s : State} (hnow : s.now 0 % 1024 = 0) (hends : s.windowEnds = true) (hgood : s.clk.refGood = true) (ppm : Int) :
    fxFrequencyWindowEnd false ppm s =
      (({ s with clk := { s.clk with refEdges := false, windowSpoilt := false, windowAt := s.elapsed 0 } } : State).loseRef false).newWindow := by
  simp [fxFrequencyWindowEnd, hnow, hends, hgood]

/-- The second good whole window of HOLDOVER restores FT_REF (R63, R64). -/
theorem fxFrequencyWindowEnd_restores {s : State} {ppm : Int} (hnow : s.now 0 % 1024 = 0) (hends : s.windowEnds = true)
    (hedges : s.clk.refEdges = true) (hwhole : s.clk.windowSpoilt = false) (hgood : s.clk.refGood = false) (hppm : ppm.natAbs ≤ 200)
    (hone : s.clk.goodWindows = 1) (hst : s.ftState = ftHoldover) :
    fxFrequencyWindowEnd true ppm s = ({ s with clk := { s.clk with
      refEdges := true, windowSpoilt := false, windowAt := s.elapsed 0, goodWindows := 2, refGood := true, acquiringFrom := ftHoldover } } : State).put
        O.FT_STATE ftAcquiring := by
  have state : ∀ clk, ({ s with clk := clk } : State).ftState = ftHoldover := fun _ => hst
  simp [fxFrequencyWindowEnd, hnow, hends, hedges, hwhole, hgood, hone, Nat.not_lt.2 hppm, State.restoreRef, state]

/-- The state in which an FT_SYNC edge has been seen (R66). -/
abbrev syncSeenNow (s : State) : State := { s with clk := { s.clk with syncSeen := s.elapsed 0, syncMissed := false } }

/-- An edge in LOCKED at which no load is due (R66). -/
theorem fxFtSyncEdge_locked {s u : State} (hedges : s.clk.refEdges = true) (hdue : (syncSeenNow s).todDue = false)
    (hu : u = (syncSeenNow s).put O.SYNC_OFFSET (ofS32 s.syncOffset)) (hst : u.ftState = ftLocked) :
    fxFtSyncEdge s = if s.syncOffset = 0 then u else (u.setBit O.FT_FLAGS 2 true).raiseDie 0 F.SYNC_ERROR := by
  have returns : s.refReturns = s := if_pos hedges
  have notAcquiring : u.ftState ≠ ftAcquiring := by rw [hst]; decide
  subst hu
  simp only [fxFtSyncEdge, returns]
  exact (if_neg (Bool.eq_false_iff.1 hdue)).trans ((if_neg notAcquiring).trans (if_pos hst))

/-- The step of a slew with one sub-tick to go after it (R65). -/
theorem fxSlewStep_two {s : State} (hst : s.ftState = ftAcquiring) (hleft : s.clk.slewLeft = 2) (hat : s.clk.slewAt + 64 ≤ s.elapsed 0) :
    fxSlewStep s = { s with clk := { s.clk with slewLeft := 1, slewAt := s.elapsed 0 } } := by
  simp [fxSlewStep, hst, hleft, hat]

theorem fxHoldoverExpired_due {s : State} (hst : s.ftState = ftHoldover) (hat : s.get O.HOLDOVER_START + s.get O.HOLDOVER_LIMIT + 1 ≤ s.now 0) :
    fxHoldoverExpired s = ((s.put O.FT_STATE ftExpired).setBit O.FT_FLAGS 4 true).raiseDie 0 F.HOLDOVER_EXPIRED :=
  if_pos ⟨hst, hat⟩

theorem fxFtSyncMissing_due {s : State} (hst : s.ftState = ftLocked) (hmissed : s.clk.syncMissed = false)
    (hat : s.clk.syncSeen + 27500000 ≤ s.elapsed 0) :
    fxFtSyncMissing s =
      (({ s with clk := { s.clk with syncMissed := true } } : State).setBit O.FT_FLAGS 1 true).raiseDie 0 F.FT_SYNC_MISSING :=
  if_pos ⟨hst, hmissed, hat⟩

/-! ## The time messages of the dies (R61, R330) -/

theorem onUnit_hasInvar {s t u : State} {l : Nat} (hl : l < 4 * s.dies) (h : t = u) : onUnit (s.hasInvar l) t = .next (settle u) := by
  rw [State.hasInvar, decide_eq_true hl, onUnit_true, h]

/-- A die that is flagged, with DIE_SKEW raised (R61). -/
def flagged (s : State) (d : Nat) : State :=
  ((s.setTime d (fun t => { t with flagged := true })).setBit O.FT_FLAGS 5 true).raiseDie d F.DIE_SKEW

/-- Beside that, flagging a die at most fails transactions (R76). -/
theorem flagDie_failsOnly (s : State) (d : Nat) : FailsOnly (flagged s d) (s.flagDie d) := by
  rw [State.flagDie]
  split
  · exact txFailWhere_failsOnly _ _ _
  · exact .refl _

theorem flagDie_flags {s : State} (h : s.Canonical) (d : Nat) : ((s.flagDie d).time d).flagged = true ∧ (s.flagDie d).bit O.FT_FLAGS 5 = true ∧
    Act.raise (d * 512 + F.DIE_SKEW) 0 0 0xFFFF 0 ∈ (s.flagDie d).acts := by
  obtain ⟨-, clk, acts, get⟩ := flagDie_failsOnly s d
  have rising : (s.setTime d (fun t => { t with flagged := true })).regs.risingFrom 0 = true := Canonical.rising h
  refine ⟨?_, ?_, acts _ (mem_insertRaise.2 (.inl rfl))⟩
  · have time := time_setTime_ne_default (s := s) (d := d) (f := fun t => { t with flagged := true })
      fun e => Bool.noConfusion (congrArg DieTime.flagged e)
    rw [State.time, clk, flagged, raiseDie_clk, setBit_clk]
    exact congrArg DieTime.flagged time
  · rw [State.bit, get (setBit_rising _ _ _ rising) _ (by decide)]
    exact bit_setBit_self _ _ rising (by decide)

theorem fxSyncMessagesMissed_flags {s : State} {d : Nat} (hd : 0 < d) (hloaded : (s.time d).loaded = true) (hflag : (s.time d).flagged = false)
    (hat : (s.time d).lastSync + 200 ≤ s.elapsed d) : fxSyncMessagesMissed d s = s.flagDie d :=
  if_pos ⟨Nat.ne_of_gt hd, hloaded, hflag, hat⟩

section TimeSync
variable {s t : State} {l : Nat} {b : Bypass} (hl : 4 ≤ l) (htake : s.takeBypass (s.peerLink l) bTimeSync = some (b, t))
include hl htake

/-- A message for a die beyond is passed on with one hop more (R330). -/
theorem fxTimeSync_passes (hdst : b.dst ≠ l / 4) : fxTimeSync l s = t.sendBypass (l / 4) b.dst bTimeSync [(b.args.getD 2 0 + 1) % 4] := by
  have notFirst : l / 4 ≠ 0 := by omega
  simp only [fxTimeSync, htake, if_neg notFirst, if_pos hdst]

/-- The first message of an unloaded copy loads it, and goes on to the dies behind (R61). -/
theorem fxTimeSync_loads (hdst : b.dst = l / 4) (hunloaded : (t.time (l / 4)).loaded = false) {stamp : Nat}
    (hstamp : stamp = b.args.getD 0 0 * 64 + b.args.getD 1 0 + t.get (O.LINK_DELAY l)) {u : State}
    (hu : u = t.setTime (l / 4) (fun x => { x with now := stamp / 64 % 2 ^ 64, sub := stamp % 64, loaded := true, lastSync := t.elapsed (l / 4) })) :
    fxTimeSync l s = forEach ((List.range u.dies).filter (fun e => e != 0 && !(u.syncNeighbours.contains e) && u.syncVia e == some (l / 4)))
      (fun e s => s.sendBypass (l / 4) e bTimeSync [(b.args.getD 2 0 + 1) % 4]) u := by
  have notFirst : l / 4 ≠ 0 := by omega
  subst hu hstamp
  simp only [fxTimeSync, htake, if_neg notFirst, if_neg (not_not_intro hdst), hunloaded, Bool.false_eq_true, if_false]

end TimeSync

/-! ## Writes that act at once: TOD_LOAD and TX_CMD (R62, R72) -/

/-- An object of a table without W1C objects is none. -/
theorem acc_ne_w1c {v : Variant} {o : Obj} {r : Row} (hr : rowOf v o = some r) (h : ∀ r ∈ tableOf v o.cls o.inst, r.holds o.mem = true → r.acc ≠ .w1c) :
    r.acc ≠ .w1c :=
  h r (List.mem_of_find?_eq_some hr) (List.find?_some hr)

theorem acc_todLoad {v : Variant} {r : Row} (hr : rowOf v O.TOD_LOAD = some r) : r.acc ≠ .w1c :=
  acc_ne_w1c hr (show ∀ r ∈ tableR67, r.holds 0x03 = true → r.acc ≠ .w1c by decide)

theorem acc_txCmd {v : Variant} {x : Nat} {r : Row} (hr : rowOf v (O.TX_CMD x) = some r) : r.acc ≠ .w1c := by
  have table : tableOf v 0x07 x = tableR83 ∨ tableOf v 0x07 x = tableR84 ∨ tableOf v 0x07 x = [] := by
    simp only [tableOf]
    split
    · exact .inl rfl
    · split <;> simp
  refine acc_ne_w1c hr fun r h => ?_
  have settings : ∀ r ∈ tableR83, r.holds 0x00 = true → r.acc ≠ .w1c := by decide
  have members : ∀ r ∈ tableR84, r.holds 0x00 = true → r.acc ≠ .w1c := by decide
  change r ∈ tableOf v 0x07 x at h
  rcases table with table | table | table <;> rw [table] at h
  · exact settings r h
  · exact members r h
  · cases h

theorem effect_todLoad {s : State} {r : Row} (hacc : r.acc ≠ .w1c) (v : Nat) : s.effect O.TOD_LOAD r v = fxTodArm v s := by
  rw [State.effect, if_neg hacc]
  rfl

theorem effect_txCmd {s : State} {r : Row} (hacc : r.acc ≠ .w1c) (x v : Nat) : s.effect (O.TX_CMD x) r v = fxTxCmd x v s := by
  rw [State.effect, if_neg hacc]
  rfl

/-- The owner's check of TOD_LOAD leaves no trace. -/
theorem ownerStatus_todLoad (s : State) (ifc : Iface) (v : Nat) : (s.ownerStatus ifc O.TOD_LOAD v).2 = s := by
  rw [State.ownerStatus]
  split
  · rfl
  · split <;> rfl

/-- Nor does that of TX_CMD where it accepts. -/
theorem ownerStatus_txCmd {s : State} {ifc : Iface} {x v : Nat} (h : (s.ownerStatus ifc (O.TX_CMD x) v).1 = stOk) :
    (s.ownerStatus ifc (O.TX_CMD x) v).2 = s := by
  rw [State.ownerStatus] at h ⊢
  split at h
  · cases h
  · split at h
    · cases h
    · rename_i limit frozen
      rw [if_neg limit, if_neg frozen]
      exact if_neg fun c => c.1 h

theorem ownerStatus_of_servesWrite {s : State} {ifc : Iface} {o : Obj} {v : Nat} (h : s.servesWrite ifc o v = true) :
    (s.ownerStatus ifc o v).1 = stOk := by
  simp only [State.servesWrite, Bool.and_eq_true, beq_iff_eq] at h
  exact h.2

/-- A served write of TX_CMD makes the command's transition. -/
theorem writeOne_txCmd {s u : State} {ifc : Iface} {x v : Nat} (h : s.servesWrite ifc (O.TX_CMD x) v = true) (hu : fxTxCmd x v s = u) :
    writeOne ifc (O.TX_CMD x) v s = .next (settle (u.acknowledged ifc (O.TX_CMD x))) :=
  writeOne_effect h fun r hr => by rw [ownerStatus_txCmd (ownerStatus_of_servesWrite h), effect_txCmd (acc_txCmd hr), hu]

section Commands
variable (x : Nat) (s : State)

theorem fxTxCmd_open : fxTxCmd x txcOpen s = fxTxOpen x s := rfl
theorem fxTxCmd_prepare : fxTxCmd x txcPrepare s = fxTxPrepare x s := rfl
theorem fxTxCmd_commitAt : fxTxCmd x txcCommitAt s = fxTxCommitAt x s := rfl
theorem fxTxCmd_abort : fxTxCmd x txcAbort s = s.txAbort x := rfl
theorem fxTxCmd_cancel : fxTxCmd x txcCancel s = s.enterReady x := rfl

end Commands

/-- A served write of TOD_LOAD arms the load. -/
theorem writeOne_todLoad {s : State} {ifc : Iface} {v : Nat} (h : s.servesWrite ifc O.TOD_LOAD v = true) :
    writeOne ifc O.TOD_LOAD v s = .next (settle ((fxTodArm v s).acknowledged ifc O.TOD_LOAD)) :=
  writeOne_effect h fun r hr => by rw [ownerStatus_todLoad, effect_todLoad (acc_todLoad hr)]

/-! ## The events of a transaction (R74 to R80) -/

theorem onUnit_hasTx {s t : State} {x : Nat} (hx : hasTx x = true) (h : s = t) : onUnit (hasTx x) s = .next (settle t) := by
  rw [hx, onUnit_true, h]

theorem hasTx_iff_mem {x : Nat} : hasTx x = true ↔ x ∈ txInstances := by
  simp only [hasTx, txInstances, decide_eq_true_eq, List.mem_cons, List.not_mem_nil, or_false]
  omega

/-- A fold over units of which one changes the state does that one's part. -/
theorem forEach_of_one {f : Nat → State → State} {x : Nat} (hf : ∀ y, y ≠ x → ∀ s, f y s = s) {l : List Nat} (hnodup : l.Nodup) (s : State) :
    forEach l f s = if x ∈ l then f x s else s := by
  induction l generalizing s with
  | nil => rfl
  | cons y r ih =>
    obtain ⟨notIn, nodup⟩ := List.nodup_cons.1 hnodup
    rw [show forEach (y :: r) f s = forEach r f (f y s) from rfl, ih nodup]
    by_cases eq : y = x
    · subst eq
      rw [if_neg notIn, if_pos List.mem_cons_self]
    · rw [hf y eq]
      simp only [List.mem_cons, Ne.symm eq, false_or]

/-- An error in the staged copy of a transaction that waits fails it alone (R76). -/
theorem fxStagedCopyError_fails {s : State} {x : Nat} (hx : hasTx x = true) (hwaits : s.txWaiting x = true) :
    fxStagedCopyError x s = s.txFail x stAborted 0xFFFF 0 := by
  rw [fxStagedCopyError, State.txFailWhere, forEach_of_one (x := x) (fun y ne t => by simp [ne]) (by decide), if_pos (hasTx_iff_mem.1 hx), hwaits]
  simp

section Validation
variable {s : State} {x : Nat} (hst : s.get (O.TX_STATE x) = txPreparing)
include hst

theorem fxValidationEnds_passes (hv : (s.validate x).status = stOk) : fxValidationEnds x s =
    ((s.setTx x (fun t => { t with readSet := (s.validate x).reads, implicit :=
      (((s.setWrites x).filter (fun w => w.implicit)).map (fun w => w.obj.number)).eraseDups })).put (O.TX_STATUS x) stOk).enterReady x := by
  rw [fxValidationEnds, if_neg (not_not_intro hst)]
  exact if_pos hv

theorem fxValidationEnds_fails (hv : (s.validate x).status ≠ stOk) : fxValidationEnds x s =
    s.txFail x (s.validate x).status (s.validate x).index (s.validate x).object := by
  rw [fxValidationEnds, if_neg (not_not_intro hst)]
  exact if_neg hv

end Validation

theorem fxReadyTimeout_fails {s : State} {x : Nat} (hst : s.get (O.TX_STATE x) = txReady)
    (hat : s.get (O.TX_READY_AT x) + (s.tx.at x).readyLimit < s.now 0) : fxReadyTimeout x s = s.txFail x stTimeout 0xFFFF 0 :=
  if_pos ⟨hst, hat⟩

theorem fxLockPoint_locks {s : State} {x : Nat} (hst : s.get (O.TX_STATE x) = txScheduled)
    (hat : s.get (O.TX_INSTANT x) ≤ s.now 0 + s.get O.TX_LOCK_LEAD) : fxLockPoint x s = s.put (O.TX_STATE x) txLocked :=
  if_pos ⟨hst, hat⟩

/-- The transactions of an instant that has come (R79). -/
def dueTxs (s : State) : List Nat := txInstances.filter (fun x => s.get (O.TX_STATE x) == txLocked && decide (s.get (O.TX_INSTANT x) ≤ s.now 0))

theorem dueTxs_of_only {s : State} {x : Nat} (hx : hasTx x = true) (hst : s.get (O.TX_STATE x) = txLocked)
    (honly : txInstances.all (fun y => y == x || s.get (O.TX_STATE y) != txLocked) = true) (hat : s.get (O.TX_INSTANT x) ≤ s.now 0) :
    dueTxs s = [x] := by
  have same : dueTxs s = txInstances.filter (· == x) := by
    refine List.filter_congr fun y hy => ?_
    have alone := List.all_eq_true.1 honly y hy
    by_cases eq : y = x
    · subst eq
      simp [hst, hat]
    · rw [beq_eq_false_iff_ne.2 eq, Bool.false_or, bne_iff_ne] at alone
      rw [beq_eq_false_iff_ne.2 eq, beq_eq_false_iff_ne.2 alone, Bool.false_and]
  have once : ∀ y ∈ txInstances, txInstances.count y = 1 := by decide
  rw [same, List.filter_beq, once x (hasTx_iff_mem.1 hx)]
  rfl

/-- The apply of one transaction that is no bind epoch (R79, R80). -/
theorem fxApply_one {s : State} {x : Nat} (hdue : dueTxs s = [x]) (hbind : s.isBindEpoch x = false) :
    fxApply s = ((s.applyOne x (s.get O.BIND_EPOCH)).txDone x (s.get (O.TX_INSTANT x))).reformImages s := by
  rw [dueTxs] at hdue
  simp [fxApply, hdue, hbind, forEach]

/-! ## The obligations -/

/-- Settles O59: the checks that a request passes, the records of a mode change, and what a tick and a core cycle do to each die's copy. -/
theorem modesAndCounts : Obligations.ModesAndCounts := by
  refine ⟨?request, ?change, ?retired, ?codes, ?tick, ?cycle⟩
  case request =>
    intro s v h
    obtain ⟨⟨named, below⟩, way⟩ := requested_of_ok h
    exact ⟨Nat.pos_of_ne_zero named, Nat.le_of_lt_succ below, requested_ne_degraded v, way⟩
  case change =>
    intro s m h hm
    exact setMode_records h hm
  case retired =>
    intro s h hlocked
    rw [autoMode_unlocked hlocked]
    refine ⟨fun run retired => ?_, fun degraded unretired => ?_, fun notRun notDegraded => ?_⟩
    · rw [if_pos ⟨run, retired⟩]
      exact setMode_mode h (by decide)
    · rw [if_neg (fun c => c.2 unretired), if_pos ⟨degraded, unretired⟩]
      exact setMode_mode h (by decide)
    · rw [if_neg (fun c => notRun c.1), if_neg (fun c => notDegraded c.1)]
  case codes =>
    intro s h hmode
    obtain e | e | e := autoMode_mode_cases h <;> rw [e]
    · exact hmode
    · decide
    · decide
  case tick =>
    intro s d e h
    by_cases eq : e = d
    · subst eq
      rw [if_pos rfl, State.now, State.now, fxTick_time_self]
      refine ⟨rfl, fun fits => ?_⟩
      simp only [ticked, State.now] at fits ⊢
      split <;> omega
    · rw [if_neg eq]
      exact ⟨fxTick_time_ne h eq, fun _ => Nat.le_of_eq (congrArg DieTime.now (fxTick_time_ne h eq)).symm⟩
  case cycle =>
    intro s e h
    exact fxCoreCycle_time h e

/-- Settles O16: each clause by the event's effect in its case. That of an edge with offset 0 supposes no canonical form; FT_STATE, which is not
at its default in LOCKED, keeps its value all the same. -/
theorem timeReference : Obligations.TimeReference := by
  refine ⟨?refLost, ?windowLost, ?windowGood, ?edge, ?edgeOff, ?slew, ?expired, ?missing, ?todLoad⟩
  case refLost =>
    intro s h hedges hst
    exact ⟨done_eq (if_pos hedges), loseRef_of_locked h hst false⟩
  case windowLost =>
    intro s ppm hnow hends hgood
    exact done_eq (fxFrequencyWindowEnd_loses hnow hends hgood ppm)
  case windowGood =>
    intro s ppm hnow hends hedges hwhole hgood hppm hone hst
    exact done_eq (fxFrequencyWindowEnd_restores hnow hends hedges hwhole hgood hppm hone hst)
  case edge =>
    intro s hedges hst hoff hdue
    have listed : s.get O.FT_STATE ≠ defaultOf s.variant O.FT_STATE % 2 ^ 64 := by
      rw [show s.get O.FT_STATE = ftLocked from hst]
      cases s.variant <;> decide
    have state := get_put_ne_of_ne_default (s := syncSeenNow s) (o := O.SYNC_OFFSET) (o' := O.FT_STATE) (ofS32 s.syncOffset) (by decide) listed
    refine done_eq ((fxFtSyncEdge_locked hedges hdue rfl (state.trans hst)).trans ?_)
    rw [if_pos hoff, hoff]
    rfl
  case edgeOff =>
    intro s h hedges hst hoff hdue
    have state := get_put_ne (s := syncSeenNow s) (o := O.SYNC_OFFSET) (o' := O.FT_STATE) (Canonical.rising h) (ofS32 s.syncOffset) (by decide)
    exact done_eq ((fxFtSyncEdge_locked hedges hdue rfl (state.trans hst)).trans (if_neg hoff))
  case slew =>
    intro s hst hleft hat
    exact done_eq (fxSlewStep_two hst hleft hat)
  case expired =>
    intro s hst hat
    exact done_eq (fxHoldoverExpired_due hst hat)
  case missing =>
    intro s hst hmissed hat
    exact done_eq (fxFtSyncMissing_due hst hmissed hat)
  case todLoad =>
    intro s ifc v h
    exact writeOne_todLoad h

/-- Settles O17: a tick's copy is read at its die, and each message does what its destination says. -/
theorem dieTime : Obligations.DieTime := by
  refine ⟨?tick, ?send, ?missed, ?passes, ?loads⟩
  case tick =>
    intro s d hd hcounts hfits
    refine ⟨onUnit_hasDie hd rfl, ?_, ?_, ?_⟩
    · rw [State.now, fxTickCounted_time, fxTick_time_self, ticked, if_pos hcounts, Nat.mod_eq_of_lt hfits]
    · rw [State.elapsed, fxTickCounted_time, fxTick_time_self, ticked]
    · rw [fxTickCounted_time, fxTick_time_self, ticked]
  case send =>
    intro s hnow
    exact done_eq (if_pos hnow)
  case missed =>
    intro s d h hd hdies hloaded hflag hat
    exact ⟨onUnit_hasDie hdies (fxSyncMessagesMissed_flags hd hloaded hflag hat), flagDie_flags h d⟩
  case passes =>
    intro s t l b hl hl' htake hdst
    exact onUnit_hasInvar hl (fxTimeSync_passes hl' htake hdst)
  case loads =>
    intro s t u l stamp b hl hl' htake hdst hunloaded hstamp hu
    exact onUnit_hasInvar hl (fxTimeSync_loads hl' htake hdst hunloaded hstamp hu)

/-- Settles O18: a served command makes the transition that its code names. -/
theorem transactionCommands : Obligations.TransactionCommands := by
  refine ⟨?opens, ?prepares, ?commits, ?aborts, ?cancels⟩
  case opens =>
    intro s ifc x h
    exact writeOne_txCmd h (fxTxCmd_open x s)
  case prepares =>
    intro s ifc x h
    exact writeOne_txCmd h (fxTxCmd_prepare x s)
  case commits =>
    intro s ifc x h
    exact writeOne_txCmd h (fxTxCmd_commitAt x s)
  case aborts =>
    intro s ifc x h
    exact writeOne_txCmd h (fxTxCmd_abort x s)
  case cancels =>
    intro s ifc x h
    exact writeOne_txCmd h (fxTxCmd_cancel x s)

/-- Settles O19: each event by its effect in its case; of the four transactions only the one named fails or is due. -/
theorem transactionEvents : Obligations.TransactionEvents := by
  refine ⟨?passes, ?fails, ?timeout, ?lock, ?copyError, ?applied⟩
  case passes =>
    intro s x hx hst hv
    exact onUnit_hasTx hx (fxValidationEnds_passes hst hv)
  case fails =>
    intro s x hx hst hv
    exact onUnit_hasTx hx (fxValidationEnds_fails hst hv)
  case timeout =>
    intro s x h hx hst hat
    exact ⟨onUnit_hasTx hx (fxReadyTimeout_fails hst hat), txFail_outcome h x (by decide) _ _⟩
  case lock =>
    intro s x hx hst hat
    exact onUnit_hasTx hx (fxLockPoint_locks hst hat)
  case copyError =>
    intro s x h hx hst
    have waits : s.txWaiting x = true := by simp [State.txWaiting, hst]
    exact ⟨onUnit_hasTx hx (fxStagedCopyError_fails hx waits), txFail_outcome h x (by decide) _ _⟩
  case applied =>
    intro s u x h hx hst honly hat hbind hu
    subst hu
    exact done_eq (fxApply_one (dueTxs_of_only hx hst honly hat) hbind)

/-- Settles O60: each command by its effect where its condition holds, split by whether a transaction is LOCKED. -/
theorem modeEventsComplete : Obligations.ModeEventsComplete := by
  refine ⟨?change, ?waits, ?initEnd, ?initTimeout, ?selfTest, ?same⟩
  case change =>
    intro s u m hp hat hlocked hu
    have due := fxModeChange_due hp hat hlocked hu
    refine ⟨by rw [hu]; rfl, fun init => done_eq (due.trans ?_), fun run retired => done_eq (due.trans ?_),
      fun run unretired => done_eq (due.trans ?_), fun notInit notRun => done_eq (due.trans ?_)⟩
    · rw [if_pos init, hu]
      rfl
    · subst hu run
      rw [if_neg (by decide), if_pos ⟨rfl, retired⟩]
    · subst hu run
      rw [if_neg (by decide), if_neg (fun c => c.2 unretired)]
    · rw [if_neg notInit, if_neg (fun c => notRun c.1)]
  case waits =>
    intro s h
    exact done_eq (fxModeChange_waits h)
  case initEnd =>
    intro s u hmode hdone hu
    subst hu
    exact ⟨fun hlocked => done_eq (fxInitEnd_ends hmode hlocked hdone), fun hlocked => done_eq (fxInitEnd_waits hlocked)⟩
  case initTimeout =>
    intro s u hmode hat hu
    subst hu
    have fails := fxInitTimeout_fails hmode hat
    exact ⟨fun hlocked => done_eq (fails.trans (failInit_unlocked hlocked)), fun hlocked => done_eq (fails.trans (failInit_locked hlocked))⟩
  case selfTest =>
    intro s u d repairs hd hinit hdata hdir htested hrepairs hu
    subst hu
    have ends := fxSramSelfTestEnd_records hinit hdata hdir htested hrepairs
    exact ⟨onUnit_hasDie hd (ends true), fun hlocked => onUnit_hasDie hd ((ends false).trans (failInit_unlocked hlocked)),
      fun hlocked => onUnit_hasDie hd ((ends false).trans (failInit_locked hlocked))⟩
  case same =>
    intro s m hmode
    exact if_pos hmode

end Sys2Proof.Proofs
end

section
/-! PROOFS. Frames by the kind of an object: what a change that writes objects of some kinds alone leaves. -/
namespace Sys2Proof.Proofs
open Sys2Proof Sys2Proof.Machine Sys2Proof.Laws

/-! ## Frames by the kind of an object -/

/-- An object's class and member: what it is in every unit (R5). -/
def kind (o : Obj) : Nat := (o.cls * 0x100 + o.mem) % 0x10000

theorem key_ne_of_kind_ne {o o' : Obj} (h : kind o' ≠ kind o) : o'.key ≠ o.key := by
  simp only [kind, Obj.key] at *
  omega

theorem get_of_store {s t : State} (hregs : t.regs = s.regs) (hvariant : t.variant = s.variant) (o : Obj) : t.get o = s.get o := by
  rw [State.get, State.get, hregs, hvariant]

/-- What a change that writes objects of some kinds alone leaves: rising keys, and every other object. -/
structure WritesOnly (ks : List Nat) (s t : State) : Prop where
  rising : s.regs.risingFrom 0 = true → t.regs.risingFrom 0 = true
  get : s.regs.risingFrom 0 = true → ∀ o, ks.contains (kind o) = false → t.get o = s.get o

namespace WritesOnly
variable {ks : List Nat} {s t u : State} {c i m : Nat}

theorem refl (s : State) : WritesOnly ks s s := ⟨id, fun _ _ _ => rfl⟩

theorem trans (hst : WritesOnly ks s t) (htu : WritesOnly ks t u) : WritesOnly ks s u :=
  ⟨htu.rising ∘ hst.rising, fun h o ho => (htu.get (hst.rising h) o ho).trans (hst.get h o ho)⟩

/-- What a list of kinds covers, a longer one covers. -/
theorem mono {ks' : List Nat} (h : WritesOnly ks s t) (sub : ks.all ks'.contains = true := by decide) : WritesOnly ks' s t := by
  refine ⟨h.rising, fun rising o ho => h.get rising o (Bool.eq_false_iff.2 fun c => ?_)⟩
  exact Bool.false_ne_true (ho.symm.trans (List.all_eq_true.1 sub _ (List.contains_iff_mem.1 c)))

/-- A change beside the object store. -/
theorem beside (hregs : t.regs = s.regs := by rfl) (hvariant : t.variant = s.variant := by rfl) : WritesOnly ks s t :=
  ⟨fun h => hregs.symm ▸ h, fun _ => fun o _ => get_of_store hregs hvariant o⟩

theorem setPort (s : State) (p : Nat) (f : Port → Port) : WritesOnly ks s (s.setPort p f) := .beside

theorem moveLtssm (s : State) (p c : Nat) : WritesOnly ks s (s.moveLtssm p c) := .beside

theorem setTag (s : State) (p n : Nat) (f : TagSlot → TagSlot) : WritesOnly ks s (s.setTag p n f) := .beside

theorem owe (s : State) (a : Act) : WritesOnly ks s (s.owe a) := .beside

theorem raisePort (s : State) (p loc addr master typ : Nat) : WritesOnly ks s (s.raisePort p loc addr master typ) := .beside

theorem put (s : State) (v : Nat) (ho : ks.contains (kind ⟨c, 0, m⟩) = true := by decide) : WritesOnly ks s (s.put ⟨c, i, m⟩ v) :=
  ⟨fun h => put_rising h _ v, fun h o ho' => get_put_ne h v (key_ne_of_kind_ne fun e => by
    rw [e] at ho'
    exact Bool.false_ne_true (ho'.symm.trans ho))⟩

theorem count32 (s : State) (ho : ks.contains (kind ⟨c, 0, m⟩) = true := by decide) : WritesOnly ks s (s.count32 ⟨c, i, m⟩) :=
  put s _ ho

theorem setBit (s : State) (b : Nat) (on : Bool) (ho : ks.contains (kind ⟨c, 0, m⟩) = true := by decide) :
    WritesOnly ks s (s.setBit ⟨c, i, m⟩ b on) := by
  obtain e | ⟨v, e⟩ := setBit_eq_put_or_self ⟨c, i, m⟩ b on s <;> rw [e]
  · exact refl s
  · exact put s v ho

theorem forEach {α : Type} {f : α → State → State} (hf : ∀ a s, WritesOnly ks s (f a s)) (l : List α) (s : State) :
    WritesOnly ks s (forEach l f s) :=
  forEach_keeps (P := WritesOnly ks s) (fun a t h => h.trans (hf a t)) l s (refl s)

theorem ite {c : Prop} [Decidable c] (ht : WritesOnly ks s t) (hu : WritesOnly ks s u) : WritesOnly ks s (if c then t else u) := by
  split
  · exact ht
  · exact hu

/-- An object of another kind keeps its value, -/
theorem keeps (w : WritesOnly ks s t) (h : s.regs.risingFrom 0 = true) (ho : ks.contains (kind ⟨c, 0, m⟩) = false := by decide) :
    t.get ⟨c, i, m⟩ = s.get ⟨c, i, m⟩ :=
  w.get h ⟨c, i, m⟩ ho

/-- and its bits. -/
theorem keepsBit (w : WritesOnly ks s t) (h : s.regs.risingFrom 0 = true) (b : Nat)
    (ho : ks.contains (kind ⟨c, 0, m⟩) = false := by decide) : t.bit ⟨c, i, m⟩ b = s.bit ⟨c, i, m⟩ b :=
  congrArg (Nat.testBit · b) (w.keeps h ho)

end WritesOnly

/-! ### Counters of events (R477) -/

def counterKinds : List Nat := [kind ⟨0x48, 0, 1⟩, kind ⟨0x48, 0, 3⟩, kind (O.TC_OVF 0)]

theorem addGeneral_writesOnly (s : State) (i n : Nat) : WritesOnly counterKinds s (s.addGeneral i n) := by
  rw [State.addGeneral]
  split
  · exact (WritesOnly.put _ _).trans (.put _ _)
  · exact .put _ _

theorem addPartial_writesOnly (s : State) (d t k n : Nat) : WritesOnly counterKinds s (s.addPartial d t k n) := by
  rw [State.addPartial]
  dsimp only
  split
  · rw [State.tcGrow]
    split
    · exact .trans .beside (.setBit _ k true)
    · exact .beside
  · exact .beside

theorem perfCount_writesOnly (s : State) (d ev q t n : Nat) : WritesOnly counterKinds s (s.perfCount d ev q t n) := by
  rw [State.perfCount]
  split
  · exact .refl s
  · refine .forEach (fun e u => ?_) s.selects s
    dsimp only
    split
    · split
      · exact addGeneral_writesOnly u _ n
      · split
        · exact addPartial_writesOnly u d _ _ n
        · exact .refl u
    · exact .refl u

end Sys2Proof.Proofs
end

section
/-! PROOFS. Training, Recovery and link drops of a CXL port (the obligations of 04_cxl_ports.md). -/
namespace Sys2Proof.Proofs
open Sys2Proof Sys2Proof.Machine Sys2Proof.Laws

/-! ## The lanes of a port (R95, R109) -/

def laneKinds : List Nat := [kind (O.LANE_STATE 0), kind (O.LOGICAL_LANE 0), kind (O.POLARITY 0), kind (O.TX_PRESET 0)]

theorem setLanes_writesOnly (s : State) (p w : Nat) (rev : Bool) : WritesOnly laneKinds s (s.setLanes p w rev) := by
  refine .trans (.forEach (fun l t => ?_) _ s) (.forEach (fun k t => (WritesOnly.put _ _).trans (.put _ _)) _ _)
  split
  · exact .refl t
  · exact ((WritesOnly.put _ _).trans (.put _ _)).trans (.put _ _)

theorem tuneLanes_writesOnly (s : State) (p w : Nat) (rev : Bool) (pol : Nat) (ps : List Nat) :
    WritesOnly laneKinds s (s.tuneLanes p w rev pol ps) :=
  .forEach (fun _ _ => (WritesOnly.put _ _).trans (.put _ _)) _ s

/-! ## A link at a state, a rate and a width (R93, R96, R107) -/

/-- The three objects that show a port's link. -/
def showLink (s : State) (p state rate width : Nat) : State :=
  ((s.put (O.LINK_STATE p) state).put (O.LINK_RATE p) rate).put (O.LINK_WIDTH p) width

/-- A port's link is at a state, with a rate and a width. -/
abbrev LinkIs (s : State) (p state rate width : Nat) : Prop :=
  s.linkState p = state ∧ s.get (O.LINK_RATE p) = rate ∧ s.get (O.LINK_WIDTH p) = width

theorem showLink_rising {s : State} (h : s.regs.risingFrom 0 = true) (p state rate width : Nat) :
    (showLink s p state rate width).regs.risingFrom 0 = true :=
  put_rising (put_rising (put_rising h _ _) _ _) _ _

theorem showLink_linkIs {s : State} (h : s.regs.risingFrom 0 = true) (p : Nat) {state rate width : Nat} (hstate : state < 2 ^ 64)
    (hrate : rate < 2 ^ 64) (hwidth : width < 2 ^ 64) : LinkIs (showLink s p state rate width) p state rate width := by
  have h₁ := put_rising h (O.LINK_STATE p) state
  have h₂ := put_rising h₁ (O.LINK_RATE p) rate
  have later : WritesOnly [kind (O.LINK_RATE 0), kind (O.LINK_WIDTH 0)] (s.put (O.LINK_STATE p) state) (showLink s p state rate width) :=
    (WritesOnly.put _ _).trans (.put _ _)
  have last : WritesOnly [kind (O.LINK_WIDTH 0)] ((s.put (O.LINK_STATE p) state).put (O.LINK_RATE p) rate) (showLink s p state rate width) :=
    .put _ _
  refine ⟨?_, ?_, ?_⟩
  · exact (later.keeps h₁).trans ((get_put_self h _ _).trans (Nat.mod_eq_of_lt hstate))
  · exact (last.keeps h₂).trans ((get_put_self h₁ _ _).trans (Nat.mod_eq_of_lt hrate))
  · exact (get_put_self h₂ _ _).trans (Nat.mod_eq_of_lt hwidth)

/-- The kinds of the objects that a link's entry into L0 writes after LINK_STATE, LINK_RATE and LINK_WIDTH and what it negotiated. -/
def upKinds : List Nat := laneKinds ++ [kind (O.IDE_STATE 0), kind (O.PORT_EVENTS 0)]

theorem LinkIs.kept {ks : List Nat} {s t : State} {p state rate width : Nat} (h : LinkIs s p state rate width) (w : WritesOnly ks s t)
    (rising : s.regs.risingFrom 0 = true)
    (hks : ([kind (O.LINK_STATE 0), kind (O.LINK_RATE 0), kind (O.LINK_WIDTH 0)].all fun k => !ks.contains k) = true := by decide) :
    LinkIs t p state rate width := by
  obtain ⟨hstate, hrate, hwidth⟩ := h
  simp only [List.all_cons, List.all_nil, Bool.and_eq_true, Bool.not_eq_true', and_true] at hks
  obtain ⟨nstate, nrate, nwidth⟩ := hks
  exact ⟨(w.keeps (i := p) rising nstate).trans hstate, (w.keeps (i := p) rising nrate).trans hrate,
    (w.keeps (i := p) rising nwidth).trans hwidth⟩

theorem rate_lt_of_rateOk {s : State} {p rate : Nat} (h : s.rateOk p rate = true) : rate < 2 ^ 64 := by
  simp only [State.rateOk, decide_eq_true_eq, List.mem_cons, List.not_mem_nil, or_false] at h
  omega

theorem width_lt_of_widthOk {s : State} {p width : Nat} {rev : Bool} (h : s.widthOk p width rev = true) : width < 2 ^ 64 := by
  simp only [State.widthOk, Bool.and_eq_true, decide_eq_true_eq, List.mem_cons, List.not_mem_nil, or_false] at h
  omega

/-- The link as it was negotiated (R93, R94, R107). -/
def negotiated (s : State) (p rate width protocols ld : Nat) : State :=
  let t := (showLink s p lsUp rate width).put (O.PROTOCOLS p) protocols
  (t.put (O.LINK_EPOCH p) ((t.get (O.LINK_EPOCH p) + 1) % 16)).put (O.LD_COUNT p) (if protocols.testBit 4 then ld else 0)

theorem protocolsOf_lt (s : State) (p protocols : Nat) : s.protocolsOf p protocols < 2 ^ 64 := by
  rw [State.protocolsOf]
  split
  · exact Nat.lt_of_le_of_lt Nat.and_le_right (by decide)
  · exact Nat.lt_trans (Nat.mod_lt _ (by decide)) (by decide)

theorem negotiated_rising {s : State} (h : s.regs.risingFrom 0 = true) (p rate width protocols ld : Nat) :
    (negotiated s p rate width protocols ld).regs.risingFrom 0 = true :=
  put_rising (put_rising (put_rising (showLink_rising h _ _ _ _) _ _) _ _) _ _

theorem negotiated_link {s : State} (h : s.regs.risingFrom 0 = true) (p : Nat) {rate width protocols : Nat} (ld : Nat)
    (hrate : rate < 2 ^ 64) (hwidth : width < 2 ^ 64) (hprotocols : protocols < 2 ^ 64) :
    LinkIs (negotiated s p rate width protocols ld) p lsUp rate width ∧
      (negotiated s p rate width protocols ld).get (O.PROTOCOLS p) = protocols ∧
      (negotiated s p rate width protocols ld).get (O.LINK_EPOCH p) = (s.get (O.LINK_EPOCH p) + 1) % 16 := by
  have h₁ := showLink_rising h p lsUp rate width
  have h₂ := put_rising h₁ (O.PROTOCOLS p) protocols
  have shown : WritesOnly [kind (O.LINK_STATE 0), kind (O.LINK_RATE 0), kind (O.LINK_WIDTH 0), kind (O.PROTOCOLS 0)] s
      ((showLink s p lsUp rate width).put (O.PROTOCOLS p) protocols) :=
    (((WritesOnly.put _ _).trans (.put _ _)).trans (.put _ _)).trans (.put _ _)
  have epoch : ((showLink s p lsUp rate width).put (O.PROTOCOLS p) protocols).get (O.LINK_EPOCH p) = s.get (O.LINK_EPOCH p) := shown.keeps h
  have later : WritesOnly [kind (O.LINK_EPOCH 0), kind (O.LD_COUNT 0)] ((showLink s p lsUp rate width).put (O.PROTOCOLS p) protocols)
      (negotiated s p rate width protocols ld) := (WritesOnly.put _ _).trans (.put _ _)
  have rest : WritesOnly [kind (O.PROTOCOLS 0), kind (O.LINK_EPOCH 0), kind (O.LD_COUNT 0)] (showLink s p lsUp rate width)
      (negotiated s p rate width protocols ld) := (WritesOnly.put _ _).trans later.mono
  have last : WritesOnly [kind (O.LD_COUNT 0)] (((showLink s p lsUp rate width).put (O.PROTOCOLS p) protocols).put (O.LINK_EPOCH p)
      ((((showLink s p lsUp rate width).put (O.PROTOCOLS p) protocols).get (O.LINK_EPOCH p) + 1) % 16))
      (negotiated s p rate width protocols ld) := .put _ _
  refine ⟨(showLink_linkIs h p (by decide) hrate hwidth).kept rest h₁, ?_, ?_⟩
  · exact (later.keeps h₂).trans ((get_put_self h₁ _ _).trans (Nat.mod_eq_of_lt hprotocols))
  · refine (last.keeps (put_rising h₂ _ _)).trans ((get_put_self h₂ _ _).trans ?_)
    rw [epoch]
    omega


theorem dateQuarantine_writesOnly {ks : List Nat} (s : State) (p : Nat) : WritesOnly ks s (s.dateQuarantine p) :=
  .forEach (fun _ t => .setTag t p _ _) _ s

theorem ideAtUp_writesOnly (s : State) (p : Nat) : WritesOnly upKinds s (s.ideAtUp p) := .put _ _

/-- An attempt that succeeds leaves the link as negotiated: what follows writes lanes, IDE_STATE and PORT_EVENTS (R93, R95, R105). -/
theorem fxLinkUp_writesOnly {s : State} {p rate width protocols ld : Nat} {rev : Bool} (hst : s.linkState p = lsTraining)
    (hat : (s.port p).attemptAt.isSome = true) (hrate : s.rateOk p rate = true) (hwidth : s.widthOk p width rev = true)
    (hld : (s.protocolsOf p protocols).testBit 4 = true → ld ≤ 16) (pol : Nat) (ps : List Nat) :
    WritesOnly upKinds (negotiated s p rate width (s.protocolsOf p protocols) ld) (fxLinkUp p rate width protocols ld rev pol ps s) := by
  unfold fxLinkUp
  dsimp only
  rw [if_pos ⟨hst, hat, hrate, hwidth, hld⟩]
  have lanes (u : State) (f : Port → Port) : WritesOnly upKinds u (((u.setPort p f).setLanes p width rev).tuneLanes p width rev pol ps) :=
    ((WritesOnly.setPort u p f).trans (setLanes_writesOnly _ p width rev).mono).trans (tuneLanes_writesOnly _ p width rev pol ps).mono
  have up (u : State) : WritesOnly upKinds u
      ((((u.ideAtUp p).dateQuarantine p).setBit (O.PORT_EVENTS p) 0 true).raisePort p (F.LINK_UP (p % 16)) 0 0xFFFF 0) :=
    (((ideAtUp_writesOnly u p).trans (dateQuarantine_writesOnly _ p)).trans (.setBit _ _ _)).trans (.raisePort _ _ _ _ _ _)
  exact .ite ((((lanes _ _).trans (up _)).trans (.setBit _ _ _)).trans (.raisePort _ _ _ _ _ _)) ((lanes _ _).trans (up _))

theorem fxLinkUp_negotiates {s : State} (h : s.Canonical) {p rate width protocols ld : Nat} {rev : Bool} (hst : s.linkState p = lsTraining)
    (hat : (s.port p).attemptAt.isSome = true) (hrate : s.rateOk p rate = true) (hwidth : s.widthOk p width rev = true)
    (hld : (s.protocolsOf p protocols).testBit 4 = true → ld ≤ 16) (pol : Nat) (ps : List Nat) :
    LinkIs (fxLinkUp p rate width protocols ld rev pol ps s) p lsUp rate width ∧
      (fxLinkUp p rate width protocols ld rev pol ps s).get (O.PROTOCOLS p) = s.protocolsOf p protocols ∧
      (fxLinkUp p rate width protocols ld rev pol ps s).get (O.LINK_EPOCH p) = (s.get (O.LINK_EPOCH p) + 1) % 16 := by
  have up := fxLinkUp_writesOnly hst hat hrate hwidth hld pol ps
  have rising := negotiated_rising (Canonical.rising h) p rate width (s.protocolsOf p protocols) ld
  obtain ⟨link, spoken, epoch⟩ := negotiated_link (Canonical.rising h) p ld (rate_lt_of_rateOk hrate) (width_lt_of_widthOk hwidth)
    (protocolsOf_lt s p protocols)
  exact ⟨link.kept up rising, (up.keeps rising).trans spoken, (up.keeps rising).trans epoch⟩

/-- A port whose lanes run and whose attempt succeeds is UP, with its credit loops fresh (R93, R217). -/
theorem fxPortUp_up {s : State} {p rate width protocols ld : Nat} {rev : Bool} {pol : Nat} {ps : List Nat} (hlanes : s.lanesRun p = true)
    (hst : s.linkState p ≠ lsUp) (hup : (fxLinkUp p rate width protocols ld rev pol ps s).linkState p = lsUp) :
    fxPortUp p rate width protocols ld rev pol ps s = (fxLinkUp p rate width protocols ld rev pol ps s).freshPortLoops p := by
  rw [fxPortUp, if_pos hlanes]
  exact if_pos ⟨hup, hst⟩

/-! ## Recovery (R96, R107) -/

theorem enterRecovery_linkIs {s : State} (h : s.Canonical) (p : Nat) (faulty : List Nat) : LinkIs (s.enterRecovery p faulty) p lsRecovery 0 0 := by
  have shown {t : State} (raised : WritesOnly [] s t) (f : Port → Port) :
      LinkIs (((showLink t p lsRecovery 0 0).moveLtssm p ltRecovery).setPort p f) p lsRecovery 0 0 :=
    have rising := raised.rising (Canonical.rising h)
    (showLink_linkIs rising p (by decide) (by decide) (by decide)).kept (ks := []) ((WritesOnly.moveLtssm _ _ _).trans (.setPort _ _ _))
      (showLink_rising rising _ _ _ _)
  unfold State.enterRecovery
  exact shown (.forEach (fun _ _ => .beside) _ s) _

theorem fxRecoveryEntry_enters {s : State} {p : Nat} (hst : s.linkState p = lsUp) (faulty : List Nat) :
    fxRecoveryEntry p 0 faulty s = s.enterRecovery p faulty := by
  have alive : s.linkAlive p = true := by simp [State.linkAlive, hst]
  rw [fxRecoveryEntry, if_pos alive, if_pos rfl, if_pos hst]

theorem fxRecoveryExit_linkIs {s : State} (h : s.Canonical) {p rate width : Nat} {rev : Bool} (hst : s.linkState p = lsRecovery)
    (hrate : s.rateOk p rate = true) (hwidth : s.widthOk p width rev = true) : LinkIs (fxRecoveryExit p rate width rev s) p lsUp rate width := by
  have shown := showLink_linkIs (Canonical.rising h) p (show lsUp < 2 ^ 64 by decide) (rate_lt_of_rateOk hrate) (width_lt_of_widthOk hwidth)
  refine shown.kept (ks := upKinds) ?_ (showLink_rising (Canonical.rising h) _ _ _ _)
  have lanes (u : State) (f : Port → Port) : WritesOnly upKinds u ((u.setPort p f).setLanes p width rev) :=
    (WritesOnly.setPort u p f).trans (setLanes_writesOnly _ p width rev).mono
  unfold fxRecoveryExit
  dsimp only
  rw [if_pos ⟨hst, hrate⟩, if_pos hwidth]
  exact .ite (((lanes _ _).trans (.raisePort _ _ _ _ _ _)).trans (.setBit _ _ _)) (lanes _ _)


/-! ## Link drops (R102, R104) -/

/-- The kinds of the objects in which a drop is noted, with those that completing the tag slots counts in. -/
def dropKinds : List Nat := counterKinds ++ [kind (O.DOWN_COUNT 0), kind (O.PORT_EVENTS 0), kind (O.SYNTH_READ_COUNT 0),
  kind (O.LOST_WRITE_COUNT 0), kind (O.OUTSTANDING 0), kind (O.QUARANTINED 0)]

/-- The kinds of the objects that show a link, its lanes among them, but for LINK_STATE. -/
def shownKinds : List Nat := laneKinds ++ [kind (O.LINK_RATE 0), kind (O.LINK_WIDTH 0), kind (O.PROTOCOLS 0), kind (O.IDE_STATE 0)]

/-- What a drop does before the link is cleared: it is counted and raised, the slots are completed, and viral is owed. -/
def dropNoted (s : State) (p : Nat) : State :=
  let t := s.noteDrop p
  let t := if t.role p = roleDownstream then (t.dropSlots p).dropViral p else t
  if s.speaks p 2 && t.role p == roleDownstream && t.get (O.DROP_POLICY p) != 1 then t.owe (.viralBound p) else t

/-- The link of a drop cleared, and what follows from it owed. -/
def dropCleared (s : State) (p : Nat) : State :=
  let t := s.setPort p (fun r => { r with outSince := none, attemptAt := none, pauseAt := none, ltssm := 0, drops := r.drops + 1 })
  ((t.clearLink p).put (O.IDE_STATE p) (if t.get (O.IDE_STATE p) = 0 then 0 else 1)).owe (.portDropped p)

theorem linkDrop_eq (s : State) (p state : Nat) : s.linkDrop p state =
    if state = lsTraining then
      if (dropCleared (dropNoted s p) p).canAttempt p then (dropCleared (dropNoted s p) p).startAttempt p
      else (dropCleared (dropNoted s p) p).put (O.LINK_STATE p) lsDetect
    else (dropCleared (dropNoted s p) p).put (O.LINK_STATE p) state := rfl

theorem noteDrop_writesOnly (s : State) (p : Nat) : WritesOnly dropKinds s (s.noteDrop p) :=
  ((WritesOnly.count32 _).trans (.setBit _ _ _)).trans (.raisePort _ _ _ _ _ _)

theorem dropSlot_writesOnly (s : State) (p n : Nat) (held : Bool) : WritesOnly dropKinds s (s.dropSlot p n held) := by
  have counted (f : TagSlot → TagSlot) (t : Nat) : WritesOnly dropKinds s ((s.setTag p n f).perfCount (dieOfPort p) evSynthCpl p t 1) :=
    (WritesOnly.setTag s p n f).trans (perfCount_writesOnly _ _ _ _ _ _).mono
  unfold State.dropSlot
  dsimp only
  split
  case h_1 => exact ((counted _ _).trans (.count32 _)).trans (.owe _ _)
  case h_2 =>
    exact (((counted _ _).trans (.count32 _)).trans (.ite ((WritesOnly.setBit _ _ _).trans (.raisePort _ _ _ _ _ _)) (.refl _))).trans (.owe _ _)
  case h_3 => exact (counted _ _).trans (.owe _ _)

theorem countSlots_writesOnly (s : State) (p : Nat) : WritesOnly [kind (O.OUTSTANDING 0), kind (O.QUARANTINED 0)] s (s.countSlots p) :=
  (WritesOnly.put _ _).trans (.put _ _)

theorem dropSlots_writesOnly (s : State) (p : Nat) : WritesOnly dropKinds s (s.dropSlots p) :=
  ((WritesOnly.forEach (fun _ _ => .setTag _ _ _ _) _ s).trans (.forEach (fun n t => dropSlot_writesOnly t p n false) _ _)).trans
    (countSlots_writesOnly _ p).mono

theorem dropViral_writesOnly {ks : List Nat} (s : State) (p : Nat) : WritesOnly ks s (s.dropViral p) := .ite (.owe _ _) (.refl s)

theorem dropNoted_writesOnly (s : State) (p : Nat) : WritesOnly dropKinds s (dropNoted s p) := by
  have slots (t : State) : WritesOnly dropKinds t (if t.role p = roleDownstream then (t.dropSlots p).dropViral p else t) :=
    .ite ((dropSlots_writesOnly t p).trans (dropViral_writesOnly _ p)) (.refl t)
  have noted := (noteDrop_writesOnly s p).trans (slots _)
  exact .ite (noted.trans (.owe _ _)) noted

/-- The rate, the width and the protocols of a link are cleared before its lanes. -/
theorem clearLink_lanes (s : State) (p : Nat) :
    WritesOnly laneKinds (((s.put (O.LINK_RATE p) 0).put (O.LINK_WIDTH p) 0).put (O.PROTOCOLS p) 0) (s.clearLink p) :=
  .forEach (fun _ t => .ite (.refl t) (((WritesOnly.put _ _).trans (.put _ _)).trans (.put _ _))) _ _

theorem clearLink_writesOnly (s : State) (p : Nat) : WritesOnly shownKinds s (s.clearLink p) :=
  (((WritesOnly.put _ _).trans (.put _ _)).trans (.put _ _)).trans (clearLink_lanes s p).mono

/-- A cleared link shows no rate and no width (R107). -/
theorem clearLink_rate_width {s : State} (h : s.regs.risingFrom 0 = true) (p : Nat) :
    (s.clearLink p).get (O.LINK_RATE p) = 0 ∧ (s.clearLink p).get (O.LINK_WIDTH p) = 0 := by
  have h₁ := put_rising h (O.LINK_RATE p) 0
  have h₂ := put_rising h₁ (O.LINK_WIDTH p) 0
  have rest : WritesOnly (kind (O.PROTOCOLS 0) :: laneKinds) ((s.put (O.LINK_RATE p) 0).put (O.LINK_WIDTH p) 0) (s.clearLink p) :=
    (WritesOnly.put _ _).trans (clearLink_lanes s p).mono
  have width : WritesOnly [kind (O.LINK_WIDTH 0)] (s.put (O.LINK_RATE p) 0) ((s.put (O.LINK_RATE p) 0).put (O.LINK_WIDTH p) 0) := .put _ _
  exact ⟨(rest.keeps h₂).trans ((width.keeps h₁).trans (get_put_self h _ _)), (rest.keeps h₂).trans (get_put_self h₁ _ _)⟩

theorem dropCleared_writesOnly (s : State) (p : Nat) : WritesOnly shownKinds s (dropCleared s p) :=
  (((WritesOnly.setPort s p _).trans (clearLink_writesOnly _ p)).trans (.put _ _)).trans (.owe _ _)

theorem dropCleared_rate_width {s : State} (h : s.regs.risingFrom 0 = true) (p : Nat) :
    (dropCleared s p).get (O.LINK_RATE p) = 0 ∧ (dropCleared s p).get (O.LINK_WIDTH p) = 0 := by
  have last (t : State) (v : Nat) : WritesOnly [kind (O.IDE_STATE 0)] t ((t.put (O.IDE_STATE p) v).owe (.portDropped p)) :=
    (WritesOnly.put _ _).trans (.owe _ _)
  have cleared {t : State} (ht : t.regs.risingFrom 0 = true) (v : Nat) :
      (((t.clearLink p).put (O.IDE_STATE p) v).owe (.portDropped p)).get (O.LINK_RATE p) = 0 ∧
        (((t.clearLink p).put (O.IDE_STATE p) v).owe (.portDropped p)).get (O.LINK_WIDTH p) = 0 := by
    obtain ⟨rate, width⟩ := clearLink_rate_width ht p
    have rising := (clearLink_writesOnly t p).rising ht
    exact ⟨((last _ v).keeps rising).trans rate, ((last _ v).keeps rising).trans width⟩
  exact cleared (t := s.setPort p _) h _

theorem beginAttempt_writesOnly {ks : List Nat} (s : State) (p : Nat) : WritesOnly ks s (s.beginAttempt p) := .setPort s p _

theorem startAttempt_writesOnly (s : State) (p : Nat) : WritesOnly [kind (O.LINK_STATE 0)] s (s.startAttempt p) :=
  (((WritesOnly.put _ _).trans (.moveLtssm _ _ _)).trans (.setPort _ _ _)).trans (beginAttempt_writesOnly _ p)

/-- Once a drop's link is cleared, LINK_STATE alone is written. -/
theorem linkDrop_writes_linkState (s : State) (p state : Nat) :
    WritesOnly [kind (O.LINK_STATE 0)] (dropCleared (dropNoted s p) p) (s.linkDrop p state) := by
  rw [linkDrop_eq]
  exact .ite (.ite (startAttempt_writesOnly _ p) (.put _ _)) (.put _ _)

theorem linkDrop_writesOnly (s : State) (p state : Nat) :
    WritesOnly (dropKinds ++ shownKinds ++ [kind (O.LINK_STATE 0)]) s (s.linkDrop p state) :=
  ((dropNoted_writesOnly s p).mono.trans (dropCleared_writesOnly _ p).mono).trans (linkDrop_writes_linkState s p state).mono

theorem linkDrop_linkState {s : State} (h : s.regs.risingFrom 0 = true) (p : Nat) {state : Nat} (hne : state ≠ lsTraining) (hlt : state < 2 ^ 64) :
    (s.linkDrop p state).linkState p = state := by
  have rising := ((dropNoted_writesOnly s p).mono.trans (dropCleared_writesOnly _ p).mono
    : WritesOnly (dropKinds ++ shownKinds) _ _).rising h
  rw [linkDrop_eq, if_neg hne]
  exact (get_put_self rising _ _).trans (Nat.mod_eq_of_lt hlt)

/-- The bits below one that is set keep their values. -/
theorem bit_setBit_below {s : State} (h : s.regs.risingFrom 0 = true) (o : Obj) {b j : Nat} (hj : j < b) (hb : b < 64) :
    (s.setBit o b true).bit o j = s.bit o j := by
  rw [State.setBit]
  split
  · rfl
  · rw [State.bit, if_pos rfl, get_put_self h, Nat.testBit_mod_two_pow, decide_eq_true (Nat.lt_trans hj hb), Bool.true_and, Nat.add_comm,
      Nat.testBit_two_pow_add_gt hj, State.bit]

/-- A link drop stands in PORT_EVENTS, in a store whose keys rise. -/
def DropStands (p : Nat) (s : State) : Prop := s.regs.risingFrom 0 = true ∧ s.bit (O.PORT_EVENTS p) 1 = true

theorem DropStands.kept {p : Nat} {ks : List Nat} {s t : State} (h : DropStands p s) (w : WritesOnly ks s t)
    (hks : ks.contains (kind (O.PORT_EVENTS 0)) = false := by decide) : DropStands p t :=
  ⟨w.rising h.1, (w.keepsBit (i := p) h.1 1 hks).trans h.2⟩

theorem noteDrop_dropStands {s : State} (h : s.regs.risingFrom 0 = true) (p : Nat) : DropStands p (s.noteDrop p) := by
  have counted := count32_rising h (O.DOWN_COUNT p)
  exact ⟨setBit_rising _ _ _ counted, bit_setBit_self _ _ counted (by decide)⟩

theorem DropStands.writeLost {p : Nat} {s : State} (h : DropStands p s) (a m t : Nat) :
    DropStands p ((s.setBit (O.PORT_EVENTS p) 6 true).raisePort p F.WRITE_LOST a m t) :=
  ⟨setBit_rising _ _ _ h.1, (bit_setBit_below h.1 _ (by decide) (by decide)).trans h.2⟩

theorem DropStands.ite {p : Nat} {c : Prop} [Decidable c] {s t : State} (hs : DropStands p s) (ht : DropStands p t) :
    DropStands p (if c then s else t) := by
  split
  · exact hs
  · exact ht

theorem dropSlot_dropStands {p : Nat} {s : State} (h : DropStands p s) (n : Nat) (held : Bool) : DropStands p (s.dropSlot p n held) := by
  have counted (f : TagSlot → TagSlot) (t : Nat) : DropStands p ((s.setTag p n f).perfCount (dieOfPort p) evSynthCpl p t 1) :=
    h.kept ((WritesOnly.setTag s p n f).trans (perfCount_writesOnly _ _ _ _ _ _))
  have owed {t : State} (stands : DropStands p t) (a : Act) : DropStands p (t.owe a) := stands.kept (ks := []) (.owe t a)
  unfold State.dropSlot
  dsimp only
  split
  case h_1 => exact owed ((counted _ _).kept (ks := [kind (O.SYNTH_READ_COUNT 0)]) (.count32 _)) _
  case h_2 =>
    have lost := (counted (fun t => { t with state := 2, held := held, msg := {} }) (s.tagSlot p n).msg.tenant).kept
      (ks := [kind (O.LOST_WRITE_COUNT 0)]) (.count32 (c := 0x10) (i := p) (m := 0x1C) _)
    exact owed (.ite (lost.writeLost _ _ _) lost) _
  case h_3 => exact owed (counted _ _) _

theorem dropSlots_dropStands {p : Nat} {s : State} (h : DropStands p s) : DropStands p (s.dropSlots p) := by
  have freed (l : List Nat) : DropStands p (forEach l (fun n s => s.setTag p n (fun _ => {})) s) :=
    h.kept (ks := []) (.forEach (fun _ _ => .setTag _ _ _ _) l s)
  have completed {t : State} (ht : DropStands p t) (l : List Nat) : DropStands p (forEach l (fun n s => s.dropSlot p n false) t) :=
    forEach_keeps (P := DropStands p) (fun n _ hu => dropSlot_dropStands hu n false) l t ht
  exact (completed (freed _) _).kept (countSlots_writesOnly _ p)

theorem dropNoted_dropStands {s : State} (h : s.regs.risingFrom 0 = true) (p : Nat) : DropStands p (dropNoted s p) := by
  have noted := noteDrop_dropStands h p
  have settled : DropStands p (if (s.noteDrop p).role p = roleDownstream then ((s.noteDrop p).dropSlots p).dropViral p else s.noteDrop p) :=
    .ite ((dropSlots_dropStands noted).kept (ks := []) (dropViral_writesOnly _ p)) noted
  exact .ite (settled.kept (ks := []) (.owe _ _)) settled

/-- A link drop stands in PORT_EVENTS (R102). -/
theorem linkDrop_portEvents {s : State} (h : s.regs.risingFrom 0 = true) (p state : Nat) : (s.linkDrop p state).bit (O.PORT_EVENTS p) 1 = true :=
  (((dropNoted_dropStands h p).kept (dropCleared_writesOnly _ p)).kept (linkDrop_writes_linkState s p state)).2

theorem linkDrop_rate_width {s : State} (h : s.regs.risingFrom 0 = true) (p state : Nat) :
    (s.linkDrop p state).get (O.LINK_RATE p) = 0 ∧ (s.linkDrop p state).get (O.LINK_WIDTH p) = 0 := by
  have noted := (dropNoted_writesOnly s p).rising h
  have rising := (dropCleared_writesOnly (dropNoted s p) p).rising noted
  have last := linkDrop_writes_linkState s p state
  obtain ⟨rate, width⟩ := dropCleared_rate_width noted p
  exact ⟨(last.keeps rising).trans rate, (last.keeps rising).trans width⟩

/-! ## Attempts that fail, and the way back (R93, R99, R102) -/

theorem fxTrainTimeout_fails {s : State} {p t : Nat} (hat : (s.port p).attemptAt = some t) (hst : s.linkState p = lsTraining)
    (hdue : t + s.get (O.TRAIN_TIMEOUT p) ≤ s.portClock p) (hlast : s.get (O.TRAIN_RETRIES p) ≤ (s.port p).fails + 1) :
    fxTrainTimeout p s = ((((s.put (O.LINK_STATE p) lsFailed).setPort p
      (fun r => { r with attemptAt := none, fails := 0, ltssm := 0, seqAt := none })).setBit (O.PORT_EVENTS p) 3 true).raisePort p
        F.TRAIN_FAIL 0 0xFFFF 0) := by
  have training : lsTraining ≠ lsRecovery := by decide
  simp only [fxTrainTimeout, hat, hst, hdue, true_or, and_self, if_true, if_neg training, if_pos hlast]

theorem fxTrainTimeout_pauses {s : State} {p t : Nat} (hat : (s.port p).attemptAt = some t) (hst : s.linkState p = lsTraining)
    (hdue : t + s.get (O.TRAIN_TIMEOUT p) ≤ s.portClock p) (hmore : (s.port p).fails + 1 < s.get (O.TRAIN_RETRIES p)) :
    fxTrainTimeout p s = ((s.put (O.LINK_STATE p) lsDetect).setPort p
      (fun r => { r with attemptAt := none, fails := (s.port p).fails + 1, pauseAt := some (s.portClock p), ltssm := 0 })).drivePerst p true := by
  have training : lsTraining ≠ lsRecovery := by decide
  simp only [fxTrainTimeout, hat, hst, hdue, true_or, and_self, if_true, if_neg training, if_neg (Nat.not_le.2 hmore)]
  rfl

theorem lanesRun_of_mayTrain {s : State} {p : Nat} (h : s.mayTrain p = true) : s.lanesRun p = true := by
  simp only [State.mayTrain, Bool.and_eq_true] at h
  obtain ⟨⟨⟨⟨-, lanes⟩, -⟩, -⟩, -⟩ := h
  exact lanes

theorem fxRetryPauseEnd_starts {s : State} {p t : Nat} (hpause : (s.port p).pauseAt = some t) (hdue : t + 25000 ≤ s.portClock p)
    (hmode : s.trainMode = true) (hpower : s.role p = roleDownstream → s.slotPowerOk p = true)
    (hmay : (s.setPort p (fun r => { r with pauseAt := none })).mayTrain p = true) :
    fxRetryPauseEnd p s = ((s.setPort p (fun r => { r with pauseAt := none })).drivePerst p false).startAttempt p := by
  have lanes := lanesRun_of_mayTrain hmay
  rw [fxRetryPauseEnd, hpause]
  exact (if_pos ⟨hdue, hmode, lanes, hpower⟩).trans (if_pos hmay)

theorem fxPerstRelease_starts {s : State} {p t : Nat} (hseq : (s.port p).seqAt = some t) (hdue : t + s.get (O.PERST_HOLD p) ≤ s.portClock p)
    (hmay : s.mayTrain p = true) :
    fxPerstRelease p s = ((s.drivePerst p false).setPort p (fun r => { r with seqAt := none })).startAttempt p := by
  rw [fxPerstRelease, hseq]
  exact if_pos ⟨hdue, hmay⟩

theorem fxDropTimeExpiry_drops {s : State} {p t : Nat} (hout : (s.port p).outSince = some t) (hst : s.linkState p = lsRecovery)
    (hdue : t + s.get (O.DROP_TIME p) ≤ s.portClock p) : fxDropTimeExpiry p s = s.linkDrop p lsTraining := by
  rw [fxDropTimeExpiry, hout]
  exact if_pos ⟨hst, hdue⟩

/-- Settles O20: each event by its effect in its case; what follows the writes of a link's objects leaves them as they are. -/
theorem portTraining : Obligations.PortTraining := by
  refine ⟨?linkUp, ?fails, ?pauses, ?retries, ?released, ?recovers, ?returns, ?expires⟩
  case linkUp =>
    intro s p rate width protocols ld pol rev ps h hp hlanes hst hat hrate hwidth hld
    obtain ⟨⟨up, rateIs, widthIs⟩, spoken, epoch⟩ := fxLinkUp_negotiates h hst hat hrate hwidth hld pol ps
    have down : s.linkState p ≠ lsUp := by rw [hst]; decide
    exact ⟨onUnit_hasPort hp (fxPortUp_up hlanes down up), up, rateIs, widthIs, spoken, epoch⟩
  case fails =>
    intro s p t _ hp hat hst hdue hlast
    exact onUnit_hasPort hp (fxTrainTimeout_fails hat hst hdue hlast)
  case pauses =>
    intro s p t _ hp hat hst hdue hmore
    exact onUnit_hasPort hp (fxTrainTimeout_pauses hat hst hdue hmore)
  case retries =>
    intro s p t hp hpause hdue hmode hpower hmay
    exact onUnit_hasPort hp (fxRetryPauseEnd_starts hpause hdue hmode hpower hmay)
  case released =>
    intro s p t hp hseq hdue hmay
    exact onUnit_hasPort hp (fxPerstRelease_starts hseq hdue hmay)
  case recovers =>
    intro s p h hp hst
    exact ⟨onUnit_hasPort hp (fxRecoveryEntry_enters hst []), enterRecovery_linkIs h p []⟩
  case returns =>
    intro s p rate width rev h hp hst hrate hwidth
    exact ⟨onUnit_hasPort hp rfl, fxRecoveryExit_linkIs h hst hrate hwidth⟩
  case expires =>
    intro s p t h hp hout hst hdue
    exact ⟨onUnit_hasPort hp (fxDropTimeExpiry_drops hout hst hdue), linkDrop_portEvents (Canonical.rising h) p _,
      linkDrop_rate_width (Canonical.rising h) p _⟩

end Sys2Proof.Proofs
end

section
/-! PROOFS. The sideband of a CXL port and presence in its slot (the obligations of 04_cxl_ports.md). -/
namespace Sys2Proof.Proofs
open Sys2Proof Sys2Proof.Machine Sys2Proof.Laws

/-! ## Records of ports -/

/-- A record whose device is present is not as after reset. -/
theorem ne_default_of_present {r : Port} (h : r.present = true) : r ≠ default :=
  fun e => Bool.noConfusion (h.symm.trans (congrArg Port.present e))

/-- A record that is not as after reset is read as it was left, whether the table's keys rise or not. -/
theorem port_setPort {s : State} {p : Nat} {f : Port → Port} (h : f (s.port p) ≠ default) : (s.setPort p f).port p = f (s.port p) :=
  at_set_ne_default _ _ h

theorem drivePerst_writesOnly {ks : List Nat} (s : State) (p : Nat) (asserted : Bool) : WritesOnly ks s (s.drivePerst p asserted) :=
  .ite .beside (.refl s)

/-- Driving PERST_N changes nothing of a port's record but the output. -/
theorem port_drivePerst {s : State} {p : Nat} (h : ∀ out, { s.port p with perstOut := out } ≠ (default : Port)) (asserted : Bool) :
    ∃ out, (s.drivePerst p asserted).port p = { s.port p with perstOut := out } := by
  rw [State.drivePerst]
  split
  · exact ⟨asserted, port_setPort (h asserted)⟩
  · exact ⟨(s.port p).perstOut, rfl⟩

section SetPort
variable (s : State) (p q : Nat) (f : Port → Port)

@[simp] theorem role_setPort : (s.setPort p f).role q = s.role q := rfl
@[simp] theorem linkState_setPort : (s.setPort p f).linkState q = s.linkState q := rfl
@[simp] theorem trainMode_setPort : (s.setPort p f).trainMode = s.trainMode := rfl
@[simp] theorem slotPowerOk_setPort : (s.setPort p f).slotPowerOk q = s.slotPowerOk q := rfl
@[simp] theorem portClock_setPort : (s.setPort p f).portClock q = s.portClock q := rfl

end SetPort

/-! ## The sideband (R92, R97) -/

theorem fxPerstAssert_drops {s : State} {p : Nat} (hrole : s.role p = roleUpstream ∨ s.role p = roleFm) (halive : s.linkAlive p = true) :
    fxPerstAssert p s = ((s.setPort p (fun r => { r with perstIn := true })).resetFunctions p).linkDrop p lsDetect := by
  have upward : s.role p ≠ roleDownstream := by
    rcases hrole with e | e <;> rw [e] <;> decide
  rw [fxPerstAssert, if_neg upward]
  exact (if_pos hrole).trans (if_pos halive)

theorem fxPerstDeassert_starts {s : State} {p : Nat} (hrole : s.role p = roleUpstream ∨ s.role p = roleFm) (hin : (s.port p).perstIn = true)
    (hst : s.linkState p = lsDetect) (hmay : (s.setPort p (fun r => { r with perstIn := false })).mayTrain p = true)
    (hpause : ((s.setPort p (fun r => { r with perstIn := false })).port p).pauseAt = none) :
    fxPerstDeassert p s = (s.setPort p (fun r => { r with perstIn := false })).startAttempt p := by
  have named : s.role p ≠ roleDisabled := by
    rcases hrole with e | e <;> rw [e] <;> decide
  have state : (s.setPort p (fun r => { r with perstIn := false })).linkState p = lsDetect := hst
  have idle : (s.setPort p (fun r => { r with perstIn := false })).linkAlive p = false := by
    rw [State.linkAlive, state]
    rfl
  have failed : ¬ lsDetect = lsFailed := by decide
  have training : lsDetect ≠ lsTraining := by decide
  simp only [fxPerstDeassert, if_neg named, if_pos (And.intro hrole hin), hst, if_neg failed, state]
  exact if_pos ⟨hmay, hpause, idle, training⟩

/-! ## Presence in a slot (R98, R99) -/

/-- The port with its device declared present. -/
def presenceDeclared (s : State) (p : Nat) : State :=
  (s.setPort p (fun r => { r with prsntLow := true })).setPort p (fun r => { r with present := true })

theorem port_prsntLow (s : State) (p : Nat) : (s.setPort p (fun r => { r with prsntLow := true })).port p = { s.port p with prsntLow := true } :=
  port_setPort (ne_of_apply_ne Port.prsntLow Bool.noConfusion)

theorem port_presenceDeclared (s : State) (p : Nat) : (presenceDeclared s p).port p = { s.port p with prsntLow := true, present := true } := by
  have declared := port_setPort (s := s.setPort p (fun r => { r with prsntLow := true })) (p := p) (f := fun r => { r with present := true })
    (ne_of_apply_ne Port.present Bool.noConfusion)
  rwa [port_prsntLow] at declared

/-- A port's record when its device is declared present: AUTO, or an ENABLE since the latest absence, wants the hot-plug sequence (R99). -/
def wanting (s : State) (p : Nat) (r : Port) : Port :=
  { r with want := r.want || (!r.cmdDisabled && (s.get (O.HOTPLUG_CTRL p) == 0 || r.enabled)) }

/-- The state in which a declaration of presence tries the hot-plug sequence (R93, R99). -/
def presenceWanted (s : State) (p : Nat) : State :=
  let t := s.setPort p (wanting s p)
  if t.linkState p = lsFailed then t.put (O.LINK_STATE p) lsDetect else t

theorem port_wanting {s : State} {p : Nat} (h : (s.port p).present = true) : (s.setPort p (wanting s p)).port p = wanting s p (s.port p) :=
  port_setPort (ne_default_of_present h)

theorem port_presenceWanted {s : State} {p : Nat} (h : (s.port p).present = true) : (presenceWanted s p).port p = wanting s p (s.port p) := by
  rw [presenceWanted]
  split <;> exact port_wanting h

/-- What a declaration of presence comes to, by the role of its port. -/
theorem fxPresenceDeclared_eq {s : State} {p n : Nat} (habsent : (s.port p).present = false) (hheld : s.get (O.PRESENCE_DEBOUNCE p) ≤ n) :
    fxPresenceDeclared p n s =
      if s.role p = roleDownstream ∧ s.linkState p ≠ lsRetired then (presenceWanted (presenceDeclared s p) p).tryHotplug p
      else presenceDeclared s p := by
  have undeclared : ¬ (((s.setPort p (fun r => { r with prsntLow := true })).port p).present = true ∨
      n < (s.setPort p (fun r => { r with prsntLow := true })).get (O.PRESENCE_DEBOUNCE p)) := by
    rw [port_prsntLow, setPort_get]
    exact not_or_intro (Bool.eq_false_iff.1 habsent) (Nat.not_lt.2 hheld)
  rw [fxPresenceDeclared, if_neg undeclared]
  simp only [role_setPort, linkState_setPort]
  rfl

theorem tryHotplug_present {s : State} {p : Nat} (h : (s.port p).present = true) : ((s.tryHotplug p).port p).present = true := by
  rw [State.tryHotplug]
  dsimp only
  split
  · obtain ⟨out, driven⟩ := port_drivePerst (s := s.put (O.LINK_STATE p) lsDetect) (p := p)
      (fun _ => ne_default_of_present h) true
    rw [port_setPort (ne_of_apply_ne Port.seqAt (Option.some_ne_none _)), driven]
    exact h
  · exact h

theorem fxPresenceDeclared_present {s : State} {p n : Nat} (habsent : (s.port p).present = false) (hheld : s.get (O.PRESENCE_DEBOUNCE p) ≤ n) :
    ((fxPresenceDeclared p n s).port p).present = true := by
  have declared : ((presenceDeclared s p).port p).present = true := by rw [port_presenceDeclared]
  rw [fxPresenceDeclared_eq habsent hheld]
  split
  · exact tryHotplug_present (by rw [port_presenceWanted declared]; exact declared)
  · exact declared

/-- A hot-plug sequence that begins notes its first instant and leaves the port in DETECT (R99). -/
theorem tryHotplug_begins {s : State} (h : s.regs.risingFrom 0 = true) {p : Nat} (hrole : s.role p = roleDownstream) (hst : s.linkState p = lsDetect)
    (hmode : s.trainMode = true) (hwant : (s.port p).want = true) (hpresent : (s.port p).present = true) (hseq : (s.port p).seqAt = none)
    (hpower : s.slotPowerOk p = true) :
    ((s.tryHotplug p).port p).seqAt = some (s.portClock p) ∧ (s.tryHotplug p).linkState p = lsDetect := by
  have failed : s.linkState p ≠ lsFailed := by rw [hst]; decide
  have retired : s.linkState p ≠ lsRetired := by rw [hst]; decide
  have clock : ((s.put (O.LINK_STATE p) lsDetect).drivePerst p true).portClock p = s.portClock p := by
    rw [State.drivePerst]
    split <;> rfl
  have rising := put_rising h (O.LINK_STATE p) lsDetect
  have driven := drivePerst_writesOnly (ks := []) (s.put (O.LINK_STATE p) lsDetect) p true
  rw [State.tryHotplug, if_pos ⟨hrole, failed, retired, hmode, hwant, hpresent, hseq, hpower⟩]
  refine ⟨?_, ?_⟩
  · rw [port_setPort (ne_of_apply_ne Port.seqAt (Option.some_ne_none _)), clock]
  · exact ((driven.trans (.setPort _ _ _)).keeps rising).trans (get_put_self h _ _)

/-- A declaration begins the sequence at once under AUTO, where the sequence waits for nothing else. -/
theorem presenceWanted_begins {s : State} (h : s.regs.risingFrom 0 = true) {p : Nat} (hrole : s.role p = roleDownstream)
    (hst : s.linkState p = lsDetect) (hauto : s.get (O.HOTPLUG_CTRL p) = 0) (henabled : (s.port p).cmdDisabled = false) (hmode : s.trainMode = true)
    (hpresent : (s.port p).present = true) (hseq : (s.port p).seqAt = none) (hpower : s.slotPowerOk p = true) :
    (((presenceWanted s p).tryHotplug p).port p).seqAt = some (s.portClock p) ∧ ((presenceWanted s p).tryHotplug p).linkState p = lsDetect := by
  have failed : ¬ s.linkState p = lsFailed := by rw [hst]; decide
  have wanted : presenceWanted s p = s.setPort p (wanting s p) := if_neg failed
  have power := (slotPowerOk_setPort s p p (wanting s p)).trans hpower
  rw [wanted]
  refine tryHotplug_begins (s := s.setPort p (wanting s p)) h hrole hst hmode ?_ ?_ ?_ power <;> rw [port_wanting hpresent]
  · simp [wanting, hauto, henabled]
  · exact hpresent
  · exact hseq

theorem fxPresenceDeclared_begins {s : State} (h : s.Canonical) {p n : Nat} (habsent : (s.port p).present = false)
    (hheld : s.get (O.PRESENCE_DEBOUNCE p) ≤ n) (hrole : s.role p = roleDownstream) (hst : s.linkState p = lsDetect)
    (hauto : s.get (O.HOTPLUG_CTRL p) = 0) (henabled : (s.port p).cmdDisabled = false) (hmode : s.trainMode = true)
    (hseq : (s.port p).seqAt = none) (hpower : s.slotPowerOk p = true) :
    ((fxPresenceDeclared p n s).port p).seqAt = some (s.portClock p) ∧ (fxPresenceDeclared p n s).linkState p = lsDetect := by
  have rising : (presenceDeclared s p).regs.risingFrom 0 = true := by
    rw [presenceDeclared, setPort_regs, setPort_regs]
    exact Canonical.rising h
  have retired : s.linkState p ≠ lsRetired := by rw [hst]; decide
  have begins := presenceWanted_begins (s := presenceDeclared s p) (p := p) rising
  simp only [port_presenceDeclared] at begins
  simp only [presenceDeclared, role_setPort, linkState_setPort, trainMode_setPort, slotPowerOk_setPort, portClock_setPort, setPort_get] at begins
  rw [fxPresenceDeclared_eq habsent hheld, if_pos ⟨hrole, retired⟩]
  exact begins hrole hst hauto henabled hmode trivial hseq hpower

/-- The port with its device declared absent (R98). -/
def absenceDeclared (s : State) (p : Nat) : State :=
  let t := s.setPort p (fun r => { r with prsntLow := false })
  t.setPort p (fun r =>
    { r with present := false, enabled := false, want := false, cmdDisabled := false, seqAt := none, attemptAt := none, pauseAt := none,
             ltssm := if t.linkAlive p then r.ltssm else 0 })

theorem fxAbsenceDeclared_drops {s : State} {p n : Nat} (hpresent : (s.port p).present = true) (hheld : 25 ≤ n) (hrole : s.role p = roleDownstream)
    (hst : s.linkState p = lsUp) : fxAbsenceDeclared p n s = ((absenceDeclared s p).drivePerst p true).linkDrop p lsDetect := by
  have noticed : ((s.setPort p (fun r => { r with prsntLow := false })).port p).present = true := by
    rw [port_setPort (ne_default_of_present hpresent)]
    exact hpresent
  have retired : s.linkState p ≠ lsRetired := by rw [hst]; decide
  have state : (absenceDeclared s p).linkState p = lsUp := hst
  have live : ((absenceDeclared s p).linkAlive p || (absenceDeclared s p).linkState p == lsTraining) = true := by
    rw [State.linkAlive, state]
    rfl
  rw [fxAbsenceDeclared]
  exact (if_pos ⟨noticed, hheld⟩).trans ((if_pos ⟨hrole, retired⟩).trans (if_pos live))

/-- Settles O21: each event by its effect in its case; a drop that does not train leaves LINK_STATE at what it was given. -/
theorem portSideband : Obligations.PortSideband := by
  refine ⟨?asserted, ?deasserted, ?present, ?hotplug, ?absent⟩
  case asserted =>
    intro s p h hp hrole halive
    have rising := Canonical.rising h
    exact ⟨onUnit_hasPort hp (fxPerstAssert_drops hrole halive), linkDrop_linkState (by exact rising) p (by decide) (by decide)⟩
  case deasserted =>
    intro s p hp hrole hin hst hmay hpause
    exact onUnit_hasPort hp (fxPerstDeassert_starts hrole hin hst hmay hpause)
  case present =>
    intro s p n hp habsent hheld
    exact ⟨onUnit_hasPort hp rfl, fxPresenceDeclared_present habsent hheld⟩
  case hotplug =>
    intro s p n h hp habsent hheld hrole hst hauto henabled hmode hseq hpower
    exact ⟨onUnit_hasPort hp rfl, fxPresenceDeclared_begins h habsent hheld hrole hst hauto henabled hmode hseq hpower⟩
  case absent =>
    intro s p n h hp hpresent hheld hrole hst
    have rising := Canonical.rising h
    have driven := (drivePerst_writesOnly (ks := []) (absenceDeclared s p) p true).rising rising
    refine ⟨onUnit_hasPort hp rfl, ?_⟩
    rw [fxAbsenceDeclared_drops hpresent hheld hrole hst]
    exact linkDrop_linkState driven p (by decide) (by decide)

end Sys2Proof.Proofs
end

section
/-! PROOFS. LINK_CTRL and a port's credits (the obligations of 04_cxl_ports.md). -/
namespace Sys2Proof.Proofs
open Sys2Proof Sys2Proof.Machine Sys2Proof.Laws

/-! ## LINK_CTRL as a write (R100) -/

theorem acc_linkCtrl {v : Variant} {p : Nat} : ∀ r ∈ tableOf v 0x10 p, r.holds 0x06 = true → r.acc ≠ .w1c := by
  have ports : ∀ r ∈ tableR107, r.holds 0x06 = true → r.acc ≠ .w1c := by decide
  have layout : ∀ r ∈ tableR108, r.holds 0x06 = true → r.acc ≠ .w1c := by decide
  intro r hr
  simp only [tableOf] at hr
  split at hr
  · exact ports r hr
  · split at hr
    · exact layout r hr
    · cases hr

theorem effect_linkCtrl {s : State} {r : Row} (hacc : r.acc ≠ .w1c) (p v : Nat) : s.effect (O.LINK_CTRL p) r v = fxLinkCtrl p v s := by
  rw [State.effect, if_neg hacc]
  rfl

/-- The owner's check of LINK_CTRL leaves no trace. -/
theorem ownerStatus_linkCtrl (s : State) (ifc : Iface) (p v : Nat) : (s.ownerStatus ifc (O.LINK_CTRL p) v).2 = s := by
  have owner : (s.ownerLinks (O.LINK_CTRL p) v).2 = s := by
    by_cases absorbed : s.absorbed p = true <;> simp [State.ownerLinks, O.LINK_CTRL, State.only, absorbed]
  rw [State.ownerStatus]
  split
  · rfl
  · split
    · rfl
    · exact owner

/-- A served write of LINK_CTRL carries out its command. -/
theorem writeOne_linkCtrl {s u : State} {ifc : Iface} {p v : Nat} (h : s.servesWrite ifc (O.LINK_CTRL p) v = true) (hu : fxLinkCtrl p v s = u) :
    writeOne ifc (O.LINK_CTRL p) v s = .next (settle (u.acknowledged ifc (O.LINK_CTRL p))) :=
  writeOne_effect h fun r hr => by rw [ownerStatus_linkCtrl, effect_linkCtrl (acc_ne_w1c hr acc_linkCtrl), hu]

/-! ## RETRAIN -/

theorem fxRetrain_up {s : State} {p : Nat} (hst : s.linkState p = lsUp) : fxRetrain p s = (s.enterRecovery p []).beginAttempt p :=
  if_pos hst

section Failed
variable {s t : State} {p : Nat} (hst : s.linkState p = lsFailed) (ht : t = s.setPort p (fun r => { r with fails := 0 }))
include hst ht

theorem fxRetrain_failed : fxRetrain p s =
    if t.mayTrain p && (t.role p != roleDownstream || ((t.port p).present && t.slotPowerOk p)) then (t.drivePerst p false).startAttempt p
    else (t.put (O.LINK_STATE p) lsDetect).setPort p (fun r => { r with want := r.want || r.present }) := by
  have down : ¬ s.linkState p = lsUp := by rw [hst]; decide
  subst ht
  rw [fxRetrain, if_neg down, if_pos hst]

theorem fxRetrain_failed_ready (hmay : t.mayTrain p = true)
    (hpower : t.role p = roleDownstream → (t.port p).present = true ∧ t.slotPowerOk p = true) :
    fxRetrain p s = (t.drivePerst p false).startAttempt p := by
  refine (fxRetrain_failed hst ht).trans (if_pos ?_)
  by_cases down : t.role p = roleDownstream
  · simp [hmay, hpower down]
  · simp [hmay, down]

theorem fxRetrain_failed_waits
    (hlacks : t.mayTrain p = false ∨ (t.role p = roleDownstream ∧ ((t.port p).present = false ∨ t.slotPowerOk p = false))) :
    fxRetrain p s = (t.put (O.LINK_STATE p) lsDetect).setPort p (fun r => { r with want := r.want || r.present }) := by
  refine (fxRetrain_failed hst ht).trans (if_neg ?_)
  rcases hlacks with lacks | ⟨down, lacks | lacks⟩
  · simp [lacks]
  · simp [down, lacks]
  · simp [down, lacks]

end Failed

/-- Of a port that is neither UP nor FAILED, an attempt starts where it may. -/
theorem fxRetrain_other {s : State} {p : Nat} (hup : s.linkState p ≠ lsUp) (hfailed : s.linkState p ≠ lsFailed) : fxRetrain p s =
    if (s.linkState p = lsDetect ∨ s.linkState p = lsTraining) ∧ (s.port p).pauseAt = none ∧ s.canAttempt p = true then s.startAttempt p
    else s :=
  (if_neg hup).trans (if_neg hfailed)

theorem fxRetrain_starts {s : State} {p : Nat} (hst : s.linkState p = lsDetect ∨ s.linkState p = lsTraining) (hpause : (s.port p).pauseAt = none)
    (hcan : s.canAttempt p = true) : fxRetrain p s = s.startAttempt p := by
  refine (fxRetrain_other ?_ ?_).trans (if_pos ⟨hst, hpause, hcan⟩) <;> rcases hst with e | e <;> rw [e] <;> decide

theorem fxRetrain_stays {s : State} {p : Nat} (hup : s.linkState p ≠ lsUp) (hfailed : s.linkState p ≠ lsFailed)
    (hcannot : (s.linkState p = lsDetect ∨ s.linkState p = lsTraining) → (s.port p).pauseAt = none → s.canAttempt p = false) :
    fxRetrain p s = s :=
  (fxRetrain_other hup hfailed).trans (if_neg fun ⟨hst, hpause, hcan⟩ => Bool.eq_false_iff.1 (hcannot hst hpause) hcan)

/-! ## DISABLE -/

theorem role_of_writesOnly {ks : List Nat} {s t : State} (w : WritesOnly ks s t) (h : s.regs.risingFrom 0 = true) (p : Nat)
    (hwidth : ks.contains (kind (O.PORT_WIDTH 0)) = false := by decide) (hrole : ks.contains (kind (O.PORT_ROLE 0)) = false := by decide) :
    t.role p = s.role p := by
  rw [State.role, State.role, show t.get (O.PORT_WIDTH p) = s.get (O.PORT_WIDTH p) from w.keeps h hwidth,
    show t.get (O.PORT_ROLE p) = s.get (O.PORT_ROLE p) from w.keeps h hrole]

/-- The link taken down by DISABLE: a drop where it is live. -/
def linkDisabled (s : State) (p : Nat) : State :=
  if s.linkAlive p then s.linkDrop p lsDisabled else s.put (O.LINK_STATE p) lsDisabled

theorem linkDisabled_writesOnly (s : State) (p : Nat) :
    WritesOnly (dropKinds ++ shownKinds ++ [kind (O.LINK_STATE 0)]) s (linkDisabled s p) :=
  .ite (linkDrop_writesOnly s p lsDisabled) (.put _ _)

theorem linkDisabled_linkState {s : State} (h : s.regs.risingFrom 0 = true) (p : Nat) : (linkDisabled s p).linkState p = lsDisabled := by
  rw [linkDisabled]
  split
  · exact linkDrop_linkState h p (by decide) (by decide)
  · exact get_put_self h _ _

/-- After DISABLE the store is that of the link taken down. -/
theorem fxDisable_writesOnly (s : State) (p : Nat) : WritesOnly [] (linkDisabled s p) (fxDisable p s) :=
  (WritesOnly.setPort _ p _).trans (drivePerst_writesOnly _ p true)

/-- A port's record while DISABLE holds it, with its LTSSM. -/
def disabledPort (ltssm : Nat) (r : Port) : Port :=
  { r with cmdDisabled := true, attemptAt := none, pauseAt := none, seqAt := none, want := false, ltssm := ltssm }

theorem port_disabledPort (s : State) (p ltssm : Nat) : (s.setPort p (disabledPort ltssm)).port p = disabledPort ltssm (s.port p) :=
  port_setPort (ne_of_apply_ne Port.cmdDisabled Bool.noConfusion)

/-- After DISABLE the record is held until ENABLE; the LTSSM of a port whose role is DISABLED stays in Detect.Quiet (R90, R501). -/
theorem fxDisable_port {s : State} (h : s.regs.risingFrom 0 = true) (p : Nat) : ((fxDisable p s).port p).cmdDisabled = true ∧
    ((fxDisable p s).port p).attemptAt = none ∧ ((fxDisable p s).port p).ltssm = if s.role p = roleDisabled then 0 else 0x14 := by
  have role := role_of_writesOnly (linkDisabled_writesOnly s p) h p
  have eq : fxDisable p s = ((linkDisabled s p).setPort p (disabledPort (if (linkDisabled s p).role p = roleDisabled then 0 else 0x14))).drivePerst
    p true := rfl
  obtain ⟨out, driven⟩ := port_drivePerst (s := (linkDisabled s p).setPort p (disabledPort (if s.role p = roleDisabled then 0 else 0x14)))
    (p := p) (fun _ => ne_of_apply_ne Port.cmdDisabled (by rw [port_disabledPort]; exact Bool.noConfusion)) true
  rw [eq, role, driven, port_disabledPort]
  exact ⟨rfl, rfl, rfl⟩

/-! ## ENABLE -/

theorem fxEnable_upward {s t : State} {p : Nat} (hrole : s.role p ≠ roleDownstream) (hst : s.linkState p = lsDisabled ∨ s.linkState p = lsFailed)
    (ht : t = ((s.setPort p (fun r => { r with cmdDisabled := false, enabled := true })).put (O.LINK_STATE p) lsDetect).setPort p
      (fun r => { r with fails := 0, ltssm := 0 })) :
    fxEnable p s = if t.mayTrain p then t.startAttempt p else t := by
  subst ht
  exact (if_neg hrole).trans (if_pos hst)

theorem fxEnable_downstream {s : State} {p : Nat} (hrole : s.role p = roleDownstream)
    (hst : s.linkState p = lsDisabled ∨ s.linkState p = lsFailed) :
    fxEnable p s = (((((s.setPort p (fun r => { r with cmdDisabled := false, enabled := true })).put (O.LINK_STATE p) lsDetect).setPort p
      (fun r => { r with want := true, fails := 0, ltssm := 0 })).drivePerst p true).tryHotplug p) :=
  (if_pos hrole).trans (if_pos (.inl hst))

/-! ## HOT_RESET -/

theorem fxHotReset_drops {s t : State} {p : Nat} (ht : t = if s.role p = roleDownstream then s.send (.hotReset p) else s.resetFunctions p)
    (hlive : t.linkAlive p = true ∨ s.linkState p = lsTraining) : fxHotReset p s = t.linkDrop p lsTraining := by
  subst ht
  exact if_pos hlive

theorem fxHotReset_down {s t : State} (h : s.Canonical) {p : Nat} (hrole : s.role p = roleDownstream) (halive : s.linkAlive p = false)
    (hst : s.linkState p ≠ lsTraining)
    (ht : t = (((((s.send (.hotReset p)).noteDrop p).dropSlots p).dropViral p).setPort p (fun r => { r with drops := r.drops + 1 })).owe
      (.portDropped p)) :
    fxHotReset p s = if s.linkState p = lsDetect ∧ (t.port p).pauseAt = none ∧ t.canAttempt p = true then t.startAttempt p else t := by
  have rising := Canonical.rising h
  have noted : ((s.send (.hotReset p)).noteDrop p).role p = roleDownstream :=
    (role_of_writesOnly (noteDrop_writesOnly _ p) (s := s.send (.hotReset p)) rising p).trans hrole
  have idle : ¬ ((s.send (.hotReset p)).linkAlive p = true ∨ s.linkState p = lsTraining) := by
    rintro (alive | training)
    · exact Bool.eq_false_iff.1 halive alive
    · exact hst training
  subst ht
  simp only [fxHotReset, if_pos hrole, if_neg idle, if_pos noted]

/-- Settles O22: a served write carries out its command, and each command does what its case says. -/
theorem portCommands : Obligations.PortCommands := by
  refine ⟨?up, ?failed, ?failedWaits, ?starts, ?stays, ?disable, ?enableUp, ?enableDown, ?hotReset, ?hotResetDown⟩
  case up =>
    intro s ifc p served hst
    exact writeOne_linkCtrl served (fxRetrain_up hst)
  case failed =>
    intro s t ifc p served hst ht hmay hpower
    exact writeOne_linkCtrl served (fxRetrain_failed_ready hst ht hmay hpower)
  case failedWaits =>
    intro s t ifc p served hst ht hlacks
    exact writeOne_linkCtrl served (fxRetrain_failed_waits hst ht hlacks)
  case starts =>
    intro s ifc p served hst hpause hcan
    exact writeOne_linkCtrl served (fxRetrain_starts hst hpause hcan)
  case stays =>
    intro s ifc p served hup hfailed hcannot
    exact writeOne_linkCtrl served (fxRetrain_stays hup hfailed hcannot)
  case disable =>
    intro s ifc p h served
    have rising := Canonical.rising h
    have taken := (linkDisabled_writesOnly s p).rising rising
    have kept := fxDisable_writesOnly s p
    obtain ⟨held, idle, ltssm⟩ := fxDisable_port rising p
    refine ⟨writeOne_linkCtrl served rfl, (kept.keeps taken).trans (linkDisabled_linkState rising p), held, idle, ltssm, fun alive => ?_⟩
    exact (kept.keepsBit taken 1).trans (by rw [linkDisabled, if_pos alive]; exact linkDrop_portEvents rising p lsDisabled)
  case enableUp =>
    intro s t ifc p served hrole hst ht
    exact writeOne_linkCtrl served (fxEnable_upward hrole hst ht)
  case enableDown =>
    intro s ifc p served hrole hst
    exact writeOne_linkCtrl served (fxEnable_downstream hrole hst)
  case hotReset =>
    intro s t ifc p served ht hlive
    exact writeOne_linkCtrl served (fxHotReset_drops ht hlive)
  case hotResetDown =>
    intro s t ifc p served hrole h halive hst ht
    exact writeOne_linkCtrl served (fxHotReset_down h hrole halive hst ht)

/-! ## The credits of a send loop (R217) -/

/-- After reset, but for a table of credit loops that lists one key twice, that of the first send loop of port 0: at the default, and with
one credit. -/
def twiceListed : State :=
  { State.reset with core := { State.reset.core with portLoop := [(4096, {}), (4096, { available := 1 })] } }

/-- A return of no credits leaves the listing that is read at the default, so that it is dropped, and the other one is read after it. -/
theorem twiceListed_gains :
    (twiceListed.sendLoop 0 0).available = 0 ∧ ((twiceListed.gainCredit 0 0 0).sendLoop 0 0).available = 1 := by
  decide

/-- Refutes O23: the clause on the credits that a row gains speaks of every state and of every number of credits. Where the table of loops
lists a key twice, a return of 0 credits uncovers the second listing. -/
theorem not_portTraffic : ¬ Obligations.PortTraffic := by
  rintro ⟨-, -, -, -, -, -, -, -, gains, -, -, -⟩
  obtain ⟨before, after⟩ := twiceListed_gains
  have claimed := gains twiceListed 0 0 0
  rw [before, after] at claimed
  cases claimed

end Sys2Proof.Proofs
end

section
/-! PROOFS. Bindings of the FM-API, admissions and the maps' staging stores (the obligations of 04_cxl_ports.md). -/
namespace Sys2Proof.Proofs
open Sys2Proof Sys2Proof.Machine Sys2Proof.Laws

/-! ## Writes that act at once: an owner's check that leaves no trace, and the effect -/

/-- The owner's check of a write in classes 20 to 33 leaves no trace where that of its chapter leaves none. -/
theorem ownerStatus_fabric {s : State} {ifc : Iface} {o : Obj} {v : Nat} (hcls : 0x20 ≤ o.cls ∧ o.cls < 0x38)
    (h : (s.ownerFabric o v).2 = s) : (s.ownerStatus ifc o v).2 = s := by
  rw [State.ownerStatus]
  split
  · rfl
  · split
    · rfl
    · rw [if_neg (by omega), if_neg (by omega), if_pos hcls.2, h]

/-- A served write in classes 20 to 33 of an object that is no W1C object. -/
theorem writeOne_fabric {s u : State} {ifc : Iface} {o : Obj} {v c : Nat} (hc : 0x20 ≤ c ∧ c < 0x38) (hcls : o.cls = c)
    (hacc : ∀ r ∈ tableOf s.variant o.cls o.inst, r.holds o.mem = true → r.acc ≠ .w1c) (howner : (s.ownerFabric o v).2 = s)
    (hu : s.effectFabric o v = u) (h : s.servesWrite ifc o v = true) :
    writeOne ifc o v s = .next (settle (u.acknowledged ifc o)) :=
  writeOne_effect h fun r hr => by
    subst hcls
    rw [ownerStatus_fabric hc howner, State.effect, if_neg (acc_ne_w1c hr hacc), if_neg (by omega), if_neg (by omega), if_pos hc.2, hu]

theorem acc_bindings {v : Variant} {h m : Nat} : ∀ r ∈ tableOf v 0x20 h, r.holds m = true → r.acc ≠ .w1c := by
  have rows : ∀ r ∈ tableR116, r.acc ≠ .w1c := by decide
  intro r hr _
  simp only [tableOf] at hr
  split at hr
  · exact rows r hr
  · cases hr

theorem acc_decoders {v : Variant} {n m : Nat} : ∀ r ∈ tableOf v 0x21 n, r.holds m = true → r.acc ≠ .w1c := by
  have rows : ∀ r ∈ tableR122, r.acc ≠ .w1c := by decide
  intro r hr _
  simp only [tableOf] at hr
  split at hr
  · exact rows r hr
  · cases hr

theorem acc_shadowDiscard {v : Variant} : ∀ r ∈ tableOf v 0x22 0, r.holds 0x01 = true → r.acc ≠ .w1c := by
  have rows : ∀ r ∈ tableR133, r.acc ≠ .w1c := by decide
  exact fun r hr _ => rows r hr

/-! ## Bindings of the FM-API (R87, R115) -/

theorem bindWord_fields {port ld tenant : Nat} (hport : port < 128) (hld : ld < 16) (htenant : tenant < 1024) :
    bindWord port ld tenant = 2 ^ 30 + tenant * 2 ^ 16 + ld * 2 ^ 8 + port :=
  if_pos ⟨hport, hld, htenant⟩

/-- A bind or unbind that the FM-API's mailbox takes, and whose value can be staged, is a transaction of one object. -/
theorem fxFmBind_stages {s : State} {h v w : Nat} (hh : h < 64) (hv : v < 16) (hw : w < 2 ^ 32) (hready : s.fmReady = true)
    (hopen : s.txCmdStatus txFm txcOpen = stOk) (hcheck : (fxTxOpen txFm s).writeCheck .inband (O.VPPB_BIND h v) true [w] = stOk) :
    fxFmBind h v w s =
      (fxTxPrepare txFm ((fxTxOpen txFm s).stageObj txFm (O.VPPB_BIND h v) [w]).2).setFmBind (some (s.now 0 + 500)) := by
  have inRange : ¬ (64 ≤ h ∨ 16 ≤ v ∨ 2 ^ 32 ≤ w) := by omega
  simp only [fxFmBind, hready, hopen, hcheck, if_neg inRange, Bool.not_true, Bool.false_eq_true, if_false, ne_eq, not_true_eq_false]

theorem fxSwitchInfo_answers {s : State} {h : Nat} (hh : h < 64) (hready : s.fmReady = true) :
    fxSwitchInfo h s = s.send (.switchInfo h
      (((List.range 256).filter (fun m => (rowOf s.variant ⟨0x20, h, m⟩).isSome)).map (fun m => s.readObj ⟨0x20, h, m⟩))) := by
  rw [fxSwitchInfo, if_neg (by omega), if_pos hready]

theorem fxFmUnsupported_answers {s : State} (hready : s.fmReady = true) : fxFmUnsupported s = s.send (.fmApi fmUnsupported) :=
  if_pos hready

/-! ## The maps' staging stores and a drained migration (R133, R142) -/

theorem fxShadowDiscard_extents (s : State) : fxShadowDiscard 1 s =
    { s with map := { s.map with extStage := [] },
             dict := { s.dict with invalid := s.dict.invalid.filter (fun r => !(r.space == 1)) } } := by
  simp [fxShadowDiscard, Nat.testBit]

theorem fxShadowDiscard_granules (s : State) : fxShadowDiscard 2 s =
    { s with map := { s.map with grnStage := [] },
             dict := { s.dict with invalid := s.dict.invalid.filter (fun r => !(r.space == 2)) } } := by
  simp [fxShadowDiscard, Nat.testBit]

theorem onUnit_hasMig {s t : State} {m : Nat} (hm : hasMig m = true) (h : s = t) : onUnit (hasMig m) s = .next (settle t) := by
  rw [hm, onUnit_true, h]

/-- Settles O27: each command by its effect in its case. -/
theorem bindings : Obligations.Bindings := by
  refine ⟨?bind, ?unbind, ?info, ?unsupported, ?vppbAdmit, ?decAdmit, ?extents, ?granules, ?drained⟩
  case bind =>
    intro s h v port ld tenant hh hv hport hld htenant hready hopen hcheck
    have word := bindWord_fields hport hld htenant
    rw [← word] at hcheck ⊢
    exact done_eq (fxFmBind_stages hh hv (by omega) hready hopen hcheck)
  case unbind =>
    intro s h v hh hv hready hopen hcheck
    exact done_eq (fxFmBind_stages hh hv (by decide) hready hopen hcheck)
  case info =>
    intro s h hh hready
    exact done_eq (fxSwitchInfo_answers hh hready)
  case unsupported =>
    intro s hready
    exact done_eq (fxFmUnsupported_answers hready)
  case vppbAdmit =>
    intro s ifc h v b _ served
    exact writeOne_fabric (c := 0x20) (by decide) rfl acc_bindings rfl rfl served
  case decAdmit =>
    intro s ifc n b served
    exact writeOne_fabric (c := 0x21) (by decide) rfl acc_decoders rfl rfl served
  case extents =>
    intro s ifc served
    exact writeOne_fabric (c := 0x22) (by decide) rfl acc_shadowDiscard rfl (fxShadowDiscard_extents s) served
  case granules =>
    intro s ifc served
    exact writeOne_fabric (c := 0x22) (by decide) rfl acc_shadowDiscard rfl (fxShadowDiscard_granules s) served
  case drained =>
    intro s m hm hst hage
    exact onUnit_hasMig hm (if_pos ⟨hst, hage⟩)

end Sys2Proof.Proofs
end

section
/-! PROOFS. CXL.io of the hosts and requests of the devices (the obligations of 05_binding_and_translation.md). -/
namespace Sys2Proof.Proofs
open Sys2Proof Sys2Proof.Machine Sys2Proof.Laws

theorem exec_hostCxlIoRequest {s u : State} {p fn bar len data tag tc : Nat} {op : IoOp} {addr : Word} (hp : p < s.ports)
    (h : fxHostIo p op fn bar addr.toNat len data tag tc s = u) :
    exec (.hostCxlIoRequest p op fn bar addr len data tag tc) s = .next (settle u) :=
  onUnit_hasPort hp h

theorem exec_deviceRequest {s u : State} {p ld len data tag tc : Nat} {op : DevOp} {addr : Word} (hp : p < s.ports)
    (h : fxDeviceRequest p ld op addr.toNat len data tag tc s = u) :
    exec (.deviceRequest p ld op addr len data tag tc) s = .next (settle u) :=
  onUnit_hasPort hp h

/-- An event that adds nothing leaves the counters as they are. -/
@[simp] theorem perfCount_zero (s : State) (d ev q t : Nat) : s.perfCount d ev q t 0 = s :=
  if_pos (.inl rfl)

/-! ## A host's CXL.io request (R112, R114, R418) -/

/-- The operations that ask something of a function: neither a completion nor a message of CXL.cache. -/
def asksFunction (op : IoOp) : Prop := op = .cfgRead ∨ op = .cfgWrite ∨ op = .memRead ∨ op = .memWrite

/-- Of these the memory write alone is posted. -/
theorem ioKind_posted {op : IoOp} (hop : asksFunction op) : ioKind op = .ioPosted ↔ op = .memWrite := by
  rcases hop with rfl | rfl | rfl | rfl <;> decide

section HostIo
variable {s u : State} {p fn bar addr len data tag tc cell : Nat} {op : IoOp}
  (hcell : s.receiveCell p (s.ioMsg p (s.get (O.HOST_ID p)) op addr len data tag) = (cell, u))
include hcell

/-- In SAFE the request is completed at its port. -/
theorem hostIo_safe (hop : asksFunction op) (hsafe : u.dieSafe (dieOfPort p) = true) :
    s.hostIo p op fn bar addr len data tag tc =
      (((u.observe p 0 (s.ioMsg p (s.get (O.HOST_ID p)) op addr len data tag)).freeCell (dieOfPort p) cell).perfCount (dieOfPort p)
        evSynthCpl p (if fn < 16 then u.vppbTenant (s.get (O.HOST_ID p)) fn else noTenant) (if op = .memWrite then 0 else 1)).ioDone
          (dieOfPort p) (s.get (O.HOST_ID p)) tag op cplUr := by
  simp only [State.hostIo, hcell, hsafe, if_true, ioKind_posted hop]

/-- A request to a function below 16 goes on through that vPPB. -/
theorem hostIo_through (hsafe : u.dieSafe (dieOfPort p) = false) (hfn : fn < 16) :
    s.hostIo p op fn bar addr len data tag tc =
      (u.perfCount (dieOfPort p) evWrBytes p (u.vppbTenant (s.get (O.HOST_ID p)) fn) (ioWrites op len)).ioThrough p (s.get (O.HOST_ID p))
        fn op bar addr len data tag tc { s.ioMsg p (s.get (O.HOST_ID p)) op addr len data tag with cell := cell } := by
  simp only [State.hostIo, hcell, hsafe, Bool.false_eq_true, if_false, if_pos hfn]

end HostIo

section Function
variable {s u : State} {p fn bar addr len data tag tc cell : Nat} (hfn : 16 ≤ fn)
include hfn

/-- A configuration read brings no data, so that it counts no byte written. -/
theorem hostIo_cfgRead {v : State} {w : Nat}
    (hcell : s.receiveCell p (s.ioMsg p (s.get (O.HOST_ID p)) .cfgRead addr len data tag) = (cell, u))
    (hsafe : u.dieSafe (dieOfPort p) = false)
    (hword : ((u.observe p 0 (s.ioMsg p (s.get (O.HOST_ID p)) .cfgRead addr len data tag)).freeCell (dieOfPort p) cell).cfgIn p
      (s.get (O.HOST_ID p)) fn (addr / 4) = (w, v)) :
    s.hostIo p .cfgRead fn bar addr len data tag tc = v.ioData (dieOfPort p) (s.get (O.HOST_ID p)) tag w 4 false := by
  simp only [State.hostIo, hcell, hsafe, Bool.false_eq_true, if_false, if_neg (Nat.not_lt.mpr hfn), ioWrites, perfCount_zero, hword]

theorem hostIo_cfgWrite (hcell : s.receiveCell p (s.ioMsg p (s.get (O.HOST_ID p)) .cfgWrite addr len data tag) = (cell, u))
    (hsafe : u.dieSafe (dieOfPort p) = false) :
    s.hostIo p .cfgWrite fn bar addr len data tag tc =
      ((((u.perfCount (dieOfPort p) evWrBytes p noTenant len).observe p 0
        (s.ioMsg p (s.get (O.HOST_ID p)) .cfgWrite addr len data tag)).freeCell (dieOfPort p) cell).cfgOut p (s.get (O.HOST_ID p)) fn
          (addr / 4) data).ioDone (dieOfPort p) (s.get (O.HOST_ID p)) tag .cfgWrite cplOk := by
  simp only [State.hostIo, hcell, hsafe, Bool.false_eq_true, if_false, if_neg (Nat.not_lt.mpr hfn), ioWrites]

end Function

/-! ## A host's completion of a device's request (R114) -/

theorem ioReturn_unasked {s v : State} {p tag status data len cell : Nat} {m : Msg}
    (hfind : s.io.up.find? (fun u => u.port == p && u.tag == tag && u.kind == 0) = none)
    (hm : m = { type := .ioCpl status, kind := .ioNp, channel := 7, tag := tag, data := data, len := len,
                opcode := if len = 0 then 0x0A else 0x4A, host := s.get (O.HOST_ID p), charge := ioCharge len,
                origin := s.stamp (dieOfPort p) })
    (hcell : s.receiveCell p m = (cell, v)) :
    s.ioReturn p tag status data len = (v.observe p 0 { m with cell := cell }).freeCell (dieOfPort p) cell := by
  subst hm
  simp only [State.ioReturn, hfind, hcell]

/-- The request is no longer awaited, and its completion carries the device's own tag. -/
theorem ioReturn_answers {s t v : State} {p tag status data len cell : Nat} {u : UpReq} {m : Msg}
    (hfind : s.io.up.find? (fun u => u.port == p && u.tag == tag && u.kind == 0) = some u)
    (ht : t = { s with io := { s.io with up := s.io.up.filter (fun (x : UpReq) => !(x.port == p && x.tag == tag)) } })
    (hm : m = { type := .ioCpl status, kind := .ioNp, channel := 7, ld := u.ld, tag := u.devTag, data := data, len := len,
                opcode := if len = 0 then 0x0A else 0x4A, host := s.get (O.HOST_ID p), tenant := u.tenant, charge := ioCharge len,
                origin := s.stamp (dieOfPort p) })
    (hcell : t.receiveCell p m = (cell, v)) :
    s.ioReturn p tag status data len = (v.observe p 0 { m with cell := cell }).carry (dieOfPort p) (dieOfPort u.device) u.devTag vcRsp
      (dataSize len) true m.origin cell (.bypass u.device { m with cell := cell }) := by
  have host : s.get (O.HOST_ID p) = t.get (O.HOST_ID p) := by rw [ht]; rfl
  have origin : s.stamp (dieOfPort p) = t.stamp (dieOfPort p) := by rw [ht]; rfl
  rw [host, origin] at hm
  subst hm ht
  dsimp only at hcell
  simp only [State.ioReturn, hfind, hcell]

/-! ## What an upstream port takes from its host (R90, R105) -/

section Upstream
variable {s : State} {p fn bar addr len data tag tc : Nat} (hrole : s.role p = roleUpstream) (hcarries : s.carries p = true)
include hrole hcarries

/-- Of the cases of a port, that of an upstream port which carries data. -/
theorem case_upstream (idle fm up other : State) :
    (if !s.carries p then idle else if s.role p = roleFm then fm else if s.role p = roleUpstream then up else other) = up := by
  have carrying : ¬ (!s.carries p) = true := by rw [hcarries]; decide
  have notFm : s.role p ≠ roleFm := by rw [hrole]; decide
  rw [if_neg carrying, if_neg notFm, if_pos hrole]

theorem fxHostIo_asks {op : IoOp} (hop : asksFunction op) :
    fxHostIo p op fn bar addr len data tag tc s = s.hostIo p op fn bar addr len data tag tc := by
  rcases hop with rfl | rfl | rfl | rfl <;> exact case_upstream hrole hcarries _ _ _ _

theorem fxHostIo_completion (status : Nat) :
    fxHostIo p (.completion status) fn bar addr len data tag tc s = s.ioReturn p tag status data len :=
  case_upstream hrole hcarries _ _ _ _

theorem fxHostIo_cache (hspeaks : s.speaks p 2 = true) (kind code : Nat) :
    fxHostIo p (.cache kind code) fn bar addr len data tag tc s =
      s.cacheToDevice p (s.get (O.HOST_ID p)) fn kind code addr len data tag :=
  (case_upstream hrole hcarries _ _ _ _).trans (if_pos hspeaks)

end Upstream

/-! ## What a downstream port takes from its device (R86, R238, R272) -/

section Device
variable {s u : State} {p ld addr len data tag cell : Nat} {op : DevOp}
  (hgate : s.role p = roleDownstream ∧ s.carries p = true ∧ s.speaksFor p op = true)
  (hcell : s.receiveCell p (s.devMsg p ld op addr len data tag) = (cell, u)) (hsafe : u.dieSafe (dieOfPort p) = false)
include hgate hcell hsafe

/-- A request of a device under no binding is turned away at its port (log 139); outside SAFE this counts no completion of the port. -/
theorem fxDeviceRequest_unbound (hbound : u.boundTo p ld = none) (tc : Nat) :
    fxDeviceRequest p ld op addr len data tag tc s =
      ((u.observe p 0 { s.devMsg p ld op addr len data tag with cell := cell }).freeCell (dieOfPort p) cell).deviceRefused p ld tag op := by
  simp [fxDeviceRequest, hgate, hcell, hsafe, hbound]

/-- A request that its tenant and its host's port let through goes on toward that port. -/
theorem fxDeviceRequest_forwards {h v w hp : Nat} (htype : (s.devMsg p ld op addr len data tag).type = .req)
    (hbound : u.boundTo p ld = some (h, v, w)) (hhost : u.hostPort h = some hp) (hadmits : u.tenantRefuses (bindTenant w) = false)
    (hspeaks : u.speaksFor hp op = true) (tc : Nat) :
    fxDeviceRequest p ld op addr len data tag tc s =
      u.deviceForward p ld h (bindTenant w) hp tc op { s.devMsg p ld op addr len data tag with cell := cell } := by
  simp [fxDeviceRequest, hgate, hcell, hsafe, hbound, hhost, hspeaks, htype, hadmits]

end Device

/-- A back-invalidate snoop, which is no request, joins the bypass of its host's port. -/
theorem fxDeviceRequest_bisnp {s u : State} {p ld addr len data tag cell snoop h v w hp : Nat}
    (hgate : s.role p = roleDownstream ∧ s.carries p = true ∧ s.speaksFor p (.bisnp snoop) = true)
    (hcell : s.receiveCell p (s.devMsg p ld (.bisnp snoop) addr len data tag) = (cell, u)) (hsafe : u.dieSafe (dieOfPort p) = false)
    (hbound : u.boundTo p ld = some (h, v, w)) (hhost : u.hostPort h = some hp) (hspeaks : u.speaksFor hp (.bisnp snoop) = true) (tc : Nat) :
    fxDeviceRequest p ld (.bisnp snoop) addr len data tag tc s =
      (u.observe p 0 { s.devMsg p ld (.bisnp snoop) addr len data tag with host := h, cell := cell }).carry (dieOfPort p) (dieOfPort hp)
        (hostKey h) vcSnp 0 false (s.stamp (dieOfPort p)) cell
        (.bypass hp { s.devMsg p ld (.bisnp snoop) addr len data tag with host := h, cell := cell }) := by
  have kind : (s.devMsg p ld (.bisnp snoop) addr len data tag).type = .bisnp snoop := rfl
  have channel : (s.devMsg p ld (.bisnp snoop) addr len data tag).channel = 5 := rfl
  have empty : (s.devMsg p ld (.bisnp snoop) addr len data tag).len = 0 := rfl
  have origin : (s.devMsg p ld (.bisnp snoop) addr len data tag).origin = s.stamp (dieOfPort p) := rfl
  simp [fxDeviceRequest, hgate, hcell, hsafe, hbound, hhost, hspeaks, kind, channel, empty, origin, dataSize]

/-- Settles O26: the port takes each request, and its effect is the one of the clause's case. -/
theorem hostAndDeviceIo : Obligations.HostAndDeviceIo := by
  refine ⟨?through, ?cfgRead, ?safe, ?cfgWrite, ?unasked, ?answers, ?cache, ?forwards, ?unbound, ?bisnp⟩
  case through =>
    intro s u p fn bar len data tag tc cell op addr hp hrole hcarries hop hcell hsafe hfn
    exact exec_hostCxlIoRequest hp ((fxHostIo_asks hrole hcarries hop).trans (hostIo_through hcell hsafe hfn))
  case cfgRead =>
    intro s u v p fn bar len data tag tc cell w addr hp hrole hcarries hcell hsafe hfn hword
    exact exec_hostCxlIoRequest hp ((fxHostIo_asks hrole hcarries (.inl rfl)).trans (hostIo_cfgRead hfn hcell hsafe hword))
  case safe =>
    intro s u p fn bar len data tag tc cell op addr hp hrole hcarries hop hcell hsafe
    exact exec_hostCxlIoRequest hp ((fxHostIo_asks hrole hcarries hop).trans (hostIo_safe hcell hop hsafe))
  case cfgWrite =>
    intro s u p fn bar len data tag tc cell addr hp hrole hcarries hcell hsafe hfn
    exact exec_hostCxlIoRequest hp ((fxHostIo_asks hrole hcarries (.inr (.inl rfl))).trans (hostIo_cfgWrite hfn hcell hsafe))
  case unasked =>
    intro s v p fn bar len data tag tc status cell addr m hp hrole hcarries hfind hm hcell
    exact exec_hostCxlIoRequest hp ((fxHostIo_completion hrole hcarries status).trans (ioReturn_unasked hfind hm hcell))
  case answers =>
    intro s t v p fn bar len data tag tc status cell addr u m hp hrole hcarries hfind ht hm hcell
    exact exec_hostCxlIoRequest hp ((fxHostIo_completion hrole hcarries status).trans (ioReturn_answers hfind ht hm hcell))
  case cache =>
    intro s p fn bar len data tag tc kind code addr hp hrole hcarries hspeaks
    exact exec_hostCxlIoRequest hp (fxHostIo_cache hrole hcarries hspeaks kind code)
  case forwards =>
    intro s u p ld h v w hostPort cell addr op len data tag tc hp hrole hcarries hdev hcell htype hbound hsafe hhost hadmits hspeaks
    exact exec_deviceRequest hp (fxDeviceRequest_forwards ⟨hrole, hcarries, hdev⟩ hcell hsafe htype hbound hhost hadmits hspeaks tc)
  case unbound =>
    intro s u p ld cell addr len data tag tc hp hrole hcarries hdev hcell hbound hsafe
    exact exec_deviceRequest hp (fxDeviceRequest_unbound ⟨hrole, hcarries, hdev⟩ hcell hsafe hbound tc)
  case bisnp =>
    intro s u p ld h v w hostPort snoop cell addr len data tag tc hp hrole hcarries hdev hcell hbound hsafe hhost hspeaks
    exact exec_deviceRequest hp (fxDeviceRequest_bisnp ⟨hrole, hcarries, hdev⟩ hcell hsafe hbound hhost hspeaks tc)

end Sys2Proof.Proofs
end

section
/-! PROOFS. Write groups: staged accesses, the commands of the doorbell page and those of GRP_CTRL (the obligations of
05_binding_and_translation.md). -/
namespace Sys2Proof.Proofs
open Sys2Proof Sys2Proof.Machine Sys2Proof.Laws

/-! ## Staged accesses (R189, R191, R195) -/

theorem exec_stagedWrite {s u : State} {p tag data mask : Nat} {full : Bool} {hpa : Word} {poison : Bool} (hp : p < s.ports)
    (hstaged : 0 < aliasOf s p hpa.toNat)
    (h : s.hostRequest (hostReqOf p (if full then .memWr else .memWrPtl) metaI hpa.toNat tag data mask poison 0) 0 = u) :
    exec (.stagedWrite p full hpa tag data mask poison) s = .next (settle u) :=
  onUnit_hasPort hp ((if_pos hstaged).trans h)

theorem exec_stagedRead {s u : State} {p tag e : Nat} {errs : List Nat} {hpa : Word} (hp : p < s.ports)
    (hstaged : 0 < aliasOf s p hpa.toNat) (h : s.hostRequest (hostReqOf p .memRd metaI hpa.toNat tag 0 0 false e) 0 = u) :
    exec (.stagedRead p ⟨hpa, e :: errs⟩ tag) s = .next (settle u) :=
  onUnit_hasPort hp ((if_pos hstaged).trans h)

/-! ## The commands of a slot (R198, R200, R205) -/

@[simp] theorem setGroup_grpState (s : State) (h k : Nat) (f : Group → Group) (h' k' : Nat) :
    (s.setGroup h k f).grpState h' k' = s.grpState h' k' := rfl

theorem groupServes_abort {s : State} {h k : Nat} (hst : s.judgedState h k = grpOpen ∨ s.judgedState h k = grpCommitting) :
    s.groupServes h k 2 = true :=
  (Bool.or_eq_true _ _).mpr (hst.imp beq_iff_eq.mpr beq_iff_eq.mpr)

theorem groupServes_release {s : State} {h k : Nat} (hst : s.judgedState h k = grpCommitted ∨ s.judgedState h k = grpAborted) :
    s.groupServes h k 3 = true :=
  (Bool.or_eq_true _ _).mpr (hst.imp beq_iff_eq.mpr beq_iff_eq.mpr)

theorem groupCommit_claims {t u v : State} {h k : Nat} (hst : t.grpState h k = grpOpen)
    (hu : u = (t.setGrpState h k grpCommitting).put (O.GRP_COMMIT_STAMP h k) (t.stamp (t.hostDie h)))
    (hv : v = u.setGroup h k (fun g => { g with commitAt := u.elapsed (t.hostDie h) })) :
    t.groupCommit h k = forEach (v.group h k).lines (fun l s => s.groupToHome h k l.line .claim id) v := by
  subst hv hu
  rw [State.groupCommit, if_pos hst]

/-- RELEASE keeps LAST_CMD, and the state at which the core cycle began. -/
theorem groupRelease_ended {s : State} {h k : Nat} (hst : s.grpState h k = grpCommitted ∨ s.grpState h k = grpAborted) :
    s.groupRelease h k = (((s.setGrpState h k grpIdle).setGroup h k (fun g =>
      { lastCmd := g.lastCmd, cycleAt := g.cycleAt, startState := g.startState })).put (O.GRP_LINES h k) 0).put (O.GRP_TENANT h k) 0xFFFF :=
  if_pos hst

/-- A slot without staged lines has neither a write to answer nor a home to cancel at. -/
theorem groupAbort_unstaged {s t u : State} {h k status rank : Nat} (hst : s.grpState h k = grpOpen ∨ s.grpState h k = grpCommitting)
    (hlines : (s.group h k).lines = []) (hstatus : status ≠ stConflict)
    (ht : t = (s.freeStaging h k).setGroup h k (fun g =>
      { g with abortAt := s.cycleOf (s.hostDie h), rank := rank, counted := decide (s.get (O.GRP_CONFLICTS h) < 2 ^ 32 - 1) }))
    (hu : u = ((t.setGrpState h k grpAborted).put (O.GRP_STATUS h k) status).put (O.GRP_DONE_AT h k) (t.now (s.hostDie h))) :
    s.groupAbort h k status rank = (u.count32 (O.GRP_ABORTS h)).perfCount (s.hostDie h) evGrpAbort 0xFF (u.grpTenant h k) 1 := by
  subst hu ht
  simp only [State.groupAbort, if_pos hst, hlines, List.map_nil, List.flatten_nil, forEach, List.foldl_nil, if_neg hstatus]

/-! ## The doorbell page (R197, R198) -/

/-- A write of a command's eight bytes sets LAST_CMD by the generation and the state, and has the command's effect where both serve it. -/
theorem groupPageWrite_command {r : State} {h k gen cmd : Nat} (hgen : gen < 2 ^ 32) (hcmd : 1 ≤ cmd ∧ cmd ≤ 3) :
    r.groupPageWrite h k 8 (gen % 2 ^ 32 * 2 ^ 32 + cmd) =
      if gen ≠ r.get (O.GRP_GEN h k) then r.setGroup h k (fun g => { g with lastCmd := stConflict })
      else if r.groupServes h k cmd then (r.setGroup h k (fun g => { g with lastCmd := stOk })).groupCommand h k cmd
      else r.setGroup h k (fun g => { g with lastCmd := stBusy }) := by
  have command : (gen % 2 ^ 32 * 2 ^ 32 + cmd) % 256 = cmd := by omega
  have unused : bitsOf (gen % 2 ^ 32 * 2 ^ 32 + cmd) 31 8 = 0 := by
    simp only [bitsOf]
    omega
  have generation : (gen % 2 ^ 32 * 2 ^ 32 + cmd) / 2 ^ 32 = gen := by omega
  have named : cmd ≠ 0 := by omega
  have known : ¬ 3 < cmd := by omega
  have conflict : stConflict ≠ stOk := by decide
  have busy : stBusy ≠ stOk := by decide
  simp only [State.groupPageWrite, command, unused, generation, named, known, ne_eq, not_true_eq_false, or_self, if_false]
  by_cases same : gen = r.get (O.GRP_GEN h k)
  · cases serves : r.groupServes h k cmd
    · simp [same, busy]
    · simp [same]
  · simp [same, conflict]

section Doorbell
variable {s r : State} {p k h gen cmd : Nat} (hk : 1 ≤ k ∧ k ≤ 7) (hh : h = s.get (O.HOST_ID p))
  (hgate : s.role p = roleUpstream ∧ s.carries p = true ∧ (s.poolVppb h).isSome = true) (hr : r = s.gdbReceive p k gen cmd)
  (hsafe : r.dieSafe (dieOfPort p) = false)
include hk hh hgate hr hsafe

theorem gdbCommand_open (hopen : r.poolOpen h = true) :
    s.gdbCommand p k gen cmd = r.groupPageWrite h k 8 (gen % 2 ^ 32 * 2 ^ 32 + cmd) := by
  subst hr hh
  simp [State.gdbCommand, hgate, hk, hsafe, hopen]

theorem gdbCommand_shut (hshut : r.poolOpen h = false) : s.gdbCommand p k gen cmd = r.countUnmapped p h (k * 0x40) noTenant 2 := by
  subst hr hh
  simp [State.gdbCommand, hgate, hk, hsafe, hshut]

theorem gdbCommand_conflict (hopen : r.poolOpen h = true) (hcmd : 1 ≤ cmd ∧ cmd ≤ 3) (hgen : gen < 2 ^ 32)
    (hother : gen ≠ r.get (O.GRP_GEN h k)) :
    s.gdbCommand p k gen cmd = r.setGroup h k (fun g => { g with lastCmd := stConflict }) := by
  rw [gdbCommand_open hk hh hgate hr hsafe hopen, groupPageWrite_command hgen hcmd, if_pos hother]

theorem gdbCommand_served (hopen : r.poolOpen h = true) (hcmd : 1 ≤ cmd ∧ cmd ≤ 3) (hgen : gen < 2 ^ 32)
    (hsame : r.get (O.GRP_GEN h k) = gen) (hserves : r.groupServes h k cmd = true) :
    s.gdbCommand p k gen cmd = (r.setGroup h k (fun g => { g with lastCmd := stOk })).groupCommand h k cmd := by
  rw [gdbCommand_open hk hh hgate hr hsafe hopen, groupPageWrite_command hgen hcmd, if_neg (fun other => other hsame.symm), if_pos hserves]

end Doorbell

/-! ## GRP_CTRL (R210) -/

/-- The tables of class 29: of a host, of a slot, and of the package (R209 to R211). -/
theorem tableOf_groups (v : Variant) (i : Nat) : tableOf v 0x29 i =
    if i < 0x200 ∧ i % 8 = 0 then tableR209 else if i < 0x200 ∧ i % 8 ≠ 0 then tableR210 else if i = 0x200 then tableR211 else [] := rfl

theorem acc_grpCtrl {v : Variant} {i : Nat} : ∀ r ∈ tableOf v 0x29 i, r.holds 0x08 = true → r.acc ≠ .w1c := by
  have hosts : ∀ r ∈ tableR209, r.holds 0x08 = true → r.acc ≠ .w1c := by decide
  have slots : ∀ r ∈ tableR210, r.holds 0x08 = true → r.acc ≠ .w1c := by decide
  have package : ∀ r ∈ tableR211, r.holds 0x08 = true → r.acc ≠ .w1c := by decide
  intro r hr
  rw [tableOf_groups] at hr
  split at hr
  · exact hosts r hr
  · split at hr
    · exact slots r hr
    · split at hr
      · exact package r hr
      · cases hr

/-- A served write of GRP_CTRL is its command of the slot. -/
theorem writeOne_grpCtrl {s u : State} {ifc : Iface} {h k cmd : Nat} (hk : k < 8)
    (hserved : s.servesWrite ifc (O.GRP_CTRL h k) cmd = true) (hu : s.groupCommand h k cmd = u) :
    writeOne ifc (O.GRP_CTRL h k) cmd s = .next (settle (u.acknowledged ifc (O.GRP_CTRL h k))) := by
  have host : (h * 8 + k) / 8 = h := by omega
  have slot : (h * 8 + k) % 8 = k := by omega
  have effect : s.effectFabric (O.GRP_CTRL h k) cmd = u := by
    change s.groupCommand ((h * 8 + k) / 8) ((h * 8 + k) % 8) cmd = u
    rw [host, slot, hu]
  exact writeOne_fabric (c := 0x29) (by decide) rfl acc_grpCtrl rfl effect hserved

/-- Settles O31: a staged access is a request of its host, and each command reaches its slot and is served there. -/
theorem groupRequests : Obligations.GroupRequests := by
  refine ⟨?write, ?read, ?commit, ?abort, ?release, ?conflict, ?shut, ?ctrlAbort, ?ctrlRelease, ?unstaged⟩
  case write =>
    intro s u r p tag data mask cell k full hpa poison hp hstaged hcarries hrole hspeaks hr hcell hsafe hk hfirst
    have tracked : (if full then MemOp.memWr else .memWrPtl) ≠ .memSpecRd := by cases full <;> decide
    exact exec_stagedWrite hp hstaged (hostRequest_admits
      (q := hostReqOf p (if full then .memWr else .memWrPtl) metaI hpa.toNat tag data mask poison 0) ⟨hcarries, hrole, hspeaks⟩
      tracked hr hcell hsafe hk hfirst 0)
  case read =>
    intro s u r p tag cell k e errs hpa hp hstaged hcarries hrole hspeaks hr hcell hsafe hk hfirst
    have tracked : MemOp.memRd ≠ .memSpecRd := by decide
    exact exec_stagedRead hp hstaged (hostRequest_admits (q := hostReqOf p .memRd metaI hpa.toNat tag 0 0 false e)
      ⟨hcarries, hrole, hspeaks⟩ tracked hr hcell hsafe hk hfirst 0)
  case commit =>
    intro s r t u v p k h gen hp hk1 hk7 hh hrole hcarries hpool hr hopen hsafe hjudged hst hgen hsame ht hu hv
    have served := gdbCommand_served ⟨hk1, hk7⟩ hh ⟨hrole, hcarries, hpool⟩ hr hsafe hopen (by decide) hgen hsame (beq_iff_eq.mpr hjudged)
    rw [← ht] at served
    exact onUnit_hasPort hp (served.trans (groupCommit_claims (by rw [ht, setGroup_grpState, hst]) hu hv))
  case abort =>
    intro s r p k h gen hp hk1 hk7 hh hrole hcarries hpool hr hopen hsafe hjudged hgen hsame
    exact onUnit_hasPort hp (gdbCommand_served ⟨hk1, hk7⟩ hh ⟨hrole, hcarries, hpool⟩ hr hsafe hopen (by decide) hgen hsame
      (groupServes_abort hjudged))
  case release =>
    intro s r p k h gen hp hk1 hk7 hh hrole hcarries hpool hr hopen hsafe hjudged hst hgen hsame
    have served := gdbCommand_served ⟨hk1, hk7⟩ hh ⟨hrole, hcarries, hpool⟩ hr hsafe hopen (by decide) hgen hsame
      (groupServes_release hjudged)
    exact onUnit_hasPort hp (served.trans (groupRelease_ended hst))
  case conflict =>
    intro s r p k gen h hp hk1 hk7 hh hrole hcarries hpool hr hopen hsafe hgen hother
    exact onUnit_hasPort hp (gdbCommand_conflict ⟨hk1, hk7⟩ hh ⟨hrole, hcarries, hpool⟩ hr hsafe hopen (by decide) hgen hother)
  case shut =>
    intro s r p k gen h hp hk1 hk7 hh hrole hcarries hpool hr hshut hsafe
    exact onUnit_hasPort hp (gdbCommand_shut ⟨hk1, hk7⟩ hh ⟨hrole, hcarries, hpool⟩ hr hsafe hshut)
  case ctrlAbort =>
    intro s ifc h k _ hk hserved
    exact writeOne_grpCtrl hk hserved rfl
  case ctrlRelease =>
    intro s ifc h k _ hk hserved hst
    exact writeOne_grpCtrl hk hserved (groupRelease_ended hst)
  case unstaged =>
    intro s t u h k status rank hst hlines hstatus ht hu
    exact groupAbort_unstaged hst hlines hstatus ht hu

end Sys2Proof.Proofs
end

section
/-! PROOFS. The coherence directory: what a home serves and absorbs, the answers of hosts, sweeps, the walker and banks (the obligations of
06_coherence_directory.md). -/
namespace Sys2Proof.Proofs
open Sys2Proof Sys2Proof.Machine Sys2Proof.Laws

/-! ## Serving the next request of a line (R161, R193, R200, R202) -/

theorem homeServes_active {s : State} (h : s.get O.DIR_STATE = 2) (d : Nat) : s.homeServes d = true := by
  simp [State.homeServes, h]

section Served
variable {s : State} {q : HomeReq}

theorem serve_mark (hcls : q.cls = .mark) (ecc : Nat) : s.serve q ecc = s.serveMark q := by
  simp only [State.serve, State.serveClass, hcls]

theorem serve_claim (hcls : q.cls = .claim) (ecc : Nat) : s.serve q ecc = s.serveClaim q := by
  simp only [State.serve, State.serveClass, hcls]

theorem serve_unpin (hcls : q.cls = .unpin) (ecc : Nat) : s.serve q ecc = s.serveUnpin q := by
  simp only [State.serve, State.serveClass, hcls]

/-- A claim succeeds on a line that is not pinned and that no older group claims (R200). -/
theorem serveClaim_ok (hpinned : s.linePinned q.die q.line = false) (unclaimed : s.olderClaims q = []) :
    s.serveClaim q = (s.setMarks q.die q.line q.host q.slot (fun m => { m with claimed := true, stamp := q.stamp })).tellGroup
      q.die 1 q.host q.slot q.line stOk q.gen := by
  simp [State.serveClaim, hpinned, unclaimed]

end Served

/-- A command of the home whose request is ready does what serving that request does. -/
theorem serveLine_of_ready {s t u : State} {d line ecc : Nat} {cls : HomeClass} {q : HomeReq} (hready : s.homeReady d line cls q)
    (hu : u = (s.absorbFirst d (lineOf line)).unqueue q) (ht : u.serve q ecc = t) : s.serveLine d line cls ecc = t := by
  subst hu
  exact (serveLine_serves ecc hready).trans ht

/-- Settles O28: each command serves the request that is ready, by the flow of its class. -/
theorem homeServes : Obligations.HomeServes := by
  refine ⟨?rdS, ?rdOwn, ?rdCur, ?upgrade, ?atomic, ?pin, ?mark, ?claim, ?unpin⟩
  case rdS | rdOwn | rdCur | upgrade | atomic | pin =>
    intro s d line ecc q hd hready
    exact onUnit_hasDie hd (serveLine_serves ecc hready)
  case mark =>
    intro s u d line q hd hready hu
    exact onUnit_hasDie hd (serveLine_of_ready hready hu (serve_mark hready.2.1 0))
  case claim =>
    intro s u d line q hd hready hu hpinned unclaimed
    exact onUnit_hasDie hd (serveLine_of_ready hready hu ((serve_claim hready.2.1 0).trans (serveClaim_ok hpinned unclaimed)))
  case unpin =>
    intro s u v d line q hd hready hu hv
    subst hv
    exact onUnit_hasDie hd (serveLine_of_ready hready hu (serve_unpin hready.2.1 0))

/-! ## Evictions and writebacks (R157, R159) -/

/-- A command of a die and a host of the package has its effect. -/
theorem onUnit_hasDieHost {s t u : State} {d h : Nat} (hd : d < s.dies) (hh : hasHost h = true) (e : t = u) :
    onUnit (s.hasDie d && hasHost h) t = .next (settle u) := by
  rw [hh, Bool.and_true, onUnit_hasDie hd e]

theorem fxCleanEvict_serves {s : State} {d line h ecc : Nat} {q : HomeReq} (hserves : s.homeServes d = true)
    (hq : s.dir.queue.find? (fun q => q.die == d && q.line == lineOf line && q.host == h && q.cls == .cleanEvict) = some q) :
    fxCleanEvict d line ecc h s = (s.unqueue q).serve q ecc := by
  have evicts : q.cls = .cleanEvict := by
    have := List.find?_some hq
    simp only [Bool.and_eq_true, beq_iff_eq] at this
    exact this.2
  simp only [fxCleanEvict, hserves, hq, State.absorbOne, if_pos evicts, Bool.not_true, Bool.false_eq_true, if_false]

theorem cls_of_isWriteback {s : State} {q : HomeReq} (h : s.isWriteback q = true) : q.cls = .memWrite := by
  simp only [State.isWriteback, Bool.and_eq_true, beq_iff_eq] at h
  exact h.1.1

theorem fxWriteback_absorbs {s : State} {d line h ecc : Nat} {q : HomeReq} (hserves : s.homeServes d = true)
    (hq : s.dir.queue.find? (fun q => q.die == d && q.line == lineOf line && q.host == h && s.isWriteback q) = some q) :
    fxWriteback d line ecc h s = (((s.unqueue q).lookupEntry q ecc).absorb q).owe (.kick q.die q.line) := by
  have writes : q.cls ≠ .cleanEvict := by
    have := List.find?_some hq
    simp only [Bool.and_eq_true] at this
    simp [cls_of_isWriteback this.2]
  simp only [fxWriteback, hserves, hq, State.absorbOne, if_neg writes, Bool.not_true, Bool.false_eq_true, if_false]

/-- The writeback whose memory write is acknowledged is the only one in flight and its host owes no answer: its cell and its Cmp go. -/
theorem endWritebacks_acked {s : State} {w : WriteBack} (hwb : s.dir.wb = [w]) (hacked : w.acked = 2)
    (hclosed : s.snoopOpen w.die w.host w.line = false) :
    s.endWritebacks = (({ s with dir := { s.dir with wb := [] } } : State).freeCell w.die w.cell).reply w.die
      { die := w.die, line := w.line, host := w.host, owner := w.owner } (.cmp 0) 0 false 0 := by
  simp [State.endWritebacks, hwb, hacked, hclosed, forEach]

theorem fxMemoryWriteAck_ends {s t : State} {d n : Nat} {w : WriteBack} (hwb : s.dir.wb = [w]) (hdie : w.die = d) (hid : w.id = n)
    (hacked : w.acked = 1) (hclosed : s.snoopOpen d w.host w.line = false)
    (ht : t = (({ s with dir := { s.dir with wb := [] } } : State).freeCell d w.cell).reply d
      { die := d, line := w.line, host := w.host, owner := w.owner } (.cmp 0) 0 false 0)
    (htxn : t.homeTxn d n = none) : fxMemoryWriteAck d n s = t := by
  have noted : s.dir.wb.map (fun (x : WriteBack) => if x.die = d ∧ x.id = n ∧ x.acked = 1 then { x with acked := 2 } else x) =
      [{ w with acked := 2 }] := by
    simp [hwb, hdie, hid, hacked]
  have ended : ({ s with dir := { s.dir with wb := [{ w with acked := 2 }] } } : State).endWritebacks = t := by
    subst hdie
    rw [ht]
    exact endWritebacks_acked (w := { w with acked := 2 }) rfl rfl hclosed
  simp only [fxMemoryWriteAck, noted, ended, htxn]

/-! ## Answers of hosts (R27, R155, R158) -/

section HostAnswers
variable {s u v : State} {p fa cell hpa : Nat} {m : Msg} (hgate : s.carries p = true ∧ s.role p = roleUpstream ∧ s.speaks p 3 = true)
  (hcell : s.receiveCell p m = (cell, u)) (hfa : s.faOf (s.get (O.HOST_ID p)) hpa = some fa)
  (hv : v = u.observe p 0 { m with fa := fa, hasFa := true })
include hgate hcell hfa hv

section Birsp
variable {answer : Nat} {b : Delivered}
  (hm : m = { type := .birsp answer, kind := .other, channel := 2, opcode := answer, host := s.get (O.HOST_ID p), hpa := hpa,
              origin := s.stamp (dieOfPort p) })
  (hb : v.rq.delivered.find? (fun b => b.port == p && lineOf b.hpa == lineOf hpa) = some b)
include hm hb

/-- The answer to a home's BISnp goes to the home of its line, which what the port has delivered does not change. -/
theorem fxBirsp_home (hhome : b.fromDevice = false) : fxBirsp p hpa answer s =
    ({ v with rq := { v.rq with delivered := v.rq.delivered.erase b } } : State).carry (dieOfPort p) (v.homeDie fa) (faKey fa) vcRsp 0 false
      m.origin cell (.birsp (v.homeDie fa) (s.get (O.HOST_ID p)) (lineOf fa) answer) := by
  obtain ⟨bp, bh, dev, n, k⟩ := b
  cases hhome
  subst hm hv
  rw [fxBirsp, if_pos hgate]
  simp only [hcell, hfa, Option.getD_some, Option.isSome_some, hb]
  rfl

/-- The answer to a device's BISnp goes to the device's port. -/
theorem fxBirsp_device (hdevice : b.fromDevice = true) : fxBirsp p hpa answer s =
    ({ v with rq := { v.rq with delivered := v.rq.delivered.erase b } } : State).carry (dieOfPort p) (dieOfPort b.device)
      (devKey b.device 0 hpa) vcRsp 0 false m.origin cell (.bypass b.device { m with cell := cell, drops := b.drops }) := by
  obtain ⟨bp, bh, dev, n, k⟩ := b
  cases hdevice
  subst hm hv
  rw [fxBirsp, if_pos hgate]
  simp only [hcell, hfa, Option.getD_some, Option.isSome_some, hb]

end Birsp

/-- A BIConflict that no delivered BISnp accounts for goes to the home of its line. -/
theorem fxBiConflict_home
    (hm : m = { type := .biConflict, kind := .other, channel := 1, opcode := 4, host := s.get (O.HOST_ID p), hpa := hpa,
                origin := s.stamp (dieOfPort p) })
    (hb : v.rq.delivered.find? (fun b => b.port == p && lineOf b.hpa == lineOf hpa) = none) : fxBiConflict p hpa s =
    v.carry (dieOfPort p) (v.homeDie fa) (faKey fa) vcRsp 0 false m.origin cell
      (.biconflict (v.homeDie fa) (s.get (O.HOST_ID p)) (lineOf fa) p hpa m.origin) := by
  subst hm hv
  rw [fxBiConflict, if_pos hgate]
  simp only [hcell, hfa, Option.getD_some, Option.isSome_some, hb]

end HostAnswers

/-! ## Waits that end: BI_TIMEOUT and ALLOC_WAIT (R168, R176) -/

/-- The BISnp of a home to a host for a line that has gone unanswered for BI_TIMEOUT (R168). -/
def dueSnoop (s : State) (d h line : Nat) : Option Snoop :=
  s.dir.snoop.find? (fun b => b.die == d && b.host == h && b.line == line && b.sent && decide (b.since + s.get O.BI_TIMEOUT ≤ s.elapsed d))

theorem fxBiTimeout_due {s a u : State} {d h line : Nat} {b : Snoop} (hdue : (dueSnoop s d h (lineOf line)).isSome = true)
    (ha : a = s.absorbFirst d (lineOf line)) (hb : dueSnoop a d h (lineOf line) = some b)
    (hu : u = (((if (a.entryAt d (lineOf line)).line (lineNo (lineOf line)) = lineE ∧ (a.entryAt d (lineOf line)).owner = h then
        (a.poisonLine d (lineOf line)).setTxn d b.txn (fun t => if t.source = some h ∧ t.req.line = lineOf line then { t with lost := true } else t)
        else a).viralHost h).count32 (O.BI_TIMEOUT_COUNT d)).dirEvent d F.BI_TIMEOUT 2 16 (lineOf line) h 4) :
    fxBiTimeout d h line s =
      ({ u with dir := { u.dir with late := u.dir.late ++ [(h, lineOf line)] } } : State).snoopAnswer d h (lineOf line) 0 := by
  rw [dueSnoop] at hdue hb
  subst hu ha
  simp only [fxBiTimeout, if_pos hdue, hb, Bool.and_eq_true, beq_iff_eq]

theorem fxAllocWaitExpiry_returns {s : State} {d line : Nat} {t : Stalled} (hreturns : t.req.returns ≠ 15)
    (ht : s.dir.stalled.find? (fun t => t.req.die == d && t.req.line == lineOf line && t.since != 0 &&
      decide (t.since - 1 + s.get O.ALLOC_WAIT ≤ s.elapsed d)) = some t) :
    fxAllocWaitExpiry d line s = ((({ s with dir := { s.dir with stalled := s.dir.stalled.erase t } } : State).count32
      (O.ALLOC_RETRIES d)).queueHome { t.req with returns := t.req.returns + 1 }) := by
  have quiet : t.req.returns + 1 ≠ 16 := by omega
  simp only [fxAllocWaitExpiry, ht, if_neg quiet]

/-- Settles O29: each command by its effect in its case. -/
theorem homeAbsorbs : Obligations.HomeAbsorbs := by
  refine ⟨?cleanEvict, ?writeback, ?ack, ?birspHome, ?birspDevice, ?biconflict, ?conflictAtHome, ?biTimeout, ?allocWait⟩
  case cleanEvict =>
    intro s d h ecc line q hd hh hactive hq
    exact onUnit_hasDieHost hd hh (fxCleanEvict_serves (homeServes_active hactive d) hq)
  case writeback =>
    intro s d h ecc line q hd hh hactive hq
    exact onUnit_hasDieHost hd hh (fxWriteback_absorbs (homeServes_active hactive d) hq)
  case ack =>
    intro s t d n w hd hwb hdie hid hacked hclosed ht htxn
    exact onUnit_hasDie hd (fxMemoryWriteAck_ends hwb hdie hid hacked hclosed ht htxn)
  case birspHome =>
    intro s u v p answer fa cell hpa m b hp hcarries hrole hspeaks hm hcell hfa hv hb hhome
    exact onUnit_hasPort hp (fxBirsp_home ⟨hcarries, hrole, hspeaks⟩ hcell hfa hv hm hb hhome)
  case birspDevice =>
    intro s u v p answer fa cell hpa m b hp hcarries hrole hspeaks hm hcell hfa hv hb hdevice
    exact onUnit_hasPort hp (fxBirsp_device ⟨hcarries, hrole, hspeaks⟩ hcell hfa hv hm hb hdevice)
  case biconflict =>
    intro s u v p fa cell hpa m hp hcarries hrole hspeaks hm hcell hfa hv hb
    exact onUnit_hasPort hp (fxBiConflict_home ⟨hcarries, hrole, hspeaks⟩ hcell hfa hv hm hb)
  case conflictAtHome =>
    intro s d h line p hpa hopen
    exact if_pos hopen
  case biTimeout =>
    intro s a u d h line b hd hh hdue ha hb hu
    exact onUnit_hasDieHost hd hh (fxBiTimeout_due hdue ha hb hu)
  case allocWait =>
    intro s d line t hd hreturns ht
    exact onUnit_hasDie hd (fxAllocWaitExpiry_returns hreturns ht)

end Sys2Proof.Proofs
end

section
/-! PROOFS. Sweeps, the walker and banks of the directory (the obligations of 06_coherence_directory.md). -/
namespace Sys2Proof.Proofs
open Sys2Proof Sys2Proof.Machine Sys2Proof.Laws

/-! ## SR_RECALL and BANK_RETIRE as writes (R150, R179) -/

theorem acc_regions {v : Variant} {r m : Nat} : ∀ x ∈ tableOf v 0x2A r, x.holds m = true → x.acc ≠ .w1c := by
  have rows : ∀ x ∈ tableR151, x.acc ≠ .w1c := by decide
  intro x hx _
  simp only [tableOf] at hx
  split at hx
  · exact rows x hx
  · cases hx

/-- The tables of class 28: of the package, of a die, and of a port (R185 to R187). -/
theorem tableOf_directory (v : Variant) (i : Nat) : tableOf v 0x28 i =
    if i = 0 then tableR185 else if 1 ≤ i ∧ i ≤ v.dies then tableR186 else if 0x100 ≤ i ∧ i < 0x100 + v.ports then tableR187 else [] := rfl

theorem acc_bankRetire {v : Variant} {i : Nat} : ∀ r ∈ tableOf v 0x28 i, r.holds 0x01 = true → r.acc ≠ .w1c := by
  have package : ∀ r ∈ tableR185, r.holds 0x01 = true → r.acc ≠ .w1c := by decide
  have dies : ∀ r ∈ tableR186, r.holds 0x01 = true → r.acc ≠ .w1c := by decide
  have ports : ∀ r ∈ tableR187, r.holds 0x01 = true → r.acc ≠ .w1c := by decide
  intro r hr
  rw [tableOf_directory] at hr
  split at hr
  · exact package r hr
  · split at hr
    · exact dies r hr
    · split at hr
      · exact ports r hr
      · cases hr

theorem writeOne_srRecall {s : State} {ifc : Iface} {r v : Nat} (h : s.servesWrite ifc (O.SR_RECALL r) v = true) :
    writeOne ifc (O.SR_RECALL r) v s = .next (settle ((fxSrRecall r v s).acknowledged ifc (O.SR_RECALL r))) :=
  writeOne_fabric (c := 0x2A) (by decide) rfl acc_regions rfl rfl h

/-- What the owner accepts in classes 20 to 33, its chapter accepts. -/
theorem ownerFabric_of_servesWrite {s : State} {ifc : Iface} {o : Obj} {v : Nat} (hcls : 0x20 ≤ o.cls ∧ o.cls < 0x38)
    (h : s.servesWrite ifc o v = true) : (s.ownerFabric o v).1 = stOk := by
  have accepts := ownerStatus_of_servesWrite h
  rw [State.ownerStatus] at accepts
  split at accepts
  · cases accepts
  · split at accepts
    · cases accepts
    · rwa [if_neg (by omega), if_neg (by omega), if_pos hcls.2] at accepts

/-- An activity that the maintenance matrix does not refuse leaves no trace. -/
theorem unlessExcluded_accepts {s : State} {a d st : Nat} (h : (s.unlessExcluded a d st).1 = stOk) : (s.unlessExcluded a d st).2 = s := by
  rw [State.unlessExcluded] at h ⊢
  split at h
  · cases h
  · rfl

theorem ownerFabric_bankRetire (s : State) (d v : Nat) : s.ownerFabric (O.BANK_RETIRE d) v =
    if s.mode ≠ mMaint then s.only stBusy
    else if s.bankMigrates d v then (stBusy, s.mxRefuse 0 1)
    else s.unlessExcluded 0 d (s.bankStatus d v) := by
  simp only [State.ownerFabric, O.BANK_RETIRE, if_neg (show 1 + d ≠ 0 by omega), Nat.add_sub_cancel_left]

/-- A bank's retirement that the owner accepts leaves no trace in the maintenance matrix. -/
theorem ownerFabric_bankRetire_accepts {s : State} {d v : Nat} (h : (s.ownerFabric (O.BANK_RETIRE d) v).1 = stOk) :
    (s.ownerFabric (O.BANK_RETIRE d) v).2 = s := by
  rw [ownerFabric_bankRetire] at h ⊢
  split at h
  · cases h
  · split at h
    · cases h
    · rename_i mode migrates
      rw [if_neg mode, if_neg migrates]
      exact unlessExcluded_accepts h

theorem writeOne_bankRetire {s : State} {ifc : Iface} {d v : Nat} (h : s.servesWrite ifc (O.BANK_RETIRE d) v = true) :
    writeOne ifc (O.BANK_RETIRE d) v s = .next (settle ((fxBankRetire d v s).acknowledged ifc (O.BANK_RETIRE d))) := by
  have effect : s.effectFabric (O.BANK_RETIRE d) v = fxBankRetire d v s := by
    simp only [State.effectFabric, O.BANK_RETIRE, if_neg (show 1 + d ≠ 0 by omega), Nat.add_sub_cancel_left]
  have range : 0x20 ≤ 0x28 ∧ 0x28 < 0x38 := by decide
  exact writeOne_fabric range rfl acc_bankRetire (ownerFabric_bankRetire_accepts (ownerFabric_of_servesWrite range h)) effect h

/-! ## A sweep begins and ends (R170, R181) -/

theorem fxSweepStart_walks {s u : State} {d : Nat} {errs : List Nat} {w : Sweep} {ws : List Sweep} (hserves : s.homeServes d = true)
    (hfirst : s.dir.sweep.filter (fun w => w.die == d && !w.done) = w :: ws) (hwaits : w.started = false)
    (hu : u = ({ s with dir := { s.dir with sweep := s.dir.sweep.map (fun (x : Sweep) =>
      if x.die = d ∧ x.serial = w.serial then { x with started := true, since := s.elapsed d } else x) } } : State).walkErrs d errs) :
    fxSweepStart d errs s = forEach (u.recallReqs w) (fun q s => s.queueHome q) u := by
  subst hu
  simp only [fxSweepStart, hfirst, hwaits, hserves, Bool.not_true, Bool.or_self, Bool.false_eq_true, if_false]

/-- A sweep whose walk has been going for 256 ticks ends where nothing of it is open, and a bank's where the bank has emptied. -/
theorem fxSweepEnd_finishes {s : State} {d : Nat} {w : Sweep} (hserves : s.homeServes d = true)
    (hw : s.dir.sweep.find? (fun w => w.die == d && w.started && !w.done) = some w)
    (hqueue : s.dir.queue.any (fun q => q.cls == .sweep && !q.isVictim && q.die == d && q.slot == w.serial) = false)
    (hbank : w.kind = 2 → s.recallReqs w = [] ∧ s.dir.txn.any (fun t => t.req.die == d && s.servedBank d t.req.line == w.arg) = false ∧
      s.dir.stalled.any (fun t => t.req.die == d && s.servedBank d t.req.line == w.arg) = false)
    (htxn : s.dir.txn.any (fun t => t.req.cls == .sweep && !t.req.isVictim && t.req.die == d && t.req.slot == w.serial) = false)
    (hwalked : w.since + 256 ≤ s.elapsed d) :
    fxSweepEnd d s = ({ s with dir := { s.dir with sweep := s.dir.sweep.map (fun (x : Sweep) =>
      if x.die = d ∧ x.serial = w.serial then { x with done := true } else x) } } : State).finishSweep w := by
  have elapsed : ¬ s.elapsed d < w.since + 256 := by omega
  by_cases retires : w.kind = 2
  · obtain ⟨empty, idle, unstalled⟩ := hbank retires
    simp [fxSweepEnd, hserves, hw, hqueue, htxn, elapsed, retires, empty, idle, unstalled]
  · simp [fxSweepEnd, hserves, hw, hqueue, htxn, elapsed, retires]

/-! ## Banks and clearing (R181, R182) -/

/-- The bank's sweep goes, which changes neither FOLD_MAP nor what the bank folds onto. -/
theorem fxBankRetired_folds {s u : State} {d b t : Nat} {w : Sweep} (hlive : s.get O.DIR_STATE ≠ 3 ∨ s.dieSafe d = false)
    (hw : s.dir.sweep.find? (fun w => w.die == d && w.kind == 2 && w.arg == b && w.done) = some w) (ht : s.foldTarget d b = some t)
    (hu : u = ((((({ s with dir := { s.dir with sweep := s.dir.sweep.erase w } } : State).put (O.FOLD_MAP d) ((List.range 16).foldl (fun m k =>
        if m / 16 ^ k % 16 = b then m - b * 16 ^ k + t * 16 ^ k else m) (s.get (O.FOLD_MAP d)))).setBit (O.BANK_STATE d) (16 + b) false).setBit
        (O.BANK_STATE d) b true).owe (.retire (channelId 5 (16 * d + b))))) :
    fxBankRetired d b s = (forEach (u.dir.queue.filter (fun q => q.die == d)) (fun q s => s.owe (.kick d q.line)) u).dirEvent d
      F.BANK_RETIRED 5 b 0 (0x700 + d) 0 := by
  have unfrozen : ¬ (s.get O.DIR_STATE = 3 ∧ s.dieSafe d = true) := by
    rintro ⟨frozen, safe⟩
    rcases hlive with live | running
    · exact live frozen
    · exact Bool.eq_false_iff.1 running safe
  subst hu
  simp only [fxBankRetired, if_neg unfrozen, hw, ht]
  rfl

section Clearing
variable {s : State} (hon : (List.range s.dies).all (fun d => s.domainOn d dDirectory) = true) (hclearing : s.get O.DIR_STATE = 1)
include hon

theorem directory_powered : ¬ (List.range s.dies).any (fun d => !s.domainOn d dDirectory) = true := by
  simpa using hon

include hclearing

theorem fxDirectoryCleared_active (hmode : s.mode ≠ mInit) :
    fxDirectoryCleared s = (({ s with dir := { s.dir with clearing := [] } } : State).put O.DIR_STATE 2).setRst (fun r =>
      { r with initCleared := r.initTested }) := by
  simp only [fxDirectoryCleared, if_neg (directory_powered hon), if_neg hmode, fxDirCleared, if_pos hclearing]

/-- In INIT the clearing ends once every die has been tested (R440). -/
theorem fxDirectoryCleared_init (hmode : s.mode = mInit) (htested : (List.range s.dies).all (fun d => s.rst.initTested.at d) = true) :
    fxDirectoryCleared s = (({ s with dir := { s.dir with clearing := [] } } : State).put O.DIR_STATE 2).setRst (fun r =>
      { r with initCleared := (List.range s.dies).map (fun d => (d, true)) }) := by
  simp only [fxDirectoryCleared, if_neg (directory_powered hon), if_pos hmode, if_pos htested, fxDirCleared, if_pos hclearing]

end Clearing

/-! ## The walker (R178) -/

/-- The die and the set of an entry's key. -/
theorem entryDie_entryKey {d set way : Nat} (hset : set < 2 ^ 18) (hway : way < 16) : entryDie (entryKey d set way) = d := by
  simp only [entryDie, entryKey]
  omega

theorem entrySet_entryKey {d set way : Nat} (hset : set < 2 ^ 18) (hway : way < 16) : entrySet (entryKey d set way) = set := by
  simp only [entrySet, entryKey]
  omega

theorem entryError_corrected (s : State) (k : Nat) :
    s.entryError k 1 = (s.count32 (O.DIR_CE_COUNT (entryDie k))).dirEvent (entryDie k) F.DIR_CE 0 (entrySet k % 16) 0 (0x700 + entryDie k) 0 := rfl

theorem entryError_none (s : State) (k : Nat) : s.entryError k 0 = s := rfl

section Scrub
variable {s : State} {d : Nat} (hserves : s.homeServes d = true)
  (hidle : s.dir.sweep.any (fun w => w.die == d && w.started && !w.done) = false)
include hserves hidle

theorem fxScrub_corrects (set way : Nat) :
    fxScrub d set way 1 false s = (s.count32 (O.DIR_CE_COUNT d)).dirEvent d F.DIR_CE 0 (set % 16) 0 (0x700 + d) 0 := by
  have hset : set % 2 ^ 18 < 2 ^ 18 := Nat.mod_lt _ (by decide)
  have hway : way % 16 < 16 := Nat.mod_lt _ (by decide)
  have bank : set % 2 ^ 18 % 16 = set % 16 := by omega
  simp only [fxScrub, hserves, hidle, entryError_corrected, entryDie_entryKey hset hway, entrySet_entryKey hset hway, bank, Bool.not_false,
    and_self, if_true, Bool.false_and, Bool.false_eq_true, if_false]

theorem fxScrub_ends {t : Nat} (hlast : s.dir.lastScrub.find d = some t) (hdue : t + s.get O.SCRUB_PERIOD ≤ s.elapsed d) (set way : Nat) :
    fxScrub d set way 0 true s =
      ({ s with dir := { s.dir with lastScrub := s.dir.lastScrub.place d (s.elapsed d) } } : State).wrap32 (O.SCRUB_PASSES d) := by
  simp only [fxScrub, hserves, hidle, entryError_none, hlast, hdue, Bool.not_false, and_self, if_true, decide_true, Bool.and_self]

end Scrub

/-- Settles O30: a served write has the effect of its object, and each command that of its case. -/
theorem sweeps : Obligations.Sweeps := by
  refine ⟨?regionRecall, ?retire, ?start, ?ends, ?retired, ?cleared, ?clearedInit, ?corrects, ?pass⟩
  case regionRecall =>
    intro s u ifc r mask hserved hu
    subst hu
    exact writeOne_srRecall hserved
  case retire =>
    intro s ifc d bank hserved
    exact writeOne_bankRetire hserved
  case start =>
    intro s u d errs w ws hd hfirst hwaits hactive hu
    exact onUnit_hasDie hd (fxSweepStart_walks (homeServes_active hactive d) hfirst hwaits hu)
  case ends =>
    intro s d w hd hserves hw hqueue hbank htxn hwalked
    exact onUnit_hasDie hd (fxSweepEnd_finishes hserves hw hqueue hbank htxn hwalked)
  case retired =>
    intro s u d b t w hd hb hlive hw ht hu
    have bank : s.hasBank d b = true := decide_eq_true ⟨hd, hb⟩
    have effect := fxBankRetired_folds hlive hw ht hu
    change onUnit (s.hasBank d b) (fxBankRetired d b s) = _
    rw [bank, onUnit_true, effect]
  case cleared =>
    intro s hon hmode hclearing
    exact done_eq (fxDirectoryCleared_active hon hclearing hmode)
  case clearedInit =>
    intro s hon hmode htested hclearing
    exact done_eq (fxDirectoryCleared_init hon hclearing hmode htested)
  case corrects =>
    intro s d set way hd hactive hidle
    exact onUnit_hasDie hd (fxScrub_corrects (homeServes_active hactive d) hidle set way)
  case pass =>
    intro s d set way t hd hactive hidle hlast hdue
    exact onUnit_hasDie hd (fxScrub_ends (homeServes_active hactive d) hidle hlast hdue set way)

end Sys2Proof.Proofs
end

section
/-! PROOFS. Write groups: the wait of a commit, the answers of the homes and the cancel of a line (the obligations of
07_write_groups.md). -/
namespace Sys2Proof.Proofs
open Sys2Proof Sys2Proof.Machine Sys2Proof.Laws

/-- A command of a slot has its effect. -/
theorem onUnit_hasGroup {s t : State} {h k : Nat} (hg : hasGroup h k = true) (e : s = t) : onUnit (hasGroup h k) s = .next (settle t) := by
  rw [hg, onUnit_true, e]

/-! ## Values that are no default, in a store whose keys need not rise

What a command writes last is read without a word on what it did to the store before. -/

/-- A kind outside a list is none of those in it. -/
theorem kind_ne_of_contains {ks : List Nat} {o o' : Obj} (h : ks.contains (kind o) = false) (h' : ks.contains (kind o') = true) :
    kind o ≠ kind o' := by
  intro e
  rw [e] at h
  exact Bool.false_ne_true (h.symm.trans h')

section Shown
variable {s : State} {o : Obj} {x : Nat} (hset : ∀ v, x ≠ defaultOf v o % 2 ^ 64)
include hset

/-- A value that is no default is read where it was put, -/
theorem get_put_self_of_set (hx : x < 2 ^ 64) : (s.put o x).get o = x := by
  have same : x % 2 ^ 64 = x := Nat.mod_eq_of_lt hx
  have listed : BitVec.ofNat 64 x ≠ BitVec.ofNat 64 (defaultOf s.variant o) := by
    intro e
    have held := congrArg BitVec.toNat e
    rw [BitVec.toNat_ofNat, BitVec.toNat_ofNat, same] at held
    exact hset s.variant held
  rw [State.get, State.put, Table.write, if_neg listed]
  simp only [find_place_self, BitVec.toNat_ofNat, same]

variable (h : s.get o = x)
include h

/-- and stays when an object of another kind is put. -/
theorem get_put_of_set {o' : Obj} (hkind : kind o ≠ kind o') (v : Nat) : (s.put o' v).get o = x :=
  (get_put_ne_of_ne_default v (key_ne_of_kind_ne hkind) (h ▸ hset s.variant)).trans h

theorem get_setBit_of_set {o' : Obj} (hkind : kind o ≠ kind o') (b : Nat) (on : Bool) : (s.setBit o' b on).get o = x := by
  obtain e | ⟨v, e⟩ := setBit_eq_put_or_self o' b on s
  · rw [e, h]
  · rw [e, get_put_of_set hset h hkind]

variable (hkind : counterKinds.contains (kind o) = false)
include hkind

theorem get_addGeneral_of_set (inst n : Nat) : (s.addGeneral inst n).get o = x := by
  have value : kind o ≠ kind ⟨0x48, inst, 1⟩ :=
    kind_ne_of_contains hkind (show counterKinds.contains (kind ⟨0x48, 0, 1⟩) = true by decide)
  have overflow : kind o ≠ kind ⟨0x48, inst, 3⟩ :=
    kind_ne_of_contains hkind (show counterKinds.contains (kind ⟨0x48, 0, 3⟩) = true by decide)
  have counted := get_put_of_set hset h value ((s.get ⟨0x48, inst, 1⟩ + n) % 2 ^ 48)
  rw [State.addGeneral]
  split
  · exact get_put_of_set hset counted overflow 1
  · exact counted

theorem get_addPartial_of_set (d t k n : Nat) : (s.addPartial d t k n).get o = x := by
  have overflow : kind o ≠ kind (O.TC_OVF t) :=
    kind_ne_of_contains hkind (show counterKinds.contains (kind (O.TC_OVF 0)) = true by decide)
  rw [State.addPartial]
  dsimp only
  split
  · rw [State.tcGrow]
    split
    · refine get_setBit_of_set hset ?_ overflow k true
      exact h
    · exact h
  · exact h

/-- The counters of an event leave what an object of another kind shows. -/
theorem get_perfCount_of_set (d ev q t n : Nat) : (s.perfCount d ev q t n).get o = x := by
  rw [State.perfCount]
  split
  · exact h
  · refine forEach_keeps (P := fun u => u.get o = x) (fun e u hu => ?_) s.selects s h
    dsimp only
    split
    · split
      · exact get_addGeneral_of_set hset hu hkind _ n
      · split
        · exact get_addPartial_of_set hset hu hkind d _ _ n
        · exact hu
    · exact hu

end Shown

/-! ## What an abort shows (R192, R205) -/

/-- A slot shows its group ABORTED, with a status and the time of a die. -/
def showAborted (t : State) (d h k status : Nat) : State :=
  ((t.setGrpState h k grpAborted).put (O.GRP_STATUS h k) status).put (O.GRP_DONE_AT h k) (t.now d)

/-- An abort ends with what the slot shows, and counts it. -/
theorem groupAbort_shows {s : State} {h k status : Nat} (hst : s.grpState h k = grpOpen ∨ s.grpState h k = grpCommitting)
    (hstatus : status ≠ stConflict) (rank : Nat) : ∃ t u : State, u = showAborted t (s.hostDie h) h k status ∧
      s.groupAbort h k status rank = (u.count32 (O.GRP_ABORTS h)).perfCount (s.hostDie h) evGrpAbort 0xFF (u.grpTenant h k) 1 :=
  ⟨_, _, rfl, (if_pos hst).trans (if_neg hstatus)⟩

/-- What the slot shows of an abort stays when the abort is counted. -/
theorem get_groupAbort_of_set {s : State} {h k status x : Nat} {o : Obj} (hst : s.grpState h k = grpOpen ∨ s.grpState h k = grpCommitting)
    (hstatus : status ≠ stConflict) (hset : ∀ v, x ≠ defaultOf v o % 2 ^ 64) (hcounter : counterKinds.contains (kind o) = false)
    (haborts : kind o ≠ kind (O.GRP_ABORTS h)) (hshown : ∀ t, (showAborted t (s.hostDie h) h k status).get o = x) (rank : Nat) :
    (s.groupAbort h k status rank).get o = x := by
  obtain ⟨t, u, rfl, ends⟩ := groupAbort_shows hst hstatus rank
  rw [ends]
  exact get_perfCount_of_set hset (get_put_of_set hset (hshown t) haborts _) hcounter _ _ _ _ _

section Aborted
variable {h k : Nat} (hg : hasGroup h k = true)
include hg

/-- A slot's objects are those of R210. -/
theorem rowOfSlot_group (v : Variant) (m : Nat) : rowOfSlot v ⟨0x29, h * 8 + k, m⟩ = tableR210.find? (Row.holdsSlot m) := by
  have inside : h < 64 ∧ 1 ≤ k ∧ k < 8 := of_decide_eq_true hg
  have table : tableOf v 0x29 (h * 8 + k) = tableR210 := by
    rw [tableOf_groups, if_neg (by omega), if_pos (by omega)]
  exact congrArg (List.find? _) table

theorem defaultOf_grpState (v : Variant) : defaultOf v (O.GRP_STATE h k) = grpIdle := by
  rw [defaultOf, O.GRP_STATE, rowOfSlot_group hg]
  rfl

theorem defaultOf_grpStatus (v : Variant) : defaultOf v (O.GRP_STATUS h k) = stOk := by
  rw [defaultOf, O.GRP_STATUS, rowOfSlot_group hg]
  rfl

variable {s : State} (hst : s.grpState h k = grpOpen ∨ s.grpState h k = grpCommitting) {status : Nat} (hstatus : status ≠ stConflict)
include hst hstatus

theorem groupAbort_grpState (rank : Nat) : (s.groupAbort h k status rank).get (O.GRP_STATE h k) = grpAborted := by
  have listed : ∀ v, grpAborted ≠ defaultOf v (O.GRP_STATE h k) % 2 ^ 64 := fun v => by rw [defaultOf_grpState hg v]; decide
  have statusKind : kind (O.GRP_STATE 0 0) ≠ kind (O.GRP_STATUS 0 0) := by decide
  have doneKind : kind (O.GRP_STATE 0 0) ≠ kind (O.GRP_DONE_AT 0 0) := by decide
  have abortsKind : kind (O.GRP_STATE 0 0) ≠ kind (O.GRP_ABORTS 0) := by decide
  have counterKind : counterKinds.contains (kind (O.GRP_STATE 0 0)) = false := by decide
  refine get_groupAbort_of_set hst hstatus listed counterKind abortsKind (fun t => ?_) rank
  have entered : (t.setGrpState h k grpAborted).get (O.GRP_STATE h k) = grpAborted := get_put_self_of_set listed (by decide)
  exact get_put_of_set listed (get_put_of_set listed entered (o' := O.GRP_STATUS h k) statusKind _) (o' := O.GRP_DONE_AT h k) doneKind _

theorem groupAbort_grpStatus (hlt : status < 2 ^ 64) (hfails : status ≠ stOk) (rank : Nat) :
    (s.groupAbort h k status rank).get (O.GRP_STATUS h k) = status := by
  have listed : ∀ v, status ≠ defaultOf v (O.GRP_STATUS h k) % 2 ^ 64 := fun v => by rw [defaultOf_grpStatus hg v]; exact hfails
  have doneKind : kind (O.GRP_STATUS 0 0) ≠ kind (O.GRP_DONE_AT 0 0) := by decide
  have abortsKind : kind (O.GRP_STATUS 0 0) ≠ kind (O.GRP_ABORTS 0) := by decide
  have counterKind : counterKinds.contains (kind (O.GRP_STATUS 0 0)) = false := by decide
  refine get_groupAbort_of_set hst hstatus listed counterKind abortsKind (fun t => ?_) rank
  exact get_put_of_set listed (get_put_self_of_set listed hlt) (o' := O.GRP_DONE_AT h k) doneKind _

end Aborted

/-- Settles O9: the expiry is an abort with TIMEOUT, and what it shows of the slot is written last. -/
theorem groupCommitWait : Obligations.GroupCommitWait := by
  intro s h k _ hg hst hdue
  have committing : s.grpState h k = grpOpen ∨ s.grpState h k = grpCommitting := .inr hst
  refine ⟨onUnit_hasGroup hg (if_pos ⟨hst, hdue⟩), ?_, ?_⟩
  · exact groupAbort_grpState hg committing (by decide) causeTimeout
  · exact groupAbort_grpStatus hg committing (by decide) (by decide) (by decide) causeTimeout

/-! ## The answers of the homes (R193, R200 to R202) -/

section Answers
variable {s t : State} {h k line : Nat} {a : GroupAnswer}

/-- The staging line is marked, and the write that waited for it has Cmp. -/
theorem fxMarkAck_answers (htake : s.takeGroupAnswer 0 h k (lineOf line) = some (a, t)) (hgen : a.gen = t.get (O.GRP_GEN h k)) :
    fxMarkAck h k line s = forEach (((t.group h k).lines.filter (fun l => l.line == lineOf line)).map (fun l => l.waiting)).flatten
      (fun o s => match o with | .tracker e n => s.owe (.answer (8192 * e + n) (.cmp 0) 0 false 0) | _ => s)
      (t.setStaging h k (lineOf line) (fun l => { l with marked := true, waiting := [] })) := by
  rw [fxMarkAck, htake]
  exact if_neg (not_not_intro hgen)

section Claim
variable (htake : s.takeGroupAnswer 1 h k (lineOf line) = some (a, t)) (hgen : a.gen = t.get (O.GRP_GEN h k))
  (hst : t.grpState h k = grpCommitting)
include htake hgen hst

theorem fxClaimResult_aborts (hfails : a.status ≠ stOk) : fxClaimResult h k line s = t.groupAbort h k stConflict (causeConflict + 1) := by
  simp [fxClaimResult, htake, hgen, hst, hfails]

/-- The last claim sends the pins (R201). -/
theorem fxClaimResult_pins {u : State} (hok : a.status = stOk)
    (hu : u = t.setStaging h k (lineOf line) (fun l => { l with claimed := true })) (hall : u.allLines h k (fun l => l.claimed) = true) :
    fxClaimResult h k line s = forEach (u.group h k).lines (fun l s => s.groupToHome h k l.line .pin id) u := by
  subst hu
  simp [fxClaimResult, htake, hgen, hst, hok, hall]

end Claim

section Pin
variable (htake : s.takeGroupAnswer 2 h k (lineOf line) = some (a, t)) (hgen : a.gen = t.get (O.GRP_GEN h k))
  (hst : t.grpState h k = grpCommitting)
include htake hgen hst

theorem fxPinResult_limit (hlimit : a.status = stLimit) (errs : List Nat) :
    fxPinResult h k line errs s = t.groupAbort h k stLimit (causeLimit + 1) := by
  simp [fxPinResult, htake, hgen, hst, hlimit]

theorem fxPinResult_aborts (hlimit : a.status ≠ stLimit) (hfails : a.status ≠ stOk) (errs : List Nat) :
    fxPinResult h k line errs s = t.groupAbort h k stConflict (causeConflict + 1) := by
  simp [fxPinResult, htake, hgen, hst, hlimit, hfails]

/-- The last pin makes the group APPLYING and sends the apply writes (R202). -/
theorem fxPinResult_applies {u : State} (hok : a.status = stOk)
    (hu : u = t.setStaging h k (lineOf line) (fun l => { l with pinned := true })) (hall : u.allLines h k (fun l => l.pinned) = true)
    (errs : List Nat) :
    fxPinResult h k line errs s = forEach (((u.setGrpState h k grpApplying).group h k).lines.zip
      (errs ++ List.replicate ((u.setGrpState h k grpApplying).group h k).lines.length 0)) (fun x s => s.applyLine h k x.1 x.2)
      (u.setGrpState h k grpApplying) := by
  have served : stOk ≠ stLimit := by decide
  subst hu
  simp [fxPinResult, htake, hgen, hst, hok, hall, served]

end Pin

section Apply
variable {u : State} (htake : s.takeGroupAnswer 3 h k (lineOf line) = some (a, t)) (hst : t.grpState h k = grpApplying)
  (hu : u = (t.setStaging h k (lineOf line) (fun l => { l with written := true })).setGroup h k
    (fun g => { g with lost := g.lost || a.status != stOk }))
include htake hst hu

theorem fxApplyWriteAck_notes (hall : u.allLines h k (fun l => l.written) = false) : fxApplyWriteAck h k line s = u := by
  subst hu
  simp [fxApplyWriteAck, htake, hst, hall]

/-- The last acknowledgement of a group that lost no write commits it (R202, R206). -/
theorem fxApplyWriteAck_commits {v w : State} (hall : u.allLines h k (fun l => l.written) = true) (hlost : (u.group h k).lost = false)
    (hv : v = (forEach (u.group h k).lines (fun l s => s.groupToHome h k l.line .unpin id) u).freeStaging h k)
    (hw : w = ((v.setGrpState h k grpCommitted).put (O.GRP_STATUS h k) (if (u.group h k).bad then stPoison else stOk)).put (O.GRP_DONE_AT h k)
      (v.now (u.hostDie h))) :
    fxApplyWriteAck h k line s = (w.count32 (O.GRP_COMMITS h)).perfCount (u.hostDie h) evGrpCommit 0xFF (w.grpTenant h k) 1 := by
  subst hw hv hu
  simp [fxApplyWriteAck, htake, hst, hall, hlost]

end Apply

end Answers

/-! ## The cancel of a line (R205) -/

/-- A cancel of a line on which the group holds no pin leaves the line's entry. -/
theorem fxGroupCancel_clears {s u : State} {d h k : Nat} {c : HomeReq}
    (hone : s.dir.queue.filter (fun q => q.die == d && q.cls == .cancel && q.host == h && q.slot == k) = [c])
    (hheld : s.grp.mark.any (fun m => (m.die == d && m.line == c.line && m.host == h && m.slot == k && m.gen == c.gen) && m.holds) = false)
    (hu : u = (s.unqueue c).notePeak d) :
    fxGroupCancel d h k s = (({ u with
      dir := { u.dir with
        queue := u.dir.queue.filter (fun q => !(q.die == d && q.line == c.line && q.host == h && q.slot == k && q.gen == c.gen &&
          (q.cls == .mark || q.cls == .claim || q.cls == .pin))),
        stalled := u.dir.stalled.filter (fun t => !(t.req.die == d && t.req.line == c.line && t.req.host == h && t.req.slot == k &&
          t.req.gen == c.gen && (t.req.cls == .mark || t.req.cls == .claim || t.req.cls == .pin))) },
      grp := { u.grp with
        mark := u.grp.mark.filter (fun m => !(m.die == d && m.line == c.line && m.host == h && m.slot == k && m.gen == c.gen)) } } : State).owe
          (.kick d c.line)) := by
  subst hu
  simp only [fxGroupCancel, hone, forEach, List.foldl_cons, List.foldl_nil, hheld, Bool.false_and, Bool.false_eq_true, if_false]

/-- Settles O32: each answer is taken once and judged by its generation, the group's state and its status, and a cancel clears its line. -/
theorem groupAnswers : Obligations.GroupAnswers := by
  refine ⟨?mark, ?claimFails, ?claimLast, ?pinLimit, ?pinFails, ?pinLast, ?written, ?committed, ?cancel⟩
  case mark =>
    intro s t h k line a hg htake hgen
    exact onUnit_hasGroup hg (fxMarkAck_answers htake hgen)
  case claimFails =>
    intro s t h k line a hg htake hgen hst hfails
    exact onUnit_hasGroup hg (fxClaimResult_aborts htake hgen hst hfails)
  case claimLast =>
    intro s t u h k line a hg htake hgen hst hok hu hall
    exact onUnit_hasGroup hg (fxClaimResult_pins htake hgen hst hok hu hall)
  case pinLimit =>
    intro s t h k line errs a hg htake hgen hst hlimit
    exact onUnit_hasGroup hg (fxPinResult_limit htake hgen hst hlimit errs)
  case pinFails =>
    intro s t h k line errs a hg htake hgen hst hlimit hfails
    exact onUnit_hasGroup hg (fxPinResult_aborts htake hgen hst hlimit hfails errs)
  case pinLast =>
    intro s t u h k line errs a hg htake hgen hst hok hu hall
    exact onUnit_hasGroup hg (fxPinResult_applies htake hgen hst hok hu hall errs)
  case written =>
    intro s t u h k line a hg htake hst hu hall
    exact onUnit_hasGroup hg (fxApplyWriteAck_notes htake hst hu hall)
  case committed =>
    intro s t u v w h k line a hg htake hst hu hall hlost hv hw
    exact onUnit_hasGroup hg (fxApplyWriteAck_commits htake hst hu hall hlost hv hw)
  case cancel =>
    intro s u d h k c hd hg hone hheld hu
    change onUnit (s.hasDie d && hasGroup h k) (fxGroupCancel d h k s) = _
    rw [hg, Bool.and_true, onUnit_hasDie hd (fxGroupCancel_clears hone hheld hu)]

end Sys2Proof.Proofs
end

section
/-! PROOFS. What leaves a port, and the refill tick of a die (the obligations of 09_tenant_qos.md). -/
namespace Sys2Proof.Proofs
open Sys2Proof Sys2Proof.Machine Sys2Proof.Laws

/-! ## The next message of a port (R238, R241, R248, R249) -/

/-- The message goes out as it was chosen: no colour is counted of it, as it is no metered request, and its cell leaves it unpoisoned. -/
theorem fxEgressSelect_sends {s t u : State} {p : Nat} {m : Msg} (hup : s.linkState p = lsUp)
    (hide : s.get (O.IDE_STATE p) = 0 ∨ s.get (O.IDE_STATE p) = 2) (hselect : s.selectMsg p = some (m, t))
    (htag : (m.needsTag && s.role p == roleDownstream && (s.freeTag p).isNone) = false) (hfree : m.type = .req → m.metered = false)
    (hcell : t.readOut (dieOfPort p) m.cell (beatsOf m.payload) 0 = (false, u)) :
    fxEgressSelect p 0 false s = (((u.spendCredit p m).observe p 1 (u.tagged p m)).leaveCell (dieOfPort p) m.cell).sendOut p m := by
  by_cases hreq : m.type = .req
  case pos => simp [fxEgressSelect, hup, hide, hselect, htag, hreq, hfree hreq, hcell]
  case neg => simp [fxEgressSelect, hup, hide, hselect, htag, hcell]

/-! ## The refill tick (R245, R254, R298) -/

theorem setBucket_refilled (s : State) (d m : Nat) (f : Bucket → Bucket) : (s.setBucket d m f).qos.refilled = s.qos.refilled := rfl

/-- A meter's refill changes its bucket alone, in each case of a pending change and without one. -/
theorem refillMeter_refilled (s : State) (d m : Nat) : (s.refillMeter d m).qos.refilled = s.qos.refilled := by
  simp only [State.refillMeter]
  split
  case isFalse => exact setBucket_refilled ..
  case isTrue =>
    split
    case isTrue => exact setBucket_refilled ..
    case isFalse => split <;> exact setBucket_refilled ..

theorem forEach_refilled {α : Type} {f : α → State → State} (hf : ∀ a t, (f a t).qos.refilled = t.qos.refilled) (l : List α) (s : State) :
    (forEach l f s).qos.refilled = s.qos.refilled :=
  forEach_keeps (P := fun t => t.qos.refilled = s.qos.refilled) (fun a t ht => (hf a t).trans ht) l s rfl

section Refill
variable {s : State} {d : Nat} (hon : s.datapathOn = true) (happly : s.applyDue = false) (htick : s.now d % 25 = 0)
  (hdue : s.qos.refilled.find d ≠ some (s.elapsed d))
include hon happly htick hdue

/-- The mark of the tick is placed first, and no leaf, port or meter refilled after it changes a mark. -/
theorem fxShaperRefill_marks : (fxShaperRefill d s).qos.refilled.find d = some (s.elapsed d) := by
  have hguard : (s.datapathOn && !s.applyDue && s.now d % 25 == 0 && s.qos.refilled.find d != some (s.elapsed d)) = true := by
    simp [hon, happly, htick, hdue]
  rw [fxShaperRefill, if_pos hguard, forEach_refilled (fun m t => refillMeter_refilled t d m), forEach_refilled (fun p t => ?port),
    forEach_refilled (fun k t => ?leaf)]
  case port => rfl
  case leaf => rfl
  exact find_place_self s.qos.refilled d (s.elapsed d)

theorem fxRefill_refills : fxRefill d s =
    forEach (List.range 4) (fun e s => s.engineRuns d e) ((fxShaperRefill d s).refillBudgets d) := by
  have hnew : (fxShaperRefill d s).qos.refilled.find d ≠ s.qos.refilled.find d := by
    rw [fxShaperRefill_marks hon happly htick hdue]
    exact hdue.symm
  exact if_neg hnew

end Refill

/-! ## The obligation -/

/-- Settles O25: the chosen message passes every check of the select, and the refill is told from an idle one by its mark. -/
theorem egressAndShapers : Obligations.EgressAndShapers := by
  refine ⟨?select, ?refill⟩
  case select =>
    intro s t u p m hp hup hide hselect htag hfree hcell
    exact onUnit_hasPort hp (fxEgressSelect_sends hup hide hselect htag hfree hcell)
  case refill =>
    intro s d hd hon happly htick hdue
    exact ⟨onUnit_hasDie hd (fxRefill_refills hon happly htick hdue), fxShaperRefill_marks hon happly htick hdue⟩

end Sys2Proof.Proofs
end

section
/-! PROOFS. Admission and the commands of a tenant (the obligations of 10_tenant_instances.md). -/
namespace Sys2Proof.Proofs
open Sys2Proof Sys2Proof.Machine Sys2Proof.Laws

/-! ## T_ADMIT and T_CMD as writes (R272, R274) -/

/-- Neither member is W1C at a tenant or at the pool, whose one W1C object is its events (R285, R286). -/
theorem acc_tenants {v : Variant} {t m : Nat} (hm : m = 0x02 ∨ m = 0x11) : ∀ r ∈ tableOf v 0x30 t, r.holds m = true → r.acc ≠ .w1c := by
  have tenant : ∀ r ∈ tableR285, r.acc ≠ .w1c := by decide
  have pool : ∀ r ∈ tableR286, ∀ m ∈ [0x02, 0x11], r.holds m = true → r.acc ≠ .w1c := by decide
  intro r hr hholds
  simp only [tableOf] at hr
  split at hr
  · exact tenant r hr
  · split at hr
    · exact pool r hr m (by simpa using hm) hholds
    · cases hr

/-- A served write of T_ADMIT changes the tenant's admission. -/
theorem writeOne_tAdmit {s u : State} {ifc : Iface} {t v : Nat} (hu : fxTenantAdmit t v s = u) (h : s.servesWrite ifc (O.T_ADMIT t) v = true) :
    writeOne ifc (O.T_ADMIT t) v s = .next (settle (u.acknowledged ifc (O.T_ADMIT t))) :=
  writeOne_fabric (c := 0x30) (by decide) rfl (acc_tenants (.inl rfl)) rfl hu h

/-- A served write of T_CMD carries out its command. -/
theorem writeOne_tCmd {s u : State} {ifc : Iface} {t v : Nat} (hu : fxTenantCmd t v s = u) (h : s.servesWrite ifc (O.T_CMD t) v = true) :
    writeOne ifc (O.T_CMD t) v s = .next (settle (u.acknowledged ifc (O.T_CMD t))) :=
  writeOne_fabric (c := 0x30) (by decide) rfl (acc_tenants (.inr rfl)) rfl hu h

/-! ## Admission (R272) -/

theorem fxTenantAdmit_holds (t : Nat) (s : State) : fxTenantAdmit t 0 s = s.put (O.T_ADMIT t) 0 := by
  rw [fxTenantAdmit, if_neg Nat.zero_ne_one]

theorem fxTenantAdmit_fetches (t : Nat) (s : State) :
    fxTenantAdmit t 1 s = forEach ((s.put (O.T_ADMIT t) 1).tenantQueues t) (fun q s => s.fetchMore q 16) (s.put (O.T_ADMIT t) 1) := by
  rw [fxTenantAdmit, if_pos rfl]

/-! ## The commands of T_CMD (R274, R275, R278) -/

section Commands
variable (t : Nat) (s : State)

/-- The image is formed after T_FROZEN_AT is set, which its header holds (R280). -/
theorem fxTenantCmd_freeze {u : State}
    (hu : u = ({ s with ten := { s.ten with frozen := s.ten.frozen ++ [t] } } : State).put (O.T_FROZEN_AT t) (s.now 0)) :
    fxTenantCmd t 1 s = ({ u with ten := { u.ten with formed := u.ten.formed.set t (u.formImage t) } } : State).txFailWhere
      (fun s x => s.txTouches x t) stFrozen := by
  subst hu
  rfl

theorem fxTenantCmd_thaw : fxTenantCmd t 2 s =
    { s with ten := { s.ten with frozen := s.ten.frozen.erase t, formed := s.ten.formed.drop t } } := rfl

/-- The leaves start anew after the meters are filled, and the queues that are reset are those of the tenant after it. -/
theorem fxTenantCmd_reset {u v : State} (hu : u = forEach (s.tenantLeaves t) (fun k s => s.freshLeaf k) (s.fillMeters t))
    (hv : v = forEach (u.tenantQueues t) (fun q s => s.resetQueue q) u) :
    fxTenantCmd t 3 s = (forEach (List.range 8) (fun k s => s.tcClear t k) v).put (O.T_REFUSED t) 0 := by
  subst hv hu
  rfl

theorem fxTenantCmd_discard : fxTenantCmd t 4 s =
    (({ s with ten := { s.ten with store := s.ten.store.erase t } } : State).eraseRange (imageAddr t) 0x10000).put (O.T_IMAGE t) imgNone := rfl

end Commands

/-! ## The obligation -/

/-- Settles O35: a served write of T_ADMIT or T_CMD has the effect of its value. -/
theorem tenantCommands : Obligations.TenantCommands := by
  refine ⟨?holds, ?fetches, ?freeze, ?thaw, ?reset, ?discard⟩
  case holds =>
    intro s ifc t b _ hserved hb
    exact writeOne_tAdmit (hb ▸ fxTenantAdmit_holds t s) hserved
  case fetches =>
    intro s ifc t b _ hserved hb
    exact writeOne_tAdmit (hb ▸ fxTenantAdmit_fetches t s) hserved
  case freeze =>
    intro s u ifc t hserved hu
    exact writeOne_tCmd (fxTenantCmd_freeze t s hu) hserved
  case thaw =>
    intro s ifc t hserved
    exact writeOne_tCmd (fxTenantCmd_thaw t s) hserved
  case reset =>
    intro s u v ifc t hserved hu hv
    exact writeOne_tCmd (fxTenantCmd_reset t s hu hv) hserved
  case discard =>
    intro s ifc t hserved
    exact writeOne_tCmd (fxTenantCmd_discard t s) hserved

end Sys2Proof.Proofs
end

section
/-! PROOFS. Writes that act at once: an owner's check that leaves no trace where it accepts, and the effect of an object that is not W1C. -/
namespace Sys2Proof.Proofs
open Sys2Proof Sys2Proof.Machine Sys2Proof.Laws
set_option Elab.async false

/-- The object tables of a class, whatever the variant and the unit. -/
def tablesOf (c : Nat) : List (List Row) :=
  match c with
  | 0x01 => [tableR441]
  | 0x02 => [tableR442, tableR443]
  | 0x04 => [tableR469, tableR470]
  | 0x05 => [tableR471]
  | 0x13 => [tableR341]
  | 0x14 => [tableR355, tableR356]
  | 0x33 => [tableR262, tableR263, tableR264]
  | 0x38 => [tableR311]
  | 0x41 => [tableR421, tableR422]
  | 0x42 => [tableR423]
  | 0x48 => [tableR482, tableR483, tableR484]
  | 0x50 => [tableR378]
  | 0x58 => [tableR236, tableR237]
  | 0x5A => [tableR234, tableR235]
  | 0x60 => [tableR398]
  | 0x61 => [tableR399, tableR400]
  | _ => []

/-- The classes whose tables `tablesOf` lists. -/
def tabled (c : Nat) : Bool :=
  [0x01, 0x02, 0x04, 0x05, 0x13, 0x14, 0x33, 0x38, 0x41, 0x42, 0x48, 0x50, 0x58, 0x5A, 0x60, 0x61].contains c

theorem tableOf_mem_tablesOf {v : Variant} {c i : Nat} (hc : tabled c = true) : tableOf v c i ∈ [] :: tablesOf c := by
  simp only [tabled, List.contains_eq_mem, decide_eq_true_eq, List.mem_cons, List.not_mem_nil, or_false] at hc
  rcases hc with h | h | h | h | h | h | h | h | h | h | h | h | h | h | h | h <;> subst h <;> simp only [tableOf, tablesOf] <;>
    repeat' split
  all_goals simp

/-- No row of a class holds the member as a W1C object. -/
def neverW1c (c m : Nat) : Bool := tabled c && (tablesOf c).all fun t => t.all fun r => !(r.holds m && r.acc == .w1c)

theorem acc_ne_w1c_of_neverW1c {v : Variant} {c i m : Nat} {r : Row} (h : neverW1c c m = true) (hr : rowOf v ⟨c, i, m⟩ = some r) : r.acc ≠ .w1c := by
  simp only [neverW1c, Bool.and_eq_true, List.all_eq_true] at h
  refine acc_ne_w1c hr fun r hr hholds hacc => ?_
  rcases List.mem_cons.1 (tableOf_mem_tablesOf (v := v) (i := i) h.1) with ht | ht
  · simp [ht] at hr
  · simpa [hholds, hacc] using h.2 _ ht r hr

/-! ### What an owner that accepts has checked -/

section Owner
variable {s : State} {ifc : Iface} {o : Obj} {v : Nat}

/-- A check that accepts has met neither the owner's limits nor a frozen holder, which both refuse. -/
theorem ownerStatus_accepts (h : (s.ownerStatus ifc o v).1 = stOk) : s.ownerStatus ifc o v =
    if o.cls < 0x10 then s.ownerSystem ifc o v else if o.cls < 0x20 then s.ownerLinks o v
    else if o.cls < 0x38 then s.ownerFabric o v else s.ownerUnits ifc o v := by
  rw [State.ownerStatus] at h ⊢
  split at h
  · cases h
  · split at h
    · cases h
    · rename_i limit frozen
      rw [if_neg limit, if_neg frozen]

theorem ownerStatus_system (hc : o.cls < 0x10) (h : (s.ownerStatus ifc o v).1 = stOk) : s.ownerStatus ifc o v = s.ownerSystem ifc o v := by
  rw [ownerStatus_accepts h, if_pos hc]

theorem ownerStatus_links (hc : 0x10 ≤ o.cls ∧ o.cls < 0x20) (h : (s.ownerStatus ifc o v).1 = stOk) :
    s.ownerStatus ifc o v = s.ownerLinks o v := by
  rw [ownerStatus_accepts h, if_neg (by omega), if_pos hc.2]

theorem ownerStatus_units (hc : 0x38 ≤ o.cls) (h : (s.ownerStatus ifc o v).1 = stOk) : s.ownerStatus ifc o v = s.ownerUnits ifc o v := by
  rw [ownerStatus_accepts h, if_neg (by omega), if_neg (by omega), if_neg (by omega)]

end Owner

/-! ### Served writes by the chapter of their object -/

section Served
variable {s u : State} {ifc : Iface} {c i m v : Nat}

/-- A served write in classes 01 to 07. -/
theorem writeOne_system (hc : c < 0x10) (hacc : neverW1c c m = true)
    (howner : (s.ownerSystem ifc ⟨c, i, m⟩ v).1 = stOk → (s.ownerSystem ifc ⟨c, i, m⟩ v).2 = s)
    (hu : s.effectSystem ⟨c, i, m⟩ v = u) (h : s.servesWrite ifc ⟨c, i, m⟩ v = true) :
    writeOne ifc ⟨c, i, m⟩ v s = .next (settle (u.acknowledged ifc ⟨c, i, m⟩)) := by
  have hok := ownerStatus_of_servesWrite h
  have heq := ownerStatus_system hc hok
  refine writeOne_effect h fun r hr => ?_
  rw [heq] at hok ⊢
  rw [howner hok, State.effect, if_neg (acc_ne_w1c_of_neverW1c hacc hr), if_pos hc, hu]

/-- A served write in classes 10 to 14. -/
theorem writeOne_links (hc : 0x10 ≤ c ∧ c < 0x20) (hacc : neverW1c c m = true)
    (howner : (s.ownerLinks ⟨c, i, m⟩ v).1 = stOk → (s.ownerLinks ⟨c, i, m⟩ v).2 = s)
    (hu : s.effectLinks ⟨c, i, m⟩ v = u) (h : s.servesWrite ifc ⟨c, i, m⟩ v = true) :
    writeOne ifc ⟨c, i, m⟩ v s = .next (settle (u.acknowledged ifc ⟨c, i, m⟩)) := by
  have hok := ownerStatus_of_servesWrite h
  have heq := ownerStatus_links hc hok
  refine writeOne_effect h fun r hr => ?_
  rw [heq] at hok ⊢
  rw [howner hok, State.effect, if_neg (acc_ne_w1c_of_neverW1c hacc hr), if_neg (by simpa using hc.1), if_pos hc.2, hu]

/-- A served write in classes 38 to 7F. -/
theorem writeOne_units (hc : 0x38 ≤ c) (hacc : neverW1c c m = true)
    (howner : (s.ownerUnits ifc ⟨c, i, m⟩ v).1 = stOk → (s.ownerUnits ifc ⟨c, i, m⟩ v).2 = s)
    (hu : s.effectUnits ⟨c, i, m⟩ v = u) (h : s.servesWrite ifc ⟨c, i, m⟩ v = true) :
    writeOne ifc ⟨c, i, m⟩ v s = .next (settle (u.acknowledged ifc ⟨c, i, m⟩)) := by
  have hok := ownerStatus_of_servesWrite h
  have heq := ownerStatus_units hc hok
  refine writeOne_effect h fun r hr => ?_
  rw [heq] at hok ⊢
  rw [howner hok, State.effect, if_neg (acc_ne_w1c_of_neverW1c hacc hr), if_neg (by simp; omega), if_neg (by simp; omega), if_neg (by simp; omega), hu]

end Served

end Sys2Proof.Proofs
end

section
/-! PROOFS. Click programs: arithmetic, control flow and waits, accesses and the Click transaction (the obligations of
15_click_sequencers.md). -/
namespace Sys2Proof.Proofs
open Sys2Proof Sys2Proof.Machine Sys2Proof.Laws
set_option Elab.async false

theorem onUnit_seqExists {s t u : State} {n : Nat} (hn : s.seqExists n = true) (h : t = u) : onUnit (s.seqExists n) t = .next (settle u) := by
  rw [hn, onUnit_true, h]

section Instruction
variable {s : State} {n : Nat} {x : SqIns}

/-! ## A step counts, and changes nothing else (R391) -/

/-- The sequencer after the instruction has been counted. -/
theorem seq_sqStep (s : State) (n : Nat) : (s.sqStep n).seq n = { s.seq n with steps := (s.seq n).steps + 1 } :=
  at_set_ne_default _ _ fun h => Nat.succ_ne_zero _ (congrArg Seq.steps h)

@[simp] theorem get_sqStep (s : State) (n : Nat) (o : Obj) : (s.sqStep n).get o = s.get o := rfl
@[simp] theorem sqReg_sqStep (s : State) (n m r : Nat) : (s.sqStep n).sqReg m r = s.sqReg m r := rfl
@[simp] theorem sqOp2_sqStep (s : State) (n m : Nat) (x : SqIns) : (s.sqStep n).sqOp2 m x = s.sqOp2 m x := rfl
@[simp] theorem seqNow_sqStep (s : State) (n m : Nat) : (s.sqStep n).seqNow m = s.seqNow m := rfl
@[simp] theorem seqExists_sqStep (s : State) (n m : Nat) : (s.sqStep n).seqExists m = s.seqExists m := rfl
@[simp] theorem cutOff_sqStep (s : State) (n m : Nat) : (s.sqStep n).cutOff m = s.cutOff m := rfl
@[simp] theorem sqTickDue_sqStep (s : State) (n m : Nat) (w : SqWait) : (s.sqStep n).sqTickDue m w = s.sqTickDue m w := rfl

/-! ## Arithmetic (R386) -/

theorem sqAlu_of_next {op : Nat} (h : s.sqNext n op = some x) (f : State → SqIns → Nat) :
    s.sqAlu n op f = ((s.sqStep n).put (O.SQ_REG n x.rd) (f s x % 2 ^ 32)).sqGoOn n := by
  rw [State.sqAlu, h]
  rfl

theorem fxCmp_of_next (h : s.sqNext n opCmp = some x) :
    fxCmp n s = ((((s.sqStep n).setBit (O.SQ_FLAGS n) 0 (s.sqReg n x.ra == s.sqOp2 n x)).setBit (O.SQ_FLAGS n) 1
      (decide (s.sqReg n x.ra < s.sqOp2 n x))).setBit (O.SQ_FLAGS n) 2 (decide (toS32 (s.sqReg n x.ra) < toS32 (s.sqOp2 n x)))).sqGoOn n := by
  rw [fxCmp, h]
  rfl

theorem sqGoOn_inside (h : s.get (O.SQ_PC n) ≠ 1023) : s.sqGoOn n = s.put (O.SQ_PC n) (s.get (O.SQ_PC n) + 1) := if_neg h

theorem sqGoOn_end (h : s.get (O.SQ_PC n) = 1023) : s.sqGoOn n = s.sqFault n fPcEnd := if_pos h

/-! ## Control flow (R384, R386, R391) -/

theorem fxHalt_of_next (h : s.sqNext n opHalt = some x) : fxHalt n s = ((s.sqStep n).haltSeq n sqStopped).endReaction n false := by
  rw [fxHalt, h]

theorem fxBr_of_next (h : s.sqNext n opBr = some x) :
    fxBr n s = if brHolds (s.get (O.SQ_FLAGS n)) x.rd then (s.sqStep n).put (O.SQ_PC n) x.imm else (s.sqStep n).sqGoOn n := by
  rw [fxBr, h]
  rfl

theorem fxCall_pushes (h : s.sqNext n opCall = some x) (hroom : (s.seq n).stack.length < 8) :
    fxCall n s = (((s.sqStep n).setSeq n (fun (q : Seq) => { q with stack := (s.get (O.SQ_PC n) + 1) :: q.stack })).showDepth n).put (O.SQ_PC n)
      (x.imm % 1024) := by
  have hne : ¬ ((s.sqStep n).seq n).stack.length = 8 := by
    rw [seq_sqStep]
    exact Nat.ne_of_lt hroom
  rw [fxCall, h]
  exact if_neg hne

theorem fxCall_full (h : s.sqNext n opCall = some x) (hfull : (s.seq n).stack.length = 8) : fxCall n s = (s.sqStep n).sqFault n fStack := by
  rw [fxCall, h]
  exact if_pos (by rw [seq_sqStep, hfull])

theorem fxRet_pops {a : Nat} {r : List Nat} (h : s.sqNext n opRet = some x) (hstack : (s.seq n).stack = a :: r) (ha : a < 1024) :
    fxRet n s = (((s.sqStep n).setSeq n (fun q => { q with stack := r })).showDepth n).put (O.SQ_PC n) a := by
  have htop : ((s.sqStep n).seq n).stack = a :: r := by rw [seq_sqStep, hstack]
  simp only [fxRet, h, htop, if_pos ha]

theorem fxRet_empty (h : s.sqNext n opRet = some x) (hstack : (s.seq n).stack = []) : fxRet n s = (s.sqStep n).sqFault n fStack := by
  have htop : ((s.sqStep n).seq n).stack = [] := by rw [seq_sqStep, hstack]
  simp only [fxRet, h, htop]

theorem fxIllegal_illegal (hrun : s.sqState n = sqRunning) (hsteps : (s.seq n).steps < s.get (O.SQ_STEP_LIMIT n))
    (hill : (sqFields (s.sqWord n)).legal = false) : fxIllegal n false s = s.sqFault n fIllegal := by
  rw [fxIllegal, if_pos ⟨hrun, hsteps⟩, if_neg Bool.false_ne_true, hill, if_neg Bool.false_ne_true]

theorem fxIllegal_error (hrun : s.sqState n = sqRunning) (hsteps : (s.seq n).steps < s.get (O.SQ_STEP_LIMIT n)) :
    fxIllegal n true s = s.sqFault n fProgUe := by
  rw [fxIllegal, if_pos ⟨hrun, hsteps⟩, if_pos rfl]

/-! ## Waits (R389, R390) -/

theorem fxWaitt_relative (h : s.sqNext n opWaitt = some x) (hh : x.h = false) :
    fxWaitt n s = if s.sqTickDue n ⟨1, s.seqNow n + s.sqOp2 n x, 0, 0⟩ then (s.sqStep n).sqResume n
      else (s.sqStep n).sqWait n ⟨1, s.seqNow n + s.sqOp2 n x, 0, 0⟩ := by
  simp only [fxWaitt, h, hh, Bool.false_eq_true, if_false, seqNow_sqStep, sqOp2_sqStep, sqTickDue_sqStep]

theorem fxWaitt_absolute (h : s.sqNext n opWaitt = some x) (hh : x.h = true) :
    fxWaitt n s = if s.sqTickDue n ⟨2, s.sqReg n x.ra, 0, 0⟩ then (s.sqStep n).sqResume n
      else (s.sqStep n).sqWait n ⟨2, s.sqReg n x.ra, 0, 0⟩ := by
  simp only [fxWaitt, h, hh, if_true, sqReg_sqStep, sqTickDue_sqStep]

/-- A relative wait ends when its target is no later than the sequencer's time. -/
theorem sqTickDue_relative (target : Nat) : s.sqTickDue n ⟨1, target, 0, 0⟩ = decide (target ≤ s.seqNow n) := by
  rw [State.sqTickDue, if_pos rfl]

theorem fxWaittEnd_due {w : SqWait} (hw : (s.seq n).wait = some w) (hkind : w.kind = 1) (hdue : w.target ≤ s.seqNow n) :
    fxWaittEnd n s = s.sqResume n := by
  have due : s.sqTickDue n w = true := by
    rw [State.sqTickDue, if_pos hkind, decide_eq_true hdue]
  simp only [fxWaittEnd, hw, hkind, due, true_or, and_self, if_true]

theorem fxWaite_takes (h : s.sqNext n opWaite = some x) (hevt : Nat.land (s.get (O.SQ_EVT n)) (s.sqReg n x.ra) ≠ 0) :
    fxWaite n s = ((s.sqStep n).takeEvt n x.rd (s.sqReg n x.ra)).sqResume n := by
  simp only [fxWaite, h]
  exact if_pos hevt

theorem fxWaite_waits (h : s.sqNext n opWaite = some x) (hevt : Nat.land (s.get (O.SQ_EVT n)) (s.sqReg n x.ra) = 0) (hlim : s.sqOp2 n x ≠ 0) :
    fxWaite n s = (s.sqStep n).sqWait n ⟨3, s.seqNow n + s.sqOp2 n x, s.sqReg n x.ra, x.rd⟩ := by
  simp only [fxWaite, h, get_sqStep, sqReg_sqStep, sqOp2_sqStep, seqNow_sqStep, hevt, hlim, ne_eq, not_true_eq_false, if_false]

theorem fxWaiteEnd_takes {w : SqWait} (hw : (s.seq n).wait = some w) (hkind : w.kind = 3) (hevt : Nat.land (s.get (O.SQ_EVT n)) w.mask ≠ 0) :
    fxWaiteEnd n s = (s.takeEvt n w.rd w.mask).sqResume n := by
  simp only [fxWaiteEnd, hw, hkind, ne_eq, not_true_eq_false, if_false, if_pos hevt]

theorem fxWaiteEnd_limit {w : SqWait} (hw : (s.seq n).wait = some w) (hkind : w.kind = 3) (hevt : Nat.land (s.get (O.SQ_EVT n)) w.mask = 0)
    (hlim : w.target ≠ 0) (hdue : w.target ≤ s.seqNow n) : fxWaiteEnd n s = (s.put (O.SQ_REG n w.rd) 0).sqResume n := by
  simp only [fxWaiteEnd, hw, hkind, hevt, ne_eq, not_true_eq_false, if_false, if_pos (And.intro hlim hdue)]
  rfl

/-! ## Accesses (R387) -/

/-- The access is held as an unknown function, so that no check of the proof carries it out. -/
theorem fxLdo_of_next {t : State} {st v : Nat} (h : s.sqNext n opLdo = some x) (hread : (s.sqStep n).sqRead n (s.sqObject n x) = (st, v, t)) :
    fxLdo n s = ((if st = stOk then t.setReg n x.rd (if x.h then v / 2 ^ 32 else v % 2 ^ 32) else t).sqStatus n st).sqAfter n := by
  unfold fxLdo
  obtain ⟨read, hr⟩ := exists_eq (a' := State.sqRead)
  rw [← hr] at hread ⊢
  simp only [h, hread]

theorem fxSto_of_next {t : State} {st : Nat} (h : s.sqNext n opSto = some x) (hwrite : (s.sqStep n).sqWrite n (s.sqObject n x)
    (s.sqReg n x.rd % 2 ^ 32 + (if x.i then 0 else s.sqReg n x.rb % 2 ^ 32 * 2 ^ 32)) = (st, t)) :
    fxSto n s = (t.sqStatus n st).sqAfter n := by
  unfold fxSto
  obtain ⟨write, hw⟩ := exists_eq (a' := State.sqWrite)
  rw [← hw] at hwrite ⊢
  simp only [h, hwrite]

/-! ## Events and the Click transaction (R388, R390) -/

theorem fxEmit_sets (h : s.sqNext n opEmit = some x) (hother : s.sqReg n x.ra % 128 ≠ 127) (hexists : s.seqExists (s.sqReg n x.ra % 128) = true)
    (hcut : s.cutOff n = false) :
    fxEmit n s = (((s.sqStep n).setBit (O.SQ_EVT (s.sqReg n x.ra % 128)) (x.imm % 16) true).sqStatus n stOk).sqGoOn n := by
  simp only [fxEmit, h, sqReg_sqStep, if_neg hother, seqExists_sqStep, hexists, Bool.not_true, cutOff_sqStep, hcut, Bool.false_and,
    Bool.false_eq_true, if_false]
  rfl

theorem fxTxb_opens (h : s.sqNext n opTxb = some x) (hcut : (s.sqStep n).cutOff n = false)
    (hholder : (s.sqStep n).get (O.TX_HOLDER txClick) = noHolder) (hok : (s.sqStep n).txCmdStatus txClick txcOpen = stOk) :
    fxTxb n s = (((fxTxOpen txClick (s.sqStep n)).put (O.TX_HOLDER txClick) n).sqStatus n stOk).sqGoOn n := by
  simp only [fxTxb, h, hcut, hholder, hok, Bool.false_eq_true, ne_eq, not_true_eq_false, false_and, or_self, if_false, if_true]

theorem fxTxc_prepares (h : s.sqNext n opTxc = some x) (hholder : (s.sqStep n).get (O.TX_HOLDER txClick) = n)
    (hok : (s.sqStep n).txCmdStatus txClick txcPrepare = stOk) :
    fxTxc n s = (fxTxPrepare txClick (s.sqStep n)).sqWait n ⟨4, s.sqOp2 n x, 0, 0⟩ := by
  simp only [fxTxc, h, hholder, hok, ne_eq, not_true_eq_false, if_false, sqOp2_sqStep]

theorem fxTxcEnd_refused {w : SqWait} (hw : (s.seq n).wait = some w) (hkind : w.kind = 6) :
    fxTxcEnd n s = ((s.sqRelease n).sqStatus n w.target).sqResume n := by
  simp only [fxTxcEnd, hw, hkind, if_true]

theorem fxTxcEnd_applied {w : SqWait} (hw : (s.seq n).wait = some w) (hkind : w.kind = 5) (hst : s.get (O.TX_STATE txClick) = txApplied) :
    fxTxcEnd n s = ((s.sqRelease n).sqStatus n (s.get (O.TX_STATUS txClick))).sqResume n := by
  simp [fxTxcEnd, hw, hkind, hst]

/-! ## Starts and stops (R383, R384) -/

theorem fxSqStop_stops (h : s.sqState n ≠ sqRetired) : fxSqStop n s = (s.haltSeq n sqStopped).endReaction n true := if_neg h

theorem fxSqStartAt_starts (hat : s.get (O.SQ_START_AT n) ≠ 0) (hdue : s.get (O.SQ_START_AT n) ≤ s.seqNow n)
    (hcan : (s.put (O.SQ_START_AT n) 0).startable' n = true) : fxSqStartAt n s = (s.put (O.SQ_START_AT n) 0).startSeq n := by
  simp only [fxSqStartAt, if_pos (And.intro hat hdue), if_pos hcan]

/-- A served write of SQ_CMD carries out its command. -/
theorem writeOne_sqCmd {u : State} {ifc : Iface} {v : Nat} (hu : fxSqCmd n v s = u) (h : s.servesWrite ifc (O.SQ_CMD n) v = true) :
    writeOne ifc (O.SQ_CMD n) v s = .next (settle (u.acknowledged ifc (O.SQ_CMD n))) :=
  writeOne_units (by decide) (by decide) (fun _ => rfl) hu h

end Instruction

/-! ## The obligations -/

/-- Settles O45: each instruction by its arm, and the address by its end. -/
theorem clickArithmetic : Obligations.ClickArithmetic := by
  refine ⟨?low, ?high, ?add, ?sub, ?and, ?or, ?cmp, fun s n h => sqGoOn_inside h, fun s n h => sqGoOn_end h⟩
  case low =>
    intro s n x hn hx hh
    exact onUnit_seqExists hn (by rw [fxLdi, sqAlu_of_next hx, if_neg (by simp [hh])])
  case high =>
    intro s n x hn hx hh
    exact onUnit_seqExists hn (by rw [fxLdi, sqAlu_of_next hx, if_pos hh])
  case add | sub | and | or =>
    intro s n x hn hx
    exact onUnit_seqExists hn (sqAlu_of_next hx _)
  case cmp =>
    intro s n x hn hx
    exact onUnit_seqExists hn (fxCmp_of_next hx)

/-- Settles O46: each instruction by its arm, each wait's end by its kind. -/
theorem clickControl : Obligations.ClickControl := by
  refine ⟨?halt, fun _ _ _ => rfl, ?taken, ?passed, ?call, ?full, ?ret, ?empty, ?relative, ?atOnce, ?absolute, ?tick, ?events, ?limited, ?taken', ?limit,
    ?illegal, ?error, ?steps, fun _ _ _ => rfl⟩
  case halt =>
    intro s n x hn hx
    exact onUnit_seqExists hn (fxHalt_of_next hx)
  case taken =>
    intro s n x hn hx hholds
    exact onUnit_seqExists hn (by rw [fxBr_of_next hx, if_pos hholds])
  case passed =>
    intro s n x hn hx hfails
    exact onUnit_seqExists hn (by rw [fxBr_of_next hx, hfails, if_neg Bool.false_ne_true])
  case call =>
    intro s n x hn hx hroom
    exact onUnit_seqExists hn (fxCall_pushes hx hroom)
  case full =>
    intro s n x hn hx hfull
    exact onUnit_seqExists hn (fxCall_full hx hfull)
  case ret =>
    intro s n a r x hn hx hstack ha
    exact onUnit_seqExists hn (fxRet_pops hx hstack ha)
  case empty =>
    intro s n x hn hx hstack
    exact onUnit_seqExists hn (fxRet_empty hx hstack)
  case relative =>
    intro s n x hn hx hh hop
    refine onUnit_seqExists hn ?_
    rw [fxWaitt_relative hx hh, sqTickDue_relative, decide_eq_false (by omega), if_neg Bool.false_ne_true]
  case atOnce =>
    intro s n x hn hx hh hop
    refine onUnit_seqExists hn ?_
    rw [fxWaitt_relative hx hh, sqTickDue_relative, decide_eq_true (by omega), if_pos rfl]
  case absolute =>
    intro s n x hn hx hh hdue
    refine onUnit_seqExists hn ?_
    rw [fxWaitt_absolute hx hh, hdue, if_neg Bool.false_ne_true]
  case tick =>
    intro s n w hn hw hkind hdue
    exact onUnit_seqExists hn (fxWaittEnd_due hw hkind hdue)
  case events =>
    intro s n x hn hx hevt
    exact onUnit_seqExists hn (fxWaite_takes hx hevt)
  case limited =>
    intro s n x hn hx hevt hlim
    exact onUnit_seqExists hn (fxWaite_waits hx hevt hlim)
  case taken' =>
    intro s n w hn hw hkind hevt
    exact onUnit_seqExists hn (fxWaiteEnd_takes hw hkind hevt)
  case limit =>
    intro s n w hn hw hkind hevt hlim hdue
    exact onUnit_seqExists hn (fxWaiteEnd_limit hw hkind hevt hlim hdue)
  case illegal =>
    intro s n hn hrun hsteps hill
    exact onUnit_seqExists hn (fxIllegal_illegal hrun hsteps hill)
  case error =>
    intro s n hn hrun hsteps
    exact onUnit_seqExists hn (fxIllegal_error hrun hsteps)
  case steps =>
    intro s n hn hrun hlim
    exact onUnit_seqExists hn (if_pos ⟨hrun, hlim⟩)

/-- Settles O47: each instruction by its arm, SQ_CMD as a served write. -/
theorem clickAccess : Obligations.ClickAccess := by
  refine ⟨?ldo, ?refused, ?sto, fun _ _ _ => rfl, ?emit, ?txb, ?txc, ?failed, ?ended, ?start, ?stop, ?armed, fun _ _ => rfl⟩
  case ldo =>
    intro s t n v x hn hx hread
    exact onUnit_seqExists hn ((fxLdo_of_next hx hread).trans (by rw [if_pos rfl]; rfl))
  case refused =>
    intro s t n st v x hn hx hread hst
    exact onUnit_seqExists hn ((fxLdo_of_next hx hread).trans (by rw [if_neg hst]))
  case sto =>
    intro s t n st x hn hx hwrite
    exact onUnit_seqExists hn (fxSto_of_next hx hwrite)
  case emit =>
    rintro s n t x hn hx rfl hother hexists hcut
    exact onUnit_seqExists hn (fxEmit_sets hx hother hexists hcut)
  case txb =>
    intro s n x hn hx hcut hholder hok
    exact onUnit_seqExists hn (fxTxb_opens hx hcut hholder hok)
  case txc =>
    intro s n x hn hx hholder hok
    exact onUnit_seqExists hn (fxTxc_prepares hx hholder hok)
  case failed =>
    intro s n w hn hw hkind
    exact onUnit_seqExists hn (fxTxcEnd_refused hw hkind)
  case ended =>
    intro s n w hn hw hkind hst
    exact onUnit_seqExists hn (fxTxcEnd_applied hw hkind hst)
  case start =>
    intro s ifc n _ hserved
    exact writeOne_sqCmd (if_pos rfl) hserved
  case stop =>
    intro s ifc n _ hserved hst
    exact writeOne_sqCmd (fxSqStop_stops hst) hserved
  case armed =>
    intro s n hn hat hdue hcan
    exact onUnit_seqExists hn (fxSqStartAt_starts hat hdue hcan)

end Sys2Proof.Proofs
end

section
/-! PROOFS. Frames: what a command that ends with nothing owed leaves of the object store and the memories (the obligations of
02_object_dictionary.md). -/
namespace Sys2Proof.Proofs
open Sys2Proof Sys2Proof.Machine Sys2Proof.Laws
set_option Elab.async false

/-- Class and member are bytes, as in every object number (R5). -/
def InRange (o : Obj) : Prop := o.cls < 256 ∧ o.mem < 256

theorem inRange {c i m : Nat} (h : (decide (c < 256) && decide (m < 256)) = true := by decide) : InRange ⟨c, i, m⟩ := by
  simpa [InRange] using h

/-! ## What the end of a command holds of the stores -/

theorem find_write_self {α : Type} [DecidableEq α] {t : Table α} (h : t.risingFrom 0 = true) (d : α) (k : Nat) (v : α) :
    (Table.write d t k v).find k = if v = d then none else some v := by
  rw [Table.write]
  split
  · exact find_drop_self h k
  · exact find_place_self t k v

/-- Of a table rebuilt entry by entry a key holds what its entry became, and nothing where that is its default. -/
theorem find_rebuild {α : Type} [DecidableEq α] (d : Nat → α) (g : Nat → α → α) {t : Table α} {lo : Nat} (h : t.risingFrom lo = true) (k : Nat) :
    (t.foldr (fun c m => Table.write (d c.1) m c.1 (g c.1 c.2)) []).find k =
      (t.find k).bind fun w => if g k w = d k then none else some (g k w) := by
  induction t generalizing lo with
  | nil => rfl
  | cons c r ih =>
    obtain ⟨j, w⟩ := c
    simp only [Table.risingFrom, Bool.and_eq_true] at h
    have rest : (r.foldr (fun c m => Table.write (d c.1) m c.1 (g c.1 c.2)) []).risingFrom 0 = true := (wfBy_iff.1 (wfBy_rebuild d g r)).1
    rw [List.foldr_cons]
    rcases Nat.lt_trichotomy j k with lt | rfl | gt
    · rw [find_write_ne rest _ _ (by omega), ih h.2, Table.find, if_neg (by omega), if_pos lt]
    · rw [find_write_self rest, Table.find, if_pos rfl, Option.bind_some]
    · rw [find_write_ne rest _ _ (by omega), ih h.2, find_below h.2 (by omega), Table.find, if_neg (by omega), if_neg (by omega)]

/-- An object whose entry its type holds whole reads as before once the command is over. -/
theorem get_tidy {s : State} (h : s.regs.risingFrom 0 = true) {o : Obj} (ho : InRange o)
    (hfits : ∀ w, s.regs.find o.key = some w → heldBy s.variant o w = w) : s.tidy.get o = s.get o := by
  have listed := find_rebuild (fun k => BitVec.ofNat 64 (defaultOf s.variant (Obj.ofKey k))) (fun k => heldBy s.variant (Obj.ofKey k)) h o.key
  have stored : s.tidy.regs.find o.key = _ := listed
  rw [State.get, stored, State.get, ofKey_key ho.1 ho.2]
  cases hw : s.regs.find o.key with
  | none => rfl
  | some w =>
    rw [Option.bind_some, hfits w hw]
    by_cases e : w = BitVec.ofNat 64 (defaultOf s.variant o)
    · rw [if_pos e, e]
      exact (BitVec.toNat_ofNat ..).symm
    · rw [if_neg e]

/-- A listed value of a state in canonical form fits its type. -/
theorem heldBy_of_canonical {s : State} (h : s.Canonical) {o : Obj} (ho : InRange o) {w : Word} (hw : s.regs.find o.key = some w) :
    heldBy s.variant o w = w := by
  have mem : (o.key, w) ∈ s.regs := by
    have : ∀ t : Table Word, t.find o.key = some w → (o.key, w) ∈ t := by
      intro t
      induction t with
      | nil => exact fun h => nomatch h
      | cons c r ih =>
        obtain ⟨j, v⟩ := c
        rw [Table.find]
        split
        · rintro ⟨⟩
          subst_vars
          exact List.mem_cons_self
        · split
          · exact fun h => List.mem_cons_of_mem _ (ih h)
          · exact fun h => nomatch h
    exact this _ hw
  have regs := h.1
  simp only [State.regsWf, Bool.and_eq_true, List.all_eq_true, beq_iff_eq] at regs
  simpa only [ofKey_key ho.1 ho.2] using regs.2 _ mem

/-! ## Changes of the store at some keys alone -/

/-- `t` is `s` but for what the store holds at some keys, and for what lies beside the store and the memories. -/
structure StoresAt (touched : Nat → Prop) (s t : State) : Prop where
  variant : t.variant = s.variant
  ram : t.ram = s.ram
  rising : s.regs.risingFrom 0 = true → t.regs.risingFrom 0 = true
  find : s.regs.risingFrom 0 = true → ∀ k, ¬ touched k → t.regs.find k = s.regs.find k

namespace StoresAt
variable {touched : Nat → Prop} {s t u : State} {o : Obj}

/-- A change beside the store and the memories. -/
theorem beside (hv : t.variant = s.variant := by rfl) (hm : t.ram = s.ram := by rfl) (hr : t.regs = s.regs := by rfl) : StoresAt touched s t :=
  ⟨hv, hm, fun h => hr.symm ▸ h, fun _ _ _ => hr.symm ▸ rfl⟩

theorem trans (hst : StoresAt touched s t) (htu : StoresAt touched t u) : StoresAt touched s u :=
  ⟨htu.variant.trans hst.variant, htu.ram.trans hst.ram, htu.rising ∘ hst.rising,
   fun h k hk => (htu.find (hst.rising h) k hk).trans (hst.find h k hk)⟩

theorem mono {touched' : Nat → Prop} (w : StoresAt touched s t) (sub : ∀ k, touched k → touched' k) : StoresAt touched' s t :=
  ⟨w.variant, w.ram, w.rising, fun h k hk => w.find h k fun hk' => hk (sub k hk')⟩

theorem get (w : StoresAt touched s t) (h : s.regs.risingFrom 0 = true) (ho : ¬ touched o.key) : t.get o = s.get o := by
  rw [State.get, State.get, w.find h _ ho, w.variant]

theorem put (s : State) (v : Nat) (ho : touched o.key) : StoresAt touched s (s.put o v) :=
  ⟨rfl, rfl, fun h => put_rising h o v, fun h _ hk => find_write_ne h _ _ fun e => hk (e ▸ ho)⟩

theorem setBit (s : State) (b : Nat) (on : Bool) (ho : touched o.key) : StoresAt touched s (s.setBit o b on) := by
  obtain e | ⟨v, e⟩ := setBit_eq_put_or_self o b on s <;> rw [e]
  · exact beside
  · exact put s v ho

theorem ite {c : Prop} [Decidable c] (ht : StoresAt touched s t) (hu : StoresAt touched s u) : StoresAt touched s (if c then t else u) := by
  split
  · exact ht
  · exact hu

/-- Where nothing is owed, every other object reads as before once the command is over, -/
theorem get_settle (w : StoresAt touched s t) (h : s.Canonical) (q : t.Quiet) (hr : InRange o) (ho : ¬ touched o.key) :
    (settle t).get o = s.get o := by
  have rising := Canonical.rising h
  have found := w.find rising _ ho
  have settled : settle t = t.tidy := by rw [settle, work_quiet q.1, q.2, work_quiet q.1]
  rw [settled, get_tidy (w.rising rising) hr, State.get, State.get, found, w.variant]
  intro x hx
  rw [w.variant]
  exact heldBy_of_canonical h hr (found ▸ hx)

/-- and every byte of memory. -/
theorem readByte_settle (w : StoresAt touched s t) (h : s.Canonical) (q : t.Quiet) (a : Nat) : (settle t).readByte a = s.readByte a := by
  have settled : settle t = t.tidy := by rw [settle, work_quiet q.1, q.2, work_quiet q.1]
  have mem : t.tidy.ram = s.ram := by
    rw [← w.ram]
    exact rebuild_of_wfBy (d := fun _ => ramDefault) (g := fun _ v => v) (w.ram ▸ h.2) fun _ _ => rfl
  rw [State.readByte, settled, mem, State.readByte]

end StoresAt

/-- An object that was put last holds its value once the command is over, where its type holds it whole. -/
theorem get_settle_put {s t : State} {touched : Nat → Prop} {o : Obj} {v : Nat} (h : s.regs.risingFrom 0 = true) (w : StoresAt touched (s.put o v) t)
    (ho : ¬ touched o.key) (q : t.Quiet) (hr : InRange o) (hv : v < 2 ^ 64)
    (hfits : heldBy s.variant o (BitVec.ofNat 64 v) = BitVec.ofNat 64 v) : (settle t).get o = v := by
  have rising := put_rising h o v
  have found : t.regs.find o.key = _ := (w.find rising _ ho).trans (find_write_self h _ _ _)
  have settled : settle t = t.tidy := by rw [settle, work_quiet q.1, q.2, work_quiet q.1]
  rw [settled, get_tidy (w.rising rising) hr]
  · rw [w.get rising ho, get_put_self h, Nat.mod_eq_of_lt hv]
  · intro x hx
    rw [found] at hx
    split at hx
    · cases hx
    · cases hx
      rw [w.variant]
      exact hfits

theorem key_ne {o o' : Obj} (hr : InRange o) (hr' : InRange o') (h : o ≠ o') : o.key ≠ o'.key :=
  fun e => h (by rw [← ofKey_key hr.1 hr.2, ← ofKey_key hr'.1 hr'.2, e])

/-! ## The error record (R49) -/

/-- A key of class 7F. -/
def inRecord (k : Nat) : Prop := k / 0x100 % 0x100 = 0x7F

theorem inRecord_key {i m : Nat} (hm : m < 256) : inRecord (⟨0x7F, i, m⟩ : Obj).key := by
  simp only [inRecord, Obj.key]
  omega

theorem not_inRecord_key {o : Obj} (hr : InRange o) (h : o.cls ≠ 0x7F) : ¬ inRecord o.key := by
  obtain ⟨hc, hm⟩ := hr
  simp only [inRecord, Obj.key]
  omega

/-- What a served access leaves beside its effect is its record alone. -/
theorem acknowledged_storesAt {touched : Nat → Prop} (ht : ∀ k, inRecord k → touched k) (s : State) (ifc : Iface) (o : Obj) :
    StoresAt touched s (s.acknowledged ifc o) := by
  have after : StoresAt touched s (s.afterAccess ifc o stOk) := by
    unfold State.afterAccess
    split
    · rw [if_pos rfl]
      exact .beside
    · exact .ite .beside .beside
    · exact .beside
  have logged : StoresAt touched s (s.logAccess ifc o stOk) := by
    unfold State.logAccess
    refine after.trans ?_
    split
    · exact .beside
    · exact .ite .beside ((StoresAt.put _ _ (ht _ (inRecord_key (by decide)))).trans (.put _ _ (ht _ (inRecord_key (by decide)))))
  exact logged.trans (.ite .beside .beside)

/-! ## What a type holds whole -/

/-- A number that a type's bits hold is held whole; an S32 extends its sign. -/
theorem held_of_lt {t : Ty} {x : Nat} (ht : t ≠ .s32) (hx : x < 2 ^ t.bits) : t.held (BitVec.ofNat 64 x) = BitVec.ofNat 64 x := by
  have le : t.bits ≤ 64 := by cases t <;> simp [Ty.bits]
  have lt : x < 2 ^ 64 := Nat.lt_of_lt_of_le hx (Nat.pow_le_pow_right (by decide) le)
  have whole : ((BitVec.ofNat 64 x).setWidth t.bits).setWidth 64 = BitVec.ofNat 64 x := by
    apply BitVec.eq_of_toNat_eq
    simp only [BitVec.toNat_setWidth, BitVec.toNat_ofNat, Nat.mod_eq_of_lt lt, Nat.mod_eq_of_lt hx]
  cases t with
  | s32 => exact absurd rfl ht
  | _ => exact whole

theorem heldBy_of_row {v : Variant} {o : Obj} {x : Nat} {r : Row} (hr : rowOfSlot v o = none ∨ rowOfSlot v o = some r) (ht : r.ty ≠ .s32)
    (hx : x < 2 ^ r.ty.bits) : heldBy v o (BitVec.ofNat 64 x) = BitVec.ofNat 64 x := by
  rcases hr with hr | hr <;> rw [heldBy, hr]
  exact held_of_lt ht hx

theorem heldBy_sqReg {v : Variant} {n k x : Nat} (hk : k < 8) (hx : x < 2 ^ 32) : heldBy v (O.SQ_REG n k) (BitVec.ofNat 64 x) = BitVec.ofNat 64 x := by
  have row : ∀ k, k < 8 → tableR398.find? (Row.holdsSlot (0x18 + k)) = tableR398[16]? := by decide
  refine heldBy_of_row (r := tableR398[16]) ?_ (by decide) hx
  by_cases hn : n < 8 * v.dies ∨ 0x40 ≤ n ∧ n ≤ 0x43
  · exact .inr ((congrArg (List.find? _) (if_pos hn)).trans (row k hk))
  · exact .inl (congrArg (List.find? _) (if_neg hn))

theorem tableOf_tenantCounters {v : Variant} {n : Nat} (hn : n < 1024) : tableOf v 0x48 (0x400 + n) = tableR484 := by
  have : v.dies ≤ 8 := by cases v <;> decide
  simp only [tableOf]
  rw [if_neg (by omega), if_neg (by omega), if_pos (by omega)]

theorem heldBy_userRead {v : Variant} {n x : Nat} (hn : n < 1024) (hx : x < 2) : heldBy v (O.USER_READ n) (BitVec.ofNat 64 x) = BitVec.ofNat 64 x := by
  have row : tableR484.find? (Row.holdsSlot 0x22) = some tableR484[5] := by decide
  refine heldBy_of_row (r := tableR484[5]) (.inr ?_) (by decide) hx
  rw [rowOfSlot, O.USER_READ, tableOf_tenantCounters hn]
  exact row

/-! ## DBG_CLOSE and USER_READ as writes (R449, R481) -/

theorem writeOne_dbgClose {s : State} {ifc : Iface} (h : s.servesWrite ifc O.DBG_CLOSE 1 = true) :
    writeOne ifc O.DBG_CLOSE 1 s = .next (settle ((s.put O.DBG_LEVEL 0).acknowledged ifc O.DBG_CLOSE)) :=
  writeOne_system (by decide) (by decide) (fun _ => rfl) rfl h

theorem effectUnits_userRead (s : State) (n v : Nat) : s.effectUnits (O.USER_READ n) v = s.put (O.USER_READ n) v := by
  have tenant : 0x400 ≤ 0x400 + n := Nat.le_add_right ..
  exact if_pos tenant

theorem writeOne_userRead {s : State} {ifc : Iface} {n v : Nat} (h : s.servesWrite ifc (O.USER_READ n) v = true) :
    writeOne ifc (O.USER_READ n) v s = .next (settle ((s.put (O.USER_READ n) v).acknowledged ifc (O.USER_READ n))) :=
  writeOne_units (by decide) (by decide) (fun _ => rfl) (effectUnits_userRead s n v) h

/-- A value that a served write brings fits the type of its object. -/
theorem fits_of_servesWrite {s : State} {ifc : Iface} {o : Obj} {v : Nat} {r : Row} (h : s.servesWrite ifc o v = true)
    (hr : rowOf s.variant o = some r) : s.valueOk o r 0 v = true := by
  simp only [State.servesWrite, State.reachesOwner, Bool.and_eq_true, beq_iff_eq] at h
  obtain ⟨⟨⟨-, check⟩, -⟩, -⟩ := h
  by_cases hst : s.writeStatus ifc o = stOk
  · rw [State.writeCheck, if_neg (not_not_intro hst), hr] at check
    by_contra hv
    rw [Bool.not_eq_true] at hv
    simp [hv, stOk, stBadValue] at check
  · rw [State.writeCheck, if_pos hst] at check
    exact absurd check hst

theorem userRead_lt {s : State} {ifc : Iface} {n v : Nat} (hn : n < 1024) (h : s.servesWrite ifc (O.USER_READ n) v = true) : v < 2 := by
  have member : tableR484.find? (Row.holds 0x22) = some tableR484[5] := by decide
  have row : rowOf s.variant (O.USER_READ n) = some tableR484[5] := by
    rw [rowOf, O.USER_READ, tableOf_tenantCounters hn]
    exact member
  have fits : (Ty.bool.fits v && _ && _) = true := fits_of_servesWrite h row
  simp only [Bool.and_eq_true] at fits
  exact of_decide_eq_true fits.1.1

/-! ## Arithmetic of a sequencer (R386) -/

section Arithmetic
variable {s : State} {n op : Nat} {x : SqIns} (h : s.Canonical) (hx : s.sqNext n op = some x) (hpc : s.get (O.SQ_PC n) < 1023)

theorem rd_lt_of_next {s : State} {n op : Nat} {x : SqIns} (hx : s.sqNext n op = some x) : x.rd < 8 := by
  simp only [State.sqNext] at hx
  split at hx
  · cases hx
    exact Nat.mod_lt _ (by decide)
  · cases hx

include h hx hpc in
/-- An arithmetic instruction writes its register and SQ_PC, and nothing else that reads. -/
theorem sqAlu_frame {c : Instr} {f : State → SqIns → Nat} {m : Nat} (hc : exec c s = .next (settle (s.sqAlu n op f))) (q : (s.sqAlu n op f).Quiet)
    (hm : f s x % 2 ^ 32 = m) :
    ∃ t, exec c s = .next t ∧ t.sqReg n x.rd = m ∧ (∀ a, t.readByte a = s.readByte a) ∧
      (∀ o : Obj, o.cls < 256 → o.mem < 256 → o ≠ O.SQ_REG n x.rd → o ≠ O.SQ_PC n → t.get o = s.get o) := by
  have rd_lt := rd_lt_of_next hx
  have regIn : InRange (O.SQ_REG n x.rd) := ⟨by simp only [O.SQ_REG]; decide, by simp only [O.SQ_REG]; omega⟩
  have apart : O.SQ_REG n x.rd ≠ O.SQ_PC n := by simp only [O.SQ_REG, O.SQ_PC, ne_eq, Obj.mk.injEq]; omega
  subst hm
  have pc : ((s.sqStep n).put (O.SQ_REG n x.rd) (f s x % 2 ^ 32)).get (O.SQ_PC n) = s.get (O.SQ_PC n) :=
    get_put_ne (Canonical.rising h) _ (key_ne inRange regIn apart.symm)
  have alu : s.sqAlu n op f = ((s.sqStep n).put (O.SQ_REG n x.rd) (f s x % 2 ^ 32)).put (O.SQ_PC n) (s.get (O.SQ_PC n) + 1) := by
    rw [sqAlu_of_next hx, sqGoOn_inside (by rw [pc]; omega), pc]
  rw [alu] at hc q
  have lt := Nat.mod_lt (f s x) (show 0 < 2 ^ 32 by decide)
  have writes : StoresAt (fun k => k = (O.SQ_REG n x.rd).key ∨ k = (O.SQ_PC n).key) s _ :=
    (StoresAt.beside (t := s.sqStep n)).trans ((StoresAt.put _ (f s x % 2 ^ 32) (.inl rfl)).trans (.put _ (s.get (O.SQ_PC n) + 1) (.inr rfl)))
  refine ⟨_, hc, ?_, writes.readByte_settle h q, fun o oc om ho ho' => writes.get_settle h q ⟨oc, om⟩ ?_⟩
  · exact get_settle_put (s := s.sqStep n) (touched := (· = (O.SQ_PC n).key)) (Canonical.rising h) (.put _ _ rfl)
      (key_ne regIn inRange apart) q regIn (by omega) (heldBy_sqReg rd_lt lt)
  · exact not_or.2 ⟨key_ne ⟨oc, om⟩ regIn ho, key_ne ⟨oc, om⟩ inRange ho'⟩

end Arithmetic

/-- The sequencer once CMP has set its three flags. -/
def compared (s : State) (n : Nat) (x : SqIns) : State :=
  (((s.sqStep n).setBit (O.SQ_FLAGS n) 0 (s.sqReg n x.ra == s.sqOp2 n x)).setBit (O.SQ_FLAGS n) 1
    (decide (s.sqReg n x.ra < s.sqOp2 n x))).setBit (O.SQ_FLAGS n) 2 (decide (toS32 (s.sqReg n x.ra) < toS32 (s.sqOp2 n x)))

theorem compared_storesAt (s : State) (n : Nat) (x : SqIns) : StoresAt (· = (O.SQ_FLAGS n).key) s (compared s n x) := by
  have step : StoresAt (· = (O.SQ_FLAGS n).key) s (s.sqStep n) := .beside
  have flag : ∀ t b on, StoresAt (· = (O.SQ_FLAGS n).key) t (t.setBit (O.SQ_FLAGS n) b on) := fun t b on => .setBit t b on rfl
  exact step.trans ((flag _ _ _).trans ((flag _ _ _).trans (flag _ _ _)))

/-! ## The obligation -/

/-- Settles O11: each effect writes its objects alone, and the end of a command keeps what fits its type. -/
theorem objectFrames : Obligations.ObjectFrames := by
  refine ⟨?close, ?user, ?window, ?add, ?ldi, ?sub, ?and, ?or, ?cmp⟩
  case close =>
    intro s ifc h hserved q
    have record := acknowledged_storesAt (touched := fun k => inRecord k ∨ k = O.DBG_LEVEL.key) (fun _ => .inl) (s.put O.DBG_LEVEL 0) ifc O.DBG_CLOSE
    have writes := (StoresAt.put s 0 (.inr rfl)).trans record
    refine ⟨_, writeOne_dbgClose hserved, ?_, writes.readByte_settle h q, fun o oc om ho ho' => writes.get_settle h q ⟨oc, om⟩ ?_⟩
    · have level : ¬ inRecord O.DBG_LEVEL.key := not_inRecord_key inRange (by decide)
      refine get_settle_put (Canonical.rising h) (acknowledged_storesAt (fun _ => id) _ ifc O.DBG_CLOSE) level q inRange (by decide) ?_
      exact heldBy_of_row (r := tableR471[0]) (.inr rfl) (by decide) (by decide)
    · exact not_or.2 ⟨not_inRecord_key ⟨oc, om⟩ ho, key_ne ⟨oc, om⟩ inRange ho'⟩
  case user =>
    intro s ifc n b h hn hserved q
    have record := acknowledged_storesAt (touched := fun k => inRecord k ∨ k = (O.USER_READ n).key) (fun _ => .inl) (s.put (O.USER_READ n) b.toNat) ifc
      (O.USER_READ n)
    have writes := (StoresAt.put s b.toNat (.inr rfl)).trans record
    refine ⟨_, writeOne_userRead hserved, ?_, writes.readByte_settle h q, fun o oc om ho ho' => writes.get_settle h q ⟨oc, om⟩ ?_⟩
    · have page : ¬ inRecord (O.USER_READ n).key := not_inRecord_key inRange (by simp only [O.USER_READ]; decide)
      exact get_settle_put (Canonical.rising h) (acknowledged_storesAt (fun _ => id) _ ifc _) page q inRange b.isLt
        (heldBy_userRead hn (userRead_lt hn hserved))
    · exact not_or.2 ⟨not_inRecord_key ⟨oc, om⟩ ho, key_ne ⟨oc, om⟩ inRange ho'⟩
  case window =>
    intro s h q hst hdue
    have writes : StoresAt (· = O.FC_STATE.key) s (s.put O.FC_STATE 0) := .put s 0 rfl
    have closes : fxRecoveryWindowClose s = s.put O.FC_STATE 0 := if_pos ⟨hst, hdue⟩
    refine ⟨_, done_eq closes, ?_, writes.readByte_settle h q, fun o oc om ho => writes.get_settle h q ⟨oc, om⟩ (key_ne ⟨oc, om⟩ inRange ho)⟩
    exact get_settle_put (touched := fun _ => False) (Canonical.rising h) .beside id q inRange (by decide)
      (heldBy_of_row (r := tableR421[0]) (.inr rfl) (by decide) (by decide))
  case add | sub | and | or =>
    intro s n x h hn hx hpc q
    exact sqAlu_frame h hx hpc (onUnit_seqExists hn rfl) q rfl
  case ldi =>
    intro s n x h hn hx hpc q
    exact sqAlu_frame h hx hpc (onUnit_seqExists hn rfl) q rfl
  case cmp =>
    intro s n x h hn hx hpc q
    have flags := compared_storesAt s n x
    have pc := flags.get (Canonical.rising h) (o := O.SQ_PC n) (key_ne inRange inRange (by simp [O.SQ_PC, O.SQ_FLAGS]))
    have cmp : fxCmp n s = (compared s n x).put (O.SQ_PC n) ((compared s n x).get (O.SQ_PC n) + 1) :=
      (fxCmp_of_next hx).trans (sqGoOn_inside (pc.trans_ne (by omega)))
    rw [cmp] at q
    have writes : StoresAt (fun k => k = (O.SQ_FLAGS n).key ∨ k = (O.SQ_PC n).key) s
        ((compared s n x).put (O.SQ_PC n) ((compared s n x).get (O.SQ_PC n) + 1)) := (flags.mono fun _ => .inl).trans (.put _ _ (.inr rfl))
    exact ⟨_, onUnit_seqExists hn cmp, writes.readByte_settle h q,
      fun o oc om ho ho' => writes.get_settle h q ⟨oc, om⟩ (not_or.2 ⟨key_ne ⟨oc, om⟩ inRange ho, key_ne ⟨oc, om⟩ inRange ho'⟩)⟩

/-! ## A debug access to memory (R451, R452, R455) -/

section WriteBytes
variable {s : State}

/-- Bytes written one after the other leave every byte outside their range, -/
theorem readByte_writeBytesFrom_outside (bs : List Byte) (a i : Nat) {b : Nat} (h : Memory.wf s.ram = true) (hb : b < a + i ∨ a + i + bs.length ≤ b) :
    (forEach (bs.zipIdx i) (fun p s => s.writeByte (a + p.2) p.1) s).readByte b = s.readByte b := by
  induction bs generalizing i s with
  | nil => rfl
  | cons c r ih =>
    simp only [List.length_cons] at hb
    exact (ih (i + 1) (writeByte_wf h _ c) (by omega)).trans (readByte_writeByte_ne h c (by omega))

/-- and stand in it in their order. -/
theorem readByte_writeBytesFrom (bs : List Byte) (a i : Nat) {k : Nat} (h : Memory.wf s.ram = true) (hk : k < bs.length) :
    (forEach (bs.zipIdx i) (fun p s => s.writeByte (a + p.2) p.1) s).readByte (a + i + k) = bs[k] := by
  induction bs generalizing i k s with
  | nil => cases hk
  | cons c r ih =>
    cases k with
    | zero => exact (readByte_writeBytesFrom_outside r a (i + 1) (writeByte_wf h _ c) (.inl (by omega))).trans (readByte_writeByte_self h _ c)
    | succ k =>
      rw [show a + i + (k + 1) = a + (i + 1) + k by omega]
      exact ih (i + 1) (writeByte_wf h _ c) (Nat.lt_of_succ_lt_succ hk)

theorem readByte_writeBytes_outside {bs : List Byte} {a b : Nat} (h : Memory.wf s.ram = true) (hb : b < a ∨ a + bs.length ≤ b) :
    (s.writeBytes a bs).readByte b = s.readByte b :=
  readByte_writeBytesFrom_outside bs a 0 h hb

theorem readByte_writeBytes {bs : List Byte} {a k : Nat} (h : Memory.wf s.ram = true) (hk : k < bs.length) :
    (s.writeBytes a bs).readByte (a + k) = bs[k] :=
  readByte_writeBytesFrom bs a 0 h hk

@[simp] theorem writeBytes_regs (s : State) (a : Nat) (bs : List Byte) : (s.writeBytes a bs).regs = s.regs :=
  forEach_keeps (P := fun t => t.regs = s.regs) (f := fun (p : Byte × Nat) s => s.writeByte (a + p.2) p.1) (fun _ _ h => h) _ _ rfl

@[simp] theorem writeBytes_variant (s : State) (a : Nat) (bs : List Byte) : (s.writeBytes a bs).variant = s.variant :=
  forEach_keeps (P := fun t => t.variant = s.variant) (f := fun (p : Byte × Nat) s => s.writeByte (a + p.2) p.1) (fun _ _ h => h) _ _ rfl

@[simp] theorem length_bytesOf (v n : Nat) : (bytesOf v n).length = n := by
  rw [bytesOf, List.length_map, List.length_range]

theorem getElem_bytesOf {v n k : Nat} (hk : k < (bytesOf v n).length) : (bytesOf v n)[k] = BitVec.ofNat 8 (v / 2 ^ (8 * k)) := by
  simp only [bytesOf, List.getElem_map, List.getElem_range]
  rw [show (256 : Nat) = 2 ^ 8 by rfl, ← Nat.pow_mul]

end WriteBytes

@[simp] theorem debugDone_readByte (s : State) (st data a : Nat) : (s.debugDone st data).readByte a = s.readByte a := rfl
@[simp] theorem debugDone_get (s : State) (st data : Nat) (o : Obj) : (s.debugDone st data).get o = s.get o := rfl

theorem debugDone_canonical {s : State} (h : s.Canonical) (st data : Nat) : (s.debugDone st data).Canonical := h

theorem writeBytes_canonical {s : State} (h : s.Canonical) (a : Nat) (bs : List Byte) : (s.writeBytes a bs).Canonical := by
  refine ⟨?_, writeBytes_wf h.2 a bs⟩
  rw [State.regsWf, writeBytes_regs, writeBytes_variant]
  exact h.1

section DebugAccess
variable {s : State} {a : Nat} (hready : s.debugReady = true) (halign : a % 8 = 0) (hlt : a < 2 ^ 64) (hdict : spaceOf a ≠ spDict)
  (hfabric : spaceOf a ≠ spFabric)
include hready halign hlt hdict hfabric

theorem fxDbgWrite_memory (hst : s.debugStatus a true = stOk) (v : Nat) :
    fxDbgWrite a v s = (s.writeBytes (debugMemory a) (bytesOf v 8)).debugDone stOk 0 := by
  have form : ¬ (a % 8 ≠ 0 ∨ 2 ^ 64 ≤ a) := by omega
  rw [fxDbgWrite, hready, if_neg (by decide), if_neg form]
  simp only [hst, ne_eq, not_true_eq_false, if_false, if_neg hdict, if_neg hfabric]

theorem fxDbgRead_memory (hst : s.debugStatus a false = stOk) :
    fxDbgRead a s = s.debugDone stOk (ofBytes (s.readBytes (debugMemory a) 8)) := by
  have form : ¬ (a % 8 ≠ 0 ∨ 2 ^ 64 ≤ a) := by omega
  rw [fxDbgRead, hready, if_neg (by decide), if_neg form]
  simp only [hst, ne_eq, not_true_eq_false, if_false, if_neg hdict, if_neg hfabric]

end DebugAccess

/-- Settles O12: a write leaves its bytes in the memory alone, a read its answer, and neither the store. -/
theorem memoryFrames : Obligations.MemoryFrames := by
  refine ⟨?write, ?read⟩
  case write =>
    intro s a v h hready halign hst hdict hfabric q
    refine ⟨_, done_eq (fxDbgWrite_memory hready halign a.isLt hdict hfabric hst v.toNat), ?_, ?_, ?_⟩ <;>
      rw [settle_of_quiet q (debugDone_canonical (writeBytes_canonical h _ _) _ _)]
    · intro k hk
      rw [debugDone_readByte, readByte_writeBytes h.2 (by rwa [length_bytesOf]), getElem_bytesOf]
    · intro b hb
      rw [debugDone_readByte, readByte_writeBytes_outside h.2 (by rwa [length_bytesOf])]
    · intro o
      rw [debugDone_get, get_of_store (writeBytes_regs ..) (writeBytes_variant ..)]
  case read =>
    intro s a h hready halign hst hdict hfabric q
    refine ⟨_, done_eq (fxDbgRead_memory hready halign a.isLt hdict hfabric hst), ?_, ?_⟩ <;> rw [settle_of_quiet q (debugDone_canonical h _ _)]
    · exact fun b => debugDone_readByte ..
    · exact fun o => debugDone_get ..

end Sys2Proof.Proofs
end

section
/-! PROOFS. What SAFE accepts, and what the security states permit (obligations of 16_faults_and_retirement.md and
18_security_debug_protection.md). -/
namespace Sys2Proof.Proofs
open Sys2Proof Sys2Proof.Machine Sys2Proof.Laws
set_option Elab.async false

/-! ## Checks 4 and 5 of a write in SAFE (R419) -/

section SafeMode
variable {s : State} {ifc : Iface} {o : Obj} {r : Row} (hsafe : s.mode = mSafe)

theorem safeClass_iff {c : Nat} : safeClass c = true ↔ c ∈ [0x02, 0x03, 0x05, 0x14, 0x40, 0x41, 0x50, 0x51, 0x7F, 0x7E] := by
  simp only [safeClass, List.contains_eq_mem, decide_eq_true_eq, List.mem_cons, List.not_mem_nil, or_false]
  omega

include hsafe in
/-- Outside the listed classes every check that an object could meet first answers BUSY too. -/
theorem openStatus_safe_refuses (hcls : safeClass o.cls = false) (hacc : r.acc ≠ .w1c) : s.openStatus o r = stBusy := by
  rw [State.openStatus]
  split
  · rfl
  · split
    · rfl
    · exact if_pos ⟨hsafe, hcls, hacc⟩

theorem openStatus_safe_accepts (hserves : s.servesObj o = true) (hconfig : r.config = false) (hkept : s.objRetired o = false)
    (h : safeClass o.cls = true ∨ r.acc = .w1c) : s.openStatus o r = stOk := by
  have permitted : ¬ (s.mode = mSafe ∧ safeClass o.cls = false ∧ r.acc ≠ .w1c) := by
    rintro ⟨-, hcls, hacc⟩
    exact h.elim (fun hc => Bool.false_ne_true (hcls.symm.trans hc)) hacc
  rw [State.openStatus, hserves, hconfig, hkept, if_neg (by decide), if_neg (fun c => Bool.false_ne_true c.1), if_neg permitted, if_neg (by decide)]

/-- With the right to an object that may be written, its checks 4 and 5 decide. -/
theorem writeStatus_opens (hr : rowOf s.variant o = some r) (hright : 2 ≤ s.rightTo ifc o r) (hallowed : s.writeAllowed ifc o r = stOk) :
    s.writeStatus ifc o = s.openStatus o r := by
  rw [State.writeStatus, hr]
  simp only [if_neg (Nat.not_lt.2 hright), hallowed, ne_eq, not_true_eq_false, if_false]

end SafeMode

theorem dpStartStatus_safe {s : State} (hsafe : s.mode = mSafe) (x : Nat) : (s.dpStartStatus x dpLoad).1 = stBusy := by
  rw [State.dpStartStatus, if_pos (.inr ⟨hsafe, rfl⟩)]

/-- Settles O7: in SAFE a write that may reach its object is answered by checks 4 and 5. -/
theorem safeModeWrites : Obligations.SafeModeWrites := by
  refine ⟨?refused, ?accepted, fun s x _ hsafe _ _ _ _ _ _ _ => dpStartStatus_safe hsafe x⟩
  case refused =>
    intro s ifc o r form vs hsafe hr hright hallowed hgate hcls hacc
    have notSafe : safeClass o.cls = false := Bool.eq_false_iff.2 fun h => hcls (safeClass_iff.1 h)
    have busy : s.writeStatus ifc o = stBusy := (writeStatus_opens hr hright hallowed).trans (openStatus_safe_refuses hsafe notSafe hacc)
    have check : s.writeCheck ifc o form vs = stBusy := by
      rw [State.writeCheck, busy, if_pos (by decide)]
    rw [writeObj_refused hgate (by rw [check]; decide), check]
  case accepted =>
    intro s ifc o r _ hr hright hallowed hserves hconfig hkept h
    exact (writeStatus_opens hr hright hallowed).trans (openStatus_safe_accepts hserves hconfig hkept (h.imp_left safeClass_iff.2))

/-! ## Credentials (R448) -/

section Credentials
variable {s : State} {l c : Nat} (hlow : 1 ≤ l) (hhigh : l ≤ 3) (hc : c ≤ 2) (hmax : l ≤ s.get O.DBG_MAX_LEVEL)
  (hopen : s.get O.DBG_LOCKOUT_UNTIL ≤ s.now 0)
include hlow hhigh hc hmax hopen

/-- A request that is not locked out and whose level is in range is answered by its credential, and then by its proof. -/
theorem authStatus_in_range : s.authStatus (l + 256 * c) =
    if s.credentialOk l c then (if s.get O.SEC_STATE ≠ secManufacture ∧ s.debugProof l c = false then stProtection else stOk) else stDenied := by
  have level : (l + 256 * c) % 256 = l := by omega
  have cred : (l + 256 * c) / 256 % 256 = c := by omega
  rw [State.authStatus, level, cred, if_neg (Nat.not_lt.2 hopen), if_neg (by omega)]
  cases s.credentialOk l c <;> rfl

/-- In MANUFACTURE no signature is checked. -/
theorem authStatus_manufacture (hst : s.get O.SEC_STATE = secManufacture) : s.authStatus (l + 256 * c) = if c = 0 then stOk else stDenied := by
  have permitted : s.credentialOk l c = (c == 0) := by rw [State.credentialOk, if_pos hst]
  rw [authStatus_in_range hlow hhigh hc hmax hopen, permitted]
  simp only [hst, ne_eq, not_true_eq_false, false_and, if_false, beq_iff_eq]

/-- In the other states a permitted credential is answered by its proof. -/
theorem authStatus_proof (hst : s.get O.SEC_STATE ≠ secManufacture) : s.authStatus (l + 256 * c) =
    if s.credentialOk l c then (if s.debugProof l c = true then stOk else stProtection) else stDenied := by
  rw [authStatus_in_range hlow hhigh hc hmax hopen]
  cases s.debugProof l c <;> simp [hst]

theorem authStatus_secured (hst : s.get O.SEC_STATE = secSecured) : s.authStatus (l + 256 * c) =
    if c = 1 ∨ (c = 2 ∧ l = 1) then (if s.debugProof l c = true then stOk else stProtection) else stDenied := by
  have permitted : s.credentialOk l c = true ↔ c = 1 ∨ (c = 2 ∧ l = 1) := by
    rw [State.credentialOk, if_neg (by rw [hst]; decide), if_pos hst]
    simp only [Bool.or_eq_true, Bool.and_eq_true, beq_iff_eq, decide_eq_true_eq]
    omega
  rw [authStatus_proof hlow hhigh hc hmax hopen (by rw [hst]; decide)]
  simp only [permitted]

theorem authStatus_rma (hst : s.get O.SEC_STATE = secRma) : s.authStatus (l + 256 * c) =
    if c = 2 then (if s.debugProof l c = true then stOk else stProtection) else stDenied := by
  have permitted : s.credentialOk l c = (c == 2) := by
    rw [State.credentialOk, if_neg (by rw [hst]; decide), if_neg (by rw [hst]; decide)]
  rw [authStatus_proof hlow hhigh hc hmax hopen (by rw [hst]; decide), permitted]
  simp only [beq_iff_eq]

end Credentials

/-- Settles O8: each security state by the credentials that it permits. -/
theorem permittedCredentials : Obligations.PermittedCredentials :=
  ⟨fun _ _ _ hlow hhigh hc hmax hopen hst => authStatus_manufacture hlow hhigh hc hmax hopen hst,
   fun _ _ _ hlow hhigh hc hmax hopen hst => authStatus_secured hlow hhigh hc hmax hopen hst,
   fun _ _ _ hlow hhigh hc hmax hopen hst => authStatus_rma hlow hhigh hc hmax hopen hst⟩

end Sys2Proof.Proofs
end

section
/-! PROOFS. Resets, clocks and operating modes (the obligations of 17_reset_clocks_modes.md). -/
namespace Sys2Proof.Proofs
open Sys2Proof Sys2Proof.Machine Sys2Proof.Laws
set_option Elab.async false

/-! ## Requests of a mode (R436, R437) -/

/-- A request accepted for a mode other than LINKUP has recorded nothing. -/
theorem modeRequestStatus_state {s : State} {v : Nat} (hv : requested v ≠ mLinkup) : (s.modeRequestStatus v).2 = s := by
  simp only [State.modeRequestStatus, hv, if_false, apply_ite Prod.snd, ite_self]

/-- An accepted request of LINKUP has recorded the layout that it checked (R108). -/
theorem modeRequestStatus_linkup {s : State} (hcur : s.isCurrent mLinkup = false) (hok : (s.modeRequestStatus mLinkup).1 = stOk) :
    (s.modeRequestStatus mLinkup).2 = s.recordLayout := by
  have busy : stBusy ≠ stOk := by decide
  have bad : stBadValue ≠ stOk := by decide
  have named : requested mLinkup = mLinkup := by decide
  simp only [State.modeRequestStatus, hcur, named] at hok ⊢
  split_ifs at hok ⊢ <;> simp_all

theorem modeRequestStatus_of_served {s : State} {ifc : Iface} {v : Nat} (h : s.servesWrite ifc O.MODE_REQUEST v = true) :
    (s.modeRequestStatus v).1 = stOk := by
  have hok := ownerStatus_of_servesWrite h
  rw [show s.ownerStatus ifc O.MODE_REQUEST v = s.ownerSystem ifc O.MODE_REQUEST v from ownerStatus_system (by decide) hok] at hok
  exact hok

theorem writeOne_modeRequest {s u : State} {ifc : Iface} {v : Nat} (hu : fxModeRequest v (s.modeRequestStatus v).2 = u)
    (h : s.servesWrite ifc O.MODE_REQUEST v = true) :
    writeOne ifc O.MODE_REQUEST v s = .next (settle (u.acknowledged ifc O.MODE_REQUEST)) := by
  refine writeOne_effect h fun r hr => ?_
  rw [ownerStatus_system (by decide) (ownerStatus_of_servesWrite h)]
  have state : (s.ownerSystem ifc O.MODE_REQUEST v).2 = (s.modeRequestStatus v).2 := if_pos (modeRequestStatus_of_served h)
  rw [state, State.effect, if_neg (acc_ne_w1c_of_neverW1c (by decide) hr)]
  exact hu

theorem isCurrent_congr {s t : State} (h : t.mode = s.mode) (v : Nat) : t.isCurrent v = s.isCurrent v := by
  rw [State.isCurrent, State.isCurrent, h]

theorem mode_put_status {s : State} (h : s.regs.risingFrom 0 = true) (st : Nat) : (s.put O.MODE_STATUS st).mode = s.mode :=
  get_put_ne h _ (by decide)

/-- A request for another mode waits for its tick; one for the current mode changes nothing but MODE_STATUS. -/
theorem fxModeRequest_eq {s : State} (h : s.regs.risingFrom 0 = true) (v : Nat) : fxModeRequest v s =
    if s.isCurrent v then s.put O.MODE_STATUS stOk
    else (s.put O.MODE_STATUS stOk).setRst (fun r => { r with pendingMode := some (requested v), pendingAt := s.elapsed 0 }) := by
  rw [fxModeRequest, isCurrent_congr (mode_put_status h stOk)]
  rfl

theorem recordLayout_keeps {s : State} (h : s.regs.risingFrom 0 = true) :
    s.recordLayout.regs.risingFrom 0 = true ∧ s.recordLayout.mode = s.mode ∧ s.recordLayout.elapsed 0 = s.elapsed 0 := by
  have two (p r : Nat) : ((s.put O.LAYOUT_ERROR p).put O.LAYOUT_RULE r).mode = s.mode :=
    (get_put_ne (put_rising h _ _) _ (by decide)).trans (get_put_ne h _ (by decide))
  rw [State.recordLayout]
  split
  · exact ⟨put_rising (put_rising h _ _) _ _, two _ _, rfl⟩
  · exact ⟨put_rising (put_rising h _ _) _ _, two _ _, rfl⟩

section ModeRequest
variable {s : State} {ifc : Iface} {v : Nat} (hcanon : s.Canonical) (h : s.servesWrite ifc O.MODE_REQUEST v = true)
include hcanon h

/-- A served request of a mode other than LINKUP that is not the current one. -/
theorem writeOne_modeRequest_other (hv : requested v ≠ mLinkup) (hcur : s.isCurrent v = false) :
    writeOne ifc O.MODE_REQUEST v s = .next (settle (((s.put O.MODE_STATUS stOk).setRst
      (fun r => { r with pendingMode := some (requested v), pendingAt := s.elapsed 0 })).acknowledged ifc O.MODE_REQUEST)) :=
  writeOne_modeRequest (by rw [modeRequestStatus_state hv, fxModeRequest_eq (Canonical.rising hcanon), hcur, if_neg Bool.false_ne_true]) h

theorem writeOne_modeRequest_current (hv : requested v ≠ mLinkup) (hcur : s.isCurrent v = true) :
    writeOne ifc O.MODE_REQUEST v s = .next (settle ((s.put O.MODE_STATUS stOk).acknowledged ifc O.MODE_REQUEST)) :=
  writeOne_modeRequest (by rw [modeRequestStatus_state hv, fxModeRequest_eq (Canonical.rising hcanon), hcur, if_pos rfl]) h

end ModeRequest

theorem writeOne_modeRequest_linkup {s : State} {ifc : Iface} (hcanon : s.Canonical) (h : s.servesWrite ifc O.MODE_REQUEST mLinkup = true)
    (hcur : s.isCurrent mLinkup = false) : writeOne ifc O.MODE_REQUEST mLinkup s = .next (settle (((s.recordLayout.put O.MODE_STATUS stOk).setRst
      (fun r => { r with pendingMode := some mLinkup, pendingAt := s.elapsed 0 })).acknowledged ifc O.MODE_REQUEST)) := by
  obtain ⟨rising, mode, now⟩ := recordLayout_keeps (Canonical.rising hcanon)
  have named : requested mLinkup = mLinkup := by decide
  refine writeOne_modeRequest ?_ h
  rw [modeRequestStatus_linkup hcur (modeRequestStatus_of_served h), fxModeRequest_eq rising, isCurrent_congr mode, hcur,
    if_neg Bool.false_ne_true, named, now]

/-- RUN or DEGRADED asked for stands for RUN. -/
theorem requested_run (degraded : Bool) : requested (if degraded then mDegraded else mRun) = mRun := by
  cases degraded <;> decide

theorem isCurrent_run {s : State} {v : Nat} (hv : requested v = mRun) : s.isCurrent v = (s.mode == mRun || s.mode == mDegraded) := by
  rw [State.isCurrent, hv, beq_self_eq_true, Bool.and_true]

/-- Settles O53: what a served request leaves is its check's record of the layout, MODE_STATUS, and the change that waits. -/
theorem modeRequests : Obligations.ModeRequests := by
  unfold Obligations.ModeRequests
  have run (degraded : Bool) : requested (if degraded then mDegraded else mRun) ≠ mLinkup := by
    rw [requested_run]
    decide
  refine ⟨?aux, ?init, ?config, ?linkup, ?run, ?running, ?runNc, ?drain, ?maint, ?update⟩
  case aux => exact fun s ifc hcanon h hcur => writeOne_modeRequest_other hcanon h (by decide) hcur
  case init => exact fun s ifc hcanon h hcur => writeOne_modeRequest_other hcanon h (by decide) hcur
  case config => exact fun s ifc hcanon h hcur => writeOne_modeRequest_other hcanon h (by decide) hcur
  case linkup => exact fun s ifc hcanon h hcur => writeOne_modeRequest_linkup hcanon h hcur
  case run =>
    intro s ifc degraded hcanon h hrun hdegraded
    have other : s.isCurrent (if degraded then mDegraded else mRun) = false := by simp [isCurrent_run (requested_run degraded), hrun, hdegraded]
    have served := writeOne_modeRequest_other hcanon h (run degraded) other
    rwa [requested_run] at served
  case running =>
    intro s ifc degraded hcanon h hrun
    exact writeOne_modeRequest_current hcanon h (run degraded) (by simp [isCurrent_run (requested_run degraded), hrun])
  case runNc => exact fun s ifc hcanon h hcur => writeOne_modeRequest_other hcanon h (by decide) hcur
  case drain => exact fun s ifc hcanon h hcur => writeOne_modeRequest_other hcanon h (by decide) hcur
  case maint => exact fun s ifc hcanon h hcur => writeOne_modeRequest_other hcanon h (by decide) hcur
  case update => exact fun s ifc hcanon h hcur => writeOne_modeRequest_other hcanon h (by decide) hcur

/-! ## Mode changes and the ends of INIT (R436, R437, R440) -/

/-- A write that is no default leaves the other objects as they were, whether the store's keys rise or not. -/
theorem get_put_of_ne_default {s : State} {o o' : Obj} {v : Nat} (hv : BitVec.ofNat 64 v ≠ BitVec.ofNat 64 (defaultOf s.variant o))
    (ne : o'.key ≠ o.key) : (s.put o v).get o' = s.get o' := by
  have kept : (s.put o v).regs.find o'.key = s.regs.find o'.key := by
    rw [State.put, Table.write, if_neg hv]
    exact find_place_ne _ _ ne
  rw [State.get, State.get, kept]
  rfl

/-- What is not LOCKED is not LOCKED in a state that shows the same TX_STATE. -/
theorem anyLocked_congr {s t : State} (h : ∀ x, t.get (O.TX_STATE x) = s.get (O.TX_STATE x)) : t.anyLocked = s.anyLocked := by
  simp only [State.anyLocked, h]

theorem anyLocked_put_sramRepairs {s : State} (h : s.regs.risingFrom 0 = true) (d v : Nat) : (s.put (O.SRAM_REPAIRS d) v).anyLocked = s.anyLocked :=
  anyLocked_congr fun x => get_put_ne h _ (key_ne inRange inRange (by simp [O.TX_STATE, O.SRAM_REPAIRS]))

theorem defaultOf_initStatus (v : Variant) : defaultOf v O.INIT_STATUS = 0 := by
  cases v <;> decide

theorem anyLocked_put_initStatus {s : State} {st : Nat} (hst : BitVec.ofNat 64 st ≠ 0#64) : (s.put O.INIT_STATUS st).anyLocked = s.anyLocked :=
  anyLocked_congr fun x => get_put_of_ne_default (by rwa [defaultOf_initStatus]) (key_ne inRange inRange (by simp [O.TX_STATE, O.INIT_STATUS]))

/-- Settles O54, by the rules of O60's proof: a failed INIT leaves what is LOCKED as it was. -/
theorem modeChanges : Obligations.ModeChanges := by
  unfold Obligations.ModeChanges
  refine ⟨?change, ?degraded, ?init, ?initEnd, ?timeout, ?tested, ?failed⟩
  case change =>
    intro s m hp hat hlocked hm hrun
    refine done_eq ((fxModeChange_due hp hat hlocked rfl).trans ?_)
    rw [if_neg hm, if_neg fun c => hrun.elim (absurd c.1) c.2]
  case degraded =>
    intro s hp hat hlocked hret
    refine done_eq ((fxModeChange_due hp hat hlocked rfl).trans ?_)
    rw [if_neg (by decide), if_pos ⟨rfl, hret⟩]
  case init =>
    intro s hp hat hlocked
    refine done_eq ((fxModeChange_due hp hat hlocked rfl).trans ?_)
    rw [if_pos rfl]
    rfl
  case initEnd => exact fun s hmode hlocked hdone => done_eq (fxInitEnd_ends hmode hlocked hdone)
  case timeout =>
    intro s hmode hlocked hat
    exact done_eq ((fxInitTimeout_fails hmode hat).trans (failInit_unlocked ((anyLocked_put_initStatus (by decide)).trans hlocked)))
  case tested =>
    intro s d repairs hd hinit hdata hdir htested hrepairs
    exact onUnit_hasDie hd (fxSramSelfTestEnd_records hinit hdata hdir htested hrepairs true)
  case failed =>
    intro s d repairs hd hinit hdata hdir htested hcanon hlocked hrepairs
    refine onUnit_hasDie hd ((fxSramSelfTestEnd_records hinit hdata hdir htested hrepairs false).trans (failInit_unlocked ?_))
    rw [anyLocked_put_initStatus (by decide), anyLocked_put_sramRepairs (Canonical.rising hcanon), hlocked]

/-! ## Commanded resets (R431, R432, R442) -/

theorem writeOne_pkgReset {s : State} {ifc : Iface} (h : s.servesWrite ifc O.PKG_RESET 0xA5A5 = true) :
    writeOne ifc O.PKG_RESET 0xA5A5 s = .next (settle ((fxPkgReset s).acknowledged ifc O.PKG_RESET)) :=
  writeOne_system (by decide) (by decide) (fun _ => rfl) rfl h

theorem writeOne_dieReset {s : State} {ifc : Iface} {d : Nat} (h : s.servesWrite ifc (O.DIE_RESET d) 0xA5A5 = true) :
    writeOne ifc (O.DIE_RESET d) 0xA5A5 s = .next (settle ((fxDieReset d s).acknowledged ifc (O.DIE_RESET d))) :=
  writeOne_system (by decide) (by decide) (fun _ => rfl) (congrArg (fxDieReset · s) (Nat.add_sub_cancel_left 1 d)) h

/-- A served BLOCK_RESET of one bit resets its block alone. -/
theorem writeOne_blockReset {s : State} {ifc : Iface} {d v b : Nat} (hb : hostsIn v = [b]) (h : s.servesWrite ifc (O.BLOCK_RESET d) v = true) :
    writeOne ifc (O.BLOCK_RESET d) v s = .next (settle ((s.blockReset d b).acknowledged ifc (O.BLOCK_RESET d))) := by
  refine writeOne_system (by decide) (by decide) (fun _ => rfl) ?_ h
  calc s.effectSystem (O.BLOCK_RESET d) v
    _ = fxBlockReset (1 + d - 1) v s := rfl
    _ = fxBlockReset d v s := by rw [Nat.add_sub_cancel_left]
    _ = s.blockReset d b := by rw [fxBlockReset, hb]; rfl

/-- Settles O51: each commanded reset writes an object whose owner only checks it. -/
theorem resetCommands : Obligations.ResetCommands := by
  unfold Obligations.ResetCommands
  refine ⟨?pkg, ?die, ?dieConfig, ?mover, ?capture, ?auditor, ?sequencers, ?counters, ?tileSequencers, ?countersLose, ?captureLoses, ?sequencersLose⟩
  case pkg => exact fun s ifc h => writeOne_pkgReset h
  case die =>
    intro s ifc d h hmode
    have served := writeOne_dieReset h
    rwa [fxDieReset, if_neg hmode] at served
  case dieConfig =>
    intro s ifc d h hmode
    have served := writeOne_dieReset h
    rwa [fxDieReset, if_pos hmode] at served
  case mover => exact fun s ifc d h => writeOne_blockReset (by decide) h
  case capture => exact fun s ifc d h => writeOne_blockReset (by decide) h
  case auditor => exact fun s ifc d h => writeOne_blockReset (by decide) h
  case sequencers => exact fun s ifc d h => writeOne_blockReset (by decide) h
  case counters => exact fun s ifc d h => writeOne_blockReset (by decide) h
  case tileSequencers => exact fun s ifc d h => writeOne_blockReset (by decide) h
  case countersLose => exact fun s d => rfl
  case captureLoses => exact fun s d => rfl
  case sequencersLose => exact fun s d => rfl

/-! ## Clocks (R424, R425) -/

theorem onUnit_hasPll {s t u : State} {d n : Nat} (hn : s.hasPll d n = true) (h : t = u) : onUnit (s.hasPll d n) t = .next (settle u) := by
  rw [hn, onUnit_true, h]

/-- What every loss of lock does before its own links or ports go down. -/
def relocked (s : State) (d n : Nat) : State :=
  ((s.setPll d n { run := true, since := s.elapsed 0 }).count32 (O.UNLOCK_COUNT d)).raiseDie d F.CLOCK_UNSTABLE

/-- A stable PLL that loses lock starts anew, and what it clocks goes down with it. -/
theorem fxPllUnlock_stable {s : State} {d n : Nat} (hstable : (s.pll d n).stable = true) : fxPllUnlock d n s =
    (if n = 2 then forEach ((List.range 16).map (fun k => 16 * d + k)) (fun p s => if s.linkAlive p then s.linkDrop p lsDetect else s) (relocked s d n)
     else if 8 ≤ n then (relocked s d n).d2dDown (linkNo d (n - 8)) 3
     else if n = 5 then ((relocked s d n).segDown 0).segDown 1
     else relocked s d n).syncReset :=
  if_pos hstable

/-- Settles O52: the PLLs by their numbers, as R424 gives them to links, PHYs and the Ihlod link. -/
theorem clocks : Obligations.Clocks := by
  unfold Obligations.Clocks
  refine ⟨?lock, ?unlock, ?unlockPhy, ?unlockIhlod, ?unlockLink, ?unstable⟩
  case lock =>
    intro s d n hn hrun hstable hsince
    exact onUnit_hasPll hn (if_pos (by simp [hrun, hstable, hsince]))
  case unlock =>
    intro s d n hn hlow hstable
    refine onUnit_hasPll hn ((fxPllUnlock_stable hstable).trans ?_)
    rw [if_neg (by omega), if_neg (by omega), if_neg (by omega)]
    rfl
  case unlockPhy =>
    intro s t d hn hstable ht
    subst ht
    exact onUnit_hasPll hn (fxPllUnlock_stable hstable)
  case unlockIhlod =>
    intro s d hn hstable
    exact onUnit_hasPll hn (fxPllUnlock_stable hstable)
  case unlockLink =>
    intro s d n hn hlink hstable
    refine onUnit_hasPll hn ((fxPllUnlock_stable hstable).trans ?_)
    rw [if_neg (by omega), if_pos hlink]
    rfl
  case unstable =>
    intro s d n hn hrun hstable hunstable hsince
    exact onUnit_hasPll hn (if_pos (by simp [hrun, hstable, hunstable, hsince]))

/-! ## Sources of reset and the release of domains (R427 to R430, R434, R437) -/

/-- A source that is asserted is listed from now on. -/
theorem mem_assertSource (s : State) (code d dom : Nat) :
    ({ code := code, die := d, dom := dom, since := s.elapsed 0 } : ResetSource) ∈ (s.assertSource code d dom).rst.sources :=
  List.mem_append_right _ (List.mem_singleton.2 rfl)

/-- A code whose sources have been taken out is not asserted. -/
theorem sourceOn_filtered (s : State) (c : Nat) :
    (s.setRst (fun r => { r with sources := r.sources.filter (fun x => !(x.code == c)) })).sourceOn (· == c) = false := by
  simp [State.sourceOn, State.setRst]

theorem onUnit_hasDomain {s t u : State} {d i : Nat} (hi : s.hasDomain d i = true) (h : t = u) :
    onUnit (s.hasDomain d i) t = .next (settle u) := by
  rw [hi, onUnit_true, h]

/-- A domain that runs since a tick is found so, whether the table's keys rise or not. -/
theorem domain_setDomain_running (s : State) (d i t : Nat) :
    (s.setDomain d i { running := true, since := t }).domain d i = { running := true, since := t } :=
  at_set_ne_default s.rst.domain (10 * d + i) (v := { running := true, since := t }) fun h => nomatch congrArg Domain.running h

section DomainRelease
variable {s u : State} {d i : Nat} (hdom : s.hasDomain d i = true) (hstill : (s.domain d i).running = false) (hrel : s.releasable d i = true)
  (hu : u = s.setDomain d i { running := true, since := s.elapsed 0 })
include hdom hstill hrel hu

/-- A domain that may be released runs from this tick, and with it starts what its block starts. -/
theorem fxDomainRelease_releases : fxDomainRelease d i s =
    if i = dMgmt then
      (if d = 0 then forEach [0, 1] (fun x s => s.send (.trainingSet x (trainingSet s.nodeAddr x)))
        (u.setIhl (fun x => { x with segTry := [(0, s.elapsed 0), (1, s.elapsed 0)] }))
       else u.setTime d (fun t => { t with now := 0, sub := 0, loaded := false }))
    else if i = dDatapath then
      (forEach (List.range 4) (fun k s => s.setLink (linkNo d k) (fun r => { r with attemptAt := s.elapsed d })) u).portsReleased d
    else u := by
  subst hu
  have listed : (domainsOf d).contains i = true := (Bool.and_eq_true_iff.1 hdom).2
  rw [fxDomainRelease, hstill, if_neg Bool.false_ne_true, listed, hrel]
  rfl

end DomainRelease

/-- Settles O50: each source joins or leaves those asserted, and then the reach or the release follows. -/
theorem resetSources : Obligations.ResetSources := by
  unfold Obligations.ResetSources
  refine ⟨?powerOn, ?powerOnRelease, ?sysRst, ?sysRstRelease, ?mainOut, ?mainOutAux, ?mainIn, ?auxOut, ?timed, ?release, ?domain⟩
  case powerOn =>
    intro s u haux hu
    subst hu
    refine ⟨rfl, mem_assertSource _ _ _ _, done_eq ?_⟩
    rw [fxPowerOn, haux]
    rfl
  case powerOnRelease =>
    intro s u hdue hu
    subst hu
    exact ⟨sourceOn_filtered s rPowerOn, done_eq (if_pos hdue)⟩
  case sysRst =>
    intro s u haux hoff hu
    subst hu
    exact ⟨mem_assertSource _ _ _ _, done_eq (if_pos (by rw [haux, hoff]; rfl))⟩
  case sysRstRelease =>
    intro s u hdue hu
    subst hu
    exact ⟨sourceOn_filtered s rSysRst, done_eq (if_pos hdue)⟩
  case mainOut =>
    intro s u hmain haux hu
    subst hu
    exact ⟨rfl, mem_assertSource _ _ _ _, done_eq ((if_pos hmain).trans (if_pos haux))⟩
  case mainOutAux =>
    intro s hmain haux
    refine done_eq ((if_pos hmain).trans (if_neg ?_))
    simp [State.setRst, haux]
  case mainIn =>
    intro s u hu
    subst hu
    exact ⟨rfl, sourceOn_filtered _ rMain, rfl⟩
  case auxOut =>
    intro s u haux hu
    subst hu
    exact ⟨fun d i => rfl, done_eq (if_pos haux)⟩
  case timed =>
    intro s u x hx hd hcode hmain hsince hu
    subst hu
    refine ⟨by simp [State.setRst, hcode, hmain, hsince], onUnit_hasDie hd (if_pos ?_)⟩
    exact List.any_eq_true.2 ⟨x, hx, by simp [hcode, hmain, hsince]⟩
  case release => exact fun s p => rfl
  case domain =>
    intro s u d i hdom hstill hrel hu
    have releases := fxDomainRelease_releases hdom hstill hrel hu
    have runs : u.domain d i = { running := true, since := s.elapsed 0 } := by rw [hu, domain_setDomain_running]
    refine ⟨by rw [runs], by rw [runs], ?mgmtHome, ?mgmt, ?datapath, ?rest⟩
    case mgmtHome =>
      intro hi hd
      exact onUnit_hasDomain hdom (releases.trans (by rw [if_pos hi, if_pos hd]))
    case mgmt =>
      intro hi hd
      exact onUnit_hasDomain hdom (releases.trans (by rw [if_pos hi, if_neg hd]))
    case datapath =>
      intro hi
      exact onUnit_hasDomain hdom (releases.trans (by rw [if_neg (by rw [hi]; decide), if_pos hi]))
    case rest =>
      intro hmgmt hdata
      exact onUnit_hasDomain hdom (releases.trans (by rw [if_neg hmgmt, if_neg hdata]))

end Sys2Proof.Proofs
end

section
/-! PROOFS. The Cicada pairs and the Firefly collectors (obligations of 15_click_sequencers.md and 16_faults_and_retirement.md). -/
namespace Sys2Proof.Proofs
open Sys2Proof Sys2Proof.Machine Sys2Proof.Laws
set_option Elab.async false

/-! ## Cicada pairs (R394 to R400) -/

/-- An activation that the owner accepts has met no excluding activity (R416). -/
theorem ownerUnits_activate_accepts {s : State} {ifc : Iface} (h : (s.ownerUnits ifc O.CC_ACTIVATE 1).1 = stOk) :
    (s.ownerUnits ifc O.CC_ACTIVATE 1).2 = s := by
  have owner : s.ownerUnits ifc O.CC_ACTIVATE 1 =
      if s.activateStatus ifc 1 ≠ stOk ∨ 1 = 0 then s.only (s.activateStatus ifc 1) else s.unlessExcluded 6 0 stOk := rfl
  rw [owner] at h ⊢
  split at h
  · rename_i c
    rw [if_pos c]
    rfl
  · rename_i c
    rw [if_neg c]
    exact unlessExcluded_accepts h

theorem writeOne_ccActivate {s : State} {ifc : Iface} (h : s.servesWrite ifc O.CC_ACTIVATE 1 = true) :
    writeOne ifc O.CC_ACTIVATE 1 s = .next (settle ((fxActivate s).acknowledged ifc O.CC_ACTIVATE)) :=
  writeOne_units (by decide) (by decide) ownerUnits_activate_accepts rfl h

/-- Settles O48: each event of a pair or an activation is the guard's branch of its function. -/
theorem cicadaPairs : Obligations.CicadaPairs := by
  unfold Obligations.CicadaPairs
  refine ⟨?activate, ?done, ?fails, ?lockstep, ?watchdog, ?running⟩
  case activate => exact fun s ifc h => writeOne_ccActivate h
  case done => exact fun s hst hnone => done_eq (if_pos ⟨hst, hnone⟩)
  case fails => exact fun s d hd hawait hlate => onUnit_hasDie hd (if_pos ⟨hawait, hlate⟩)
  case lockstep => exact fun s d hd halive => onUnit_hasDie hd (if_pos halive)
  case watchdog => exact fun s d hd hrun hlate => onUnit_hasDie hd (if_pos ⟨hrun, hlate⟩)
  case running => exact fun s d hd hst hon => onUnit_hasDie hd (if_pos ⟨hst, hon⟩)

/-! ## Reactions (R410) -/

section Reaction
variable {s : State} {n : Nat} {r : Reaction} (hq : (s.collector (seqDie n)).queue.find? (fun x => x.seq == n) = some r)
include hq

/-- The oldest reaction queued for a sequencer that is not executing leaves the queue, and starts or fails. -/
theorem fxReactionStart_takes (hrun : s.sqState n ≠ sqRunning) (hwait : s.sqState n ≠ sqWaiting) : fxReactionStart n s =
    (if s.get (O.SQ_ROLE n) = 1 ∧ s.get (O.SQ_VALID n) = 1 ∧ (s.sqState n = sqStopped ∨ s.sqState n = sqFaulted) ∧ s.dieSafe (seqDie n) = false then
      (s.setCollector (seqDie n) (fun c => { c with queue := c.queue.erase r })).beginReaction n r
    else (s.setCollector (seqDie n) (fun c => { c with queue := c.queue.erase r })).raiseOfSeq n F.REACTION_FAILED r.source) := by
  simp only [fxReactionStart, hq, hrun, hwait, or_self, if_false]
  rfl

end Reaction

/-! ## Captures, retirements and SAFE (R408, R413, R417) -/

theorem acc_fsCapValid {v : Variant} {k : Nat} {r : Row} (hr : rowOf v (O.FS_CAP_VALID k) = some r) : r.acc = .w1c := by
  have rows : ∀ r ∈ tableR420, r.holds 0x05 = true → r.acc = .w1c := by decide
  have mem : tableOf v 0x40 k = if faultSource v k then tableR420 else [] := rfl
  have found : (tableOf v 0x40 k).find? (fun r => r.holds 0x05) = some r := hr
  rw [mem] at found
  split at found
  · exact rows r (List.mem_of_find?_eq_some found) (by simpa using List.find?_some found)
  · cases found

/-- A served write of 1 to FS_CAP_VALID arms the source's capture anew. -/
theorem writeOne_fsCapValid {s : State} {ifc : Iface} {k : Nat} (h : s.servesWrite ifc (O.FS_CAP_VALID k) 1 = true) :
    writeOne ifc (O.FS_CAP_VALID k) 1 s = .next (settle ((fxFsCapValid k s).acknowledged ifc (O.FS_CAP_VALID k))) := by
  refine writeOne_effect h fun r hr => ?_
  rw [ownerStatus_units (show 0x38 ≤ 0x40 by decide) (ownerStatus_of_servesWrite h), State.effect, if_pos (acc_fsCapValid hr)]
  rfl

/-- RET_CLEAR that is accepted has met no excluding activity. -/
theorem retClearStatus_accepts {s : State} {v : Nat} (h : (s.retClearStatus v).1 = stOk) : (s.retClearStatus v).2 = none := by
  have busy : stBusy ≠ stOk := by decide
  rw [State.retClearStatus] at h ⊢
  repeat' split at h
  all_goals simp_all

theorem writeOne_retClear {s : State} {ifc : Iface} {v : Nat} (h : s.servesWrite ifc O.RET_CLEAR v = true) :
    writeOne ifc O.RET_CLEAR v s = .next (settle ((fxRetClear v s).acknowledged ifc O.RET_CLEAR)) := by
  refine writeOne_units (by decide) (by decide) (fun hok => ?_) rfl h
  have accepted : (s.retClearStatus v).2 = none := retClearStatus_accepts hok
  show (match (s.retClearStatus v).2 with | some b => s.mxRefuse 3 b | none => s) = s
  rw [accepted]

/-- A retirement cleared: the channel's history and its place among the retired channels are gone. -/
def unretired (s : State) (ch : Nat) : State :=
  let t := forEach (List.range s.dies) (fun d s => s.setCollector d (fun c =>
    { c with pairs := c.pairs.filter (fun x => x.channel != ch), recover := c.recover.filter (fun x => x.channel != ch) })) s
  { t with flt := { t.flt with retired := t.flt.retired.filter (· != ch) } }

theorem fxRetClear_lane {s : State} {ch : Nat} (hk : channelKind ch = 1) :
    fxRetClear ch s = ((unretired s ch).put (O.LANE_STATE (channelIndex ch)) 0).countRetired := by
  simp only [fxRetClear, hk]
  rfl

theorem fxRetClear_port {s : State} {ch : Nat} (hk : channelKind ch = 4) :
    fxRetClear ch s = (((unretired s ch).put (O.LINK_STATE (channelIndex ch)) lsDisabled).setPort (channelIndex ch)
      (fun r => { r with cmdDisabled := true })).countRetired := by
  simp only [fxRetClear, hk]
  rfl

theorem fxRetClear_invarLane {s u : State} {ch l : Nat} (hk : channelKind ch = 2) (hl : l = channelIndex ch / 256) (hu : u = unretired s ch) :
    fxRetClear ch s = ((if (u.laneSet O.LANE_RETIRED l).testBit (channelIndex ch % 256) = true then
      u.putLanes O.LANE_RETIRED l (u.laneSet O.LANE_RETIRED l - 2 ^ (channelIndex ch % 256)) else u).d2dDown l 4).countRetired := by
  subst hl hu
  simp only [fxRetClear, hk]
  rfl

theorem fxRetClear_sequencer {s : State} {ch : Nat} (hk : channelKind ch = 6) :
    fxRetClear ch s = ((unretired s ch).put (O.SQ_STATE (channelIndex ch)) sqStopped).countRetired := by
  simp only [fxRetClear, hk]
  rfl

/-- Settles O49. -/
theorem faultCollection : Obligations.FaultCollection := by
  unfold Obligations.FaultCollection
  refine ⟨?starts, ?begins, ?fails, ?window, ?collector, ?capture, ?lane, ?port, ?invarLane, ?sequencer, ?safe⟩
  case starts =>
    intro s n r hn hq hst hrole hvalid hsafe
    have idle : s.sqState n ≠ sqRunning ∧ s.sqState n ≠ sqWaiting := by
      rcases hst with h | h <;> rw [h] <;> decide
    refine onUnit_seqExists hn ((fxReactionStart_takes hq idle.1 idle.2).trans ?_)
    rw [if_pos ⟨hrole, hvalid, hst, hsafe⟩]
  case begins => exact fun s n r => rfl
  case fails =>
    intro s n r hn hq hrun hwait hrole
    refine onUnit_seqExists hn ((fxReactionStart_takes hq hrun hwait).trans ?_)
    rw [if_neg fun c => hrole c.1]
    rfl
  case window => exact fun s hst hend => done_eq (if_pos ⟨hst, hend⟩)
  case collector => exact fun s d hd => onUnit_hasDie hd rfl
  case capture => exact fun s ifc k h => writeOne_fsCapValid h
  case lane =>
    intro s t ifc ch h hk ht
    subst ht
    exact (writeOne_retClear h).trans (by rw [fxRetClear_lane hk]; rfl)
  case port =>
    intro s t ifc ch h hk ht
    subst ht
    exact (writeOne_retClear h).trans (by rw [fxRetClear_port hk]; rfl)
  case invarLane =>
    intro s t u ifc ch l h hk hl ht hu
    subst ht
    exact (writeOne_retClear h).trans (by rw [fxRetClear_invarLane hk hl hu])
  case sequencer =>
    intro s t ifc ch h hk ht
    subst ht
    exact (writeOne_retClear h).trans (by rw [fxRetClear_sequencer hk]; rfl)
  case safe => exact fun s ifc h => writeOne_units (by decide) (by decide) (fun _ => rfl) rfl h

end Sys2Proof.Proofs
end

section
/-! PROOFS. The TAP, the debug level and the commands of the debug access port (obligations of 18_security_debug_protection.md). -/
namespace Sys2Proof.Proofs
open Sys2Proof Sys2Proof.Machine Sys2Proof.Laws
set_option Elab.async false

/-! ## The TAP (R450, R451) -/

section Tap
variable {s : State} {ir : Nat} (hmode : s.mode ≠ 0)
include hmode

/-- An instruction that is permitted selects its register, or the bypass where it is one of those that select it, and acts on the pins. -/
theorem selectIr_permitted (hperm : s.irPermitted ir = true) : s.selectIr ir =
    (s.setSec (fun x => { x with ir := ir, bypassed := ir == irClamp || ir == irHighz || ir == irBypass, scan := scanOf ir })).scanPins ir := by
  rw [State.selectIr, if_neg hmode]
  simp only [hperm, Bool.not_true, Bool.false_or, if_true]

theorem selectIr_refused (hperm : s.irPermitted ir = false) : s.selectIr ir =
    (s.setSec (fun x => { x with ir := ir, bypassed := true, scan := 0 })).debugRefused 0 0 := by
  rw [State.selectIr, if_neg hmode]
  simp only [hperm, Bool.not_false, Bool.true_or, Bool.false_eq_true, if_false]

end Tap

/-! ## Debug levels (R447 to R449) -/

theorem fxDbgAuth_opens {s : State} {v : Nat} (h : s.authStatus v = stOk) : fxDbgAuth v s =
    (((s.freshChallenge.put O.DBG_LEVEL (v % 256)).put O.DBG_CREDENTIAL (v / 256 % 256)).put O.DBG_LEVEL_AT (s.freshChallenge.now 0)).put
      O.DBG_AUTH_FAILS 0 := by
  rw [fxDbgAuth]
  simp only [h, if_neg (show ¬ (stOk = stCooldown ∨ stOk = stBadValue) by decide), if_neg (show ¬ stOk = stDenied by decide),
    if_neg (show ¬ stOk = stProtection by decide)]

/-- A served DBG_AUTH has passed the checks of R447. -/
theorem authStatus_of_served {s : State} {ifc : Iface} {v : Nat} (h : s.servesWrite ifc O.DBG_AUTH v = true) : s.authStatus v = stOk := by
  have hok := ownerStatus_of_servesWrite h
  rwa [ownerStatus_system (by decide) hok] at hok

theorem writeOne_dbgAuth {s : State} {ifc : Iface} {v : Nat} (h : s.servesWrite ifc O.DBG_AUTH v = true) :
    writeOne ifc O.DBG_AUTH v s = .next (settle ((fxDbgAuth v s).acknowledged ifc O.DBG_AUTH)) :=
  writeOne_system (by decide) (by decide) (fun _ => if_pos (authStatus_of_served h)) rfl h

theorem writeOne_dbgMaxLevel {s : State} {ifc : Iface} {v : Nat} (h : s.servesWrite ifc O.DBG_MAX_LEVEL v = true) :
    writeOne ifc O.DBG_MAX_LEVEL v s = .next (settle ((fxDbgMaxLevel (s.put O.DBG_MAX_LEVEL v)).acknowledged ifc O.DBG_MAX_LEVEL)) :=
  writeOne_system (by decide) (by decide) (fun _ => rfl) rfl h

/-- A level above the maximum written falls to it; another stays. -/
theorem fxDbgMaxLevel_put {s : State} (h : s.Canonical) (v : Word) : fxDbgMaxLevel (s.put O.DBG_MAX_LEVEL v.toNat) =
    if v.toNat < s.get O.DBG_LEVEL then (s.put O.DBG_MAX_LEVEL v.toNat).put O.DBG_LEVEL v.toNat else s.put O.DBG_MAX_LEVEL v.toNat := by
  rw [fxDbgMaxLevel, get_put_self (Canonical.rising h), Nat.mod_eq_of_lt v.isLt, get_put_ne (Canonical.rising h) _ (by decide)]

/-! ## Commands of the debug access port (R452 to R454) -/

section Pair
variable {s : State} {d : Nat} (hready : s.debugReady = true)
include hready

theorem debugPair_passes (hst : s.haltStatus d = stOk) (act : State → State) : s.debugPair d act = (act s).debugDone stOk 0 := by
  rw [State.debugPair, hready]
  simp only [hst, Bool.not_true, Bool.false_eq_true, if_false, ne_eq, not_true_eq_false]

theorem debugPair_fails (hst : s.haltStatus d ≠ stOk) (act : State → State) :
    s.debugPair d act = s.debugRefuse (d * 2 ^ 40) 0 (s.haltStatus d) := by
  rw [State.debugPair, hready]
  simp only [hst, Bool.not_true, Bool.false_eq_true, if_false, ne_eq, not_false_eq_true, if_true]

theorem fxDbgRead_fails {a : Nat} (halign : a % 8 = 0) (hlt : a < 2 ^ 64) (hst : s.debugStatus a false ≠ stOk) :
    fxDbgRead a s = s.debugRefuse a (debugType a false) (s.debugStatus a false) := by
  have form : ¬ (a % 8 ≠ 0 ∨ 2 ^ 64 ≤ a) := by omega
  rw [fxDbgRead, hready, if_neg (by decide), if_neg form]
  simp only [ne_eq, hst, not_false_eq_true, if_true]

end Pair

/-- Settles O55: each instruction by the register that it selects, each command by the branch of its checks. -/
theorem debugPort : Obligations.DebugPort := by
  unfold Obligations.DebugPort
  refine ⟨?idcode, ?sample, ?sampleRefused, ?extest, ?clamp, ?highz, ?access, ?bypass, ?auth, ?close, ?lowers, ?keeps, ?nop, ?read, ?write,
    ?readFails, ?done, ?halt, ?resume, ?stepRunning, ?stepFetched, ?stepRefused, ?pairFails⟩
  case idcode => exact fun s hmode => done_eq ((if_neg hmode).trans (congrArg (State.send · (.tap 0 s.idcode)) (selectIr_permitted hmode rfl)))
  case sample =>
    intro s t hmode hperm ht
    subst ht
    exact done_eq (selectIr_permitted hmode hperm)
  case sampleRefused => exact fun s hmode hperm => done_eq (selectIr_refused hmode hperm)
  case extest => exact fun s hmode hperm => done_eq (selectIr_permitted hmode hperm)
  case clamp => exact fun s hmode hperm => done_eq (selectIr_permitted hmode hperm)
  case highz => exact fun s hmode hperm => done_eq (selectIr_permitted hmode hperm)
  case access => exact fun s hmode => done_eq (selectIr_permitted hmode rfl)
  case bypass => exact fun s hmode => done_eq (selectIr_permitted hmode rfl)
  case auth =>
    intro s t ifc v h ht
    subst ht
    exact (writeOne_dbgAuth h).trans (by rw [fxDbgAuth_opens (authStatus_of_served h)])
  case close => exact fun s ifc h => writeOne_dbgClose h
  case lowers => exact fun s ifc v hcanon h hlt => (writeOne_dbgMaxLevel h).trans (by rw [fxDbgMaxLevel_put hcanon, if_pos hlt])
  case keeps => exact fun s ifc v hcanon h hle => (writeOne_dbgMaxLevel h).trans (by rw [fxDbgMaxLevel_put hcanon, if_neg (Nat.not_lt.2 hle)])
  case nop => exact fun s hready => done_eq (if_pos hready)
  case read => exact fun s a hready halign hst hdict hfabric => done_eq (fxDbgRead_memory hready halign a.isLt hdict hfabric hst)
  case write => exact fun s a v hready halign hst hdict hfabric => done_eq (fxDbgWrite_memory hready halign a.isLt hdict hfabric hst v.toNat)
  case readFails => exact fun s a hready halign hst => done_eq (fxDbgRead_fails hready halign a.isLt hst)
  case done => exact fun s st data => rfl
  case halt =>
    intro s d hready hst hrun
    exact done_eq ((debugPair_passes hready hst _).trans (congrArg (State.debugDone · stOk 0) (if_pos hrun)))
  case resume =>
    intro s d hready hst hhalt
    exact done_eq ((debugPair_passes hready hst _).trans (congrArg (State.debugDone · stOk 0) (if_pos hhalt)))
  case stepRunning =>
    intro s d hready hst hhalt
    exact done_eq ((debugPair_passes hready hst _).trans (congrArg (State.debugDone · stOk 0) (if_neg hhalt)))
  case stepFetched =>
    intro s t d hready hst hhalt hfetch
    refine done_eq ((debugPair_passes hready hst _).trans (congrArg (State.debugDone · stOk 0) ((if_pos hhalt).trans ?_)))
    rw [hfetch]
    rfl
  case stepRefused =>
    intro s t d hready hst hhalt hfetch
    refine done_eq ((debugPair_passes hready hst _).trans (congrArg (State.debugDone · stOk 0) ((if_pos hhalt).trans ?_)))
    rw [hfetch]
    rfl
  case pairFails =>
    intro s d hready hst
    exact ⟨done_eq (debugPair_fails hready hst _), done_eq (debugPair_fails hready hst _), done_eq (debugPair_fails hready hst _)⟩

end Sys2Proof.Proofs
end

section
/-! PROOFS. Attestation and the IDE keys (obligations of 18_security_debug_protection.md). -/
namespace Sys2Proof.Proofs
open Sys2Proof Sys2Proof.Machine Sys2Proof.Laws
set_option Elab.async false

/-! ## The SPDM responder (R463, R464) -/

/-- A message's transport exists: the Ihlod link, or the DOE of a port. -/
def viaExists (s : State) (via : Option Nat) : Bool :=
  match via with
  | some p => s.hasPort p
  | none => true

theorem onUnit_via {s t u : State} {via : Option Nat} (hvia : ∀ p, via = some p → p < s.ports) (h : t = u) :
    onUnit (viaExists s via) t = .next (settle u) := by
  have found : viaExists s via = true := by
    cases via with
    | none => rfl
    | some p => exact decide_eq_true (hvia p rfl)
  rw [found, onUnit_true, h]

section Spdm
variable {s : State} {via : Option Nat} (hreach : s.spdmReaches via = true)
include hreach

theorem spdm_unsupported (hempty : s.slotEmpty = true) (act : State → Nat × State) : s.spdm via true act = s.spdmAnswer via spdmUnsupported := by
  simp only [State.spdm, hreach, hempty, Bool.not_true, Bool.false_eq_true, Bool.and_self, if_false, if_true]

/-- A request that needs no identity, or finds slot 0 filled, is served. -/
theorem spdm_serves {needsSlot : Bool} (hslot : (needsSlot && s.slotEmpty) = false) (act : State → Nat × State) :
    s.spdm via needsSlot act = (act s).2.spdmAnswer via (act s).1 := by
  simp only [State.spdm, hreach, hslot, Bool.not_true, Bool.false_eq_true, if_false]

theorem fxKeyExchange_answers (hfilled : s.slotEmpty = false) : fxKeyExchange via s =
    if 8 ≤ s.sec.session.length then s.spdmAnswer via spdmLimit
    else (s.setSec (fun x => { x with session := x.session ++ [⟨x.serial, via⟩], serial := x.serial + 1 })).spdmAnswer via spdmOk := by
  rw [fxKeyExchange, spdm_serves hreach (by rw [hfilled]; rfl)]
  split <;> rfl

theorem fxEndSession_open {n : Nat} (hsecured : s.securedVia via = true) (hopen : s.sec.session.any (fun y => y.id == n && y.via == via) = true) :
    fxEndSession via n s = (s.setSec (fun x =>
      { x with session := x.session.filter (fun y => !(y.id == n && y.via == via)) })).spdmAnswer via spdmOk := by
  rw [fxEndSession, hsecured, if_neg (by decide), hopen, if_neg (by decide), spdm_serves hreach rfl]

theorem fxEndSession_unopened {n : Nat} (hsecured : s.securedVia via = true)
    (hopen : s.sec.session.any (fun y => y.id == n && y.via == via) = false) :
    fxEndSession via n s = s.spdmAnswer via spdmInvalidSession := by
  rw [fxEndSession, hsecured, if_neg (by decide), hopen, if_pos (by decide), spdm_serves hreach rfl]

end Spdm

theorem writeOne_rmaEnter {s : State} {ifc : Iface} (h : s.servesWrite ifc O.RMA_ENTER 0xA5A5 = true) :
    writeOne ifc O.RMA_ENTER 0xA5A5 s = .next (settle ((fxRmaEnter s).acknowledged ifc O.RMA_ENTER)) :=
  writeOne_system (by decide) (by decide) (fun _ => rfl) rfl h

/-- Settles O56: a request that reaches the responder is served, or unsupported where it needs an identity that is not there. -/
theorem attestation : Obligations.Attestation := by
  unfold Obligations.Attestation
  refine ⟨?empty, ?certificate, ?challenge, ?measurements, ?exchange, ?limit, ?ends, ?invalid, ?other, ?rma⟩
  case empty =>
    intro s via hvia hreach hempty
    exact ⟨onUnit_via hvia (spdm_unsupported hreach hempty _), onUnit_via hvia (spdm_unsupported hreach hempty _),
      onUnit_via hvia (spdm_unsupported hreach hempty _)⟩
  case certificate => exact fun s via hvia hreach hfilled => onUnit_via hvia (spdm_serves (needsSlot := true) hreach hfilled _)
  case challenge => exact fun s via hvia hreach hfilled => onUnit_via hvia (spdm_serves (needsSlot := true) hreach hfilled _)
  case measurements => exact fun s via hvia hreach => onUnit_via hvia (spdm_serves (needsSlot := false) hreach rfl _)
  case exchange =>
    intro s via hvia hreach hfilled hroom
    exact onUnit_via hvia ((fxKeyExchange_answers hreach hfilled).trans (if_neg (Nat.not_le.2 hroom)))
  case limit =>
    intro s via hvia hreach hfilled hfull
    exact onUnit_via hvia ((fxKeyExchange_answers hreach hfilled).trans (if_pos hfull))
  case ends => exact fun s via n hvia hreach hsecured hopen => onUnit_via hvia (fxEndSession_open hreach hsecured hopen)
  case invalid => exact fun s via n hvia hreach hsecured hopen => onUnit_via hvia (fxEndSession_unopened hreach hsecured hopen)
  case other => exact fun s via hvia hreach => onUnit_via hvia (spdm_serves (needsSlot := false) hreach rfl _)
  case rma => exact fun s ifc h => writeOne_rmaEnter h

/-! ## IDE_KM (R466) -/

section IdeKm
variable {s : State} {p : Nat} (hresp : s.ideResponder p = true) (hoffers : s.bit (O.DOE_ENABLE p) 3 = true)
include hresp hoffers

theorem ideKm_serves {session : Option Nat} {good : Bool} (hok : s.ideKmOk p session = true) (hgood : good = true) (act : State → State) :
    s.ideKm p session good act = (act s).send (.ideKm p true) := by
  simp only [State.ideKm, hresp, hoffers, hok, hgood, Bool.and_self, Bool.not_true, Bool.false_eq_true, if_false]

theorem ideKm_outside (good : Bool) (act : State → State) : s.ideKm p none good act = s.ideKmFail p := by
  simp only [State.ideKm, State.ideKmOk, hresp, hoffers, Bool.and_self, Bool.not_true, Bool.false_eq_true, if_false, Bool.false_and, Bool.not_false, if_true]

end IdeKm

/-! ### What selecting a set leaves readable -/

section SelectSet
variable {s : State} (h : s.regs.risingFrom 0 = true) (p k d : Nat)
include h

theorem selectSet_rising : (s.selectSet p k d).regs.risingFrom 0 = true := setBit_rising (O.IDE_KEYS p) (12 + d) (k == 1) h

theorem selectSet_ideState : (s.selectSet p k d).get (O.IDE_STATE p) = s.get (O.IDE_STATE p) :=
  get_setBit_ne (O.IDE_KEYS p) (12 + d) (k == 1) h (key_ne inRange inRange (by simp [O.IDE_STATE, O.IDE_KEYS]))

/-- Whether a port's sets are ready does not depend on what IDE_STATE shows. -/
theorem ideReady_put_ideState (v : Nat) : (s.put (O.IDE_STATE p) v).ideReady p = s.ideReady p := by
  have enable : (s.put (O.IDE_STATE p) v).get (O.IDE_ENABLE p) = s.get (O.IDE_ENABLE p) :=
    get_put_ne h v (key_ne inRange inRange (by simp [O.IDE_ENABLE, O.IDE_STATE]))
  have keys : (s.put (O.IDE_STATE p) v).get (O.IDE_KEYS p) = s.get (O.IDE_KEYS p) :=
    get_put_ne h v (key_ne inRange inRange (by simp [O.IDE_KEYS, O.IDE_STATE]))
  simp only [State.ideReady, State.keysOf, State.activeSet, State.bit, enable, keys]
  rfl

end SelectSet

section KSetGo
variable {s t : State} {p n k d : Nat} (hresp : s.ideResponder p = true) (hoffers : s.bit (O.DOE_ENABLE p) 3 = true)
  (hok : s.ideKmOk p (some n) = true) (hk : k < 2) (hd : d < 2) (ht : t = s.selectSet p k d)
include hresp hoffers hok hk hd ht

theorem fxKSetGo_serves : fxKSetGo p (some n) k d s =
    (if (s.get (O.IDE_STATE p) == ideSecure && s.activeSet p d != k && s.activeSet p (1 - d) == k) && (t.noteSecure p).ideReady p then
      (t.noteSecure p).count32 (O.IDE_REFRESHES p) else t.noteSecure p).send (.ideKm p true) := by
  subst ht
  exact ideKm_serves hresp hoffers hok (decide_eq_true ⟨hk, hd⟩) _

theorem fxKSetGo_selects (hstate : s.get (O.IDE_STATE p) ≠ ideSecure) :
    fxKSetGo p (some n) k d s = (t.noteSecure p).send (.ideKm p true) := by
  rw [fxKSetGo_serves hresp hoffers hok hk hd ht, beq_eq_false_iff_ne.2 hstate]
  rfl

/-- On a SECURE port whose sets are then not both ready, the selection ends SECURE. -/
theorem fxKSetGo_pends (hcanon : s.Canonical) (hstate : s.get (O.IDE_STATE p) = ideSecure) (hready : t.ideReady p = false) :
    fxKSetGo p (some n) k d s = (t.put (O.IDE_STATE p) idePending).send (.ideKm p true) := by
  have rising : t.regs.risingFrom 0 = true := ht ▸ selectSet_rising (Canonical.rising hcanon) p k d
  have state : t.get (O.IDE_STATE p) = ideSecure := by rw [ht, selectSet_ideState (Canonical.rising hcanon), hstate]
  have noted : t.noteSecure p = t.put (O.IDE_STATE p) idePending := by
    rw [State.noteSecure, hready, if_neg Bool.false_ne_true, if_pos state]
  rw [fxKSetGo_serves hresp hoffers hok hk hd ht, noted, ideReady_put_ideState rising, hready, Bool.and_false, if_neg Bool.false_ne_true]

/-- On a SECURE port whose other direction has the set already, the selection ends a refresh. -/
theorem fxKSetGo_refreshes (hcanon : s.Canonical) (hstate : s.get (O.IDE_STATE p) = ideSecure) (hready : t.ideReady p = true)
    (hthis : s.activeSet p d ≠ k) (hother : s.activeSet p (1 - d) = k) :
    fxKSetGo p (some n) k d s = ((t.put (O.IDE_STATE p) ideSecure).count32 (O.IDE_REFRESHES p)).send (.ideKm p true) := by
  have rising : t.regs.risingFrom 0 = true := ht ▸ selectSet_rising (Canonical.rising hcanon) p k d
  have noted : t.noteSecure p = t.put (O.IDE_STATE p) ideSecure := by rw [State.noteSecure, hready, if_pos rfl]
  have switched : (s.get (O.IDE_STATE p) == ideSecure && s.activeSet p d != k && s.activeSet p (1 - d) == k) = true := by
    simp [hstate, hthis, hother]
  rw [fxKSetGo_serves hresp hoffers hok hk hd ht, noted, ideReady_put_ideState rising, hready, switched, Bool.and_self, if_pos rfl]

end KSetGo

/-- The stop of a set that its direction has not selected clears the set's keys there, and the port's where no key is left. -/
theorem fxKSetStop_unselected {s t : State} {p n k d : Nat} (hresp : s.ideResponder p = true) (hoffers : s.bit (O.DOE_ENABLE p) 3 = true)
    (hok : s.ideKmOk p (some n) = true) (hk : k < 2) (hd : d < 2) (hsel : (s.sec.selected.at p).testBit d = false)
    (ht : t = ((s.setBit (O.IDE_KEYS p) (6 * k + 3 * d) false).setBit (O.IDE_KEYS p) (6 * k + 3 * d + 1) false).setBit (O.IDE_KEYS p)
      (6 * k + 3 * d + 2) false) :
    fxKSetStop p (some n) k d s = (if t.get (O.IDE_KEYS p) % 2 ^ 12 = 0 then t.zeroize p else t).send (.ideKm p true) := by
  subst ht
  rw [fxKSetStop, ideKm_serves hresp hoffers hok (decide_eq_true ⟨hk, hd⟩)]
  simp only [hsel, Bool.false_and, Bool.false_eq_true, if_false]
  rfl

/-! ## IDE_KEY_CMD (R467) -/

theorem writeOne_ideKeyCmd {s u : State} {ifc : Iface} {p v : Nat} (hu : fxIdeKeyCmd p v s = u) (h : s.servesWrite ifc (O.IDE_KEY_CMD p) v = true) :
    writeOne ifc (O.IDE_KEY_CMD p) v s = .next (settle (u.acknowledged ifc (O.IDE_KEY_CMD p))) := by
  refine writeOne_system (by decide) (by decide) (fun _ => rfl) ?_ h
  calc s.effectSystem (O.IDE_KEY_CMD p) v
    _ = fxIdeKeyCmd (0x100 + p - 0x100) v s := rfl
    _ = u := by rw [Nat.add_sub_cancel_left, hu]

/-- Settles O57. -/
theorem ideKeys : Obligations.IdeKeys := by
  unfold Obligations.IdeKeys
  refine ⟨?query, ?outside, ?prog, ?go, ?goSecure, ?stops, ?zeroizes, ?step, ?establish, ?approve, ?refresh, ?stop⟩
  case query => exact fun s p n hp hresp hoffers hok => onUnit_hasPort hp (ideKm_serves hresp hoffers hok rfl _)
  case outside => exact fun s p hp hresp hoffers => onUnit_hasPort hp (ideKm_outside hresp hoffers _ _)
  case prog =>
    intro s p n k d sub hp hresp hoffers hok hk hd hsub
    exact onUnit_hasPort hp (ideKm_serves hresp hoffers hok (decide_eq_true ⟨rfl, hk, hd, hsub⟩) _)
  case go =>
    intro s p n k d hp hresp hoffers hok hk hd hstate
    exact onUnit_hasPort hp (fxKSetGo_selects hresp hoffers hok hk hd rfl hstate)
  case goSecure =>
    intro s t p n k d hcanon hp hresp hoffers hok hk hd hstate ht
    exact ⟨fun hready => onUnit_hasPort hp (fxKSetGo_pends hresp hoffers hok hk hd ht hcanon hstate hready),
      fun hready hthis hother => onUnit_hasPort hp (fxKSetGo_refreshes hresp hoffers hok hk hd ht hcanon hstate hready hthis hother)⟩
  case stops =>
    intro s t p n k d hp hresp hoffers hok hk hd hsel ht hkeys
    exact onUnit_hasPort hp ((fxKSetStop_unselected hresp hoffers hok hk hd hsel ht).trans (by rw [if_neg hkeys]))
  case zeroizes =>
    intro s t p n k d hp hresp hoffers hok hk hd hsel ht hkeys
    exact onUnit_hasPort hp ((fxKSetStop_unselected hresp hoffers hok hk hd hsel ht).trans (by rw [if_pos hkeys]))
  case step => exact fun s p act => rfl
  case establish => exact fun s ifc p h => writeOne_ideKeyCmd rfl h
  case approve => exact fun s ifc p h => writeOne_ideKeyCmd rfl h
  case refresh => exact fun s ifc p h => writeOne_ideKeyCmd rfl h
  case stop => exact fun s ifc p h => writeOne_ideKeyCmd rfl h

end Sys2Proof.Proofs
end

section
/-! PROOFS. Performance counters (obligations of 19_performance_counters.md). -/
namespace Sys2Proof.Proofs
open Sys2Proof Sys2Proof.Machine Sys2Proof.Laws
set_option Elab.async false

/-! ## Writes of class 48 (R475, R480) -/

theorem dies_le (s : State) : s.dies ≤ 8 := by
  rw [State.dies]
  cases s.variant <;> decide

section Writes
variable {s : State} {ifc : Iface}

/-- A served write of class 48, whatever its member's number is made of. -/
theorem writeOne_counter {u : State} {i m v : Nat} (hacc : neverW1c 0x48 m = true) (hu : s.effectUnits ⟨0x48, i, m⟩ v = u)
    (h : s.servesWrite ifc ⟨0x48, i, m⟩ v = true) :
    writeOne ifc ⟨0x48, i, m⟩ v s = .next (settle (u.acknowledged ifc ⟨0x48, i, m⟩)) :=
  writeOne_units (by decide) hacc (fun _ => rfl) hu h

section General
variable {d n : Nat} (hd : d < s.dies) (hn : n < 64)
include hd hn

/-- An object of a general counter names its die and its number. -/
theorem effectUnits_general (m v : Nat) : s.effectUnits ⟨0x48, 0x100 + d * 64 + n, m⟩ v =
    if m = 0 then fxPcSelect d n v s else if m = 4 then (if v = 1 then fxPcClear d n s else s) else s.put ⟨0x48, 0x100 + d * 64 + n, m⟩ v := by
  have few := dies_le s
  have die : (0x100 + d * 64 + n - 0x100) / 64 = d := by omega
  have number : (0x100 + d * 64 + n - 0x100) % 64 = n := by omega
  show (if 0x400 ≤ 0x100 + d * 64 + n then _ else if 0x100 ≤ 0x100 + d * 64 + n then _ else _) = _
  rw [if_neg (by omega), if_pos (by omega)]
  simp only [die, number]

theorem writeOne_pcSelect {u : State} {w : Nat} (hu : fxPcSelect d n w s = u) (h : s.servesWrite ifc (O.PC_SELECT d n) w = true) :
    writeOne ifc (O.PC_SELECT d n) w s = .next (settle (u.acknowledged ifc (O.PC_SELECT d n))) :=
  writeOne_counter (by decide) ((effectUnits_general hd hn 0 w).trans ((if_pos rfl).trans hu)) h

theorem writeOne_pcClear (h : s.servesWrite ifc (O.PC_CLEAR d n) 1 = true) :
    writeOne ifc (O.PC_CLEAR d n) 1 s = .next (settle ((fxPcClear d n s).acknowledged ifc (O.PC_CLEAR d n))) :=
  writeOne_counter (by decide) (effectUnits_general hd hn 4 1) h

end General

theorem effectUnits_tenant (s : State) (t m v : Nat) : s.effectUnits ⟨0x48, 0x400 + t, m⟩ v =
    if m = 0x21 then fxTcClear t v s else if m < 0x20 then fxTcSelect t (m / 4) v s else s.put ⟨0x48, 0x400 + t, m⟩ v := by
  show (if 0x400 ≤ 0x400 + t then _ else _) = _
  rw [if_pos (by omega)]
  simp only [Nat.add_sub_cancel_left]

theorem writeOne_tcSelect {u : State} {t k w : Nat} (hk : k < 8) (hu : fxTcSelect t k w s = u) (h : s.servesWrite ifc (O.TC_SELECT t k) w = true) :
    writeOne ifc (O.TC_SELECT t k) w s = .next (settle (u.acknowledged ifc (O.TC_SELECT t k))) := by
  have never : ∀ k, k < 8 → neverW1c 0x48 (0x00 + 4 * k) = true := by decide
  refine writeOne_counter (never k hk) ((effectUnits_tenant s t (0x00 + 4 * k) w).trans ?_) h
  rw [if_neg (by omega), if_pos (by omega), show (0x00 + 4 * k) / 4 = k by omega, hu]

theorem writeOne_tcClear {t m : Nat} (h : s.servesWrite ifc (O.TC_CLEAR t) m = true) :
    writeOne ifc (O.TC_CLEAR t) m s = .next (settle ((fxTcClear t m s).acknowledged ifc (O.TC_CLEAR t))) :=
  writeOne_counter (by decide) (effectUnits_tenant s t 0x21 m) h

end Writes

/-! ## Partials (R478) -/

/-- The one partial that its home does not know yet is sent there. -/
theorem fxPartialSend_one {s : State} {d t k : Nat} (htick : s.now d % 25 = 0) (ht : t < 1024) (hk : k < 8) (haway : d ≠ s.tenantHome t)
    (hlatest : s.perf.latest = []) (hkeys : s.perf.part.keys = [partKey d t k]) (hnew : s.perf.part.at (partKey d t k) ≠ 0) :
    fxPartialSend d s = ({ s with perf := { s.perf with
      latest := s.perf.latest.set (partKey d t k) (s.perf.part.at (partKey d t k)) } } : State).tcGrow t k (s.tcValue t k)
      (s.perf.part.at (partKey d t k) % 2 ^ 48) := by
  have die : partKey d t k / 8192 = d := by rw [partKey]; omega
  have tenant : partKey d t k % 8192 / 8 = t := by rw [partKey]; omega
  have counter : partKey d t k % 8192 % 8 = k := by rw [partKey]; omega
  have unknown : s.perf.latest.at (partKey d t k) = 0 := by rw [hlatest]; rfl
  have sent : ((s.perf.part.keys ++ s.perf.latest.keys).filter (fun k => k / 8192 == d)).eraseDups = [partKey d t k] := by
    rw [hkeys, hlatest]
    simp [Table.keys, die]
    rfl
  rw [fxPartialSend, if_pos htick, sent]
  simp only [forEach, List.foldl_cons, List.foldl_nil, tenant, counter, if_neg haway, unknown, if_neg hnew, Nat.sub_zero, Nat.add_mod_right]

/-! ## Snapshots (R479) -/

/-- The general counters listed with a value or a snapshot. -/
def listedGeneral (s : State) : List Nat :=
  ((s.regs.filter (fun c : Nat × Word => decide (c.1 / 0x100 % 0x100 = 0x48 ∧ 0x100 ≤ c.1 / 0x10000 ∧
    c.1 / 0x10000 < 0x400 ∧ (c.1 % 0x100 = 1 ∨ c.1 % 0x100 = 2)))).map (fun c => c.1 / 0x10000)).eraseDups

/-- The tenant counters with a partial or a snapshot. -/
def listedTenant (s : State) (part : Table Nat) : List Nat :=
  ((part.keys.map (fun k => k % 8192)) ++
    ((s.regs.filter (fun c : Nat × Word => decide (c.1 / 0x100 % 0x100 = 0x48 ∧ 0x400 ≤ c.1 / 0x10000 ∧ c.1 % 0x100 < 0x20 ∧
      c.1 % 4 = 2))).map (fun c : Nat × Word => (c.1 / 0x10000 - 0x400) * 8 + c.1 % 0x100 / 4))).eraseDups

/-- The sum of a tenant counter's partials. -/
def partialSum (s : State) (i : Nat) : Nat := ((List.range s.dies).foldl (fun a d => a + s.perf.part.at (8192 * d + i)) 0) % 2 ^ 48

def snapValues (l : List Nat) (s : State) : State := forEach l (fun i s => s.put ⟨0x48, i, 2⟩ (s.get ⟨0x48, i, 1⟩)) s
def zeroValues (l : List Nat) (s : State) : State := forEach l (fun i s => s.put ⟨0x48, i, 1⟩ 0) s
def snapSums (l : List Nat) (s : State) : State := forEach l (fun i s => s.put (O.TC_SNAP (i / 8) (i % 8)) (partialSum s i)) s
def dropPartials (s : State) : State := { s with perf := { part := [], latest := [] } }

/-- The record of a snapshot and the instant of the next. -/
def snapDone (tick : Nat) (s : State) : State :=
  ((s.put O.PC_LAST_SNAP_AT tick).wrap32 O.PC_SNAP_COUNT).put O.PC_SNAP_AT
    (if s.get O.PC_SNAP_PERIOD = 0 then 0 else tick + s.get O.PC_SNAP_PERIOD)

theorem listedGeneral_ge {s : State} : ∀ i ∈ listedGeneral s, 0x100 ≤ i := by
  intro i hi
  obtain ⟨c, hc, rfl⟩ := List.mem_map.1 (List.mem_eraseDups.1 hi)
  exact (of_decide_eq_true (List.mem_filter.1 hc).2).2.1

/-- A snapshot that is due, by its passes. -/
theorem fxPcSnapshot_due {s u v : State} (hset : s.get O.PC_SNAP_AT ≠ 0) (hdue : s.get O.PC_SNAP_AT ≤ s.now 0)
    (hu : u = if s.get O.PC_SNAP_CLEAR = 1 then zeroValues (listedGeneral s) (snapValues (listedGeneral s) s) else snapValues (listedGeneral s) s)
    (hv : v = snapSums (listedTenant u u.perf.part) u) :
    fxPcSnapshot s = snapDone (s.get O.PC_SNAP_AT) (if s.get O.PC_SNAP_CLEAR = 1 then dropPartials v else v) := by
  subst hu hv
  unfold fxPcSnapshot
  rw [if_pos ⟨hset, hdue⟩]
  rfl

theorem fxPcSnapshot_waits {s : State} (h : s.get O.PC_SNAP_AT = 0 ∨ s.now 0 < s.get O.PC_SNAP_AT) : fxPcSnapshot s = s :=
  if_neg (by omega)

/-- With no counter listed nothing is kept. -/
theorem listedGeneral_empty {s : State} (h : s.regs.all (fun c => decide (c.1 / 0x100 % 0x100 ≠ 0x48 ∨ c.1 / 0x10000 < 0x100)) = true) :
    listedGeneral s = [] := by
  have none : s.regs.filter (fun c : Nat × Word => decide (c.1 / 0x100 % 0x100 = 0x48 ∧ 0x100 ≤ c.1 / 0x10000 ∧ c.1 / 0x10000 < 0x400 ∧
      (c.1 % 0x100 = 1 ∨ c.1 % 0x100 = 2))) = [] := by
    refine List.filter_eq_nil_iff.2 fun c hc => ?_
    have := List.all_eq_true.1 h c hc
    simp only [decide_eq_true_eq] at this ⊢
    omega
  rw [listedGeneral, none]
  rfl

theorem listedTenant_empty {s : State} (h : s.regs.all (fun c => decide (c.1 / 0x100 % 0x100 ≠ 0x48 ∨ c.1 / 0x10000 < 0x100)) = true) :
    listedTenant s [] = [] := by
  have none : s.regs.filter (fun c : Nat × Word => decide (c.1 / 0x100 % 0x100 = 0x48 ∧ 0x400 ≤ c.1 / 0x10000 ∧ c.1 % 0x100 < 0x20 ∧ c.1 % 4 = 2)) = [] := by
    refine List.filter_eq_nil_iff.2 fun c hc => ?_
    have := List.all_eq_true.1 h c hc
    simp only [decide_eq_true_eq] at this ⊢
    omega
  rw [listedTenant, none]
  rfl

/-! ### What a pass of writes leaves -/

theorem get_of_key {s : State} {o o' : Obj} (hr : InRange o) (hr' : InRange o') (h : o.key = o'.key) : s.get o = s.get o' := by
  rw [← ofKey_key hr.1 hr.2, ← ofKey_key hr'.1 hr'.2, h]

section Pass
variable {α : Type} {obj : α → Obj} {val : State → α → Nat} {final : α → Nat} {s : State}

/-- A pass that writes an object for each item of a list, with a value that the pass itself does not change, leaves each at its value, and
every other object and the partials as they were. -/
theorem forEach_puts (hrise : s.regs.risingFrom 0 = true) (touched : Nat → Prop) (hrange : ∀ a, InRange (obj a)) (hinj : ∀ a b, (obj a).key = (obj b).key → final a = final b)
    (hval : ∀ t a, StoresAt touched s t → t.perf = s.perf → val t a = final a) (l : List α)
    (hobj : ∀ a ∈ l, touched (obj a).key) : ∀ t, StoresAt touched s t → t.perf = s.perf →
      StoresAt touched s (forEach l (fun a t => t.put (obj a) (val t a)) t) ∧ (forEach l (fun a t => t.put (obj a) (val t a)) t).perf = s.perf ∧
      (∀ a ∈ l, (forEach l (fun a t => t.put (obj a) (val t a)) t).get (obj a) = final a % 2 ^ 64) ∧
      ∀ o : Obj, (∀ a ∈ l, o.key ≠ (obj a).key) → (forEach l (fun a t => t.put (obj a) (val t a)) t).get o = t.get o := by
  induction l with
  | nil => exact fun t hs hp => ⟨hs, hp, fun a h => (List.not_mem_nil h).elim, fun o _ => rfl⟩
  | cons b l ih =>
    intro t hs hp
    have rising := hs.rising hrise
    obtain ⟨stores, perf, listed, others⟩ := ih (fun a ha => hobj a (List.mem_cons_of_mem _ ha)) (t.put (obj b) (val t b))
      (hs.trans (.put t _ (hobj b List.mem_cons_self))) hp
    have written : (t.put (obj b) (val t b)).get (obj b) = final b % 2 ^ 64 := by rw [get_put_self rising, hval t b hs hp]
    refine ⟨stores, perf, fun a ha => ?_, fun o ho => ?_⟩
    · by_cases again : ∃ c ∈ l, (obj a).key = (obj c).key
      · obtain ⟨c, hc, hkey⟩ := again
        exact (get_of_key (hrange a) (hrange c) hkey).trans ((listed c hc).trans (by rw [hinj a c hkey]))
      · rcases List.mem_cons.1 ha with rfl | ha'
        · exact (others (obj a) fun c hc e => again ⟨c, hc, e⟩).trans written
        · exact absurd ⟨a, ha', rfl⟩ again
    · exact (others o fun a ha => ho a (List.mem_cons_of_mem _ ha)).trans (get_put_ne rising _ (ho b List.mem_cons_self))

end Pass

/-- The keys that each pass writes. -/
def isValueKey (k : Nat) : Prop := k % 0x10000 = 0x4801 ∧ 0x100 ≤ k / 0x10000
def isSnapKey (k : Nat) : Prop := k % 0x10000 = 0x4802 ∧ 0x100 ≤ k / 0x10000
def isTenantKey (k : Nat) : Prop := k / 0x100 % 0x100 = 0x48 ∧ 0x400 ≤ k / 0x10000

section Passes
variable {s : State} (h : s.regs.risingFrom 0 = true) (l : List Nat)
include h

theorem snapValues_leaves (hl : ∀ i ∈ l, 0x100 ≤ i) : StoresAt isSnapKey s (snapValues l s) ∧ (snapValues l s).perf = s.perf ∧
    (∀ i ∈ l, (snapValues l s).get ⟨0x48, i, 2⟩ = s.get ⟨0x48, i, 1⟩) ∧ ∀ i, i ∉ l → (snapValues l s).get ⟨0x48, i, 2⟩ = s.get ⟨0x48, i, 2⟩ := by
  obtain ⟨stores, perf, listed, others⟩ := forEach_puts (obj := fun i => ⟨0x48, i, 2⟩) (val := fun t i => t.get ⟨0x48, i, 1⟩)
    (final := fun i => s.get ⟨0x48, i, 1⟩) h isSnapKey (fun i => inRange)
    (fun i j e => by rw [show i = j by simp only [Obj.key] at e; omega])
    (fun t i ht _ => ht.get h (by simp only [isSnapKey, Obj.key]; omega)) l
    (fun i hi => by have := hl i hi; simp only [isSnapKey, Obj.key]; omega) s .beside rfl
  exact ⟨stores, perf, fun i hi => (listed i hi).trans (Nat.mod_eq_of_lt (get_lt ..)),
    fun i hi => others ⟨0x48, i, 2⟩ fun j hj e => hi (by rwa [show i = j by simp only [Obj.key] at e; omega])⟩

theorem zeroValues_leaves (hl : ∀ i ∈ l, 0x100 ≤ i) : StoresAt isValueKey s (zeroValues l s) ∧ (zeroValues l s).perf = s.perf ∧
    (∀ i ∈ l, (zeroValues l s).get ⟨0x48, i, 1⟩ = 0) ∧ ∀ i, i ∉ l → (zeroValues l s).get ⟨0x48, i, 1⟩ = s.get ⟨0x48, i, 1⟩ := by
  obtain ⟨stores, perf, listed, others⟩ := forEach_puts (obj := fun i => ⟨0x48, i, 1⟩) (val := fun _ _ => 0) (final := fun _ => 0) h isValueKey
    (fun i => inRange) (fun _ _ _ => rfl) (fun _ _ _ _ => rfl) l (fun i hi => by have := hl i hi; simp only [isValueKey, Obj.key]; omega) s .beside rfl
  exact ⟨stores, perf, listed, fun i hi => others ⟨0x48, i, 1⟩ fun j hj e => hi (by rwa [show i = j by simp only [Obj.key] at e; omega])⟩

theorem snapSums_leaves : StoresAt isTenantKey s (snapSums l s) ∧ (snapSums l s).perf = s.perf ∧
    (∀ i ∈ l, (snapSums l s).get (O.TC_SNAP (i / 8) (i % 8)) = partialSum s i) ∧
    ∀ i, i ∉ l → (snapSums l s).get (O.TC_SNAP (i / 8) (i % 8)) = s.get (O.TC_SNAP (i / 8) (i % 8)) := by
  have apart {i j : Nat} (e : (O.TC_SNAP (i / 8) (i % 8)).key = (O.TC_SNAP (j / 8) (j % 8)).key) : i = j := by
    simp only [Obj.key, O.TC_SNAP] at e
    omega
  have same (t : State) (i : Nat) (ht : StoresAt isTenantKey s t) (hp : t.perf = s.perf) : partialSum t i = partialSum s i := by
    simp only [partialSum, State.dies, ht.variant, hp]
  obtain ⟨stores, perf, listed, others⟩ := forEach_puts (obj := fun i => O.TC_SNAP (i / 8) (i % 8)) (val := partialSum)
    (final := partialSum s) h isTenantKey (fun i => ⟨show 0x48 < 256 by decide, show 0x02 + 4 * (i % 8) < 256 by omega⟩)
    (fun i j e => by rw [apart e]) same l (fun i _ => by simp only [isTenantKey, Obj.key, O.TC_SNAP]; omega) s .beside rfl
  have fits (i : Nat) : partialSum s i < 2 ^ 64 := Nat.lt_of_lt_of_le (Nat.mod_lt _ (by decide)) (by decide)
  exact ⟨stores, perf, fun i hi => (listed i hi).trans (Nat.mod_eq_of_lt (fits i)),
    fun i hi => others _ fun j hj e => hi (by rwa [apart e])⟩

end Passes

/-! ### What is not listed reads 0 -/

theorem mem_of_find {α : Type} {t : Table α} {k : Nat} {v : α} (h : t.find k = some v) : (k, v) ∈ t := by
  induction t with
  | nil => cases h
  | cons c r ih =>
    obtain ⟨j, w⟩ := c
    rw [Table.find] at h
    split at h
    · rename_i e
      cases h
      exact e ▸ List.mem_cons_self
    · split at h
      · exact List.mem_cons_of_mem _ (ih h)
      · cases h

/-- An object that is not listed reads its default. -/
theorem get_of_unlisted {s : State} {o : Obj} (h : ∀ w, (o.key, w) ∉ s.regs) : s.get o = defaultOf s.variant o % 2 ^ 64 := by
  have none : s.regs.find o.key = none := by
    cases found : s.regs.find o.key with
    | none => rfl
    | some w => exact absurd (mem_of_find found) (h w)
  rw [State.get, none]

theorem defaultOf_general {v : Variant} {i m : Nat} (hi : 0x100 ≤ i ∧ i < 0x400) (hm : m = 1 ∨ m = 2) : defaultOf v ⟨0x48, i, m⟩ = 0 := by
  have rows : rowOfSlot v ⟨0x48, i, m⟩ = (if 0x100 ≤ i ∧ i < 0x100 + 64 * v.dies then tableR483 else []).find? (Row.holdsSlot m) := by
    have : v.dies ≤ 8 := by cases v <;> decide
    simp only [rowOfSlot, tableOf]
    rw [if_neg (by omega), if_neg (c := 0x400 ≤ i ∧ i < 0x800) (by omega)]
  have plain : ∀ m, m = 1 ∨ m = 2 → tableR483.find? (Row.holdsSlot m) = tableR483[m]? ∧ (tableR483[m]?.all fun r => r.kind == .value && r.dflt == 0) := by
    rintro m (rfl | rfl) <;> decide
  rw [defaultOf, rows]
  split
  · rfl
  · rename_i r hr
    split at hr
    · rw [(plain m hm).1] at hr
      have zero := (plain m hm).2
      rw [hr] at zero
      simp only [Option.all_some, Bool.and_eq_true, beq_iff_eq] at zero
      rw [zero.1, zero.2]
    · cases hr

theorem defaultOf_tcSnap {v : Variant} {x k : Nat} (hx : x < 1024) (hk : k < 8) : defaultOf v (O.TC_SNAP x k) = 0 := by
  have row : ∀ k, k < 8 → tableR484.find? (Row.holdsSlot (0x02 + 4 * k)) = tableR484[2]? := by decide
  have found : rowOfSlot v (O.TC_SNAP x k) = tableR484[2]? := by
    rw [rowOfSlot, O.TC_SNAP, tableOf_tenantCounters hx]
    exact row k hk
  rw [defaultOf, found]
  rfl

theorem general_unlisted {s : State} {i m : Nat} (hi : 0x100 ≤ i ∧ i < 0x400) (hm : m = 1 ∨ m = 2) (h : i ∉ listedGeneral s) :
    s.get ⟨0x48, i, m⟩ = 0 := by
  refine (get_of_unlisted fun w hw => ?_).trans (by rw [defaultOf_general hi hm, Nat.zero_mod])
  refine h (List.mem_eraseDups.2 (List.mem_map.2 ⟨_, List.mem_filter.2 ⟨hw, ?_⟩, ?_⟩))
  · refine decide_eq_true ?_
    simp only [Obj.key]
    omega
  · simp only [Obj.key]
    omega

theorem tcSnap_unlisted {s : State} {x k : Nat} {part : Table Nat} (hx : x < 1024) (hk : k < 8) (h : 8 * x + k ∉ listedTenant s part) :
    s.get (O.TC_SNAP x k) = 0 := by
  refine (get_of_unlisted fun w hw => ?_).trans (by rw [defaultOf_tcSnap hx hk, Nat.zero_mod])
  refine h (List.mem_eraseDups.2 (List.mem_append_right _ (List.mem_map.2 ⟨_, List.mem_filter.2 ⟨hw, ?_⟩, ?_⟩)))
  · refine decide_eq_true ?_
    simp only [Obj.key, O.TC_SNAP]
    omega
  · simp only [Obj.key, O.TC_SNAP]
    omega

theorem partialSum_unlisted {s : State} {i : Nat} (hi : i < 8192) (h : i ∉ listedTenant s s.perf.part) : partialSum s i = 0 := by
  have none (d : Nat) : s.perf.part.at (8192 * d + i) = 0 := by
    cases found : s.perf.part.find (8192 * d + i) with
    | none => rw [Table.at, found]; rfl
    | some n =>
      refine absurd (List.mem_eraseDups.2 (List.mem_append_left _ (List.mem_map.2 ⟨8192 * d + i, ?_, by omega⟩))) h
      exact List.mem_map.2 ⟨_, mem_of_find found, rfl⟩
  simp [partialSum, none]

/-! ### The snapshot of a state in canonical form -/

section Snapshot
variable {s u v : State} (hrise : s.regs.risingFrom 0 = true)
  (hu : u = if s.get O.PC_SNAP_CLEAR = 1 then zeroValues (listedGeneral s) (snapValues (listedGeneral s) s) else snapValues (listedGeneral s) s)
include hrise hu

/-- After the passes over the general counters each snapshot holds its counter's value, which the clearing pass has taken. -/
theorem generalPasses_leave : StoresAt (fun k => isValueKey k ∨ isSnapKey k) s u ∧ u.perf = s.perf ∧ ∀ i, 0x100 ≤ i ∧ i < 0x400 →
    u.get ⟨0x48, i, 2⟩ = s.get ⟨0x48, i, 1⟩ ∧ u.get ⟨0x48, i, 1⟩ = if s.get O.PC_SNAP_CLEAR = 1 then 0 else s.get ⟨0x48, i, 1⟩ := by
  obtain ⟨stores, perf, listed, others⟩ := snapValues_leaves hrise (listedGeneral s) listedGeneral_ge
  have snapped (i : Nat) (hi : 0x100 ≤ i ∧ i < 0x400) : (snapValues (listedGeneral s) s).get ⟨0x48, i, 2⟩ = s.get ⟨0x48, i, 1⟩ := by
    by_cases hl : i ∈ listedGeneral s
    · exact listed i hl
    · rw [others i hl, general_unlisted hi (.inr rfl) hl, general_unlisted hi (.inl rfl) hl]
  have value (i : Nat) : (snapValues (listedGeneral s) s).get ⟨0x48, i, 1⟩ = s.get ⟨0x48, i, 1⟩ :=
    stores.get hrise (by simp only [isSnapKey, Obj.key]; omega)
  subst hu
  split
  · obtain ⟨zStores, zPerf, zListed, zOthers⟩ := zeroValues_leaves (stores.rising hrise) (listedGeneral s) listedGeneral_ge
    refine ⟨(stores.mono fun _ => .inr).trans (zStores.mono fun _ => .inl), zPerf.trans perf, fun i hi => ⟨?_, ?_⟩⟩
    · exact (zStores.get (stores.rising hrise) (by simp only [isValueKey, Obj.key]; omega)).trans (snapped i hi)
    · by_cases hl : i ∈ listedGeneral s
      · exact zListed i hl
      · rw [zOthers i hl, value, general_unlisted hi (.inl rfl) hl]
  · exact ⟨stores.mono fun _ => .inr, perf, fun i hi => ⟨snapped i hi, value i⟩⟩

end Snapshot

/-- After the pass over the tenant counters each snapshot holds its counter's sum over the dies. -/
theorem tenantPass_leaves {u v : State} (hrise : u.regs.risingFrom 0 = true) (hv : v = snapSums (listedTenant u u.perf.part) u) :
    StoresAt isTenantKey u v ∧ v.perf = u.perf ∧ ∀ x k, x < 1024 → k < 8 → v.get (O.TC_SNAP x k) = partialSum u (8 * x + k) := by
  obtain ⟨stores, perf, listed, others⟩ := snapSums_leaves hrise (listedTenant u u.perf.part)
  subst hv
  refine ⟨stores, perf, fun x k hx hk => ?_⟩
  have tenant : (8 * x + k) / 8 = x := by omega
  have counter : (8 * x + k) % 8 = k := by omega
  by_cases hl : 8 * x + k ∈ listedTenant u u.perf.part
  · have := listed _ hl
    rwa [tenant, counter] at this
  · have := others _ hl
    rw [tenant, counter] at this
    rw [this, tcSnap_unlisted hx hk hl, partialSum_unlisted (by omega) hl]

/-- The record leaves every object of a counter as it was, and holds the two instants. -/
theorem snapDone_leaves {w : State} (hrise : w.regs.risingFrom 0 = true) (tick : Nat) :
    (∀ o : Obj, 0 < o.inst → InRange o → (snapDone tick w).get o = w.get o) ∧
    (snapDone tick w).get O.PC_LAST_SNAP_AT = tick % 2 ^ 64 ∧
    (snapDone tick w).get O.PC_SNAP_AT = (if w.get O.PC_SNAP_PERIOD = 0 then 0 else tick + w.get O.PC_SNAP_PERIOD) % 2 ^ 64 := by
  have rising₁ := put_rising hrise O.PC_LAST_SNAP_AT tick
  have rising₂ := put_rising rising₁ O.PC_SNAP_COUNT (((w.put O.PC_LAST_SNAP_AT tick).get O.PC_SNAP_COUNT + 1) % 2 ^ 32)
  refine ⟨fun o hi hr => ?_, ?_, get_put_self rising₂ _ _⟩
  · have other {m : Nat} (hm : m < 256) : o.key ≠ (⟨0x48, 0, m⟩ : Obj).key :=
      key_ne hr ⟨show 0x48 < 256 by decide, hm⟩ fun e => absurd (congrArg Obj.inst e) (Nat.ne_of_gt hi)
    exact (get_put_ne rising₂ _ (other (by decide))).trans ((get_put_ne rising₁ _ (other (by decide))).trans (get_put_ne hrise _ (other (by decide))))
  · exact (get_put_ne rising₂ _ (by decide)).trans ((get_put_ne rising₁ _ (by decide)).trans (get_put_self hrise _ _))

/-- Settles O58: the writes by their members' cases, the snapshot by its passes, each of which writes objects that the others leave. -/
theorem counters : Obligations.Counters := by
  unfold Obligations.Counters
  refine ⟨?select, ?selectSame, ?tcSelect, ?tcSelectSame, ?clear, ?tcClear, ?userRead, ?noSend, ?send, ?early, ?unset, ?empty, ?snapshot⟩
  case select => exact fun s ifc d n w hd hn h hne => writeOne_pcSelect hd hn (if_pos hne) h
  case selectSame => exact fun s ifc d n w hd hn h heq => writeOne_pcSelect hd hn (if_neg (not_not.2 heq)) h
  case tcSelect => exact fun s ifc t k w ht hk h hne => writeOne_tcSelect hk (if_pos hne) h
  case tcSelectSame => exact fun s ifc t k w ht hk h heq => writeOne_tcSelect hk (if_neg (not_not.2 heq)) h
  case clear => exact fun s ifc d n hd hn h => writeOne_pcClear hd hn h
  case tcClear => exact fun s ifc t m ht h => writeOne_tcClear h
  case userRead => exact fun s ifc t b ht h => writeOne_userRead h
  case noSend => exact fun s d hd htick => onUnit_hasDie hd (if_neg htick)
  case send =>
    intro s d t k hd htick ht hk haway hlatest hkeys hnew
    exact onUnit_hasDie hd (fxPartialSend_one htick ht hk haway hlatest hkeys hnew)
  case early => exact fun s hset hearly => done_eq (fxPcSnapshot_waits (.inr hearly))
  case unset => exact fun s hunset => done_eq (fxPcSnapshot_waits (.inl hunset))
  case empty =>
    intro s hset hdue hclear hpart hregs hperiod
    refine done_eq ((fxPcSnapshot_due hset hdue rfl rfl).trans ?_)
    rw [if_neg hclear, if_neg hclear, listedGeneral_empty hregs, show snapValues [] s = s from rfl, hpart, listedTenant_empty hregs,
      show snapSums [] s = s from rfl, snapDone, if_pos hperiod]
  case snapshot =>
    intro s t hcanon hset hdue ht
    obtain ⟨u, hu⟩ : ∃ u, u = if s.get O.PC_SNAP_CLEAR = 1 then zeroValues (listedGeneral s) (snapValues (listedGeneral s) s)
        else snapValues (listedGeneral s) s := ⟨_, rfl⟩
    obtain ⟨v, hv⟩ : ∃ v, v = snapSums (listedTenant u u.perf.part) u := ⟨_, rfl⟩
    obtain ⟨w, hw⟩ : ∃ w, w = if s.get O.PC_SNAP_CLEAR = 1 then dropPartials v else v := ⟨_, rfl⟩
    have rising := Canonical.rising hcanon
    obtain ⟨uStores, uPerf, uGeneral⟩ := generalPasses_leave rising hu
    have uRising := uStores.rising rising
    obtain ⟨vStores, vPerf, vTenant⟩ := tenantPass_leaves uRising hv
    have vRising := vStores.rising uRising
    have beside : w.regs = v.regs ∧ w.variant = v.variant := by
      rw [hw]
      split <;> exact ⟨rfl, rfl⟩
    have wGet (o : Obj) : w.get o = v.get o := get_of_store beside.1 beside.2 o
    have wPart : w.perf.part = if s.get O.PC_SNAP_CLEAR = 1 then [] else s.perf.part := by
      rw [hw]
      split
      · rfl
      · rw [vPerf, uPerf]
    have eq : t = snapDone (s.get O.PC_SNAP_AT) w := by rw [ht, fxPcSnapshot_due hset hdue hu hv, hw]
    obtain ⟨counter, last, next⟩ := snapDone_leaves (beside.1 ▸ vRising) (s.get O.PC_SNAP_AT)
    have period : w.get O.PC_SNAP_PERIOD = s.get O.PC_SNAP_PERIOD :=
      (wGet _).trans ((vStores.get uRising (by unfold isTenantKey; decide)).trans (uStores.get rising (by unfold isValueKey isSnapKey; decide)))
    have general (i m : Nat) (hi : 0x100 ≤ i ∧ i < 0x400) (hm : m < 256) : t.get ⟨0x48, i, m⟩ = u.get ⟨0x48, i, m⟩ := by
      rw [eq, counter _ (show 0 < i by omega) ⟨show 0x48 < 256 by decide, hm⟩, wGet, vStores.get uRising]
      simp only [isTenantKey, Obj.key]
      omega
    refine ⟨by rw [ht]; rfl, ?values, ?sums, ?partials, ?lastAt, ?nextAt⟩
    case values =>
      intro d n hd hn
      have few := dies_le s
      have inside : 0x100 ≤ 0x100 + d * 64 + n ∧ 0x100 + d * 64 + n < 0x400 := by omega
      obtain ⟨snapped, value⟩ := uGeneral _ inside
      exact ⟨(general _ 2 inside (by decide)).trans snapped, (general _ 1 inside (by decide)).trans value⟩
    case sums =>
      intro x k hx hk
      have kept : t.get (O.TC_SNAP x k) = partialSum u (8 * x + k) := by
        rw [eq, counter _ (show 0 < 0x400 + x by omega) ⟨show 0x48 < 256 by decide, show 0x02 + 4 * k < 256 by omega⟩, wGet, vTenant x k hx hk]
      rw [kept, partialSum, State.dies, uStores.variant, uPerf]
      simp only [partKey, Nat.add_assoc]
      rfl
    case partials =>
      rw [eq]
      exact wPart
    case lastAt => rw [eq, last, Nat.mod_eq_of_lt (get_lt ..)]
    case nextAt =>
      rw [eq, next, period]
      split <;> rfl

end Sys2Proof.Proofs
end

section
/-! PROOFS. The Weevil auditor, the credit audit, capture and the high-water marks (obligations of 07_central_buffer.md and
09_tenant_qos.md). -/
namespace Sys2Proof.Proofs
open Sys2Proof Sys2Proof.Machine Sys2Proof.Laws
set_option Elab.async false

/-! ## The Weevil auditor (R221, R222) -/

section Weevil
variable {s : State} {d n : Nat}

/-- The auditor of a die runs, and its next cell is one of the die's after the first. -/
structure Examines (s : State) (d n : Nat) : Prop where
  data : s.datapathOn = true
  runs : s.domainOn d dAuditor = true
  enabled : s.get O.WEEVIL_ENABLE = 1
  next : (s.dieCore d).weevil = n
  later : 0 < n
  inside : n < cellsPerDie

/-- The cell is counted in its pool, and the next one comes. -/
def passCell (s : State) (d n : Nat) : State :=
  s.setDieCore d (fun k => { k with weevil := n + 1, found := k.found.upd (s.cellAt d n).pool (· + 1) })

theorem Examines.gate (h : Examines s d n) :
    (s.datapathOn && s.domainOn d dAuditor && s.get O.WEEVIL_ENABLE == 1 && decide (n < cellsPerDie)) = true := by
  rw [h.data, h.runs, h.enabled, decide_eq_true h.inside]
  rfl

theorem fxWeevilExamine_free (h : Examines s d n) (hpool : (s.cellAt d n).pool = 0) : fxWeevilExamine d 0 s = passCell s d n := by
  simp only [fxWeevilExamine, h.gate, if_true, h.next, if_neg (Nat.ne_of_gt h.later), Nat.zero_ne_one, if_false, hpool, true_or]
  rw [passCell, hpool]

theorem fxWeevilExamine_disagrees (h : Examines s d n) : fxWeevilExamine d 1 s = passCell (s.quarantine d n) d n := by
  simp only [fxWeevilExamine, h.gate, if_true, h.next, if_neg (Nat.ne_of_gt h.later)]
  rfl

section Charged
variable (h : Examines s d n) (hpool : (s.cellAt d n).pool ≠ 0) (hsound : (s.cellAt d n).pool ≠ poolQuarantine)
  (hnamed : s.namedCells.contains (cellName n (s.cellAt d n).gen) = false)
include h hpool hsound hnamed

/-- A charged cell that nothing names, met for the first time, is suspect. -/
theorem fxWeevilExamine_suspects {u : State} (hfirst : (s.cellAt d n).suspect = false) (hu : u = s.setCell d n (fun c => { c with suspect := true }))
    (hyoung : u.elapsed d < (s.cellAt d n).since + u.get O.WEEVIL_AGE_LIMIT) : fxWeevilExamine d 0 s = passCell u d n := by
  subst hu
  simp only [fxWeevilExamine, h.gate, if_true, h.next, if_neg (Nat.ne_of_gt h.later), Nat.zero_ne_one, if_false, hpool, hsound, or_self, hnamed,
    Bool.not_false, hfirst, Bool.false_eq_true, if_neg (Nat.not_le.2 hyoung)]
  rfl

/-- Met again it is a leak. -/
theorem fxWeevilExamine_leak {u : State} (hagain : (s.cellAt d n).suspect = true)
    (hfirst : (s.count32 (O.LEAKS_FOUND d)).get (O.FIRST_LEAK_CELL d) = 0xFFFFFFFF)
    (hu : u = ((s.count32 (O.LEAKS_FOUND d)).put (O.FIRST_LEAK_CELL d) n).bufEvent d F.CELL_LEAK 0 n) (hkeep : u.get O.WEEVIL_RECLAIM = 0)
    (hyoung : u.elapsed d < (s.cellAt d n).since + u.get O.WEEVIL_AGE_LIMIT) : fxWeevilExamine d 0 s = passCell u d n := by
  subst hu
  simp only [fxWeevilExamine, h.gate, if_true, h.next, if_neg (Nat.ne_of_gt h.later), Nat.zero_ne_one, if_false, hpool, hsound, or_self, hnamed,
    Bool.not_false, hagain, hfirst, hkeep, if_neg (Nat.not_le.2 hyoung)]
  rfl

end Charged

/-- The end of a pass counts it, and raises the pools that do not match. -/
theorem fxWeevilPassEnd_ends {bad : Bool} (hend : cellsPerDie ≤ (s.dieCore d).weevil)
    (hbad : [1, 2, 3, 4, 5, 6, 7].any (fun p => (s.dieCore d).found.at p != s.get (poolObj d p)) = bad) : fxWeevilPassEnd d false s =
      if bad then ((s.setDieCore d (fun k => { k with weevil := 0, found := [] })).wrap32 (O.WEEVIL_PASSES d)).bufEvent d F.POOL_MISMATCH 3 0
      else (s.setDieCore d (fun k => { k with weevil := 0, found := [] })).wrap32 (O.WEEVIL_PASSES d) := by
  subst hbad
  exact if_pos hend

end Weevil

/-! ## The credit audit (R223 to R225) -/

theorem writeOne_caAt {s : State} {ifc : Iface} {v : Nat} (h : s.servesWrite ifc O.CA_AT v = true) :
    writeOne ifc O.CA_AT v s = .next (settle ((fxCaAt v s).acknowledged ifc O.CA_AT)) :=
  writeOne_units (by decide) (by decide) (fun _ => rfl) rfl h

/-- A channel of a link end exists. -/
theorem onUnit_channel {s t u : State} {l c : Nat} (hl : l < 4 * s.dies) (hc : c < 5) (h : t = u) :
    onUnit (s.hasInvar l && decide (c < 5)) t = .next (settle u) := by
  rw [State.hasInvar, decide_eq_true hl, decide_eq_true hc, Bool.and_self, onUnit_true, h]

theorem fxCreditAuditStart_starts {s u v w x : State} (hdata : s.datapathOn = true) (hruns : s.domainOn 0 dAuditor = true)
    (hstate : s.get O.CA_STATE = 1) (hset : s.get O.CA_AT ≠ 0) (hdue : s.get O.CA_AT ≤ s.now 0)
    (hu : u = { s with core := { s.core with failed := [], awaited := [], auditAt := s.elapsed 0, auditT := s.get O.CA_AT } })
    (hv : v = (u.put O.CA_STATE 2).put O.CA_AT (if u.get O.CA_PERIOD = 0 then 0 else s.get O.CA_AT + u.get O.CA_PERIOD))
    (hw : w = forEach (List.range v.dies) (fun d s => s.put (O.CA_LOOPS d) (s.auditedLoops d)) v)
    (hx : x = forEach (List.range w.dies) (fun d s => s.auditDie d) w) :
    fxCreditAuditStart s = forEach (List.range (4 * x.dies)) (fun l s => s.auditLink l) x := by
  subst hu hv hw hx
  exact if_pos (by rw [hdata, hruns, hstate, bne_iff_ne.2 hset, decide_eq_true hdue]; rfl)

section Marker
variable {s : State} {l c serial received charged : Nat} (hfind : (s.link l).markers.find? (fun m => m.1 == c) = some (c, serial, received, charged))
include hfind

/-- A marker that passes check 5 asks for its return marker, whatever check 4 said. -/
theorem fxMarker_passes {u v : State} (hu : u = s.setLink l (fun k => { k with markers := k.markers.filter (fun m => m.1 != c) }))
    (hv : v = if (received + 2 ^ 32 - (u.linkLoop l c).marker) % 2 ^ 32 = charged then u
      else u.auditFail (l / 4) (auditCode 3 (u.peerLink l / 4) (u.peerLink l % 4) c) 4)
    (hsnap : received = (v.linkLoop (u.peerLink l) c).snapConsumed) :
    fxMarker l c s = (v.setLink l (fun k => { k with markOut := k.markOut.set c (serial + 1, (u.linkLoop l c).returnedTx) })).sendCredit l c := by
  subst hu
  simp only [fxMarker, hfind]
  rw [← hv, if_pos hsnap]

end Marker

section ReturnMarker
variable {s : State} {l c before mark now : Nat} (hfind : (s.link l).returns.find? (fun m => m.1 == c) = some (c, before, mark, now))
include hfind

/-- A return marker is awaited no longer, once check 6 has been made. -/
theorem fxReturnMarker_gathers {u v : State} (hu : u = s.setLink l (fun k => { k with returns := k.returns.filter (fun m => m.1 != c) }))
    (hv : v = if (mark + 2 ^ 32 - before) % 2 ^ 32 ≤ (now + 2 ^ 32 - before) % 2 ^ 32 then u
      else u.auditFail (l / 4) (auditCode 3 (l / 4) (l % 4) c) 6) :
    fxReturnMarker l c s = { v with core := { v.core with awaited := v.core.awaited.filter (· != 8 * l + c) } } := by
  subst hu hv
  simp only [fxReturnMarker, hfind]

end ReturnMarker

/-- The gathering of an audit with nothing awaited and nothing failed. -/
theorem fxCreditAuditGather_clean {s u : State} (hstate : s.get O.CA_STATE = 2) (hdue : s.core.auditAt + 50 ≤ s.elapsed 0)
    (hawaited : s.core.awaited = []) (hfailed : s.core.failed = [])
    (hu : u = (((((s.put O.CA_RESULT stOk).put O.CA_LAST_AT s.core.auditT).put O.CA_FAIL_LOOP 0).put O.CA_FAIL_CHECK 0).wrap32 O.CA_RUNS)) :
    fxCreditAuditGather s = ({ u with core := { u.core with awaited := [], failed := [] } } : State).put O.CA_STATE
      (if u.get O.CA_AT = 0 then 0 else 1) := by
  subst hu
  rw [fxCreditAuditGather, if_pos ⟨hstate, hdue⟩, hawaited]
  simp only [forEach, List.foldl_nil, hfailed]
  rfl

/-- With one failed check the audit conflicts, with its loop and check. -/
theorem fxCreditAuditGather_conflict {s u : State} {code check : Nat} (hstate : s.get O.CA_STATE = 2) (hdue : s.core.auditAt + 50 ≤ s.elapsed 0)
    (hawaited : s.core.awaited = []) (hfailed : s.core.failed = [(code, check)]) (hcheck : check ≠ 0)
    (hu : u = ((((((s.put O.CA_RESULT stConflict).put O.CA_LAST_AT s.core.auditT).put O.CA_FAIL_LOOP code).put O.CA_FAIL_CHECK check).count32
      (O.CA_LOOP_FAILS (code / 2 ^ 16 % 256))).wrap32 O.CA_RUNS).count32 O.CA_FAILS) :
    fxCreditAuditGather s = ({ u with core := { u.core with awaited := [], failed := [] } } : State).put O.CA_STATE
      (if u.get O.CA_AT = 0 then 0 else 1) := by
  subst hu
  rw [fxCreditAuditGather, if_pos ⟨hstate, hdue⟩, hawaited]
  simp only [forEach, List.foldl_nil, hfailed]
  have noTimeout : (check == 0) = false := beq_eq_false_iff_ne.2 hcheck
  simp only [List.any_cons, List.any_nil, noTimeout, Bool.or_false, Bool.false_eq_true, if_false, List.isEmpty_cons]
  rfl

/-- Settles O33: the auditor by what it finds of its cell, the audit by its steps. -/
theorem bufferAuditors : Obligations.BufferAuditors := by
  unfold Obligations.BufferAuditors
  refine ⟨?free, ?disagrees, ?suspects, ?leak, ?passOk, ?passBad, ?arm, ?start, ?marker, ?markerFails, ?returned, ?returnFails, ?clean, ?conflict⟩
  case free =>
    intro s d n hd hdata hruns hen hnext hlater hin hpool
    refine onUnit_hasDie hd ((fxWeevilExamine_free ⟨hdata, hruns, hen, hnext, hlater, hin⟩ hpool).trans ?_)
    rw [passCell, hpool]
  case disagrees =>
    intro s u d n hd hdata hruns hen hnext hlater hin hu
    subst hu
    exact onUnit_hasDie hd (fxWeevilExamine_disagrees ⟨hdata, hruns, hen, hnext, hlater, hin⟩)
  case suspects =>
    intro s u d n hd hdata hruns hen hnext hlater hin hpool hsound hnamed hfirst hu hyoung
    exact onUnit_hasDie hd (fxWeevilExamine_suspects ⟨hdata, hruns, hen, hnext, hlater, hin⟩ hpool hsound hnamed hfirst hu hyoung)
  case leak =>
    intro s u d n hd hdata hruns hen hnext hlater hin hpool hsound hnamed hagain hfirst hu hkeep hyoung
    exact onUnit_hasDie hd (fxWeevilExamine_leak ⟨hdata, hruns, hen, hnext, hlater, hin⟩ hpool hsound hnamed hagain hfirst hu hkeep hyoung)
  case passOk => exact fun s d hd hend hok => onUnit_hasDie hd (fxWeevilPassEnd_ends hend hok)
  case passBad => exact fun s d hd hend hbad => onUnit_hasDie hd (fxWeevilPassEnd_ends hend hbad)
  case arm => exact fun s ifc v h => writeOne_caAt h
  case start =>
    intro s u v w x hdata hruns hstate hset hdue hu hv hw hx
    exact done_eq (fxCreditAuditStart_starts hdata hruns hstate hset hdue hu hv hw hx)
  case marker =>
    intro s u l c serial received charged hl hc hfind hu hcheck hsnap
    exact onUnit_channel hl hc (fxMarker_passes hfind hu (if_pos hcheck).symm hsnap)
  case markerFails =>
    intro s u v l c serial received charged hl hc hfind hu hcheck hv hsnap
    exact onUnit_channel hl hc (fxMarker_passes hfind hu (hv.trans (if_neg hcheck).symm) hsnap)
  case returned =>
    intro s u l c before mark now hl hc hfind hu hle
    exact onUnit_channel hl hc (fxReturnMarker_gathers hfind hu (if_pos hle).symm)
  case returnFails =>
    intro s u l c before mark now hl hc hfind hu hlt
    exact onUnit_channel hl hc (fxReturnMarker_gathers hfind rfl (hu.trans (if_neg (Nat.not_le.2 hlt)).symm))
  case clean => exact fun s u hstate hdue hawaited hfailed hu => done_eq (fxCreditAuditGather_clean hstate hdue hawaited hfailed hu)
  case conflict =>
    intro s u code check hstate hdue hawaited hfailed hcheck hu
    exact done_eq (fxCreditAuditGather_conflict hstate hdue hawaited hfailed hcheck hu)

end Sys2Proof.Proofs
end

section
/-! PROOFS. Capture units and the high-water marks (obligations of 07_central_buffer.md and 09_tenant_qos.md). -/
namespace Sys2Proof.Proofs
open Sys2Proof Sys2Proof.Machine Sys2Proof.Laws
set_option Elab.async false

/-! ## Served writes of a capture unit (R227, R228, R230) -/

/-- An object of class 58 belongs to a filter or to a capture unit. -/
theorem effectUnits_capture (s : State) (i m v : Nat) : s.effectUnits ⟨0x58, i, m⟩ v =
    if 0x100 ≤ i then (if m = 0 then fxCfEnable ((i - 0x100) / 8) ((i - 0x100) % 8) v s else s.put ⟨0x58, i, m⟩ v)
    else if m = 0 then fxCapEnable (i - 1) v s
    else if m = 0x0C then (if v = 1 then fxCapClear (i - 1) s else s)
    else s.put ⟨0x58, i, m⟩ v := rfl

section Served
variable {s u : State} {ifc : Iface} {d v : Nat}

/-- A served write of class 58, whatever its object's number is made of. -/
theorem writeOne_capture {i m : Nat} (hacc : neverW1c 0x58 m = true) (hu : s.effectUnits ⟨0x58, i, m⟩ v = u)
    (h : s.servesWrite ifc ⟨0x58, i, m⟩ v = true) :
    writeOne ifc ⟨0x58, i, m⟩ v s = .next (settle (u.acknowledged ifc ⟨0x58, i, m⟩)) :=
  writeOne_units (by decide) hacc (fun _ => rfl) hu h

theorem writeOne_capEnable (hd : d < s.dies) (hu : fxCapEnable d v s = u) (h : s.servesWrite ifc (O.CAP_ENABLE d) v = true) :
    writeOne ifc (O.CAP_ENABLE d) v s = .next (settle (u.acknowledged ifc (O.CAP_ENABLE d))) := by
  have few := dies_le s
  refine writeOne_capture (by decide) ((effectUnits_capture s (1 + d) 0 v).trans ?_) h
  rw [if_neg (by omega), if_pos rfl, Nat.add_sub_cancel_left, hu]

theorem writeOne_capClear (hd : d < s.dies) (h : s.servesWrite ifc (O.CAP_CLEAR d) 1 = true) :
    writeOne ifc (O.CAP_CLEAR d) 1 s = .next (settle ((fxCapClear d s).acknowledged ifc (O.CAP_CLEAR d))) := by
  have few := dies_le s
  refine writeOne_capture (by decide) ((effectUnits_capture s (1 + d) 0x0C 1).trans ?_) h
  rw [if_neg (by omega), if_neg (by decide), if_pos rfl, if_pos rfl, Nat.add_sub_cancel_left]

theorem writeOne_cfEnable {f : Nat} (hf : f < 8) (hu : fxCfEnable d f v s = u) (h : s.servesWrite ifc (O.CF_ENABLE d f) v = true) :
    writeOne ifc (O.CF_ENABLE d f) v s = .next (settle (u.acknowledged ifc (O.CF_ENABLE d f))) := by
  refine writeOne_capture (by decide) ((effectUnits_capture s (0x100 + d * 8 + f) 0 v).trans ?_) h
  rw [if_pos (by omega), if_pos rfl, show (0x100 + d * 8 + f - 0x100) / 8 = d by omega, show (0x100 + d * 8 + f - 0x100) % 8 = f by omega, hu]

end Served

theorem fxCapEnable_off (s : State) (d : Nat) : fxCapEnable d 0 s =
    ((s.put (O.CAP_ENABLE d) 0).put (O.CAP_STATE d) capOff).setCapture d (fun u => { u with queue := [], counting := false }) := rfl

/-- A unit that was off starts a capture, at once or at its tick. -/
theorem fxCapEnable_starts {s u : State} {d b : Nat} (hb : b ≠ 0) (hwas : s.get (O.CAP_ENABLE d) ≠ 1)
    (hu : u = ((s.put (O.CAP_ENABLE d) b).put (O.CAP_RECORDS d) 0).setCapture d (fun u => { u with queue := [], post := 0, counting := false })) :
    fxCapEnable d b s = u.put (O.CAP_STATE d) (if u.get (O.CAP_START_AT d) = 0 then capRunning else capWaiting) := by
  subst hu
  exact (if_neg hb).trans (if_neg hwas)

/-! ## A record moves into the ring (R228) -/

/-- The bytes of a record in the ring: its third word takes the count of the records lost before it. -/
def ringBytes (lost w0 w1 w2 w3 : Nat) : List Byte :=
  bytesOf w0 8 ++ bytesOf w1 8 ++ bytesOf (w2 + min lost 63 * 2 ^ 56) 8 ++ bytesOf w3 8

/-- The record is in the ring at an index, and the queue goes on without it. -/
def recordMoved (s : State) (d i w0 w1 w2 w3 : Nat) (q : List (List Nat)) : State :=
  ((s.writeBytes (captureAddr d (32 * i)) (ringBytes (s.capture d).lost w0 w1 w2 w3)).setCapture d
    (fun c => { c with queue := q, lost := 0, counting := c.counting || (w1 / 2 ^ 60 = 2),
                       post := if c.counting then c.post + 1 else c.post })).wrap32 (O.CAP_RECORDS d)

/-- The unit stops at the last record after a trigger. -/
def stopAtLast (u : State) (d : Nat) : State :=
  if u.get (O.CAP_STATE d) = capPost ∧ (u.capture d).counting = true ∧ u.get (O.CAP_POST_COUNT d) ≤ (u.capture d).post then
    (u.put (O.CAP_STATE d) capStopped).setCapture d (fun u => { u with queue := [] })
  else u

section RecordWrite
variable {s u : State} {d i w0 w1 w2 w3 : Nat} {q : List (List Nat)} (hqueue : (s.capture d).queue = [w0, w1, w2, w3] :: q)
  (hi : s.get (O.CAP_WRITE_INDEX d) = i) (hroom : s.get (O.CAP_MODE d) = 1 → s.get (O.CAP_WRAPS d) = 0)
include hqueue hi hroom

/-- Where the ring is not full the first queued record moves, and the index goes on. -/
theorem fxCapRecordWrite_moves (hu : u = if i + 1 = 8192 then
      ((recordMoved s d i w0 w1 w2 w3 q).put (O.CAP_WRITE_INDEX d) 0).wrap32 (O.CAP_WRAPS d)
      else (recordMoved s d i w0 w1 w2 w3 q).put (O.CAP_WRITE_INDEX d) (i + 1)) :
    fxCapRecordWrite d s = if i + 1 = 8192 ∧ (stopAtLast u d).get (O.CAP_MODE d) = 1 then (stopAtLast u d).captureFull d else stopAtLast u d := by
  subst hu hi
  have room : ¬ (s.get (O.CAP_MODE d) = 1 ∧ 0 < s.get (O.CAP_WRAPS d)) := fun ⟨hmode, hwraps⟩ => by
    rw [hroom hmode] at hwraps
    exact Nat.lt_irrefl 0 hwraps
  simp only [fxCapRecordWrite, hqueue, if_neg room]
  rfl

theorem fxCapRecordWrite_inside (hin : i + 1 < 8192) (hu : u = (recordMoved s d i w0 w1 w2 w3 q).put (O.CAP_WRITE_INDEX d) (i + 1)) :
    fxCapRecordWrite d s = stopAtLast u d := by
  rw [fxCapRecordWrite_moves hqueue hi hroom (hu.trans (if_neg (by omega)).symm), if_neg (by omega)]

end RecordWrite

theorem stopAtLast_goes {u : State} {d : Nat} (h : u.get (O.CAP_STATE d) ≠ capPost) : stopAtLast u d = u :=
  if_neg fun c => h c.1

/-- What is erased reads as it does after power-on. -/
theorem readByte_eraseRange (s : State) {lo n a : Nat} (hlo : lo ≤ a) (hhi : a < lo + n) : (s.eraseRange lo n).readByte a = ramDefault := by
  have gone : Table.find (s.eraseRange lo n).ram a = none := by
    cases found : Table.find (s.eraseRange lo n).ram a with
    | none => rfl
    | some b =>
      have outside := of_decide_eq_true (List.mem_filter.1 (mem_of_find found)).2
      dsimp only at outside
      omega
  rw [State.readByte, gone]
  rfl

/-! ## The high-water marks (R257, R258) -/

theorem acc_hwmClear {v : Variant} : ∀ r ∈ tableOf v 0x33 0, r.holds 0x03 = true → r.acc ≠ .w1c :=
  show ∀ r ∈ tableR262, r.holds 0x03 = true → r.acc ≠ .w1c by decide

/-- Settles O34: a record's clauses by `fxCapRecordWrite_moves`, what the ring and the trigger then make of it by the case. -/
theorem captureAndMarks : Obligations.CaptureAndMarks := by
  unfold Obligations.CaptureAndMarks
  refine ⟨?off, ?on, ?start, ?stop, ?moves, ?last, ?full, ?wraps, ?clear, ?seed, ?snapshot, ?hwmClear⟩
  case off =>
    intro s ifc d b hd h hb
    rw [hb] at h
    have served := writeOne_capEnable hd (fxCapEnable_off s d) h
    show writeOne ifc (O.CAP_ENABLE d) b.toNat s = _
    rwa [hb]
  case on =>
    intro s u ifc d b hd h hb hwas hu
    exact writeOne_capEnable hd (fxCapEnable_starts hb hwas hu) h
  case start => exact fun s d hd hst hat => onUnit_hasDie hd (if_pos ⟨hst, hat⟩)
  case stop => exact fun s d hd hst hset hat => onUnit_hasDie hd (if_pos ⟨hst, hset, hat⟩)
  case moves =>
    intro s u d i w0 w1 w2 w3 q hd hqueue hi hin hroom hu hst
    exact onUnit_hasDie hd ((fxCapRecordWrite_inside hqueue hi.symm hroom hin hu).trans (stopAtLast_goes hst))
  case last =>
    intro s u d i w0 w1 w2 w3 q hd hqueue hi hin hroom hu hst hcounting hpost
    exact onUnit_hasDie hd ((fxCapRecordWrite_inside hqueue hi.symm hroom hin hu).trans (if_pos ⟨hst, hcounting, hpost⟩))
  case full =>
    intro s u d w0 w1 w2 w3 q hd hqueue hi hmode hwraps hu hst hfull
    refine onUnit_hasDie hd ((fxCapRecordWrite_moves hqueue hi (fun _ => hwraps) (hu.trans (if_pos rfl).symm)).trans ?_)
    rw [stopAtLast_goes hst, if_pos ⟨rfl, hfull⟩]
  case wraps =>
    intro s u d w0 w1 w2 w3 q hd hqueue hi hmode hu hst hwrap
    have room : s.get (O.CAP_MODE d) = 1 → s.get (O.CAP_WRAPS d) = 0 := fun h => by rw [hmode] at h; cases h
    refine onUnit_hasDie hd ((fxCapRecordWrite_moves hqueue hi room (hu.trans (if_pos rfl).symm)).trans ?_)
    rw [stopAtLast_goes hst, if_neg fun c => by rw [hwrap] at c; exact absurd c.2 (by decide)]
  case clear =>
    intro s ifc d hd h
    exact ⟨writeOne_capClear hd h, fun a hlo hhi => readByte_eraseRange s hlo hhi⟩
  case seed =>
    intro s ifc d f hd hf h hwas
    exact writeOne_cfEnable hf (if_pos ⟨hwas, rfl⟩) h
  case snapshot =>
    intro s u v hset hat hu hv
    subst hu hv
    exact done_eq (if_pos ⟨hset, hat⟩)
  case hwmClear => exact fun s ifc h => writeOne_fabric (c := 0x33) (by decide) rfl acc_hwmClear rfl rfl h

end Sys2Proof.Proofs
end

section
/-! PROOFS. The Scarab mover (obligations of 11_scarab_mover.md). -/
namespace Sys2Proof.Proofs
open Sys2Proof Sys2Proof.Machine Sys2Proof.Laws
set_option Elab.async false

theorem onUnit_hasQueue {s t : State} {q : Nat} (hq : hasQueue q = true) (h : s = t) : onUnit (hasQueue q) s = .next (settle t) := by
  rw [hq, onUnit_true, h]

theorem onUnit_hasEngine {s t u : State} {d e : Nat} (hd : d < s.dies) (he : e < 4) (h : t = u) :
    onUnit (s.hasEngine d e) t = .next (settle u) := by
  rw [State.hasEngine, decide_eq_true ⟨hd, he⟩, onUnit_true, h]

/-! ## Queues (R287 to R306) -/

/-- A served Q_CTRL command has its effect at once. -/
theorem writeOne_queueCtrl {s u : State} {ifc : Iface} {q v : Nat} (hu : fxQueueCtrl q v s = u) (h : s.servesWrite ifc (O.Q_CTRL q) v = true) :
    writeOne ifc (O.Q_CTRL q) v s = .next (settle (u.acknowledged ifc (O.Q_CTRL q))) :=
  writeOne_units (by decide) (by decide) (fun _ => rfl) hu h

/-- An interrupt that MSI lets go is sent where there is a cell for it. -/
theorem queueMsi_sends {s : State} {q t p : Nat} (htenant : s.queueTenant q = some t) (hport : s.hostPort (s.tenantHost t) = some p)
    (hvector : s.get (O.Q_MSI_VEC q) ≠ 0xFF) (hcarries : s.carries p = true) (hpool : (s.poolVppb (s.tenantHost t)).isSome = true)
    (hready : s.msiReady p (s.get (O.Q_MSI_VEC q)) = true) (hroom : s.moverRoom (s.queueDie q) 0 1 = true) :
    s.queueMsi q = (s.setQueue q (fun r => { r with notes := 0, owed := false })).msiUpstream q p (s.get (O.Q_MSI_VEC q)) := by
  simp only [State.queueMsi, htenant, hport]
  rw [if_pos ⟨hvector, hcarries, hpool, hready⟩, if_pos hroom]

/-- Settles O36: a served command acts at once, and the interrupt is `queueMsi_sends`. -/
theorem moverQueues : Obligations.MoverQueues := by
  unfold Obligations.MoverQueues
  refine ⟨?bell, ?enable, ?disable, ?abort, ?reset, ?rest, ?ack, ?read, ?expiry⟩
  case bell => exact fun s ifc q v h => writeOne_units (by decide) (by decide) (fun _ => rfl) rfl h
  case enable => exact fun s ifc q h hst => writeOne_queueCtrl (if_neg hst) h
  case disable => exact fun s ifc q h hst => writeOne_queueCtrl (if_pos hst) h
  case abort =>
    intro s u ifc q h hu hst
    subst hu
    exact writeOne_queueCtrl (if_neg hst) h
  case reset =>
    intro s u ifc q h hu
    subst hu
    exact writeOne_queueCtrl rfl h
  case rest => exact fun s q hst hidle => if_pos ⟨hst, hidle⟩
  case ack => exact fun s ifc q v h => writeOne_units (by decide) (by decide) (fun _ => rfl) rfl h
  case read => exact fun s q hq hbell hfetch hroom hidle => onUnit_hasQueue hq (if_pos (by rw [hbell, hfetch, hroom, hidle]; rfl))
  case expiry =>
    intro s q t p hq hnotes hdue htenant hport hvector hcarries hpool hready hroom
    exact onUnit_hasQueue hq ((if_pos ⟨hnotes, hdue⟩).trans (queueMsi_sends htenant hport hvector hcarries hpool hready hroom))

/-! ## PI and descriptors come back (R290) -/

section Returns
variable {s u : State} {q st v : Nat} {r : MvReq}

theorem fxPiReadReturn_fails {value e : Nat} {ue : Bool} (hback : s.readBack q 1 value st = some (r, v, e)) (hfail : e ≠ stOk)
    (hin : (s.hostAnswers q value st 8).readIn r.die r.cell = (ue, u)) :
    fxPiReadReturn q value st s = ((u.freeCell r.die r.cell).dropReq r.id).haltQueue q e 2 := by
  simp only [fxPiReadReturn, hback, hin, hfail, false_and, if_false, ne_eq, not_false_eq_true, if_true]

theorem fxPiReadReturn_notes {b t : State} {value pi : Nat} (hback : s.readBack q 1 value st = some (r, v, stOk))
    (hin : (s.hostAnswers q value st 8).readIn r.die r.cell = (false, b)) (ht : t = (b.freeCell r.die r.cell).dropReq r.id)
    (hpi : pi = (if t.get (O.Q_SPACE q) = 1 then v else lineGet v (t.get (O.Q_PI_ADDR q) % 64) 8) % 2 ^ 32)
    (hu : u = (t.put (O.Q_PI_SEEN q) pi).setQueue q (fun r => { r with live := true })) (hring : u.indexAge q pi ≤ u.get (O.Q_RING_SIZE q))
    (hfetched : u.indexAge q (u.get (O.Q_FETCH q)) ≤ u.indexAge q pi) :
    fxPiReadReturn q value st s = u.fetchMore q 16 := by
  simp only [fxPiReadReturn, hback, hin, Bool.false_eq_true, and_false, if_false, ne_eq, not_true_eq_false]
  rw [← ht, ← hpi, ← hu, if_neg (by omega)]

/-- The line of eight words. -/
def lineOfWords (words : List Nat) : Nat := (List.range 8).foldl (fun a k => a + words.getD k 0 % 2 ^ 64 * 2 ^ (64 * k)) 0

/-- A fetched descriptor that has not started. -/
def fetchedDesc (q : Nat) (r : MvReq) (v : Nat) : MvDesc :=
  { queue := q, index := r.index, words := (List.range 8).map (fun k => v / 2 ^ (64 * k) % 2 ^ 64), phase := 0, engine := 0,
    next := 0, total := 0, fail := none, poisonSeen := false, stop := false, status := stOk, crc := crcStart, crcNext := 0,
    crcPend := [], startedAt := 0, doneAt := 0 }

theorem fxDescriptorFetch_fails {words : List Nat} {value e : Nat} {ue : Bool} (hvalue : value = lineOfWords words)
    (hback : s.readBack q 2 value st = some (r, v, e)) (hfail : e ≠ stOk)
    (hin : (s.hostAnswers q value st 64).readIn r.die r.cell = (ue, u)) :
    fxDescriptorFetch q words st s = ((u.freeCell r.die r.cell).dropReq r.id).haltQueue q e 3 := by
  simp only [fxDescriptorFetch]
  rw [← lineOfWords, ← hvalue]
  simp only [hback, hin, hfail, false_and, if_false, ne_eq, not_false_eq_true, if_true]

theorem fxDescriptorFetch_holds {words : List Nat} {value : Nat} (hvalue : value = lineOfWords words)
    (hback : s.readBack q 2 value st = some (r, v, stOk)) (hkeep : r.drop = false)
    (hin : (s.hostAnswers q value st 64).readIn r.die r.cell = (false, u)) {t : State} (ht : t = (u.freeCell r.die r.cell).dropReq r.id) :
    fxDescriptorFetch q words st s = { t with mv := { t.mv with desc := t.mv.desc ++ [fetchedDesc q r v] } } := by
  simp only [fxDescriptorFetch]
  rw [← lineOfWords, ← hvalue]
  simp only [hback, hin, Bool.false_eq_true, and_false, if_false, ne_eq, not_true_eq_false, hkeep]
  rw [← ht, fetchedDesc]

end Returns

/-! ## Lines (R297) -/

/-- A pair placed at a key that a filter leaves out changes nothing of what it takes. -/
theorem filter_place {α : Type} {t : Table α} {k : Nat} {v : α} {p : Nat × α → Bool} (h : ∀ w, p (k, w) = false) :
    (t.place k v).filter p = t.filter p := by
  induction t with
  | nil => simp [Table.place, h]
  | cons c r ih =>
    obtain ⟨j, w⟩ := c
    rw [Table.place]
    split
    · rw [List.filter_cons, List.filter_cons, ih]
    · split
      · next same => simp [same, h]
      · simp [h]

/-- A count of bytes lists its object. -/
theorem regs_addSat {s : State} {o : Obj} (hdefault : defaultOf s.variant o = 0) :
    ∃ w, (s.addSat o 64 (2 ^ 64 - 1)).regs = s.regs.place o.key w := by
  have written : BitVec.ofNat 64 (min (s.get o + 64) (2 ^ 64 - 1)) ≠ BitVec.ofNat 64 (defaultOf s.variant o) := by
    rw [hdefault]
    intro same
    have same := congrArg BitVec.toNat same
    rw [BitVec.toNat_ofNat, BitVec.toNat_ofNat, Nat.mod_eq_of_lt (by omega)] at same
    omega
  exact ⟨_, if_neg written⟩

/-- A count of bytes in a class of its own leaves the tenants' queues as they are. -/
theorem mvTenant_addSat {s : State} {o : Obj} (q : Nat) (hdefault : defaultOf s.variant o = 0) (hcls : o.key / 0x100 % 0x100 ≠ 0x30) :
    (s.addSat o 64 (2 ^ 64 - 1)).mvTenant q = s.mvTenant q := by
  obtain ⟨w, hw⟩ := regs_addSat hdefault
  have tenants : (s.addSat o 64 (2 ^ 64 - 1)).tenants = s.tenants := by
    rw [State.tenants, hw, filter_place, State.tenants]
    intro w
    rw [decide_eq_false (fun c => hcls c.1), Bool.false_and]
  have queues : ∀ t, (s.addSat o 64 (2 ^ 64 - 1)).get (O.T_QUEUES t) = s.get (O.T_QUEUES t) := by
    intro t
    have other : (O.T_QUEUES t).key ≠ o.key := by
      intro same
      rw [← same] at hcls
      simp only [Obj.key, O.T_QUEUES] at hcls
      omega
    rw [State.get, hw, find_place_ne _ _ other]
    rfl
  simp only [State.mvTenant, State.queueTenant, tenants, queues]

/-- The default of an object whose table gives it the value 0, or does not hold it. -/
theorem defaultOf_eq_zero {v : Variant} {c i m : Nat} {t : List Row} (ht : tableOf v c i = t)
    (h : ((t.find? (Row.holdsSlot m)).all fun r => r.kind == .value && r.dflt == 0) = true) : defaultOf v ⟨c, i, m⟩ = 0 := by
  subst ht
  have h : ((rowOfSlot v ⟨c, i, m⟩).all fun r => r.kind == .value && r.dflt == 0) = true := h
  rw [defaultOf]
  split
  · rfl
  · next r hr =>
    rw [hr] at h
    simp only [Option.all_some, Bool.and_eq_true, beq_iff_eq] at h
    rw [h.1, h.2]

theorem defaultOf_qBytes (v : Variant) (q : Nat) : defaultOf v (O.Q_BYTES q) = 0 := by
  by_cases hq : q < 0x400
  · exact defaultOf_eq_zero (t := tableR311) (if_pos hq) (by decide)
  · exact defaultOf_eq_zero (t := []) (if_neg hq) rfl

theorem defaultOf_eBytes {v : Variant} {d e : Nat} (hd : d < v.dies) (he : e < 4) : defaultOf v (O.E_BYTES d e) = 0 :=
  defaultOf_eq_zero (t := tableR312) (if_pos (show d * 4 + e < 4 * v.dies by omega)) (by decide)

/-- The engine and the queue count a line's bytes. -/
def countLine (s : State) (d e q : Nat) : State := (s.addSat (O.Q_BYTES q) 64 (2 ^ 64 - 1)).addSat (O.E_BYTES d e) 64 (2 ^ 64 - 1)

theorem mvTenant_countLine {s : State} {d e : Nat} (hd : d < s.dies) (he : e < 4) (q : Nat) : (countLine s d e q).mvTenant q = s.mvTenant q := by
  have queue : (O.Q_BYTES q).key / 0x100 % 0x100 ≠ 0x30 := by
    simp only [Obj.key, O.Q_BYTES]
    omega
  have engine : (O.E_BYTES d e).key / 0x100 % 0x100 ≠ 0x30 := by
    simp only [Obj.key, O.E_BYTES]
    omega
  rw [countLine, mvTenant_addSat q _ engine, mvTenant_addSat q (defaultOf_qBytes s.variant q) queue]
  exact defaultOf_eBytes (v := s.variant) hd he

section LineDone
variable {s u : State} {d e id : Nat} {r : MvReq} {x : MvDesc}
  (hfind : s.mv.req.find? (fun r => r.id == id && r.kind == 0 && r.die == d && r.engine == e) = some r)
include hfind

theorem fxMoverLineDone_written {y : MvDesc} {v : Nat} {p : Bool} (hd : d < s.dies) (he : e < 4) (hresult : r.result = some (v, p, stOk))
    (hdesc : s.desc r.queue r.index = some x) (hwrite : r.write = true)
    (hu : u = (countLine (s.dropReq id) d e r.queue).perfCount d evMvBytes e ((countLine (s.dropReq id) d e r.queue).mvTenant r.queue) 64)
    (hleft : u.desc r.queue r.index = some y) :
    fxMoverLineDone d e id s = ((if y.stop = true then u.dropUnwritten y else u).engineRuns d e).finishDesc r.queue r.index := by
  rw [mvTenant_countLine (s := s.dropReq id) hd he r.queue, countLine] at hu
  simp only [fxMoverLineDone, hfind, hresult, hdesc, hwrite, if_true]
  rw [← hu, hleft]

theorem fxMoverLineDone_read {v : Nat} (hresult : r.result = some (v, false, stOk)) (hdesc : s.desc r.queue r.index = some x)
    (hread : r.write = false) (hcopy : x.opcode = opCopy)
    (hu : u = { s with mv := { s.mv with req := s.mv.req.map (fun (y : MvReq) => if y.id = id then { y with result := none, ready := some (v, false) } else y) } }) :
    fxMoverLineDone d e id s = ((if x.stop = true then u.dropUnwritten x else u).engineRuns d e).finishDesc r.queue r.index := by
  have other : opCopy ≠ opCheck := by decide
  have kept : u.desc r.queue r.index = some x := by rw [hu]; exact hdesc
  simp only [fxMoverLineDone, hfind, hresult, hdesc, hread, hcopy, other, Bool.false_eq_true, if_false, ne_eq, not_true_eq_false, Bool.or_false, false_and]
  rw [← hu, kept]

end LineDone

/-! ## Completion records (R301) -/

section Record
variable {s t u : State} {q i st : Nat} {x : MvDesc} (hdesc : s.desc q i = some x) (hroom : s.queueRoom q (s.slotAddr q i) 2 x.engine = true)
include hdesc hroom

/-- Words 1 to 7 of a record go out at once where the mover has room. -/
theorem fxDescriptorComplete_writes (hphase : x.phase = 2) (ht : t = s.setDesc q i (fun x => { x with doneAt := s.stamp (s.queueDie q) }))
    (hwrite : t.queueWrite q x.engine 3 i (t.slotAddr q i + 8) 56 ((List.range 7).foldl (fun a k => a +
      (t.recordWords { x with doneAt := t.stamp (t.queueDie q) }).getD (k + 1) 0 * 2 ^ (64 * k)) 0) = (st, u)) :
    fxDescriptorComplete q i s = if st ≠ stOk then u.completeDesc { x with phase := 3 } st else u.setDesc q i (fun x => { x with phase := 3 }) := by
  subst ht
  simp only [fxDescriptorComplete, hdesc]
  rw [if_neg (by rw [hphase, hroom]; simp), hwrite]

theorem fxRecordWord0_writes (hphase : x.phase = 3) (hfirst : s.mv.req.find? (fun r => r.kind == 3 && r.queue == q && r.index == i) = none) :
    fxRecordWord0 q i s = (s.queueWrite q x.engine 4 i (s.slotAddr q i) 8 ((s.recordWords x).getD 0 0)).2.completeDesc x
      (s.queueWrite q x.engine 4 i (s.slotAddr q i) 8 ((s.recordWords x).getD 0 0)).1 := by
  simp only [fxRecordWord0, hdesc, hphase, hfirst, hroom, ne_eq, not_true_eq_false, if_false, Bool.not_true, Bool.or_self, Bool.false_eq_true]

end Record

/-- Settles O37: that a written line leaves its queue's tenant as it was (`mvTenant_countLine`) is what the count of its bytes turns on. -/
theorem moverDescriptors : Obligations.MoverDescriptors := by
  unfold Obligations.MoverDescriptors
  refine ⟨?piFails, ?piNotes, ?fetchFails, ?fetchHolds, ?starts, ?written, ?read, ?completes, ?stopped, ?word0, ?fault⟩
  case piFails => exact fun s u q st e v value r ue hq hback hfail hin => onUnit_hasQueue hq (fxPiReadReturn_fails hback hfail hin)
  case piNotes =>
    exact fun s b t u q st v pi value r hq hback hin ht hpi hu hring hfetched =>
      onUnit_hasQueue hq (fxPiReadReturn_notes hback hin ht hpi hu hring hfetched)
  case fetchFails =>
    exact fun s u q st e v words r ue hq hback hfail hin => onUnit_hasQueue hq (fxDescriptorFetch_fails rfl hback hfail hin)
  case fetchHolds =>
    exact fun s b t q st v words r hq hback hkeep hin ht => onUnit_hasQueue hq (fxDescriptorFetch_holds rfl hback hkeep hin ht)
  case starts =>
    intro s t d e q x hd he hfree ht hqueue hnext
    subst ht
    refine onUnit_hasEngine hd he ?_
    simp only [fxDescriptorStart, hfree, hqueue, hnext, Option.isSome_none, Bool.false_eq_true, if_false]
  case written =>
    intro s t u d e id v r x y p hd he hfind hresult hdesc hwrite ht hu hleft
    subst ht
    exact onUnit_hasEngine hd he (fxMoverLineDone_written hfind hd he hresult hdesc hwrite hu hleft)
  case read =>
    exact fun s u d e id v r x hd he hfind hresult hdesc hread hcopy hu =>
      onUnit_hasEngine hd he (fxMoverLineDone_read hfind hresult hdesc hread hcopy hu)
  case completes =>
    intro s t u q i x hq hdesc hphase hroom ht hwrite
    exact onUnit_hasQueue hq ((fxDescriptorComplete_writes hdesc hroom hphase ht hwrite).trans (if_neg fun h => h rfl))
  case stopped =>
    intro s t u q i st x hq hdesc hphase hroom ht hwrite hst
    exact onUnit_hasQueue hq ((fxDescriptorComplete_writes hdesc hroom hphase ht hwrite).trans (if_pos hst))
  case word0 => exact fun s q i x hq hdesc hphase hroom hfirst => onUnit_hasQueue hq (fxRecordWord0_writes hdesc hroom hphase hfirst)
  case fault => exact fun s d e hd he => onUnit_hasEngine hd he rfl

end Sys2Proof.Proofs
end

section
/-! PROOFS. Units of the reliable link layer (obligations of 12_links.md: flits, frames, acknowledgements and replays). -/
namespace Sys2Proof.Proofs
open Sys2Proof Sys2Proof.Machine Sys2Proof.Laws
set_option Elab.async false

theorem onUnit_hasLink {s t u : State} {l : Nat} (hl : s.hasLink l = true) (h : t = u) : onUnit (s.hasLink l) t = .next (settle u) := by
  rw [hl, onUnit_true, h]

theorem onUnit_hasSegment {s t : State} {x : Nat} (hx : hasSegment x = true) (h : s = t) : onUnit (hasSegment x) s = .next (settle t) := by
  rw [hx, onUnit_true, h]

/-- Every end of an Invar link is a link. -/
theorem hasLink_invar {s : State} {l : Nat} (hl : l < 4 * s.dies) : s.hasLink l = true := decide_eq_true (.inl hl)

/-- An Ihlod port is a link. -/
theorem hasLink_segment {s : State} {x : Nat} (hx : hasSegment x = true) : s.hasLink (32 + x) = true := by
  have hx : x < 2 := of_decide_eq_true hx
  exact decide_eq_true (by omega)

/-! ## Units that arrive (R325, R327) -/

section Flit
variable {s u : State} {l : Nat} {f : Flit} {rest : List Flit} (hwire : (s.link (s.peerLink l)).wire = f :: rest)
  (hu : u = s.setLink (s.peerLink l) (fun r => { r with wire := rest })) (hup : u.linkIsUp l = true)
include hwire hu hup

theorem fxInvarFlit_bad : fxInvarFlit l false s = (u.loseBypass (s.peerLink l) (fun b => b.serial == f.serial)).crcBad l := by
  simp only [fxInvarFlit, hwire]
  rw [← hu, hup]
  rfl

theorem fxInvarFlit_numbered {n : Nat} (hseq : f.seq = some n) : fxInvarFlit l true s =
    if u.classify l n = 0 then (u.acceptUnit l).takeMsgs l f.msgs else u.offUnit l (u.classify l n) := by
  simp only [fxInvarFlit, hwire]
  rw [← hu, hup, hseq]
  rfl

end Flit

section Frame
variable {s : State} {x seq : Nat} {f : Frame} (hup : s.linkIsUp (32 + x) = true)
include hup

theorem fxIhlodFrameUnit_bad : fxIhlodFrameUnit x false seq f s = s.crcBad (32 + x) := by
  simp only [fxIhlodFrameUnit, hup, Bool.not_true, Bool.false_eq_true, if_false, Bool.not_false, Bool.true_or, if_true]

theorem fxIhlodFrameUnit_accepted {u : State} (hsized : frameSized f = true) (hexpected : s.classify (32 + x) seq = 0)
    (hu : u = (s.acceptUnit (32 + x)).setLinkLoop (32 + x) 0 (fun k =>
      { k with received := (k.received + 1) % 2 ^ 32, returnedTx := (k.returnedTx + 1) % 2 ^ 32 })) :
    fxIhlodFrameUnit x true seq f s = (u.pushBypass (32 + x) bCredit 0 [0, (u.linkLoop (32 + x) 0).returnedTx, 0, 0]).frameIn x (frameRead f) := by
  subst hu
  simp only [fxIhlodFrameUnit, hup, hsized, hexpected, Bool.not_true, Bool.or_self, Bool.false_eq_true, if_false, ne_eq, not_true_eq_false]

end Frame

/-! ## Acknowledgements and replays (R326 to R328) -/

theorem fxAck_frees {s t : State} {l seq n d : Nat} {a : List Nat} (harrived : s.arrived l bAck [seq] = some (n :: a, t))
    (hd : d = (n + 1 + 1024 - t.get (O.UNACKED l)) % 1024) (hmin : 1 ≤ d) (hmax : d ≤ t.get (O.LL_OUTSTANDING l)) :
    fxAck l seq s = t.freeAcked l d := by
  subst hd
  simp only [fxAck, harrived]
  exact if_pos ⟨hmin, hmax⟩

/-- A NAK frees what it acknowledges and replays from its number. -/
theorem fxNak_replays {s t : State} {l seq n d : Nat} {a : List Nat} (harrived : s.arrived l bNak [seq] = some (n :: a, t))
    (hmode : t.timeoutMode l = false) (hd : d = (n + 1024 - t.get (O.UNACKED l)) % 1024) (hmax : d ≤ t.get (O.LL_OUTSTANDING l))
    (hnew : n ≠ (if d = 0 then t else t.freeAcked l d).get (O.NEXT_TX l)) :
    fxNak l seq s = (if d = 0 then t else t.freeAcked l d).replayFrom l n := by
  subst hd
  simp only [fxNak, harrived]
  exact (if_pos ⟨hmode, hmax⟩).trans (if_neg hnew)

/-! ## Units that leave (R320, R324) -/

section Send
variable {s u v : State} {l : Nat} {errs : List Nat} (hup : s.linkIsUp l = true) (hl : l < 32)
  (hu : u = s.setLink l (fun r => { r with flits := r.flits + 1, serial := r.serial + 1, slots := r.slots + 1 }))
  (hcredit : u.creditWait l = false)
include hup hl hu hcredit

/-- A flit time of an Invar end that waits for no credit sends its unit. -/
theorem fxFlitSend_unit {f : Flit} (hunit : (u.dueCredits l).nextUnit l errs = (some f, v)) (hbare : f.frame = none) :
    fxFlitSend l errs s = ((v.perfCount (l / 4) evD2dData (l % 4) noTenant 1).setLink l (fun r => { r with wire := r.wire ++ [f] })).fillBypass l := by
  have die : linkDie l = l / 4 := if_pos hl
  simp only [fxFlitSend, hup, if_true, hl, die]
  rw [← hu]
  simp only [hcredit, Bool.false_eq_true, and_false, if_false, hunit, hbare]

/-- And an IDLE where there is none. -/
theorem fxFlitSend_idle (hunit : (u.dueCredits l).nextUnit l errs = (none, v)) :
    fxFlitSend l errs s = ((v.perfCount (l / 4) evD2dIdle (l % 4) noTenant 1).setLink l
      (fun r => { r with wire := r.wire ++ [({ serial := r.serial } : Flit)] })).fillBypass l := by
  have die : linkDie l = l / 4 := if_pos hl
  simp only [fxFlitSend, hup, if_true, hl, die]
  rw [← hu]
  simp only [hcredit, Bool.false_eq_true, and_false, if_false, hunit]

end Send

/-- A frame time of an Ihlod end that has a frame to send. -/
theorem fxFlitSend_frame {s u v : State} {x : Nat} {errs : List Nat} {f : Flit} {y : Frame} (hup : s.linkIsUp (32 + x) = true)
    (hu : u = s.setLink (32 + x) (fun r => { r with flits := r.flits + 1, serial := r.serial + 1 }))
    (hunit : (u.dueCredits (32 + x)).nextUnit (32 + x) errs = (some f, v)) (hframe : f.frame = some y) :
    fxFlitSend (32 + x) errs s = (((v.perfCount (linkDie (32 + x)) evD2dData ((32 + x) % 4) noTenant 0).send
      (.frame x (frameBytes y (f.seq.getD 0) f.again))).setLink (32 + x) (fun r => { r with slots := r.slots + 1 })).fillBypass (32 + x) := by
  have ihlod : ¬ 32 + x < 32 := by omega
  simp only [fxFlitSend, hup, if_true, ihlod, if_false, Nat.add_zero, false_and]
  rw [← hu]
  simp only [hunit, hframe, Nat.add_sub_cancel_left]

/-- Settles O38: a flit by its CRC and number, a flit time by the unit it has to send. -/
theorem linkUnits : Obligations.LinkUnits := by
  unfold Obligations.LinkUnits
  refine ⟨?flitBad, ?flitAccepted, ?flitBehind, ?frameBad, ?frameAccepted, ?ack, ?ackDue, ?nak, ?nakFrees, ?timer, ?sends, ?idles, ?frame⟩
  case flitBad => exact fun s u l f rest hl hwire hu hup => onUnit_hasInvar hl (fxInvarFlit_bad hwire hu hup)
  case flitAccepted =>
    exact fun s u l n f rest hl hwire hseq hu hup hc => onUnit_hasInvar hl ((fxInvarFlit_numbered hwire hu hup hseq).trans (if_pos hc))
  case flitBehind =>
    intro s u l n f rest hl hwire hseq hu hup hc
    refine onUnit_hasInvar hl ((fxInvarFlit_numbered hwire hu hup hseq).trans ?_)
    rw [hc]
    rfl
  case frameBad => exact fun s x seq f hx hup => onUnit_hasSegment hx (fxIhlodFrameUnit_bad hup)
  case frameAccepted =>
    exact fun s u x seq f hx hup hsized hexpected hu => onUnit_hasSegment hx (fxIhlodFrameUnit_accepted hup hsized hexpected hu)
  case ack => exact fun s t l seq n d a hl harrived hd hmin hmax => onUnit_hasLink hl (fxAck_frees harrived hd hmin hmax)
  case ackDue => exact fun s l hl hup hlate => onUnit_hasLink hl (if_pos (by rw [hup, decide_eq_true hlate, Bool.or_true]; rfl))
  case nak =>
    intro s t l seq n a hl harrived hmode hn hsmall hnew
    exact onUnit_hasLink hl (fxNak_replays (d := 0) harrived hmode (by omega) (Nat.zero_le _) hnew)
  case nakFrees =>
    intro s t l seq n d a hl harrived hmode hd hmin hmax hnew
    have some : d ≠ 0 := by omega
    have replayed := fxNak_replays harrived hmode hd hmax
    rw [if_neg some] at replayed
    exact onUnit_hasLink hl (replayed hnew)
  case timer =>
    exact fun s l hl hup hheld hdue => onUnit_hasLink hl (if_pos (by rw [hup, decide_eq_true hheld, decide_eq_true hdue]; rfl))
  case sends =>
    exact fun s u v l errs f hl hup hinvar hu hcredit hunit hbare =>
      onUnit_hasLink (hasLink_invar hl) (fxFlitSend_unit hup hinvar hu hcredit hunit hbare)
  case idles =>
    exact fun s u v l errs hl hup hinvar hu hcredit hunit =>
      onUnit_hasLink (hasLink_invar hl) (fxFlitSend_idle hup hinvar hu hcredit hunit)
  case frame =>
    exact fun s u v x errs f y hx hup hu hunit hframe => onUnit_hasLink (hasLink_segment hx) (fxFlitSend_frame hup hu hunit hframe)

end Sys2Proof.Proofs
end

section
/-! PROOFS. The bypass channel of a link: credits, heartbeats, notices and handover (obligations of 12_links.md). -/
namespace Sys2Proof.Proofs
open Sys2Proof Sys2Proof.Machine Sys2Proof.Laws
set_option Elab.async false

/-! ## Credits and heartbeats (R224, R330) -/

theorem fxCredit_returns {s t u : State} {l vc returned v n m : Nat} {a : List Nat}
    (harrived : s.arrived l bCredit [vc, returned, 0, 0] = some (v :: n :: m :: a, t))
    (hu : u = t.setLinkLoop l v (fun k => { k with returnedRx := n, available := k.limit - (k.consumed + 2 ^ 32 - n) % 2 ^ 32 })) :
    fxCredit l vc returned s = if m = (u.link l).markSeen.at v then u else u.setLink l (fun r =>
      { r with markSeen := r.markSeen.set v m, returns := r.returns.filter (fun x => x.1 != v) ++ [(v, (t.linkLoop l v).returnedRx, a.headD 0, n)] }) := by
  subst hu
  have serial : (v :: n :: m :: a).getD 3 0 = a.headD 0 := by cases a <;> rfl
  simp only [fxCredit, harrived, serial]
  rfl

theorem fxHeartbeat_notes {s t : State} {l : Nat} {a : List Nat} (harrived : s.arrived l bHeartbeat [] = some (a, t)) :
    fxHeartbeat l s = t.setLink l (fun r => { r with hbSeenAt := t.elapsed (linkDie l) }) := by
  simp only [fxHeartbeat, harrived]

theorem fxHeartbeatSend_due {s u : State} {l : Nat} (hup : s.linkIsUp l = true)
    (hdue : (s.link l).hbSentAt + s.get (O.LL_HB_PERIOD (llSet l)) ≤ s.elapsed (linkDie l))
    (hu : u = s.setLink l (fun r => { r with hbSentAt := s.elapsed (linkDie l), hbCount := (r.hbCount + 1) % 65536 })) :
    fxHeartbeatSend l s = u.pushBypass l bHeartbeat 0 [linkDie l, u.mode, (u.link l).hbCount] := by
  subst hu
  exact if_pos (by rw [hup, decide_eq_true hdue]; rfl)

/-! ## Notices (R407, R417) -/

/-- A notice of a die that is for a die and has not been handled there. -/
def isOpenNotice (serial d : Nat) (n : Notice) : Bool := n.serial == serial && n.dst == d && !n.handled

/-- A notice is handled, and its sender told so. -/
def noticeHandled (t : State) (d serial from_ : Nat) : State :=
  (t.setCollector from_ (fun c => { c with notices := c.notices.map (fun (n : Notice) =>
    if isOpenNotice serial d n then { n with handled := true } else n) })).sendBypass d from_ bNoticeAck [serial, d]

section Notice
variable {s t : State} {l : Nat} {b : Bypass} (htake : s.takeBypass (s.peerLink l) bFaultNotice = some (b, t))
include htake

theorem fxFaultNotice_relays (hdst : b.dst ≠ l / 4) : fxFaultNotice l s = t.sendBypass (l / 4) b.dst bFaultNotice b.args := by
  simp only [fxFaultNotice, htake, hdst, ne_eq, not_false_eq_true, if_true]

/-- A notice at its die is acknowledged, and handled the first time. -/
theorem fxFaultNotice_arrives {serial from_ source sev x y : Nat} {u v : State} (hdst : b.dst = l / 4)
    (hargs : b.args = [serial, from_, source, sev, x, y]) (hu : u = noticeHandled t (l / 4) serial from_)
    (hv : v = if l / 4 = 0 ∧ source < 0x1000 then u.atDie0 source sev x y else u) :
    fxFaultNotice l s = if (t.collector from_).notices.any (isOpenNotice serial (l / 4)) = false then u
      else if sev = sevSafe ∧ v.flt.safeWait.contains (l / 4) then v.enterSafe (l / 4) else v := by
  subst hu hv
  simp only [fxFaultNotice, htake, hdst, hargs, ne_eq, not_true_eq_false, if_false]
  simp only [Bool.not_eq_true']
  rfl

end Notice

theorem fxNoticeAck_frees {s t : State} {l : Nat} {b : Bypass} (htake : s.takeBypass (s.peerLink l) bNoticeAck = some (b, t)) (hdst : b.dst = l / 4) :
    fxNoticeAck l s = (t.setCollector (l / 4) (fun c => { c with notices := c.notices.filter (fun (n : Notice) =>
      !(n.serial == b.args.getD 0 0 && n.dst == b.args.getD 1 0)) })).sendWaiting (l / 4) := by
  simp only [fxNoticeAck, htake, hdst, ne_eq, not_true_eq_false, if_false]

/-! ## Handover (R337) -/

section Handover
variable {s t : State} {l : Nat} {b : Bypass} (htake : s.takeBypass (s.peerLink l) bHandover = some (b, t))
include htake

theorem fxHandover_relays (hdst : b.dst ≠ l / 4) : fxHandover l s = t.sendBypass (l / 4) b.dst bHandover b.args := by
  simp only [fxHandover, htake, hdst, ne_eq, not_false_eq_true, if_true]

theorem fxHandover_carries {u v : State} {e : Nat} (hdst : b.dst = l / 4) (he : e = t.peerLink (linkNo (b.args.getD 0 0) (b.args.getD 1 0)))
    (hu : u = t.setLink e (fun r => { r with replay := [], queue := [], handing := false }))
    (hv : v = (u.put (O.UNACKED e) (u.get (O.NEXT_TX e))).put (O.LL_OUTSTANDING e) 0) :
    fxHandover l s = forEach
      (((((t.link e).replay.drop ((b.args.getD 2 0 + 1024 - t.get (O.UNACKED e)) % 1024)).map (fun f => f.msgs)).flatten ++ (t.link e).queue).filter
        (fun m => m.marker.isNone))
      (fun m s => s.spread (l / 4) (if (t.link e).queue.contains m then m else { m with cell := 0 })) v := by
  subst hv hu he
  simp only [fxHandover, htake, hdst, ne_eq, not_true_eq_false, if_false]

end Handover

/-- Settles O39: the four notices are `fxFaultNotice_arrives` and the relay. -/
theorem linkBypass : Obligations.LinkBypass := by
  unfold Obligations.LinkBypass
  refine ⟨?credit, ?marker, ?heartbeat, ?heartbeatSend, ?relayed, ?again, ?raise, ?safe, ?repeats, ?ack, ?handoverOn, ?handover⟩
  case credit =>
    exact fun s t u l vc returned v n m a hl harrived hu hm => onUnit_hasLink hl ((fxCredit_returns harrived hu).trans (if_pos hm))
  case marker =>
    exact fun s t u l vc returned v n m a hl harrived hu hm => onUnit_hasLink hl ((fxCredit_returns harrived hu).trans (if_neg hm))
  case heartbeat => exact fun s t l a hl harrived => onUnit_hasLink hl (fxHeartbeat_notes harrived)
  case heartbeatSend => exact fun s u l hl hup hdue hu => onUnit_hasLink hl (fxHeartbeatSend_due hup hdue hu)
  case relayed => exact fun s t l b hl htake hdst => onUnit_hasInvar hl (fxFaultNotice_relays htake hdst)
  case again =>
    exact fun s t u l serial from_ source sev x y b hl htake hdst hargs hu hold =>
      onUnit_hasInvar hl ((fxFaultNotice_arrives htake hdst hargs hu rfl).trans (if_pos hold))
  case raise =>
    intro s t u l serial from_ source sev x y b hl htake hdst hargs hu hnew hdie hsource hsev
    refine onUnit_hasInvar hl ((fxFaultNotice_arrives htake hdst hargs hu (if_pos ⟨hdie, hsource⟩).symm).trans ?_)
    exact (if_neg (ne_false_of_eq_true hnew)).trans (if_neg fun h => hsev h.1)
  case safe =>
    intro s t u l serial from_ source x y b hl htake hdst hargs hu hnew hdie hwaits
    refine onUnit_hasInvar hl ((fxFaultNotice_arrives htake hdst hargs hu (if_neg fun h => hdie h.1).symm).trans ?_)
    exact (if_neg (ne_false_of_eq_true hnew)).trans (if_pos ⟨rfl, hwaits⟩)
  case repeats => exact fun s d hd => onUnit_hasDie hd rfl
  case ack => exact fun s t l b hl htake hdst => onUnit_hasInvar hl (fxNoticeAck_frees htake hdst)
  case handoverOn => exact fun s t l b hl htake hdst => onUnit_hasInvar hl (fxHandover_relays htake hdst)
  case handover => exact fun s t u l e b hl htake hdst he hu => onUnit_hasInvar hl (fxHandover_carries htake hdst he rfl hu)

end Sys2Proof.Proofs
end

section
/-! PROOFS. The health of a link: windows, losses, retraining and lanes (obligations of 12_links.md). -/
namespace Sys2Proof.Proofs
open Sys2Proof Sys2Proof.Machine Sys2Proof.Laws
set_option Elab.async false

theorem forEach_nil {α : Type} (f : α → State → State) (s : State) : forEach [] f s = s := rfl

/-! ## Windows (R331) -/

section Window
variable {s t u : State} {l : Nat} (hup : s.linkIsUp l = true) (hend : (s.windowSet l).1 ≤ (s.link l).slots)
include hup hend

/-- The end of a window: what it counted, what follows from a bad one, and the next. -/
theorem fxWindowEnd_judges (ht : t = s.mark (O.WORST_WINDOW l) (s.get (O.WIN_REPLAYS l))) {bad : Bool}
    (hbad : decide ((s.windowSet l).2.1 < s.get (O.WIN_REPLAYS l)) = bad)
    (hu : u = if bad then (t.put (O.BAD_RUN l) (t.get (O.BAD_RUN l) + 1)).llEvent l F.BAD_WINDOW 1 else t.put (O.BAD_RUN l) 0) :
    fxWindowEnd l s = (if (s.windowSet l).2.2 ≤ u.get (O.BAD_RUN l) then u.linkGoesDown l 1 else u).openWindow l := by
  have ends : (s.linkIsUp l && (decide ((s.windowSet l).1 ≤ (s.link l).slots) ||
      (decide (32 ≤ l) && decide ((s.link l).windowFrom + 25000000 ≤ s.elapsed (linkDie l))))) = true := by
    rw [hup, decide_eq_true hend]
    rfl
  simp only [fxWindowEnd, ends, if_true, hbad]
  rw [← ht, hu]
  cases bad <;> rfl

end Window

/-! ## Training (R333 to R335) -/

section LaneTest
variable {s u : State} {l delay : Nat} (hst : s.get (O.D2D_STATE l) = d2dTraining ∨ s.get (O.D2D_STATE l) = d2dRetraining)
  (htested : (s.link l).tested = false) (hdomain : s.domainOn (l / 4) dDatapath = true) (hclock : s.linkClocked l = true)
  (hu : u = (s.putLanes O.LANE_FAILED l 0).setLink l (fun r => { r with permanent := false }))
include hst htested hdomain hclock hu

/-- A lane test that finds no lane bad. -/
theorem fxLaneTestEnd_clean : fxLaneTestEnd l 0 delay s =
    if (((s.link l).permanent && s.get (O.D2D_STATE l) == d2dRetraining) || decide (136 - (lanesIn (u.laneSet O.LANE_RETIRED l)).length < 128)) = true then
      u.owe (.retire (channelId 3 l))
    else if 136 - (lanesIn (u.laneSet O.LANE_RETIRED l)).length < 128 then u.failAttempt l
    else ((u.put (O.SPARES_USED l) (sparesUsed (u.laneSet O.LANE_RETIRED l))).put (O.LINK_DELAY l) (delay % 65536)).setLink l
      (fun r => { r with tested := true }) := by
  have none : lanesIn 0 = [] := by decide
  have empty : ([] : List Nat).foldl (fun a i => a + 2 ^ i) 0 = 0 := rfl
  have same : ∀ gone, ([] : List Nat).foldl (fun a i => if a.testBit i then a else a + 2 ^ i) gone = gone := fun _ => rfl
  rw [fxLaneTestEnd, if_pos ⟨hst, htested, hdomain, hclock⟩]
  simp only [none, List.filter_nil, forEach_nil, empty, same, List.isEmpty_nil, Bool.and_true]
  rw [← hu]

end LaneTest

/-- A link end is ready for step 5 of R333. -/
def readyEnd (s : State) (l : Nat) : Bool :=
  (s.get (O.D2D_STATE l) == d2dTraining || s.get (O.D2D_STATE l) == d2dRetraining) && (s.link l).tested && s.linkClocked l && s.linkCharge l == 0

theorem readyEnd_intro {s : State} {l : Nat} (hst : s.get (O.D2D_STATE l) = d2dTraining ∨ s.get (O.D2D_STATE l) = d2dRetraining)
    (htested : (s.link l).tested = true) (hcharge : s.linkCharge l = 0) (hclock : s.linkClocked l = true) : readyEnd s l = true := by
  have trains : (s.get (O.D2D_STATE l) == d2dTraining || s.get (O.D2D_STATE l) == d2dRetraining) = true := by simpa using hst
  rw [readyEnd, trains, htested, hclock, hcharge]
  rfl

theorem fxD2dRetrained_up {s : State} {l : Nat} (hl : readyEnd s l = true) (hfar : readyEnd s (s.peerLink l) = true) :
    fxD2dRetrained l s = (s.endUp l).endUp (s.peerLink l) :=
  if_pos (Bool.and_eq_true_iff.2 ⟨hl, hfar⟩)

/-! ## Commands of a link (R336) -/

theorem effectLinks_d2dCtrl (s : State) (l v : Nat) : s.effectLinks (O.D2D_CTRL l) v = s.d2dDown l 4 := by
  simp only [State.effectLinks, O.D2D_CTRL, fxD2dRetrain]

theorem effectLinks_laneRetire (s : State) (l v : Nat) : s.effectLinks (O.LANE_RETIRE l) v = (s.retireD2dLane l v).d2dDown l 5 := by
  simp only [State.effectLinks, O.LANE_RETIRE, fxLaneRetire]

/-- The owner's check of D2D_CTRL leaves no trace where it accepts. -/
theorem ownerLinks_d2dCtrl {s : State} {l v : Nat} (hok : (s.ownerLinks (O.D2D_CTRL l) v).1 = stOk) : (s.ownerLinks (O.D2D_CTRL l) v).2 = s := by
  have checks : s.ownerLinks (O.D2D_CTRL l) v =
      if v ≠ 1 then s.only stBadValue else if s.retrainStatus l ≠ stOk then s.only (s.retrainStatus l) else s.unlessExcluded 2 0 stOk := rfl
  rw [checks] at hok ⊢
  split
  · rfl
  · next one =>
    rw [if_neg one] at hok
    split
    · rfl
    · next trains =>
      rw [if_neg trains] at hok
      exact unlessExcluded_accepts hok

/-- The owner's check of LANE_RETIRE leaves no trace where it accepts. -/
theorem ownerLinks_laneRetire {s : State} {l v : Nat} (hok : (s.ownerLinks (O.LANE_RETIRE l) v).1 = stOk) :
    (s.ownerLinks (O.LANE_RETIRE l) v).2 = s := by
  have checks : s.ownerLinks (O.LANE_RETIRE l) v =
      if 135 < v then s.only stBadValue else if s.mode ≠ mMaint then s.only stBusy
      else s.unlessExcluded 3 0 (s.laneRetireStatus l v false) := rfl
  rw [checks] at hok ⊢
  split
  · rfl
  · next lane =>
    rw [if_neg lane] at hok
    split
    · rfl
    · next maint =>
      rw [if_neg maint] at hok
      exact unlessExcluded_accepts hok

theorem writeOne_d2dCtrl {s : State} {ifc : Iface} {l : Nat} (h : s.servesWrite ifc (O.D2D_CTRL l) 1 = true) :
    writeOne ifc (O.D2D_CTRL l) 1 s = .next (settle ((s.d2dDown l 4).acknowledged ifc (O.D2D_CTRL l))) :=
  writeOne_links (by decide) (by decide) ownerLinks_d2dCtrl (effectLinks_d2dCtrl s l 1) h

theorem writeOne_laneRetire {s : State} {ifc : Iface} {l v : Nat} (h : s.servesWrite ifc (O.LANE_RETIRE l) v = true) :
    writeOne ifc (O.LANE_RETIRE l) v s = .next (settle (((s.retireD2dLane l v).d2dDown l 5).acknowledged ifc (O.LANE_RETIRE l))) :=
  writeOne_links (by decide) (by decide) ownerLinks_laneRetire (effectLinks_laneRetire s l v) h

/-- Settles O40: both ends of a window are `fxWindowEnd_judges`, both lane tests `fxLaneTestEnd_clean`. -/
theorem linkHealth : Obligations.LinkHealth := by
  unfold Obligations.LinkHealth
  refine ⟨?good, ?bad, ?miss, ?framing, ?tested, ?retires, ?retrained, ?timeout, ?retrain, ?lane, ?down⟩
  case good =>
    intro s u l hl hup hend hgood hu hrun
    refine onUnit_hasLink hl ((fxWindowEnd_judges hup hend rfl (decide_eq_false (by omega)) hu).trans ?_)
    rw [if_neg (by omega)]
  case bad =>
    exact fun s t u l hl hup hend hbad ht hu => onUnit_hasLink hl (fxWindowEnd_judges hup hend ht (decide_eq_true hbad) hu)
  case miss => exact fun s l hl hup hdue => onUnit_hasLink hl (if_pos (by rw [hup, decide_eq_true hdue]; rfl))
  case framing => exact fun s l hl hup => onUnit_hasLink hl (if_pos hup)
  case tested =>
    intro s u l delay hl hst htested hdomain hclock hu hlanes
    refine onUnit_hasInvar hl ((fxLaneTestEnd_clean (.inl hst) htested hdomain hclock hu).trans ?_)
    have first : (s.get (O.D2D_STATE l) == d2dRetraining) = false := by rw [hst]; rfl
    rw [first, Bool.and_false, Bool.false_or, if_neg (by simpa using hlanes), if_neg (by omega)]
  case retires =>
    intro s l delay hl hst htested hdomain hclock hpermanent
    refine onUnit_hasInvar hl ((fxLaneTestEnd_clean (.inr hst) htested hdomain hclock rfl).trans (if_pos ?_))
    rw [hpermanent, hst]
    rfl
  case retrained =>
    intro s l hl hst hfar htested hfarTested hcharge hfarCharge hclock hfarClock
    exact onUnit_hasInvar hl (fxD2dRetrained_up (readyEnd_intro hst htested hcharge hclock) (readyEnd_intro hfar hfarTested hfarCharge hfarClock))
  case timeout => exact fun s l hl hst htested hdomain hdue => onUnit_hasInvar hl (if_pos ⟨hst, htested, hdomain, hdue⟩)
  case retrain => exact fun s ifc l h => writeOne_d2dCtrl h
  case lane => exact fun s ifc l lane h => writeOne_laneRetire h
  case down =>
    intro s t u l cause hup ht hu
    subst ht hu
    exact if_pos hup

end Sys2Proof.Proofs
end

section
/-! PROOFS. The Ihlod node: its services and the segments of its ring (obligations of 13_ihlod.md). -/
namespace Sys2Proof.Proofs
open Sys2Proof Sys2Proof.Machine Sys2Proof.Laws
set_option Elab.async false

/-! ## Services (R347, R348, R350 to R352) -/

section Services
variable {s t u : State} {f : Frame}

/-- A service other than ASSIGN, whose request goes on where it is broadcast. -/
theorem serveHeld_passes {type : Nat} {act : Frame → State → State} (h : s.servesFrame t type f) (hother : type ≠ tAssign) (hu : act f t = u) :
    s.serveHeld type act = u.passOn f := by
  have kind : f.type = type := h.2.1
  rw [serveHeld_serves act h, kind, if_neg hother, hu]

/-- A service that goes to the dictionary, where no mailbox access goes first. -/
theorem serveDict_passes {type : Nat} {act : Frame → State → State} (h : s.servesFrame t type f) (hfirst : s.frameWaits = false) (hother : type ≠ tAssign)
    (hu : act f t = u) : s.serveDict type act = u.passOn f := by
  rw [State.serveDict, hfirst]
  exact serveHeld_passes h hother hu

/-- A request of 1 to 32 slots. -/
theorem not_badCount (hmin : 1 ≤ f.count) (hmax : f.count ≤ 32) : ¬ (f.count = 0 ∨ 32 < f.count) := by omega

/-- An ASSIGN that gives the switch its address. -/
theorem fxAssign_assigns (h : s.servesFrame t tAssign f) (hmin : 1 ≤ f.value) (hmax : f.value ≤ 31) (hfree : f.bcast = true → t.nodeAddr = noNode)
    (hu : u = ((t.put O.NODE_ADDR (f.value % 32)).setBit O.IH_EVENTS 2 true).raiseDie 0 F.IH_ADDR_ASSIGNED) :
    fxAssign s = if f.bcast = true then
        (u.answered { frameAnswer f u.ownSrc stOk with payload := u.serialBytes }).releaseEvents.forward { f with bcast := false, dst := f.value % 32 }
      else (u.answered { frameAnswer f u.ownSrc stOk with payload := u.serialBytes }).releaseEvents := by
  have kind : f.type = tAssign := h.2.1
  have serves : ¬ (f.bcast = true ∧ t.nodeAddr ≠ noNode) := fun c => c.2 (hfree c.1)
  have inside : ¬ (f.value = 0 ∨ 31 < f.value) := by omega
  rw [fxAssign, serveHeld_serves _ h, if_pos kind, hu]
  simp only [if_neg serves, if_neg inside]

/-- A segment of an SPDM message in its order, held with those before it. -/
def segmentHeld (t : State) (f : Frame) (next : Nat) : State :=
  { t with sec := { t.sec with segments := (if f.count = 0 then [] else t.sec.segments) ++ f.payload.take f.aux, segNext := next } }

section Segment
variable (h : s.servesFrame t tSpdm f) (hcount : f.count = t.sec.segNext) (hfew : f.count < 16) (haux : f.aux ≤ 256)
include h hcount hfew haux

theorem fxSpdmFrame_segment : fxSpdmFrame s = (if f.more = true then (segmentHeld t f (f.count + 1)).answered { frameAnswer f t.nodeAddr stOk with count := f.count }
    else { segmentHeld t f 0 with sec := { (segmentHeld t f 0).sec with waiting := some f } }).passOn f := by
  refine serveHeld_passes h (by decide) ?_
  have inOrder : ¬ (f.count ≠ t.sec.segNext ∨ 16 ≤ f.count) := by omega
  have bytes : f.aux % 512 = f.aux := Nat.mod_eq_of_lt (by omega)
  simp only [if_neg inOrder, bytes]
  cases f.more <;> rfl

end Segment

end Services

/-- Settles O41: each service by `serveHeld_passes`, ASSIGN by its own lemma because it sends the request on itself. -/
theorem ihlodServices : Obligations.IhlodServices := by
  unfold Obligations.IhlodServices
  refine ⟨?read, ?write, ?load, ?dump, ?tod, ?arm, ?armDenied, ?go, ?goBusy, ?reset, ?assign, ?assignOn, ?echo, ?segment, ?last⟩
  case read =>
    intro s t u f rs h hfirst hmin hmax hrs
    refine done_eq (serveDict_passes h hfirst (by decide) ?_)
    simp only [if_neg (not_badCount hmin hmax), hrs]
    rfl
  case write =>
    intro s t u f sts h hfirst hmin hmax hsts
    refine done_eq (serveDict_passes h hfirst (by decide) ?_)
    simp only [if_neg (not_badCount hmin hmax), hsts]
  case load =>
    intro s t u f sts h hfirst hsts
    refine done_eq (serveDict_passes h hfirst (by decide) ?_)
    simp only [hsts]
  case dump =>
    intro s t u f rs h hrs
    refine done_eq (serveHeld_passes h (by decide) ?_)
    simp only [hrs]
    rfl
  case tod =>
    intro s t u f sts h hfirst hsts
    refine done_eq (serveDict_passes h hfirst (by decide) ?_)
    simp only [hsts]
  case arm => exact fun s t f h hreset => done_eq (serveHeld_passes h (by decide) (if_neg hreset))
  case armDenied => exact fun s t f h hreset => done_eq (serveHeld_passes h (by decide) (if_pos hreset))
  case go =>
    intro s t f h harmed hwindow hreset
    refine done_eq (serveHeld_passes h (by decide) (if_pos ?_))
    rw [harmed, decide_eq_true hwindow, hreset, beq_self_eq_true]
    rfl
  case goBusy =>
    intro s t f h hbad
    refine done_eq (serveHeld_passes h (by decide) (if_neg ?_))
    simp only [Bool.and_eq_true, beq_iff_eq, decide_eq_true_eq]
    rintro ⟨⟨harmed, hwindow⟩, hreset⟩
    rcases hbad with other | late | off
    · exact other harmed
    · exact Nat.not_le.2 late hwindow
    · exact off hreset
  case reset =>
    intro s t hacked hdue hreset
    refine done_eq ?_
    simp only [fxIhlodReset, hacked, if_pos hdue]
    exact if_pos hreset
  case assign =>
    intro s t u f h hmin hmax hbcast hu
    have here : ¬ f.bcast = true := by rw [hbcast]; exact Bool.false_ne_true
    exact done_eq ((fxAssign_assigns h hmin hmax (fun c => absurd c here) hu).trans (if_neg here))
  case assignOn =>
    exact fun s t u f h hmin hmax hbcast hfree hu => done_eq ((fxAssign_assigns h hmin hmax (fun _ => hfree) hu).trans (if_pos hbcast))
  case echo => exact fun s t f h => done_eq (serveHeld_passes h (by decide) rfl)
  case segment =>
    intro s t f h hcount hfew _ haux _ _ hmore
    refine done_eq ((fxSpdmFrame_segment h hcount hfew haux).trans ?_)
    rw [if_pos hmore]
    rfl
  case last =>
    intro s t f h hcount hfew _ haux _ _ hmore
    refine done_eq ((fxSpdmFrame_segment h hcount hfew haux).trans ?_)
    rw [if_neg (by rw [hmore]; exact Bool.false_ne_true)]
    rfl

/-! ## Segments (R345, R346, R356) -/

/-- A segment in training, with its peer, fresh loops and numbers from 0. -/
def segFresh (s : State) (x peer : Nat) : State :=
  (((((((s.put (O.SEG_STATE x) 1).put (O.SEG_PEER x) (peer % 256)).freshLinkLoops (32 + x)).put (O.NEXT_TX (32 + x)) 0).put
    (O.UNACKED (32 + x)) 0).put (O.NEXT_RX (32 + x)) 0).put (O.LL_OUTSTANDING (32 + x)) 0)

section Up
variable {s t u v : State} {x peer : Nat} (htrain : s.segTraining x = true) (ht : t = segFresh s x peer)
  (hu : u = (t.openWindow (32 + x)).put (O.BAD_RUN (32 + x)) 0)
  (hv : v = u.setLink (32 + x) (fun r => { r with replay := [], rpos := none, bypass := [], hbSeenAt := s.elapsed 0, hbSentAt := s.elapsed 0,
                                                  restart := t.mono 0, nakPending := false, accFirst := none, accCount := 0, ackAt := r.flits, stalled := false }))
include htrain ht hu hv

theorem fxSegmentUp_up : fxSegmentUp x peer s = (if x = 0 then
      (v.setLink ihlodB (fun r => { r with frames := (v.link ihlodB).frames.filter (fun f => f.way == 2) })).setLink ihlodA
        (fun r => { r with frames := r.frames ++ (v.link ihlodB).frames.filter (fun f => !(f.way == 2)) })
    else v).ringState := by
  subst ht hu hv
  rw [fxSegmentUp, if_pos htrain]
  simp only [List.partition_eq_filter_filter]
  rfl

end Up

theorem effectLinks_segCtrl (s : State) (x v : Nat) : s.effectLinks (O.SEG_CTRL x) v = s.segDown x := by
  have port : 1 + x ≠ 0 := by omega
  simp only [State.effectLinks, O.SEG_CTRL, if_neg port, fxSegCtrl, Nat.add_sub_cancel_left]

theorem ownerLinks_segCtrl (s : State) (x v : Nat) : (s.ownerLinks (O.SEG_CTRL x) v).2 = s := by
  have port : 1 + x ≠ 0 := by omega
  have checks : s.ownerLinks (O.SEG_CTRL x) v = if 1 + x = 0 then s.only stOk else s.only (if v = 1 then stOk else stBadValue) := rfl
  rw [checks, if_neg port]
  rfl

/-- Settles O42: both ports come UP by `fxSegmentUp_up`. -/
theorem ihlodSegments : Obligations.IhlodSegments := by
  unfold Obligations.IhlodSegments
  refine ⟨?upB, ?upA, ?timeout, ?retry, ?retrain⟩
  case upB =>
    intro s t u peer htrain ht hu
    exact onUnit_hasSegment (x := 1) (by decide) ((fxSegmentUp_up htrain ht hu rfl).trans (by rw [if_neg (by decide)]))
  case upA =>
    intro s t u v peer htrain ht hu hv
    exact onUnit_hasSegment (x := 0) (by decide) ((fxSegmentUp_up htrain ht hu hv).trans (by rw [if_pos rfl]))
  case timeout => exact fun s x hx htrain hdue => onUnit_hasSegment hx (if_pos (by rw [htrain, decide_eq_true hdue]; rfl))
  case retry => exact fun s x hx hwait hdown hdue => onUnit_hasSegment hx (if_pos ⟨hwait, hdown, hdue⟩)
  case retrain =>
    exact fun s ifc x h => writeOne_links (by decide) (by decide) (fun _ => ownerLinks_segCtrl s x 1) (effectLinks_segCtrl s x 1) h

end Sys2Proof.Proofs
end

section
/-! PROOFS. Slot power channels of the tile (obligations of 14_slot_power.md). -/
namespace Sys2Proof.Proofs
open Sys2Proof Sys2Proof.Machine Sys2Proof.Laws
set_option Elab.async false

theorem onUnit_hasChannel {s t u : State} {n : Nat} (hn : s.hasChannel n = true) (h : t = u) : onUnit (s.hasChannel n) t = .next (settle u) := by
  rw [hn, onUnit_true, h]

/-- A bit of an object does not move the count of ticks. -/
theorem elapsed_setBit (s : State) (o : Obj) (b : Nat) (on : Bool) (d : Nat) : (s.setBit o b on).elapsed d = s.elapsed d := by
  simp only [State.elapsed, State.time, setBit_clk]

/-! ## Samples and starts (R360 to R364) -/

theorem fxChannelSample_due {s t : State} {xs : List SlSample} {temp : Int} (hdue : s.sampleDue = true)
    (ht : t = ({ s with slt := { s.slt with sampled := some (s.elapsed 0) } } : State).put O.TILE_TEMP (ofS32 temp)) :
    fxChannelSample xs temp s = forEach (List.range t.variant.slotChannels) (fun n s => (s.takeSample n (xs.getD n {})).sampleTransitions n (xs.getD n {}))
      (if 125000 ≤ temp ∧ toS32 (s.get O.TILE_TEMP) < 125000 then (t.setBit O.TILE_EVENTS 1 true).tileRaise F.TILE_OVERTEMP 0 0 0xFFFF else t) := by
  have hot : ∀ a b : Int, (decide (125000 ≤ a) && !decide (125000 ≤ b)) = decide (125000 ≤ a ∧ b < 125000) := by
    intro a b
    rw [Bool.decide_and, ← decide_not]
    simp only [Int.not_le]
  have same : ({ s with slt := { s.slt with sampled := some (s.elapsed 0) } } : State).get O.TILE_TEMP = s.get O.TILE_TEMP := rfl
  simp only [fxChannelSample, hdue, Bool.not_true, Bool.false_eq_true, if_false, same, hot, decide_eq_true_eq]
  rw [← ht]
  by_cases raised : 125000 ≤ temp ∧ toS32 (s.get O.TILE_TEMP) < 125000
  · have kept : ((t.setBit O.TILE_EVENTS 1 true).tileRaise F.TILE_OVERTEMP 0 0 0xFFFF).variant = t.variant := by
      rw [State.tileRaise, State.setBit]
      repeat' split
      all_goals rfl
    rw [if_pos raised, kept]
  · rw [if_neg raised]

theorem fxPresenceEdge_moves {s : State} {n : Nat} {low : Bool} (hon : s.get O.TILE_STATE ≠ 0) (hnew : s.cond n cPresent ≠ low) :
    fxPresenceEdge n low s = (((s.setCond n cPresent low).setCond n cInserted false).put (O.CH_PRES_EDGE_AT n) (s.tileNow - 25)).setChan n
      (fun c => { c with edgeAt := s.elapsed 0 - 25 }) := by
  have ticks : (((s.setCond n cPresent low).setCond n cInserted false).put (O.CH_PRES_EDGE_AT n) (s.tileNow - 25)).elapsed 0 = s.elapsed 0 :=
    (elapsed_setBit _ _ _ _ _).trans (elapsed_setBit _ _ _ _ _)
  rw [fxPresenceEdge, if_neg fun h => h.elim hon hnew]
  simp only [ticks]

theorem fxVinOk_settled {s : State} {n t : Nat} (hsample : s.atSample = true) (hsince : (s.chan n).vinSince = some t)
    (hdue : t + s.get O.VIN_SETTLE ≤ s.elapsed 0) : fxVinOk n s = s.setCond n cVinOk true := by
  simp only [fxVinOk, hsince]
  exact if_pos (by rw [hsample, decide_eq_true hdue]; rfl)

/-! ## CH_ENABLE (R371) -/

/-- No tenant holds an object of a channel. -/
theorem frozenHolder_channel (s : State) (n m : Nat) : s.frozenHolder ⟨0x50, n, m⟩ = none :=
  List.find?_eq_none.2 fun _ _ => Bool.false_ne_true

theorem ownerStatus_chEnable (s : State) (ifc : Iface) (n v : Nat) : s.ownerStatus ifc (O.CH_ENABLE n) v = (s.chEnableStatus n v, s) := by
  have held : s.frozenHolder (O.CH_ENABLE n) = none := frozenHolder_channel s n 0x00
  rw [State.ownerStatus, held]
  rfl

/-- The refusal of a write of CH_ENABLE. -/
theorem writeOne_chEnable_refused {s : State} {ifc : Iface} {n v st : Nat} (h : s.reachesOwner ifc (O.CH_ENABLE n) v = true)
    (hst : s.chEnableStatus n v = st) (hbad : st ≠ stOk) :
    writeOne ifc (O.CH_ENABLE n) v s = .next (settle (s.answersWith ifc (O.CH_ENABLE n) st)) := by
  have hifc : s.hasIfc ifc = true := by
    simp only [State.reachesOwner, Bool.and_eq_true] at h
    obtain ⟨⟨⟨⟨⟨⟨hifc, -⟩, -⟩, -⟩, -⟩, -⟩, -⟩ := h
    exact hifc
  have own := ownerStatus_chEnable s ifc n v
  refine onUnit_hasIfc hifc ((write1_refused h ?_).trans ?_)
  · rw [own, hst]
    exact hbad
  · rw [own, hst]

theorem writeOne_chEnable {s u : State} {ifc : Iface} {n v b : Nat} (h : s.servesWrite ifc (O.CH_ENABLE n) v = true) (hv : v = b)
    (hu : fxChEnable n b s = u) : writeOne ifc (O.CH_ENABLE n) v s = .next (settle (u.acknowledged ifc (O.CH_ENABLE n))) := by
  subst hv
  exact writeOne_units (by decide) (by decide) (fun _ => rfl) hu h

/-- The command of a write of 1: an OFF channel waits. -/
theorem fxChEnable_on (s : State) (n : Nat) : fxChEnable n 1 s = if s.chState n = chOff then
      ((((s.put (O.CH_ENABLE n) 1).put (O.CH_STATE n) chWaiting).setChan n (fun c => { c with checked := false })).chWritten n)
    else s.put (O.CH_ENABLE n) 1 := rfl

/-- The command of a write of 0, by the channel's state. -/
theorem fxChEnable_off (s : State) (n : Nat) : fxChEnable n 0 s =
    if s.chState n = chRamping then ((s.put (O.CH_ENABLE n) 0).chGateOff n chOff).put (O.CH_STATUS n) stOk
    else if s.chState n = chWaiting then (s.put (O.CH_ENABLE n) 0).put (O.CH_STATE n) chOff
    else if s.chState n = chOn then
      ((((s.put (O.CH_ENABLE n) 0).put (O.CH_STATE n) chStopping).setChan n (fun c => { c with stopAt := s.elapsed 0 })).chWritten n).chPortOff n
    else if s.chState n = chTripped then
      (((s.put (O.CH_ENABLE n) 0).put (O.CH_STATE n) chOff).setCond n cTripLatch false).setCond n cCooldownDone false
    else s.put (O.CH_ENABLE n) 0 := rfl

/-- In the states that a write of CH_ENABLE does not move it is held alone. -/
theorem fxChEnable_held {s : State} {n v : Nat} (h : v = 0 ∧ (s.chState n = chOff ∨ s.chState n = chStopping ∨ s.chState n = chDamaged) ∨
      v = 1 ∧ (s.chState n = chWaiting ∨ s.chState n = chRamping ∨ s.chState n = chOn)) : fxChEnable n v s = s.put (O.CH_ENABLE n) v := by
  rcases h with ⟨rfl, hst⟩ | ⟨rfl, hst⟩
  · rw [fxChEnable_off]
    rcases hst with hst | hst | hst <;> rw [hst] <;> rfl
  · rw [fxChEnable_on]
    rcases hst with hst | hst | hst <;> rw [hst] <;> rfl

/-- The status of a write of CH_ENABLE in TRIPPED, before and after the cool-down's end, in STOPPING and in DAMAGED. -/
theorem chEnableStatus_refused {s : State} {n v st : Nat} (h : s.chState n = chTripped ∧ s.cond n cCooldownDone = false ∧ st = stCooldown ∨
      v = 1 ∧ (s.chState n = chTripped ∧ s.cond n cCooldownDone = true ∧ st = stBusy ∨ s.chState n = chStopping ∧ st = stBusy ∨
        s.chState n = chDamaged ∧ st = stProtection)) : s.chEnableStatus n v = st ∧ st ≠ stOk := by
  rcases h with ⟨hst, hcool, rfl⟩ | ⟨rfl, ⟨hst, hcool, rfl⟩ | ⟨hst, rfl⟩ | ⟨hst, rfl⟩⟩ <;> refine ⟨?_, by decide⟩
  · rw [State.chEnableStatus, hst, hcool]
    rfl
  · rw [State.chEnableStatus, hst, hcool]
    rfl
  · rw [State.chEnableStatus, hst]
    rfl
  · rw [State.chEnableStatus, hst]
    rfl

/-- Settles O43: the writes of CH_ENABLE by the value written and the channel's state. -/
theorem slotStart : Obligations.SlotStart := by
  unfold Obligations.SlotStart
  refine ⟨?sample, ?edge, ?inserted, ?vinOk, ?ramp, ?powerGood, ?on, ?waitingOff, ?stops, ?rampingOff, ?trippedOff, ?held, ?refused⟩
  case sample =>
    intro s t xs temp hdue hcool ht
    refine done_eq ((fxChannelSample_due hdue ht).trans ?_)
    rw [if_neg fun h => absurd h.1 (Int.not_le.2 hcool)]
  case edge => exact fun s n low hn hon hnew => onUnit_hasChannel hn (fxPresenceEdge_moves hon hnew)
  case inserted =>
    exact fun s n hn hsample hpresent hdue => onUnit_hasChannel hn (if_pos (by rw [hsample, hpresent, decide_eq_true hdue]; rfl))
  case vinOk => exact fun s n t hn hsample hsince hdue => onUnit_hasChannel hn (fxVinOk_settled hsample hsince hdue)
  case ramp =>
    intro s t u n hn hsample hready hroom hlowest htile ht hu
    subst ht hu
    exact onUnit_hasChannel hn (if_pos (by rw [hsample, hready, decide_eq_true hroom, hlowest, htile]; rfl))
  case powerGood =>
    intro s t n hn hsample hst hgood ht
    subst ht
    exact onUnit_hasChannel hn (if_pos (by rw [hsample, hst, decide_eq_true hgood]; rfl))
  case on =>
    intro s ifc n v _ h hst hv
    exact writeOne_chEnable h hv ((fxChEnable_on s n).trans (if_pos hst))
  case waitingOff =>
    intro s ifc n v _ h hst hv
    refine writeOne_chEnable h hv ((fxChEnable_off s n).trans ?_)
    rw [hst, if_neg (by decide), if_pos rfl]
  case stops =>
    intro s ifc n v _ h hst hv
    refine writeOne_chEnable h hv ((fxChEnable_off s n).trans ?_)
    rw [hst, if_neg (by decide), if_neg (by decide), if_pos rfl]
  case rampingOff =>
    intro s ifc n v _ h hst hv
    exact writeOne_chEnable h hv ((fxChEnable_off s n).trans (if_pos hst))
  case trippedOff =>
    intro s ifc n v _ h hst _ hv
    refine writeOne_chEnable h hv ((fxChEnable_off s n).trans ?_)
    rw [hst, if_neg (by decide), if_neg (by decide), if_neg (by decide), if_pos rfl]
  case held =>
    intro s ifc n v _ h hcase
    exact writeOne_chEnable h rfl (fxChEnable_held hcase)
  case refused =>
    intro s ifc n v st _ h hcase
    obtain ⟨hst, hbad⟩ := chEnableStatus_refused hcase
    exact writeOne_chEnable_refused h hst hbad

end Sys2Proof.Proofs
end

section
/-! PROOFS. The protection of slot power channels, and the tile's link (obligations of 14_slot_power.md). -/
namespace Sys2Proof.Proofs
open Sys2Proof Sys2Proof.Machine Sys2Proof.Laws
set_option Elab.async false

/-! ## Trips (R364, R366, R369) -/

theorem fxPgTimeout_trips {s : State} {n t : Nat} (hsample : s.atSample = true) (hset : (s.chan n).pgDue = some t) (hdue : t ≤ s.elapsed 0)
    (hst : s.chState n = chOn ∨ s.chState n = chStopping ∨ s.chState n = chRamping ∧ (s.chan n).pgRun < 2) : fxPgTimeout n s = s.chTrip n 3 := by
  have ran : s.pgOver n = true := by
    simp only [State.pgOver, hset]
    exact decide_eq_true hdue
  have trips : s.pgTrips n = true := by
    rw [State.pgTrips, ran]
    rcases hst with hst | hst | ⟨hst, hrun⟩
    · rw [hst]
      rfl
    · rw [hst]
      rfl
    · rw [hst, decide_eq_true hrun]
      rfl
  exact if_pos (by rw [hsample, ran, trips]; rfl)

/-! ## The diode (R367) -/

/-- The change of a channel depends on the channel alone. -/
theorem setChan_congr {s : State} {n : Nat} {f g : Slot → Slot} (h : f (s.chan n) = g (s.chan n)) : s.setChan n f = s.setChan n g := by
  have same : s.slt.chan.upd n f = s.slt.chan.upd n g := congrArg (s.slt.chan.set n) h
  rw [State.setChan, State.setChan, same]

/-- A channel with a diode is listed, and reads as it was left. -/
theorem chan_setChan_of_diode {s : State} {n : Nat} {f : Slot → Slot} (h : (f (s.chan n)).diode = true) : (s.setChan n f).chan n = f (s.chan n) :=
  at_set_ne_default s.slt.chan n fun same => by
    have none : (default : Slot).diode = false := rfl
    rw [← same] at none
    rw [State.chan, none] at h
    cases h

/-- An event of a channel leaves the tick of the tile's sample. -/
theorem atSample_chEvent (s : State) (n source bit : Nat) : (s.chEvent n source bit).atSample = s.atSample := by
  rw [State.chEvent, State.tileRaise, State.setBit]
  repeat' split
  all_goals rfl

/-- The reading is dated, and makes the check of the next start. -/
def diodeRead (s : State) (n : Nat) : State :=
  s.setChan n (fun c => { c with checked := c.checked || s.diodeCheck n, diodeAt := s.elapsed 0 })

section Reading
variable {s : State} {n mv : Nat} {temp : Int} (hdue : s.diodeDue n = true)
include hdue

theorem fxDiodeReading_inside (hmin : 200 ≤ mv) (hmax : mv ≤ 900) :
    fxDiodeReading n mv temp s = (diodeRead s n).setChan n (fun c => { c with diode := true, diodeTemp := temp }) := by
  simp only [fxDiodeReading, hdue, Bool.not_true, Bool.false_eq_true, if_false]
  exact if_pos ⟨hmin, hmax⟩

section Outside
variable (hmv : mv < 200 ∨ 900 < mv)
include hmv

theorem fxDiodeReading_absent (hnone : (s.chan n).diode = false) : fxDiodeReading n mv temp s = diodeRead s n := by
  have outside : ¬ (200 ≤ mv ∧ mv ≤ 900) := by omega
  simp only [fxDiodeReading, hdue, Bool.not_true, Bool.false_eq_true, if_false, if_neg outside, hnone]
  rfl

variable (hdiode : (s.chan n).diode = true)
include hdiode

theorem fxDiodeReading_unused (hused : s.tempUsed n ≠ 1) :
    fxDiodeReading n mv temp s = (diodeRead s n).setChan n (fun c => { c with diode := false }) := by
  have outside : ¬ (200 ≤ mv ∧ mv ≤ 900) := by omega
  simp only [fxDiodeReading, hdue, Bool.not_true, Bool.false_eq_true, if_false, if_neg outside, hdiode, if_true, hused, false_and]
  rfl

variable (hused : s.tempUsed n = 1)
include hused

/-- Under AUTO the model goes on from the last good reading. -/
theorem fxDiodeReading_auto (hauto : s.get (O.CH_TEMP_SRC n) = 0) : fxDiodeReading n mv temp s =
    ((diodeRead s n).setChan n (fun c => { c with diode := false, tj := (s.chan n).diodeTemp * 1000 })).chEvent n F.SL_DIODE_FAULT 6 := by
  have outside : ¬ (200 ≤ mv ∧ mv ≤ 900) := by omega
  have kept : ((diodeRead s n).chan n).diodeTemp = (s.chan n).diodeTemp := by
    rw [diodeRead, chan_setChan_of_diode hdiode]
  simp only [fxDiodeReading, hdue, Bool.not_true, Bool.false_eq_true, if_false, if_neg outside, hdiode, if_true, hused, hauto, and_self,
    decide_true, Bool.true_or]
  rw [← diodeRead]
  refine congrArg (fun u : State => u.chEvent n F.SL_DIODE_FAULT 6) (setChan_congr ?_)
  rw [kept]

/-- Otherwise nothing protects the channel, which trips at a sample. -/
theorem fxDiodeReading_trips (hauto : s.get (O.CH_TEMP_SRC n) ≠ 0) {u : State}
    (hu : u = ((diodeRead s n).setChan n (fun c => { c with diode := false })).chEvent n F.SL_DIODE_FAULT 6) :
    fxDiodeReading n mv temp s = if s.atSample = true then u.chTrip n 2 else u := by
  have outside : ¬ (200 ≤ mv ∧ mv ≤ 900) := by omega
  have sample : u.atSample = s.atSample := by
    rw [hu, atSample_chEvent]
    rfl
  simp only [fxDiodeReading, hdue, Bool.not_true, Bool.false_eq_true, if_false, if_neg outside, hdiode, if_true, hused, hauto, and_false,
    decide_false, Bool.false_or]
  rw [← diodeRead, ← hu, sample]
  cases s.atSample <;> rfl

end Outside
end Reading

/-! ## Cool-down, damage and the tile's link (R370, R372 to R374, R376) -/

theorem fxCooldownDone_cooled {s : State} {n : Nat} (hsample : s.atSample = true) (hlatch : s.cond n cTripLatch = true)
    (hcool : ∀ x, s.protectTemp n = some x → x ≤ Int.ofNat (s.get O.FET_TRESUME * 1000))
    (hdue : (s.chan n).tripAt + (s.chan n).coolLimit ≤ s.elapsed 0) : fxCooldownDone n s = s.setCond n cCooldownDone true := by
  cases htemp : s.protectTemp n with
  | none =>
    simp only [fxCooldownDone, htemp]
    exact if_pos (by rw [hsample, hlatch, decide_eq_true hdue]; rfl)
  | some x =>
    simp only [fxCooldownDone, htemp]
    exact if_pos (by rw [hsample, hlatch, decide_eq_true (hcool x htemp), decide_eq_true hdue]; rfl)

theorem fxSlFetDamaged_found {s : State} {n t : Nat} (hsince : (s.chan n).damageSince = some t) (hsample : s.atSample = true)
    (hst : s.chState n ≠ chDamaged) (hgate : s.gateOn n = false) (hdue : t + 25000 ≤ s.elapsed 0) :
    fxSlFetDamaged n s = ((((s.put (O.CH_STATE n) chDamaged).setCond n cDamageLatch true).put (O.CH_ENABLE n) 0).put (O.CH_STATUS n)
      stProtection).chEvent n F.SL_FET_DAMAGED 3 := by
  have ran : s.damageOver n = true := by
    simp only [State.damageOver, hsince]
    rw [bne_iff_ne.2 hst, hgate, decide_eq_true hdue]
    rfl
  exact if_pos (by rw [hsample, ran]; rfl)

/-- Settles O44: a diode that is out of range by what protects the channel, and where the model goes on from its last good reading because
a channel with a diode is listed and reads as it was left. -/
theorem slotProtection : Obligations.SlotProtection := by
  unfold Obligations.SlotProtection
  refine ⟨?fast, ?trip, ?rampLate, ?powerLost, ?diode, ?diodeOut, ?hot, ?cooledAlone, ?cooled, ?off, ?damaged, ?clear, ?lost, ?restored⟩
  case fast => exact fun s n hn _ => onUnit_hasChannel hn rfl
  case trip =>
    intro s t u n cause hgate ht hu
    subst ht hu
    exact if_pos hgate
  case rampLate => exact fun s n t hn hsample hst hrun hset hdue => onUnit_hasChannel hn (fxPgTimeout_trips hsample hset hdue (.inr (.inr ⟨hst, hrun⟩)))
  case powerLost =>
    exact fun s n t hn hsample hst hset hdue => onUnit_hasChannel hn (fxPgTimeout_trips hsample hset hdue (hst.imp_right .inl))
  case diode => exact fun s n mv temp hn hmin hmax hdue => onUnit_hasChannel hn (fxDiodeReading_inside hdue hmin hmax)
  case diodeOut =>
    intro s t n mv temp hn hmv hdue ht
    subst ht
    refine ⟨?absent, ?unused, ?auto, ?trips, ?waits⟩
    case absent => exact fun hnone => onUnit_hasChannel hn (fxDiodeReading_absent hdue hmv hnone)
    case unused => exact fun hdiode hused => onUnit_hasChannel hn (fxDiodeReading_unused hdue hmv hdiode hused)
    case auto => exact fun hdiode hused hauto => onUnit_hasChannel hn (fxDiodeReading_auto hdue hmv hdiode hused hauto)
    case trips =>
      exact fun hdiode hused hauto hsample =>
        onUnit_hasChannel hn ((fxDiodeReading_trips hdue hmv hdiode hused hauto rfl).trans (if_pos hsample))
    case waits =>
      exact fun hdiode hused hauto hsample =>
        onUnit_hasChannel hn ((fxDiodeReading_trips hdue hmv hdiode hused hauto rfl).trans (if_neg (by rw [hsample]; exact Bool.false_ne_true)))
  case hot =>
    intro s t xs temp hdue hhot ht
    refine done_eq ((fxChannelSample_due hdue ht).trans ?_)
    simp only [hhot, true_and]
  case cooledAlone =>
    intro s n hn hsample hlatch htemp hdue
    refine onUnit_hasChannel hn (fxCooldownDone_cooled hsample hlatch (fun x hx => ?_) hdue)
    rw [htemp] at hx
    cases hx
  case cooled =>
    intro s n x hn hsample hlatch htemp hcool hdue
    refine onUnit_hasChannel hn (fxCooldownDone_cooled hsample hlatch (fun y hy => ?_) hdue)
    obtain rfl : x = y := Option.some.inj (htemp.symm.trans hy)
    exact hcool
  case off =>
    exact fun s n hn hsample hearly hst hdue => onUnit_hasChannel hn (if_pos (by rw [hsample, hearly, hst, decide_eq_true hdue]; rfl))
  case damaged =>
    exact fun s n t hn hsince hsample hst hgate hdue => onUnit_hasChannel hn (fxSlFetDamaged_found hsince hsample hst hgate hdue)
  case clear =>
    intro s ifc n h hst
    exact writeOne_units (by decide) (by decide) (fun _ => rfl) (if_pos ⟨rfl, hst⟩) h
  case lost => exact fun s hst => done_eq (if_pos hst)
  case restored => exact fun s hst => done_eq (if_pos hst)

end Sys2Proof.Proofs
end
